-- ==== Sys2Proof/Word.lean ====
section
/-! DEFINITION. The word types of the GK1 and the shape of a sparse map (Nat keys, strictly rising). -/

namespace Sys2Proof

/-- A byte; every multi-byte value is little-endian (R6). -/
abbrev Byte := BitVec 8

/-- A sparse map: pairs of a key and a value. The operations are in Machine/Map.lean. -/
abbrev NMap (α : Type) := List (Nat × α)

/-- Byte memory: the cells that differ from the byte an unlisted address reads as. -/
abbrev Mem := List (Nat × BitVec 8)

end Sys2Proof
end

