-- ==== Sys2Proof/Syntax.lean ====
section
/-! DEFINITION. The commands of the block: one constructor per row of spec/opcode_table.json, with its operands.
A row of a thread group's instruction names the core and the resident slot that issues it; the instruction's own
operands are the word at the group's program counter (R271). An event names the unit, the message (`id`) or the
request (`rid`) it happens to. What a command reads from outside the part (host memory, a peer's packet, a sensor)
is an operand. -/

namespace Sys2Proof

/-- An Edzous packet: the four header words of R514 and the payload bytes (32 a flit or sector). -/
structure Packet where
  /-- TYPE, HOPS, LEN, PID, DST -/
  h0 : BitVec 64
  /-- SRC, SCORE, STREAM, EPOCH -/
  h1 : BitVec 64
  /-- ADDR, JOB -/
  h2 : BitVec 64
  /-- TAG, ECOUNT or STATUS, RESULT -/
  h3 : BitVec 64
  /-- payload bytes -/
  payload : List Byte
  deriving DecidableEq, Repr

/-- A flit that arrives on a port: which of the four of its frame it is, the symbols that are wrong and by what, and the packets that
the partner has sent behind it. -/
structure FlitArrival where
  port : Nat
  flit : Nat := 0
  err : List (Nat × Nat) := []
  behind : Nat := 0
  deriving DecidableEq, Repr

/-- A lane of a receiver, and whether it has lost lock. -/
structure LaneLoss where
  lane : Nat
  lockLost : Bool := false
  deriving DecidableEq, Repr

/-- A LINK flit (R508). -/
structure LinkFlit where
  /-- TYPE, RXCOUNT -/
  h0 : BitVec 64
  /-- RFROM, REPLAY -/
  h1 : BitVec 64
  /-- CREDITS -/
  h2 : BitVec 64
  /-- LANE, ERASED, SWITCH, SFRAME, SELF -/
  h3 : BitVec 64
  deriving DecidableEq, Repr

/-- What the physical steps of a bring-up wave find in one region (R671). -/
structure RegionWave where
  /-- the region -/
  region : Nat
  /-- step 3: the stack trained -/
  trained : Bool
  /-- step 3: (channel, lane) pairs that fail training -/
  badLanes : List (Nat × Nat)
  /-- step 5: both staged sections match their digests -/
  staged : Bool
  /-- step 5: the signal box started -/
  started : Bool
  /-- step 6: ranks of clusters that fail the core start image -/
  failed : List Nat
  deriving DecidableEq, Repr

/-- The commands. The table's summary of each row stands beside its constructor. -/
inductive Instr where
  /-- NOP (R284): The group executes a no-operation control instruction. -/
  | ctlNop (core : Nat) (grp : Nat)
  /-- IF (R235): Pushes a mask stack entry and narrows the active mask to the lanes whose predicate holds. -/
  | ctlIf (core : Nat) (grp : Nat)
  /-- ELSE (R235): Sets the active mask to the top entry's else mask and records its own target. -/
  | ctlElse (core : Nat) (grp : Nat)
  /-- ENDIF (R235): Restores the saved active mask and pops the mask stack. -/
  | ctlEndif (core : Nat) (grp : Nat)
  /-- LOOP (R235): Pushes a loop entry recording the saved mask and the loop start. -/
  | ctlLoop (core : Nat) (grp : Nat)
  /-- BRK (R235): Removes the leaving lanes from the active mask and from the masks above the innermost loop entry. -/
  | ctlBrk (core : Nat) (grp : Nat)
  /-- ENDLOOP (R235): Jumps back to the loop start while lanes remain active, otherwise restores the saved mask and pops. -/
  | ctlEndloop (core : Nat) (grp : Nat)
  /-- EXIT (R235): Clears the active lanes from the live mask, the active mask and every stacked mask. -/
  | ctlExit (core : Nat) (grp : Nat)
  /-- BRA_ANY (R235): Jumps the whole group when the predicate holds in any active lane. -/
  | ctlBraAny (core : Nat) (grp : Nat)
  /-- BRA_ALL (R235): Jumps the whole group when the predicate holds in all active lanes. -/
  | ctlBraAll (core : Nat) (grp : Nat)
  /-- BRA (R235): Jumps the whole group when the named s register is nonzero. -/
  | ctlBra (core : Nat) (grp : Nat)
  /-- GS_RD (R244): Writes the group status word to an s register pair. -/
  | gsRd (core : Nat) (grp : Nat)
  /-- GS_CLR (R244): Clears the selected sticky bits [2:0] of the group status word. -/
  | gsClr (core : Nat) (grp : Nat)
  /-- GS_RDT (R265): Writes the conversion safeguard word to an s register pair. -/
  | gsRdt (core : Nat) (grp : Nat)
  /-- GS_CLRT (R265): Sets the conversion safeguard word to zero. -/
  | gsClrt (core : Nat) (grp : Nat)
  /-- SINT_ADD (R232): Scalar 32-bit wrapping addition. -/
  | sintAdd (core : Nat) (grp : Nat)
  /-- SINT_SUB (R232): Scalar 32-bit wrapping subtraction. -/
  | sintSub (core : Nat) (grp : Nat)
  /-- SINT_MUL_LO (R232): Scalar low 32 bits of a product. -/
  | sintMulLo (core : Nat) (grp : Nat)
  /-- SINT_MAD_LO (R284): Scalar SA times B plus SC, low 32 bits. -/
  | sintMadLo (core : Nat) (grp : Nat)
  /-- SINT_MIN_I32 (R284): Scalar signed minimum. -/
  | sintMinI32 (core : Nat) (grp : Nat)
  /-- SINT_MAX_I32 (R284): Scalar signed maximum. -/
  | sintMaxI32 (core : Nat) (grp : Nat)
  /-- SINT_MIN_U32 (R284): Scalar unsigned minimum. -/
  | sintMinU32 (core : Nat) (grp : Nat)
  /-- SINT_MAX_U32 (R284): Scalar unsigned maximum. -/
  | sintMaxU32 (core : Nat) (grp : Nat)
  /-- SINT_AND (R284): Scalar bitwise and. -/
  | sintAnd (core : Nat) (grp : Nat)
  /-- SINT_OR (R284): Scalar bitwise or. -/
  | sintOr (core : Nat) (grp : Nat)
  /-- SINT_XOR (R284): Scalar bitwise exclusive or. -/
  | sintXor (core : Nat) (grp : Nat)
  /-- SINT_NOT (R284): Scalar bitwise complement of SA. -/
  | sintNot (core : Nat) (grp : Nat)
  /-- SINT_SHL (R232): Scalar shift left with count modulo 32. -/
  | sintShl (core : Nat) (grp : Nat)
  /-- SINT_SHR (R232): Scalar logical shift right with count modulo 32. -/
  | sintShr (core : Nat) (grp : Nat)
  /-- SINT_SRA (R232): Scalar arithmetic shift right with count modulo 32. -/
  | sintSra (core : Nat) (grp : Nat)
  /-- SINT_MOV (R284): Scalar move of the second source unchanged. -/
  | sintMov (core : Nat) (grp : Nat)
  /-- ADD64 (R284): Scalar 64-bit addition on even register pairs. -/
  | add64 (core : Nat) (grp : Nat)
  /-- SUB64 (R284): Scalar 64-bit subtraction on even register pairs. -/
  | sub64 (core : Nat) (grp : Nat)
  /-- SINT_SEQ (R284): Scalar integer compare equal, writing 1 or 0. -/
  | sintSeq (core : Nat) (grp : Nat)
  /-- SINT_SNE (R284): Scalar integer compare not equal, writing 1 or 0. -/
  | sintSne (core : Nat) (grp : Nat)
  /-- SLT_I32 (R284): Scalar signed less-than compare. -/
  | sltI32 (core : Nat) (grp : Nat)
  /-- SLE_I32 (R284): Scalar signed less-or-equal compare. -/
  | sleI32 (core : Nat) (grp : Nat)
  /-- SLT_U32 (R284): Scalar unsigned less-than compare. -/
  | sltU32 (core : Nat) (grp : Nat)
  /-- SLE_U32 (R284): Scalar unsigned less-or-equal compare. -/
  | sleU32 (core : Nat) (grp : Nat)
  /-- SFP_ADD (R231): Scalar FP32 addition rounded once. -/
  | sfpAdd (core : Nat) (grp : Nat)
  /-- SFP_SUB (R231): Scalar FP32 subtraction rounded once. -/
  | sfpSub (core : Nat) (grp : Nat)
  /-- SFP_MUL (R231): Scalar FP32 multiplication rounded once. -/
  | sfpMul (core : Nat) (grp : Nat)
  /-- SFP_FMA (R231): Scalar FP32 fused multiply-add rounded once. -/
  | sfpFma (core : Nat) (grp : Nat)
  /-- SFP_MIN (R231): Scalar FP32 minimum. -/
  | sfpMin (core : Nat) (grp : Nat)
  /-- SFP_MAX (R231): Scalar FP32 maximum. -/
  | sfpMax (core : Nat) (grp : Nat)
  /-- SFP_SEQ (R284): Scalar FP32 compare equal. -/
  | sfpSeq (core : Nat) (grp : Nat)
  /-- SFP_SLT (R284): Scalar FP32 compare less-than. -/
  | sfpSlt (core : Nat) (grp : Nat)
  /-- SFP_SLE (R284): Scalar FP32 compare less-or-equal. -/
  | sfpSle (core : Nat) (grp : Nat)
  /-- CVT_I32_F32 (R284): Scalar FP32 to signed integer, toward zero with saturation and NaN to 0. -/
  | cvtI32F32 (core : Nat) (grp : Nat)
  /-- CVT_F32_I32 (R284): Scalar signed integer to FP32 rounded to nearest. -/
  | cvtF32I32 (core : Nat) (grp : Nat)
  /-- VFP_ADD (R231): Vector floating-point addition per lane. -/
  | vfpAdd (core : Nat) (grp : Nat)
  /-- VFP_SUB (R231): Vector floating-point subtraction per lane. -/
  | vfpSub (core : Nat) (grp : Nat)
  /-- VFP_MUL (R231): Vector floating-point multiplication per lane. -/
  | vfpMul (core : Nat) (grp : Nat)
  /-- VFP_FMA (R231): Vector fused multiply-add VA times B plus VC. -/
  | vfpFma (core : Nat) (grp : Nat)
  /-- VFP_MIN (R231): Vector floating-point minimum. -/
  | vfpMin (core : Nat) (grp : Nat)
  /-- VFP_MAX (R231): Vector floating-point maximum. -/
  | vfpMax (core : Nat) (grp : Nat)
  /-- VFP_ABS (R284): Vector floating-point absolute value. -/
  | vfpAbs (core : Nat) (grp : Nat)
  /-- VFP_NEG (R284): Vector floating-point negation. -/
  | vfpNeg (core : Nat) (grp : Nat)
  /-- VFP_MOV (R284): Vector move of the second source bits unchanged. -/
  | vfpMov (core : Nat) (grp : Nat)
  /-- VINT_ADD (R232): Vector integer wrapping addition. -/
  | vintAdd (core : Nat) (grp : Nat)
  /-- VINT_SUB (R232): Vector integer wrapping subtraction. -/
  | vintSub (core : Nat) (grp : Nat)
  /-- VINT_MUL_LO (R232): Vector low 32 bits of a product. -/
  | vintMulLo (core : Nat) (grp : Nat)
  /-- VINT_MAD_LO (R232): Vector low 32 bits of VA times B plus VC. -/
  | vintMadLo (core : Nat) (grp : Nat)
  /-- VINT_MIN (R284): Vector integer minimum. -/
  | vintMin (core : Nat) (grp : Nat)
  /-- VINT_MAX (R284): Vector integer maximum. -/
  | vintMax (core : Nat) (grp : Nat)
  /-- VINT_AND (R284): Vector bitwise and. -/
  | vintAnd (core : Nat) (grp : Nat)
  /-- VINT_OR (R284): Vector bitwise or. -/
  | vintOr (core : Nat) (grp : Nat)
  /-- VINT_XOR (R284): Vector bitwise exclusive or. -/
  | vintXor (core : Nat) (grp : Nat)
  /-- VINT_NOT (R284): Vector bitwise complement of VA. -/
  | vintNot (core : Nat) (grp : Nat)
  /-- VINT_SHL (R232): Vector shift left, count modulo 32. -/
  | vintShl (core : Nat) (grp : Nat)
  /-- VINT_SHR (R232): Vector logical shift right, count modulo 32. -/
  | vintShr (core : Nat) (grp : Nat)
  /-- VINT_SRA (R232): Vector arithmetic shift right, count modulo 32. -/
  | vintSra (core : Nat) (grp : Nat)
  /-- VINT_MOV (R284): Vector integer move of the second source. -/
  | vintMov (core : Nat) (grp : Nat)
  /-- VINT_SEL (R284): Vector select of VA where a predicate holds and B elsewhere. -/
  | vintSel (core : Nat) (grp : Nat)
  /-- VCMP_EQ (R233): Vector compare equal writing a predicate in active guarded lanes. -/
  | vcmpEq (core : Nat) (grp : Nat)
  /-- VCMP_NE (R233): Vector compare not equal writing a predicate. -/
  | vcmpNe (core : Nat) (grp : Nat)
  /-- VCMP_LT (R233): Vector compare less-than writing a predicate. -/
  | vcmpLt (core : Nat) (grp : Nat)
  /-- VCMP_LE (R233): Vector compare less-or-equal writing a predicate. -/
  | vcmpLe (core : Nat) (grp : Nat)
  /-- VCMP_GT (R233): Vector compare greater-than writing a predicate. -/
  | vcmpGt (core : Nat) (grp : Nat)
  /-- VCMP_GE (R233): Vector compare greater-or-equal writing a predicate. -/
  | vcmpGe (core : Nat) (grp : Nat)
  /-- P_AND (R284): Predicate and. -/
  | pAnd (core : Nat) (grp : Nat)
  /-- P_OR (R284): Predicate or. -/
  | pOr (core : Nat) (grp : Nat)
  /-- P_XOR (R284): Predicate exclusive or. -/
  | pXor (core : Nat) (grp : Nat)
  /-- P_ANDN (R284): Predicate and-not. -/
  | pAndn (core : Nat) (grp : Nat)
  /-- P_NOT (R284): Predicate complement. -/
  | pNot (core : Nat) (grp : Nat)
  /-- VF_EXP2 (R259): Faithfully rounded vector base-2 exponential. -/
  | vfExp2 (core : Nat) (grp : Nat)
  /-- VF_LOG2 (R259): Faithfully rounded vector base-2 logarithm. -/
  | vfLog2 (core : Nat) (grp : Nat)
  /-- VF_RCP (R259): Faithfully rounded vector reciprocal. -/
  | vfRcp (core : Nat) (grp : Nat)
  /-- VF_RSQRT (R259): Faithfully rounded vector reciprocal square root. -/
  | vfRsqrt (core : Nat) (grp : Nat)
  /-- VF_SQRT (R259): Correctly rounded vector square root. -/
  | vfSqrt (core : Nat) (grp : Nat)
  /-- VF_SIN (R259): Faithfully rounded vector sine. -/
  | vfSin (core : Nat) (grp : Nat)
  /-- VF_COS (R259): Faithfully rounded vector cosine. -/
  | vfCos (core : Nat) (grp : Nat)
  /-- VF_ACT (R257): Applies an activation function bit-identically to the drain stage. -/
  | vfAct (core : Nat) (grp : Nat)
  /-- VF_DACT (R258): Multiplies by the PRE derivative evaluated from a second operand. -/
  | vfDact (core : Nat) (grp : Nat)
  /-- VF_DACT_OUT (R258): Multiplies by the OUT derivative evaluated from a second operand. -/
  | vfDactOut (core : Nat) (grp : Nat)
  /-- CVT_FROM_F32 (R286): Converts FP32 to packed 16-bit or to integer by RND. -/
  | cvtFromF32 (core : Nat) (grp : Nat)
  /-- CVT_FROM_BF16X2 (R286): Converts packed BF16 exactly to an FP32 register pair. -/
  | cvtFromBf16x2 (core : Nat) (grp : Nat)
  /-- CVT_FROM_F16X2 (R286): Converts packed FP16 exactly to an FP32 register pair. -/
  | cvtFromF16x2 (core : Nat) (grp : Nat)
  /-- CVT_FROM_I32 (R286): Converts signed integers to FP32. -/
  | cvtFromI32 (core : Nat) (grp : Nat)
  /-- CVT_FROM_U32 (R286): Converts unsigned integers to FP32. -/
  | cvtFromU32 (core : Nat) (grp : Nat)
  /-- V_SHFL (R239): Each lane receives the source of an indexed lane, inactive lanes reading zero. -/
  | vShfl (core : Nat) (grp : Nat)
  /-- V_SHFL_XOR (R239): Lane shuffle by xor of an immediate distance. -/
  | vShflXor (core : Nat) (grp : Nat)
  /-- V_SHFL_UP (R239): Lane shuffle up by an immediate distance. -/
  | vShflUp (core : Nat) (grp : Nat)
  /-- V_SHFL_DOWN (R239): Lane shuffle down by an immediate distance. -/
  | vShflDown (core : Nat) (grp : Nat)
  /-- V_RDLANE (R239): Reads one lane's value into an s register. -/
  | vRdlane (core : Nat) (grp : Nat)
  /-- V_BALLOT (R239): Gathers a predicate across lanes into an s register. -/
  | vBallot (core : Nat) (grp : Nat)
  /-- RED (R254): Lane tree reduction of a vector register into an s register. -/
  | laneRed (core : Nat) (grp : Nat)
  /-- V_SCAN_ADD (R239): Inclusive prefix sum across lanes in ascending order. -/
  | vScanAdd (core : Nat) (grp : Nat)
  /-- V_LD (R249): Vector load from the core store at per-lane addresses. -/
  | vLd (core : Nat) (grp : Nat)
  /-- V_ST (R250): Vector store to the core store at per-lane addresses. -/
  | vSt (core : Nat) (grp : Nat)
  /-- S_LD (R249): Scalar load from the core store. -/
  | sLd (core : Nat) (grp : Nat)
  /-- S_ST (R249): Scalar store to the core store. -/
  | sSt (core : Nat) (grp : Nat)
  /-- VATOM_ADD (R349): Core-store atomic wrapping integer add with lane combining. -/
  | vatomAdd (core : Nat) (grp : Nat)
  /-- VATOM_ADD_F32 (R350): Core-store atomic FP32 add through the exact adder. -/
  | vatomAddF32 (core : Nat) (grp : Nat)
  /-- VATOM_MIN_I32 (R349): Core-store atomic signed minimum. -/
  | vatomMinI32 (core : Nat) (grp : Nat)
  /-- VATOM_MAX_I32 (R349): Core-store atomic signed maximum. -/
  | vatomMaxI32 (core : Nat) (grp : Nat)
  /-- VATOM_MIN_U32 (R349): Core-store atomic unsigned minimum. -/
  | vatomMinU32 (core : Nat) (grp : Nat)
  /-- VATOM_MAX_U32 (R349): Core-store atomic unsigned maximum. -/
  | vatomMaxU32 (core : Nat) (grp : Nat)
  /-- VATOM_MIN_F32 (R349): Core-store atomic FP32 minimum. -/
  | vatomMinF32 (core : Nat) (grp : Nat)
  /-- VATOM_MAX_F32 (R349): Core-store atomic FP32 maximum. -/
  | vatomMaxF32 (core : Nat) (grp : Nat)
  /-- VATOM_AND (R349): Core-store atomic and. -/
  | vatomAnd (core : Nat) (grp : Nat)
  /-- VATOM_OR (R349): Core-store atomic or. -/
  | vatomOr (core : Nat) (grp : Nat)
  /-- VATOM_XOR (R349): Core-store atomic exclusive or. -/
  | vatomXor (core : Nat) (grp : Nat)
  /-- VATOM_EXCH (R349): Core-store atomic exchange. -/
  | vatomExch (core : Nat) (grp : Nat)
  /-- VATOM_CAS (R349): Core-store atomic compare-and-swap applied in lane order. -/
  | vatomCas (core : Nat) (grp : Nat)
  /-- TILE_LD (R252): Loads a tile register from 16 core-store rows. -/
  | tileLd (core : Nat) (grp : Nat)
  /-- TILE_ST (R252): Stores a tile register to 16 core-store rows. -/
  | tileSt (core : Nat) (grp : Nat)
  /-- TILE_RD_ROW (R252): Reads a tile row into a vector register. -/
  | tileRdRow (core : Nat) (grp : Nat)
  /-- TILE_RD_COL (R252): Reads a tile column into a vector register. -/
  | tileRdCol (core : Nat) (grp : Nat)
  /-- TILE_WR_ROW (R252): Writes a tile row from active guarded lanes. -/
  | tileWrRow (core : Nat) (grp : Nat)
  /-- TILE_WR_COL (R252): Writes a tile column from active guarded lanes. -/
  | tileWrCol (core : Nat) (grp : Nat)
  /-- TILE_TR (R252): Transposes one tile into another. -/
  | tileTr (core : Nat) (grp : Nat)
  /-- TILE_RED_ROW (R254): Tree-reduces each tile row into a lane. -/
  | tileRedRow (core : Nat) (grp : Nat)
  /-- TILE_RED_COL (R254): Tree-reduces each tile column into a lane. -/
  | tileRedCol (core : Nat) (grp : Nat)
  /-- TILE_PACK (R239): Gathers 16 registers of each lane into tile rows. -/
  | tilePack (core : Nat) (grp : Nat)
  /-- VQ_LD (R261): Decodes one Olpel block into an FP32 register pair. -/
  | vqLd (core : Nat) (grp : Nat)
  /-- VQ_ST (R262): Quantises 32 register values into one Olpel block in the core store. -/
  | vqSt (core : Nat) (grp : Nat)
  /-- MMA (R93): Checks and accepts a matrix instruction into the core's matrix queue. -/
  | mma (core : Nat) (grp : Nat)
  /-- MMA_WG (R187): Checks and accepts a matrix instruction that promotes into WGS tiles by KSEL. -/
  | mmaWg (core : Nat) (grp : Nat)
  /-- ACC_DRAIN (R159): Queues a drain of an accumulator handle. -/
  | accDrain (core : Nat) (grp : Nat)
  /-- WGS_OPEN (R183): Opens a group of WGS tiles at zero. -/
  | wgsOpen (core : Nat) (grp : Nat)
  /-- WGS_COMMIT (R195): Commits WGS tiles to DRAM by STORE or ADD, with CLEAR or KEEP. -/
  | wgsCommit (core : Nat) (grp : Nat)
  /-- WGS_DISCARD (R201): Closes a WGS group without writing once earlier promotions are done. -/
  | wgsDiscard (core : Nat) (grp : Nat)
  /-- GANG_HOLD (R133): Puts the cluster into gang and keeps it there. -/
  | gangHold (core : Nat) (grp : Nat)
  /-- GANG_FREE (R133): Ends a gang hold of the cluster. -/
  | gangFree (core : Nat) (grp : Nat)
  /-- BAR_INIT (R370): Sets a barrier's participant count and discards current arrivals. -/
  | barInit (core : Nat) (grp : Nat)
  /-- BAR_ARRIVE (R362): Makes a group-engine arrival of CNT on a barrier object. -/
  | barArrive (core : Nat) (grp : Nat)
  /-- BAR_WAIT (R365): Waits until the barrier generation differs from the named value. -/
  | barWait (core : Nat) (grp : Nat)
  /-- BAR_ARW (R366): Arrives on a barrier and waits for the phase it joined. -/
  | barArw (core : Nat) (grp : Nat)
  /-- BAR_GEN (R368): Writes the barrier generation to an s register. -/
  | barGen (core : Nat) (grp : Nat)
  /-- BAR_INSP (R357): Writes the barrier view word to an s register pair. -/
  | barInsp (core : Nat) (grp : Nat)
  /-- FENCE_RELEASE (R327): Release fence at a scope, holding later writes until covered accesses are performed. -/
  | fenceRelease (core : Nat) (grp : Nat)
  /-- FENCE_ACQUIRE (R328): Acquire fence at a scope, holding later covered accesses. -/
  | fenceAcquire (core : Nat) (grp : Nat)
  /-- FENCE_FULL (R328): Full fence acting as release followed by acquire. -/
  | fenceFull (core : Nat) (grp : Nat)
  /-- MV_GET (R311): Mover request copying DRAM rows into the core store. -/
  | mvGet (core : Nat) (grp : Nat)
  /-- MV_PUT (R311): Mover request copying core-store rows to DRAM. -/
  | mvPut (core : Nat) (grp : Nat)
  /-- NS_PUT (R312): Network-sender write to a core store, this part's memory or a peer. -/
  | nsPut (core : Nat) (grp : Nat)
  /-- NS_GET (R312): Network-sender read into the local core store. -/
  | nsGet (core : Nat) (grp : Nat)
  /-- M_ATOM_ADD (R352): Device-memory atomic integer add at the home region cache. -/
  | mAtomAdd (core : Nat) (grp : Nat)
  /-- M_ATOM_ADD_F32 (R352): Device-memory atomic FP32 add. -/
  | mAtomAddF32 (core : Nat) (grp : Nat)
  /-- M_ATOM_MIN_I32 (R352): Device-memory atomic signed minimum. -/
  | mAtomMinI32 (core : Nat) (grp : Nat)
  /-- M_ATOM_MAX_I32 (R352): Device-memory atomic signed maximum. -/
  | mAtomMaxI32 (core : Nat) (grp : Nat)
  /-- M_ATOM_MIN_U32 (R352): Device-memory atomic unsigned minimum. -/
  | mAtomMinU32 (core : Nat) (grp : Nat)
  /-- M_ATOM_MAX_U32 (R352): Device-memory atomic unsigned maximum. -/
  | mAtomMaxU32 (core : Nat) (grp : Nat)
  /-- M_ATOM_MIN_F32 (R352): Device-memory atomic FP32 minimum. -/
  | mAtomMinF32 (core : Nat) (grp : Nat)
  /-- M_ATOM_MAX_F32 (R352): Device-memory atomic FP32 maximum. -/
  | mAtomMaxF32 (core : Nat) (grp : Nat)
  /-- M_ATOM_AND (R352): Device-memory atomic and. -/
  | mAtomAnd (core : Nat) (grp : Nat)
  /-- M_ATOM_OR (R352): Device-memory atomic or. -/
  | mAtomOr (core : Nat) (grp : Nat)
  /-- M_ATOM_XOR (R352): Device-memory atomic exclusive or. -/
  | mAtomXor (core : Nat) (grp : Nat)
  /-- M_ATOM_EXCH (R352): Device-memory atomic exchange. -/
  | mAtomExch (core : Nat) (grp : Nat)
  /-- M_ATOM_CAS (R352): Device-memory atomic compare-and-swap. -/
  | mAtomCas (core : Nat) (grp : Nat)
  /-- M_ATOM_REPLY (R353): The reply of a device-memory atomic arrives and its RET value becomes readable. -/
  | mAtomReply (id : Nat)
  /-- H_ALLOC (R495): Requests a heap block from the region allocator engine. -/
  | hAlloc (core : Nat) (grp : Nat)
  /-- H_FREE (R497): Frees a heap block, counting misuse for unknown addresses. -/
  | hFree (core : Nat) (grp : Nat)
  /-- HEAP_REPLY (R495): The allocator engine replies and the result pair becomes readable. -/
  | heapReply (id : Nat)
  /-- MATRIX_QUEUE_ACCEPT (R103): A stalled matrix instruction is accepted once a queue entry frees. -/
  | matrixQueueAccept (core : Nat) (grp : Nat)
  /-- BANK_SPACE_ACCEPT (R154): A stalled initialising instruction is accepted once a releasing drain has read its total. -/
  | bankSpaceAccept (core : Nat) (grp : Nat)
  /-- ENGPEND_RESUME (R360): An instruction stalled on ENGPEND proceeds once an arrival lowers it. -/
  | engpendResume (core : Nat) (grp : Nat)
  /-- FEEDER_FILL (R108): The feeder reads operand bytes, decodes, substitutes escapes and fills queue entries. -/
  | feederFill (core : Nat)
  /-- OPREL_ARRIVAL (R105): The feeder has read every byte of an instruction and it arrives on OPREL. -/
  | oprelArrival (core : Nat) (rid : Nat)
  /-- K_STEP (R112): The array advances one K step, or waits on a feeder or escape stall. -/
  | kStep (core : Nat)
  /-- MMA_COMPLETE (R100): The last run of a matrix instruction is promoted, L ACLK after its last K step. -/
  | mmaComplete (core : Nat) (rid : Nat)
  /-- MMA_WG_COMPLETE (R193): An mma.wg's last promotion into the WGS is done and it arrives on DONE. -/
  | mmaWgComplete (core : Nat) (rid : Nat)
  /-- DRAIN_START (R160): A drain starts reading its total after earlier instructions on the handle complete. -/
  | drainStart (core : Nat)
  /-- DRAIN_COMPLETE (R174): A drain's last write is done or handed off; status written and DONE arrival made. -/
  | drainComplete (core : Nat)
  /-- GANG_FORM (R130): Once all four arrays are empty the cluster reconfigures into a gang. -/
  | gangForm (cluster : Nat)
  /-- GANG_LEAVE (R132): The cluster leaves gang when an apart instruction waits and no ganged one is at a head. -/
  | gangLeave (cluster : Nat)
  /-- GANG_RELEASE_COUNT_EXPIRY (R132): After 4,096 ACLK of gang with an apart instruction waiting, the gang is released. -/
  | gangReleaseCountExpiry (cluster : Nat)
  /-- WGS_COMMIT_COMPLETE (R200): A commit's last write is handed to the mover, status written and DONE arrival made. -/
  | wgsCommitComplete (cluster : Nat)
  /-- ENGINE_ARRIVAL (R361): An engine arrival takes effect on a barrier object of its core. -/
  | engineArrival (id : Nat)
  /-- MESH_WRITE_ARRIVAL (R320): A sector write reaches its home core store or region cache and lands. -/
  | meshWriteArrival (id : Nat)
  /-- CLOSING_WRITE_RESEND (R338): A closing write returned for lack of a place is resent after 1 µs. -/
  | closingWriteResend (id : Nat)
  /-- MESH_ACK (R336): An acknowledgement of a sender's write returns, releasing held closing writes and epoch waits. -/
  | meshAck (id : Nat)
  /-- MESH_READ_REPLY (R333): Read data of an ns.get or mv.get lands in the core store. -/
  | meshReadReply (id : Nat)
  /-- MOVER_COMPLETE (R333): A mover or sender request's last write is performed and it arrives on DONE. -/
  | moverComplete (rid : Nat)
  /-- REGION_CACHE_ACCESS (R389): An access arrives at its home region cache slice and hits or requests a fill. -/
  | regionCacheAccess (id : Nat)
  /-- REGION_CACHE_FILL (R403): DRAM data returns to a slice; an uncorrectable word sets BAD and is listed. -/
  | regionCacheFill (granule : Nat) (sector : Nat) (noise : List (Nat × Byte))
  /-- DRAM_REFRESH (R408): Per-bank refresh every 3.9 µs, or 1.95 µs when hot. -/
  | dramRefresh (region : Nat) (channel : Nat) (bank : Nat)
  /-- DRAM_RETRAIN (R409): Each channel retrains read timing every 100 ms for 2 µs. -/
  | dramRetrain (region : Nat) (channel : Nat)
  /-- SCRUB (R410): Patrol scrubbing reads, corrects and re-encodes stack words over each PERIOD. -/
  | scrub (granule : Nat) (noise : List (Nat × Byte))
  /-- REBUILD_SWEEP_END (R400): A rebuild sweep finishes and the old lane leaves use. -/
  | rebuildSweepEnd (region : Nat) (channel : Nat)
  /-- HOST_LINK_TRAIN (R415): The host link trains at 64 GT/s, ×16 or ×8 with WIDTH_DOWN. -/
  | hostLinkTrain (lanes : Nat)
  /-- HOST_LINK_DOWN (R37): Loss of the host link; launched kernels continue and completion records are held. -/
  | hostLinkDown
  /-- FUNCTION_LEVEL_RESET (R418): A Function Level Reset acts as a queue-engine reset. -/
  | functionLevelReset
  /-- HOT_RESET (R418): A Hot Reset acts as a queue-engine reset. -/
  | hotReset
  /-- PERST (R418): PERST# assertion carried by the adapter acts as a queue-engine reset. -/
  | perst
  /-- D3HOT_ENTRY (R419): D3hot stops descriptor fetch and summary polling. -/
  | d3hotEntry
  /-- D0_RETURN (R419): Return to D0 resumes polling without a reset. -/
  | d0Return
  /-- HOST_COMPLETION (R417): A completion for a host-memory read arrives, faulting the access when poisoned or failed. -/
  | hostCompletion (id : Nat) (good : Bool) (data : List Byte)
  /-- HOST_COMPLETION_TIMEOUT (R417): No completion within 50 ms faults the access with HOST_ACCESS. -/
  | hostCompletionTimeout (id : Nat)
  /-- PTM_DIALOGUE (R423): Every PERIOD the part runs a PTM dialogue and updates the master and local times together. -/
  | ptmDialogue (mtime : Nat) (ltime : Nat)
  /-- SUMMARY_POLL (R431): The queue engine reads and clears the doorbell summary and reads affected doorbell words. -/
  | summaryPoll (summary : Option (List Byte)) (words : List (Nat × Option (BitVec 64)))
  /-- DESCRIPTOR_FETCH (R433): Descriptors are read from the submission ring and SQHEAD advances. -/
  | descriptorFetch (queue : Nat) (descs : List (List (BitVec 64)))
  /-- KERNEL (R440): A KERNEL descriptor starts, checking ownership and becoming ready to launch. -/
  | kernelStart (queue : Nat) (deferred : Bool)
  /-- KERNEL_LAUNCH (R436): A ready kernel launches on all its regions once its clusters are free. -/
  | kernelLaunch (kid : Nat)
  /-- DEPARTURE_SLOT (R608): Every 128 ns a region's signal box admits asking clusters within the allowance. -/
  | departureSlot (region : Nat)
  /-- READMISSION_REQUEST (R609): A parked admitted cluster with a ready K step asks for readmission. -/
  | readmissionRequest (cluster : Nat)
  /-- KERNEL_COMPLETE (R342): A kernel completes once all groups end, drains finish and writes land. -/
  | kernelComplete (kid : Nat)
  /-- KERNEL_TIMEOUT (R443): TLIMIT expiry stops the kernel's groups and completes it with TIMEOUT. -/
  | kernelTimeout (kid : Nat)
  /-- GRAIN_HANDOUT (R207): The queue engine hands a deferred grain to a cluster of a region in a bubble. -/
  | grainHandout (kid : Nat) (cluster : Nat)
  /-- GRAIN_COMPLETE (R205): A grain finishes on its cluster. -/
  | grainComplete (kid : Nat) (cluster : Nat)
  /-- COMPLETION_RECORD (R450): A completion record is written at CQTAIL once room exists, in two posted writes. -/
  | completionRecord (queue : Nat)
  /-- MSIX_MESSAGE (R454): A vector's MSI-X message is sent once its holdoff has passed. -/
  | msixMessage (vector : Nat)
  /-- NOP_DESCRIPTOR (R439): A NOP descriptor completes at once. -/
  | nopDescriptor (queue : Nat)
  /-- COPY (R444): A COPY descriptor starts moving LEN bytes. -/
  | copyStart (queue : Nat)
  /-- COPY_COMPLETE (R444): A COPY finishes or ends at its first fault. -/
  | copyComplete (queue : Nat) (data : List Byte) (hostOk : Bool)
  /-- OBJECT_RELEASED (R481): A releasing object or fence becomes RELEASED and a release log entry is written. -/
  | objectReleased (context : Nat) (isFence : Bool) (index : Nat)
  /-- FENCE_WAIT (R445): A FENCE_WAIT starts and waits for the fence value. -/
  | fenceWait (queue : Nat)
  /-- FENCE_WAIT_SATISFIED (R445): A pending FENCE_WAIT completes when the fence reaches VALUE or is abandoned. -/
  | fenceWaitSatisfied (queue : Nat)
  /-- FENCE_SIGNAL (R488): A FENCE_SIGNAL raises the fence to VALUE when it starts. -/
  | fenceSignal (queue : Nat)
  /-- WATCH_UPDATE (R493): An owner sends a coalesced WATCH_VALUE after a watched fence changes. -/
  | watchUpdate (watch : Nat)
  /-- JOB_CREATE (R554): A JOB CREATE sets up an exchange job on the part. -/
  | jobCreate (queue : Nat)
  /-- JOB_DESTROY (R555): A JOB DESTROY removes a job once no bucket is in flight. -/
  | jobDestroy (queue : Nat)
  /-- BUCKET_READY (R559): A bucket starts: contributions are formed and sent to owners. -/
  | bucketReady (queue : Nat)
  /-- SLOT_RESERVE (R566): An owner reserves engine chunk slots for its chunks of a started bucket. -/
  | slotReserve (bucket : Nat)
  /-- BUCKET_TIMEOUT (R569): A bucket not complete after BTIME fails, its fence abandoned and a report written. -/
  | bucketTimeout (bucket : Nat)
  /-- PLAN_OPEN (R544): Opens a checkpoint plan and starts segment 0. -/
  | planOpen (queue : Nat)
  /-- PLAN_MARK (R544): Starts the next plan segment with its KEEP bit. -/
  | planMark (queue : Nat)
  /-- PLAN_CLOSE (R545): Writes the plan header and closes the plan. -/
  | planClose (queue : Nat)
  /-- RECOMPUTE (R548): A RECOMPUTE reads its plan and starts replaying the selected entries. -/
  | recompute (queue : Nat)
  /-- RECOMPUTE_ENTRY (R548): The next recorded kernel of a RECOMPUTE runs after the previous one completes. -/
  | recomputeEntry (queue : Nat)
  /-- SNAPSHOT (R579): A SNAPSHOT starts copying a range as it stood at its start. -/
  | snapshot (queue : Nat)
  /-- SNAPSHOT_BLOCK_READ (R580): The copier reads the next 64 KiB block, releasing writes waiting on it. -/
  | snapshotBlockRead (snap : Nat)
  /-- SNAPSHOT_DONE (R579): All snapshot writes have landed and its fence is signalled. -/
  | snapshotDone (snap : Nat)
  /-- TIMETABLE_LOAD (R591): Loads a timetable, pending until ACTIVATE, and returns TTDIGEST. -/
  | timetableLoad (table : Option (List Byte))
  /-- CAP_PRESET (R590): Selects PRESET mode with one budget and the default slopes. -/
  | capPreset
  /-- LINE_NOTICE (R587): A mains-cycle notice sets or slews the line clock. -/
  | lineNotice
  /-- LINE_DISTURBANCE (R620): Starts a disturbance response bringing draw to BUDGET within 500 µs. -/
  | lineDisturbance
  /-- DISTURBANCE_CLEAR (R621): A CLEAR ends a disturbance response in progress. -/
  | disturbanceClear
  /-- ENV_NOTICE (R596): Replaces the rack and coolant caps and the reported coolant state. -/
  | envNotice
  /-- LEDGER_GET (R633): Writes held ledger records in a sequence range to the result buffer. -/
  | ledgerGet
  /-- DEFECT_SUPPLEMENT (R685): Applies cluster and lane defect entries to unowned regions. -/
  | defectSupplement (supplement : Option (List Byte))
  /-- SELFTEST (R725): A self-test request is held until its units are free. -/
  | selftest
  /-- SELFTEST_RUN (R727): The named units, now free, are tested and the result written. -/
  | selftestRun (failed : List (Nat × Nat))
  /-- SELFTEST_TIMEOUT (R725): A held SELFTEST completes MGMT_TIMEOUT after TIMEOUT. -/
  | selftestTimeout
  /-- DRAM_MARGIN (R731): Starts margining the named regions' stacks in MAINTENANCE. -/
  | dramMargin
  /-- DRAM_MARGIN_DONE (R731): Margining results are written and the DRAM_MARGIN completes. -/
  | dramMarginDone (result : List Byte)
  /-- MAINT_ENTER (R728): Stops starting work outside queue 0 and waits for the part to go idle. -/
  | maintEnter
  /-- MAINTENANCE_ENTRY (R728): With no work running the part enters MAINTENANCE. -/
  | maintenanceEntry
  /-- MAINT_ENTER_TIMEOUT (R728): A held MAINT_ENTER completes MGMT_TIMEOUT and queues resume. -/
  | maintEnterTimeout
  /-- MAINT_EXIT (R730): Returns the part to READY and resumes every queue. -/
  | maintExit
  /-- CTX_CREATE (R468): Takes a FREE context to LIVE and returns its generation. -/
  | ctxCreate
  /-- CTX_DESTROY (R500): Starts teardown of a context. -/
  | ctxDestroy
  /-- TEARDOWN_COMPLETE (R500): Once writes have landed, fences, heap, regions and objects are released and the context is FREE. -/
  | teardownComplete (context : Nat)
  /-- REGION_ASSIGN (R469): Gives the named regions to a LIVE context. -/
  | regionAssign
  /-- REGION_RELEASE (R471): A RELEASE REGION_ASSIGN is held until the owner has no admitted clusters there. -/
  | regionRelease
  /-- REGION_RELEASE_EFFECT (R471): The held release takes effect, the regions become unowned and WGS groups are lost. -/
  | regionReleaseEffect
  /-- REGION_RELEASE_TIMEOUT (R471): A release still held after 10 ms completes MGMT_TIMEOUT. -/
  | regionReleaseTimeout
  /-- ATTEST (R740): Forms and signs an attestation report over a nonce. -/
  | attest
  /-- HL_RESET_QUEUES (R418): Register command starting a queue-engine reset. -/
  | hlResetQueues
  /-- HL_RESET_PART (R660): Keyed register command powering every region down and restarting bring-up from ROM. -/
  | hlResetPart (key : BitVec 16)
  /-- QUEUE_ENABLE (R426): QE_Q_CMD ENABLE resets ring indices and reads the doorbell word once. -/
  | queueEnable (queue : Nat) (word : Option (BitVec 64))
  /-- QUEUE_STOP (R472): QE_Q_CMD STOP stops fetch and cancels unstarted descriptors. -/
  | queueStop (queue : Nat)
  /-- QUEUE_ABORT (R472): QE_Q_CMD ABORT stops running kernels and cancels every fetched descriptor. -/
  | queueAbort (queue : Nat)
  /-- QE_CONFIG_WRITE (R425): Write to a queue's configuration registers, ignored with CFGDROP unless DISABLED. -/
  | qeConfigWrite (offset : Nat) (size : Nat) (value : BitVec 64)
  /-- MEM_PLACE_MASK_WRITE (R386): Write to a placement mask, ignored while the entry is VALID. -/
  | memPlaceMaskWrite (entry : Nat) (size : Nat) (half : Nat) (value : BitVec 64)
  /-- MEM_PLACE_ATTR_WRITE (R386): Write to placement attributes; VALID stays clear for a bad stack count. -/
  | memPlaceAttrWrite (entry : Nat) (value : BitVec 32)
  /-- MEM_SEL_CLR (R406): MEM_SEL CLR clears CORR and UNCORR of the selected region. -/
  | memSelClr (value : BitVec 32)
  /-- GO (R667): SB_BOOT_CTL GO in LINK_UP enters LOADING and clears ERR. -/
  | bootGo
  /-- COMMIT (R669): Keyed SB_BOOT_CTL COMMIT in READY blows ARB fuses up to the running SVN. -/
  | arbCommit (key : BitVec 16)
  /-- PARTITION_RESET_GO (R718): Keyed SB_RESET_CTL GO region-resets every region in SB_RESET_MASK. -/
  | partitionResetGo (key : BitVec 16)
  /-- LOCK (R749): Keyed SEC_CTL LOCK applies the debug lock and blows DEBUG_LOCK. -/
  | debugLock (key : BitVec 16)
  /-- CK_REF_CTL_WRITE (R643): Write selecting automatic or manual reference source, refused for a non-READY source. -/
  | ckRefCtlWrite (value : BitVec 32)
  /-- CK_OBS_CTL_WRITE (R649): Write configuring the divided-clock output, refused for a non-READY PLL. -/
  | ckObsCtlWrite (value : BitVec 32)
  /-- CK_RGN_CTL_WRITE (R652): Write of a region's point cap, moving the region by R616. -/
  | ckRgnCtlWrite (region : Nat) (value : BitVec 32)
  /-- PT_EVEN_WRITE (R625): Write enabling even running, left clear when POINT is not above GUARD. -/
  | ptEvenWrite (value : BitVec 32)
  /-- OBS_CORESEL_WRITE (R744): Selects a core and starts a counter snapshot. -/
  | obsCoreselWrite (value : BitVec 32)
  /-- OBS_BARSEL_WRITE (R744): Selects a barrier object and starts a view snapshot. -/
  | obsBarselWrite (value : BitVec 32)
  /-- OBS_SNAPSHOT_READY (R744): The selected snapshot is taken within 2 µs and READY is set. -/
  | obsSnapshotReady (barrier : Bool)
  /-- OBS_TRACE_CTL_WRITE (R748): Trace control write, taking effect at the next record boundary. -/
  | obsTraceCtlWrite (size : Nat) (half : Nat) (value : BitVec 64)
  /-- FAB_PORT_CTL_WRITE (R506): Port control write enabling, disabling or retraining a port. -/
  | fabPortCtlWrite (port : Nat) (value : BitVec 32)
  /-- REGISTER_WRITE (R7): Write to a BAR0 register without its own row, by field access codes. -/
  | registerWrite (offset : Nat) (size : Nat) (value : BitVec 64)
  /-- POWER_TICK (R605): Every 1 µs the dispatcher parks clusters to the floor and ceiling and sets the allowance. -/
  | powerTick
  /-- REGION_ESTIMATE (R599): Every 1 µs each signal box forms its region's activity estimate. -/
  | regionEstimate (region : Nat) (milliwatts : Nat)
  /-- RAIL_MEASUREMENT (R598): Entry voltage and current samples form 10 µs averages. -/
  | railMeasurement (entries : List (Option Nat))
  /-- CALIBRATION (R600): Every 10 ms quadrant coefficients are scaled to the measured energy and Lp and GUARD recomputed. -/
  | calibration (energy : List Nat)
  /-- LINE_CLOCK_HOLDOVER (R588): 3 s without an accepted notice puts the line clock into HOLDOVER. -/
  | lineClockHoldover
  /-- TIMETABLE_ACTIVATE (R594): A pending timetable takes effect once the line clock reaches ACTIVATE. -/
  | timetableActivate
  /-- TIMETABLE_ENTRY_BOUNDARY (R595): The scheduled budget changes at an entry's START or end. -/
  | timetableEntryBoundary
  /-- DISTURBANCE_END (R621): A disturbance response ends after HOLDCYC line cycles. -/
  | disturbanceEnd
  /-- POINT_MOVE (R616): A region moves one operating point, ordering VCORE and the ACLK glide. -/
  | pointMove (region : Nat)
  /-- DROOP_STRETCH (R617): A droop detector below threshold lengthens the region's ACLK. -/
  | droopStretch (region : Nat)
  /-- DROOP_STRETCH_END (R617): After 64 ACLK with every detector above threshold the stretch ends. -/
  | droopStretchEnd (region : Nat) (cycles : Nat)
  /-- THERMAL_THROTTLE (R623): A sensor above TJ_THROTTLE slows its region one point per 10 µs. -/
  | thermalThrottle (region : Nat)
  /-- THERMAL_CRIT (R623): A sensor above TJ_CRIT parks every cluster of the region. -/
  | thermalCrit (region : Nat)
  /-- LEDGER_PERIOD_END (R629): At a period boundary the ledger record is sealed and signed. -/
  | ledgerPeriodEnd
  /-- LEDGER_SIGN (R632): Records sealed before the ledger key exists are signed once it is available. -/
  | ledgerSign
  /-- REFCLK_SOURCE_READY (R635): A reference source becomes READY after 1 ms in range. -/
  | refclkSourceReady (pin : Bool)
  /-- REFCLK_SOURCE_LOSS (R642): A source loses READY, causing an automatic switch or holdover. -/
  | refclkSourceLoss (pin : Bool)
  /-- REFCLK_FALLBACK (R636): 20 ms after POWER_RAMP without the strapped source READY, the other source is taken. -/
  | refclkFallback
  /-- REFCLK_SWITCH_DONE (R644): A reference switch completes within 20 µs without stopping any clock. -/
  | refclkSwitchDone
  /-- PLL_LOCK_LOSS (R639): A PLL loses lock and its unit's fault is raised. -/
  | pllLockLoss (kind : Nat) (unit : Nat)
  /-- PWR_EN_RISE (R655): PWR_EN rising with entries in range starts POWER_RAMP. -/
  | pwrEnRise
  /-- PWR_EN_FALL (R659): PWR_EN falling takes the part to OFF within 10 ms. -/
  | pwrEnFall
  /-- ENTRY_VOLTAGE_FAULT (R755): An entry outside 44–63 V for its time stops conversion and the part goes OFF. -/
  | entryVoltageFault (entry : Nat)
  /-- POWER_RAMP_DONE (R655): The carrier stage and always-powered units are good and the part enters ROM. -/
  | powerRampDone (refsel : Bool)
  /-- LINK_UP (R656): Fuses read and link trained, the part enters LINK_UP. -/
  | linkUp (fusesGood : Bool)
  /-- LOADING_DONE (R667): The bundle passes or fails the acceptance checks, entering WAVES or returning to LINK_UP. -/
  | loadingDone (bundle : Option (List Byte)) (supplement : Option (List Byte))
  /-- WAVE (R671): A bring-up wave powers four regions through its steps. -/
  | bootWave (regions : List RegionWave)
  /-- CLUSTER_FAULT (R702): A failed cluster is switched off and packets to its index are held. -/
  | clusterFault (region : Nat) (rank : Nat) (sram : Bool)
  /-- SIDING_SUBSTITUTION (R703): A cleared siding is mapped in every points-table copy and held packets are released. -/
  | sidingSubstitution (region : Nat) (index : Nat)
  /-- REPLAY_SHARE (R709): A lost share is rerun from ENTRY once the lost cluster's writes have landed. -/
  | replayShare (kid : Nat) (cluster : Nat)
  /-- REPLAY_WHOLE (R708): Under WHOLE the kernel is stopped and rerun on all its clusters. -/
  | replayWhole (kid : Nat)
  /-- BACKGROUND_START_IMAGE (R704): A failed cluster reruns the start image and becomes a free siding or failed. -/
  | backgroundStartImage (region : Nat) (rank : Nat) (pass : Bool)
  /-- HEARTBEAT_TIMEOUT (R688): 6 µs without a signal box heartbeat declares a REGION fault. -/
  | heartbeatTimeout (region : Nat)
  /-- DISPATCHER_TAKEOVER (R699): A follower takes the dispatcher role 8 µs after the last heartbeat. -/
  | dispatcherTakeover
  /-- ROUTER_PLANE_SWITCH (R692): A failed crossbar plane check switches the router to its other plane. -/
  | routerPlaneSwitch (x : Nat) (y : Nat)
  /-- REGION_RESET (R714): A region is reset with through-running. -/
  | regionReset (region : Nat)
  /-- REGION_RESET_DONE (R714): The region returns to service, or goes OUT when its signal box fails to restart. -/
  | regionResetDone (region : Nat) (restarted : Bool)
  /-- CACHE_ROW_UNCORRECTABLE (R690): An uncorrectable region cache row sets BAD on its sectors and retires its way. -/
  | cacheRowUncorrectable (granule : Nat) (sector : Nat)
  /-- ENGINE_FAULT (R719): A failed reduction engine is rehosted and its buckets re-dispatched. -/
  | engineFault (engine : Nat)
  /-- STACK_FAULT (R720): A stack fault makes the stack LOST. -/
  | stackFault (region : Nat)
  /-- HIA_SWITCH (R721): The standby host interface instance takes over and reissues outstanding reads. -/
  | hiaSwitch
  /-- PART_FAULT (R721): A fault with no spare left takes the part to FAULTED. -/
  | partFault
  /-- PORT_TRAIN_UP (R506): A port trains with a matching partner and becomes UP. -/
  | portTrainUp (port : Nat) (install : Nat) (lanes : BitVec 17)
  /-- LINK (R508): A LINK flit arrives with acknowledgements, credits, replay requests and lane notices. -/
  | fabLink (port : Nat) (flit : LinkFlit)
  /-- WRITE (R524): A peer WRITE is accepted, translated and landed, then answered. -/
  | fabWrite (port : Nat) (p : Packet)
  /-- WRITE_CLOSE (R531): A peer closing write is performed when its epoch count is reached, or held. -/
  | writeClose (port : Nat) (p : Packet)
  /-- EPOCH_END (R532): A peer EPOCH_END frees the target's epoch entry. -/
  | epochEnd (port : Nat) (p : Packet)
  /-- READ_REQ (R525): A peer read request is answered by one READ_REPLY. -/
  | readReq (port : Nat) (p : Packet)
  /-- READ_REPLY (R525): Read data or a fault from a peer arrives for the requester. -/
  | readReply (port : Nat) (p : Packet)
  /-- ACK (R516): An answer arrives with DONE, RETRY, REFUSED, FAULTED or NO_ROUTE. -/
  | fabAck (port : Nat) (p : Packet)
  /-- WATCH_REQ (R493): An owner accepts or refuses a fence-watch request. -/
  | watchReq (port : Nat) (p : Packet)
  /-- WATCH_VALUE (R534): A watcher takes a fence value with a higher WSEQ. -/
  | watchValue (port : Nat) (p : Packet)
  /-- WATCH_END (R535): A watcher ends a fence watch at the owner. -/
  | watchEnd (port : Nat) (p : Packet)
  /-- RECOVER (R537): A RECOVER after a port failure triggers resend of unreceived replay-store packets. -/
  | fabRecover (port : Nat) (p : Packet)
  /-- CONTRIB (R565): Dense contribution sectors are added exactly into chunk accumulators. -/
  | xContrib (port : Nat) (p : Packet)
  /-- CONTRIB_SPARSE (R565): Sparse contribution entries are added exactly into chunk accumulators. -/
  | xContribSparse (port : Nat) (p : Packet)
  /-- CONTRIB_END (R567): A contribution's end record arrives; once all P are in, checksums are compared. -/
  | xContribEnd (port : Nat) (p : Packet)
  /-- REDISPATCH (R568): A member re-forms and resends its contributions with the new dispatch number. -/
  | xRedispatch (port : Nat) (p : Packet)
  /-- PARAM (R574): Distributed parameter sectors land in the member's DISTVA. -/
  | xParam (port : Nat) (p : Packet)
  /-- PARAM_END (R575): A chunk is counted landed; the last one completes the bucket and signals its fence. -/
  | xParamEnd (port : Nat) (p : Packet)
  /-- RETRY_RESEND (R516): A packet answered RETRY is resent after 1 µs. -/
  | retryResend (id : Nat)
  /-- NO_ROUTE_RESEND (R538): A packet answered NO_ROUTE is resent every RETRY interval. -/
  | noRouteResend (id : Nat)
  /-- DESTINATION_UNREACHABLE (R538): After UNREACH ms without answer the destination is reported unreachable and its waits abandoned. -/
  | destinationUnreachable (peer : Nat)
  /-- PORT_DOWN (R536): 2 µs without a decodable frame takes a port DOWN. -/
  | portDown (port : Nat)
  /-- LANE_ERASE (R539): A receiver erases a lane on loss of lock or excess corrections and sends a lane notice. -/
  | laneErase (port : Nat) (lane : LaneLoss)
  /-- LANE_SWITCH (R540): At SFRAME the erased lane moves to the spare wavelength. -/
  | laneSwitch (port : Nat) (lane : Nat)
  /-- WATCH_REFRESH (R534): An owner resends the current watched value every 1 ms. -/
  | watchRefresh (watch : Nat)
  /-- WATCH_REQ_RESEND (R535): A watcher answered RETRY resends its WATCH_REQ every 1 ms. -/
  | watchReqResend (watch : Nat)
  /-- TRACE_TICK (R745): Every 100 µs a TICK trace record of budget, estimate and draw is emitted. -/
  | traceTick
  /-- TRACE_SAMPLE (R746): Every 2^(SPOW+10) ACLK a SAMPLE record of the chosen core is emitted. -/
  | traceSample
  /-- UNDEFINED_INSTRUCTION (R266): A group reaches a word with an unnamed MAJ, a wrong LONG bit, a CONT marker, a misaligned long instruction or a program counter outside the store, and faults with INSTR_INVALID. -/
  | undefinedInstruction (core : Nat) (grp : Nat)
  /-- FLIT_RETRANSMIT (R36): A router receives a mesh flit that fails its guard code uncorrectably and asks the sending router to retransmit from its link replay buffer. -/
  | flitRetransmit (x : Nat) (y : Nat)
  /-- REPLAY_REQUEST (R507): An Edzous receiver meets an uncorrectable flit, discards its packet and the flits after it, and requests replay from the packet's header flit. -/
  | replayRequest (port : FlitArrival)
  /-- UNKNOWN_PACKET_TYPE (R515): A port receives a packet whose TYPE the packet type table does not name, or an exchange type 0x16 or 0x17, drops it and counts it in FAB_DROP. -/
  | unknownPacketType (port : Nat) (p : Packet)
  /-- ENTRY_VOLTAGE_RESTORED (R655): With PWR_EN high, all four entries come back within 48–60 V and the part leaves OFF for POWER_RAMP. -/
  | entryVoltageRestored
  /-- PWR_EN_DEFERRED_RISE (R766): A PWR_EN rise within 100 ms of a fall takes effect 100 ms after the fall. -/
  | pwrEnDeferredRise
  /-- STANDBY_HIA_FAULT (R721): The standby host interface instance fails; the fault is reported, nothing is interrupted, and a later fault of the active instance becomes a part fault. -/
  | standbyHiaFault
  /-- LINE_CLOCK_SLEW_END (R587): The line clock has removed its error ε and returns from 7/8 or 9/8 of its rate to the rate of its PERIOD. -/
  | lineClockSlewEnd
  /-- MOVE_COMPLETE (R640): The 8 µs ACLK glide of an operating point move ends and CK_RGN_STAT.MOVING clears. -/
  | moveComplete (region : Nat)
  /-- FUSE_BLOW_COMPLETE (R669): The blowing of ARB or DEBUG_LOCK fuses finishes within 100 ms and SEC_STAT.BLOWING clears, with ARB advanced or the lock fused for later boots. -/
  | fuseBlowComplete
  /-- STACK_HOT_CHANGE (R408): A stack's temperature crosses 85 °C, changing the refresh interval between 3.9 µs and 1.95 µs and the MEM_STAT.HOT bit. -/
  | stackHotChange (region : Nat) (hot : Bool)
  deriving DecidableEq, Repr

end Sys2Proof
end

