-- ==== Sys2Proof/Decode.lean ====
section
/-! DEFINITION. The command that a word of the opcode table's bits spells. No row of the table gives bits: commands reach the
block from outside (its registers, its links, its queues), and no word spells one. The instruction words that thread groups
fetch (R272-R309) are decoded by each row's meaning, from the core's instruction store. -/

namespace Sys2Proof

/-- No row of the opcode table gives bits, so no word spells a command. -/
def decodeTableWord (_nbits _w : Nat) : Option Instr := none

end Sys2Proof
end

