-- ==== Sys2Proof/Machine/Map.lean ====
section
/-! DEFINITION. The operations on sparse maps and byte memory, and the bit fields of a number. A map keeps its keys
strictly rising; `put` keeps no entry equal to the value an unlisted key reads as, so equal contents are equal data. -/

namespace Sys2Proof

/-- The entry at a key. -/
def NMap.get? {α : Type} : NMap α → Nat → Option α
  | [], _ => none
  | (a, x) :: m, k => if a = k then some x else NMap.get? m k

/-- The entry at a key, or a default. -/
def NMap.getD {α : Type} (m : NMap α) (k : Nat) (d : α) : α := (m.get? k).getD d

/-- A key is listed. -/
def NMap.has {α : Type} (m : NMap α) (k : Nat) : Bool := (m.get? k).isSome

/-- The map with an entry at a key. -/
def NMap.set {α : Type} : NMap α → Nat → α → NMap α
  | [], k, v => [(k, v)]
  | (a, x) :: m, k, v =>
    if k < a then (k, v) :: (a, x) :: m else if k = a then (k, v) :: m else (a, x) :: NMap.set m k v

/-- The map without a key. -/
def NMap.erase {α : Type} (m : NMap α) (k : Nat) : NMap α := List.filter (fun e => e.1 != k) m

/-- The map with a value at a key, where `d` is what an unlisted key reads as. -/
def NMap.put {α : Type} [DecidableEq α] (m : NMap α) (k : Nat) (v d : α) : NMap α :=
  if v = d then m.erase k else m.set k v

/-- Change the entry at a key, if it is listed. -/
def NMap.upd {α : Type} (m : NMap α) (k : Nat) (f : α → α) : NMap α :=
  List.map (fun e => if e.1 = k then (e.1, f e.2) else e) m

/-- Change every entry. -/
def NMap.mapVals {α : Type} (m : NMap α) (f : Nat → α → α) : NMap α := List.map (fun e => (e.1, f e.1 e.2)) m

/-- The keys, rising. -/
def NMap.keys {α : Type} (m : NMap α) : List Nat := List.map Prod.fst m

/-- The entries that a test keeps. -/
def NMap.keep {α : Type} (m : NMap α) (f : Nat → α → Bool) : NMap α := List.filter (fun e => f e.1 e.2) m

/-- Keys strictly rise. -/
def NMap.rising {α : Type} : NMap α → Bool
  | [] => true
  | [_] => true
  | (a, _) :: (b, y) :: m => decide (a < b) && NMap.rising ((b, y) :: m)

/-- The canonical form of a value map: keys strictly rise and no entry equals the default. -/
def NMap.canon {α : Type} [DecidableEq α] (m : NMap α) (d : α) : Bool :=
  m.rising && List.all m (fun e => decide (e.2 ≠ d))

/-- The byte at an address; an unlisted address reads as 0 (log 2). -/
def Mem.read (m : Mem) (a : Nat) : Byte := NMap.getD m a 0

/-- The memory with a byte written. -/
def Mem.write (m : Mem) (a : Nat) (b : Byte) : Mem := NMap.put m a b 0

/-- The canonical form of a memory: addresses strictly rise and no listed byte is 0. -/
def Mem.wf (m : Mem) : Bool := NMap.canon m 0

/-- n bytes from an address. -/
def Mem.bytes (m : Mem) (a n : Nat) : List Byte := (List.range n).map fun i => Mem.read m (a + i)

/-- The little-endian number of a list of bytes (R6). -/
def leNat : List Byte → Nat
  | [] => 0
  | b :: bs => b.toNat + 256 * leNat bs

/-- The n little-endian bytes of a number (R6). -/
def leBytes : Nat → Nat → List Byte
  | 0, _ => []
  | n + 1, v => BitVec.ofNat 8 v :: leBytes n (v / 256)

/-- The little-endian number of n bytes from an address. -/
def Mem.le (m : Mem) (a n : Nat) : Nat := leNat (Mem.bytes m a n)

/-- The memory with a list of bytes written from an address up. -/
def Mem.writeAll : Mem → Nat → List Byte → Mem
  | m, _, [] => m
  | m, a, b :: bs => Mem.writeAll (Mem.write m a b) (a + 1) bs

/-- The memory with n little-endian bytes of a number written. -/
def Mem.writeLE (m : Mem) (a n v : Nat) : Mem := Mem.writeAll m a (leBytes n v)

/-- The memory with every listed byte of a patch written at its offset from an address. -/
def Mem.patch (m : Mem) (a : Nat) : Mem → Mem
  | [] => m
  | (o, b) :: p => Mem.patch (Mem.write m (a + o) b) a p

/-- The field of `len` bits from bit `lo` of a number. -/
def fld (w lo len : Nat) : Nat := (w >>> lo) % 2 ^ len

/-- A number read as an n-bit two's complement integer. -/
def sgn (n v : Nat) : Int := if (v % 2 ^ n).testBit (n - 1) then (v % 2 ^ n : Nat) - (2 ^ n : Nat) else (v % 2 ^ n : Nat)

/-- An integer as n bits of two's complement. -/
def twos (n : Nat) (i : Int) : Nat := (i % (2 ^ n : Nat)).toNat

/-- 1 for true. -/
def b2n (b : Bool) : Nat := if b then 1 else 0

/-- A number with the field of `len` bits from `lo` replaced. -/
def setFld (w lo len v : Nat) : Nat := w - (fld w lo len) * 2 ^ lo + (v % 2 ^ len) * 2 ^ lo

/-- n divided by d, rounded up. -/
def ceilDiv (n d : Nat) : Nat := (n + d - 1) / d

/-- A list with an element appended unless it is there. -/
def addNew (l : List Nat) (x : Nat) : List Nat := if l.contains x then l else l ++ [x]

/-- Numbers inserted into a rising list. -/
def insertNat (x : Nat) : List Nat → List Nat
  | [] => [x]
  | y :: l => if x < y then x :: y :: l else if x = y then y :: l else y :: insertNat x l

/-- The bit mask with the listed bits set. -/
def maskOf (l : List Nat) : Nat := l.foldl (fun m i => m ||| 2 ^ i) 0

/-- The bits set among the lowest n of a number, rising. -/
def bitsOf (n w : Nat) : List Nat := (List.range n).filter fun i => w.testBit i

end Sys2Proof
end

