-- ==== Sys2Proof/Config.lean ====
section
/-! DEFINITION. What one GK1 fixes and what the manual leaves open: opaque constants, no proof can see a value of any of them. -/

namespace Sys2Proof.Config

/-- Random values that the security engine draws (R738): BOOT (R629) and CHECK (R492), one per value of
State.free (log 3). -/
opaque random : Nat → BitVec 64

/-- A bit the manual leaves open, one per value of State.free (log 4). -/
opaque freeBit : Nat → Bool

/-- A byte the manual leaves open (R444 overlap, R175, R697 of nothing read), one per value of State.free (log 4). -/
opaque freeByte : Nat → BitVec 8

/-- A 64-bit word the manual leaves open, one per value of State.free (log 4). -/
opaque freeWord : Nat → BitVec 64

/-- A byte of host memory as an engine of the queue engine reads it, by a value of State.free and address (log 16). -/
opaque hostByte : Nat → Nat → BitVec 8

/-- The host answers a read that an engine of the queue engine makes of host memory, by a value of State.free and address, with a
good completion (R417, log 16). -/
opaque hostGood : Nat → Nat → Bool

/-- PCI Express vendor ID: the identifier that PCI-SIG assigned to Abinby (R414, log 8). -/
opaque vendorId : BitVec 16

/-- The word at which control flow goes on where R292 leaves a group's control flow undefined (log 5). -/
opaque freeTarget : Nat → Nat

/-- Faithful rounding (R164, R217, R259): whether the neighbour of larger value is taken, by function and argument
m x 2^e with m odd, the same on every core and part (log 6). -/
opaque faithfulUp : Nat → Int → Int → Bool

/-- The FP32 bits of the GELU forms and SiLU (codes 3, 4, 5) at an argument of minus infinity, which R164 does not
state (log 6). -/
opaque actAtNegInf : Nat → BitVec 32

/-- SHA3-512 of FIPS 202 (R629, R591, R667, R735), 64 bytes (log 7). -/
opaque sha3 : List (BitVec 8) → BitVec 512

/-- The ML-DSA-87 public key (2,592 bytes) generated from a 32-byte seed, FIPS 204 (R735, log 7). -/
opaque publicKey : BitVec 256 → List (BitVec 8)

/-- The deterministic ML-DSA-87 signature (4,627 bytes) of a digest under the key of a seed (R736, log 7). -/
opaque sign : BitVec 256 → BitVec 512 → List (BitVec 8)

/-- Verification of an ML-DSA-87 signature: public key, digest, signature (R667, log 7). -/
opaque verify : List (BitVec 8) → BitVec 512 → List (BitVec 8) → Bool

/-- Fuse IDSEED, 32 random bytes (R734, log 8). -/
opaque idSeed : BitVec 256

/-- Fuse SERIAL (R734, log 8). -/
opaque serial : BitVec 64

/-- Fuse FWKEY (R662, log 8). -/
opaque fwKey : BitVec 512

/-- Fuses: blown ARB fuses when the part leaves POWER_RAMP for the first time (R662, log 8). -/
opaque arbFuses : Nat

/-- Fuse DEBUG_LOCK at manufacture (R662, R749, log 8). -/
opaque debugLockFuse : Bool

/-- Fuses: the factory defect map of a region, its skipped ranks (R662, R664, log 8). -/
opaque defectMap : Nat → List Nat

/-- Calibration fuses: seed of the power coefficient of a region, the draw in mW of one held cluster at a
point (R662, R599, R605, log 8). -/
opaque heldDraw : Nat → Nat → Nat

/-- The static term of a region's activity estimate, mW before calibration (R599, log 8). -/
opaque regionStatic : Nat → Nat

/-- The carrier's loss term for a draw of the part in mW (R599, log 8). -/
opaque carrierLoss : Nat → Nat

/-- The static draw of the part in mW, every cluster parked (R599, R620, log 8). -/
opaque staticDraw : Nat

end Sys2Proof.Config
end

