-- ==== Sys2Proof/Machine/State.lean ====
section
/-! DEFINITION. Everything the manual gives the GK1 to hold, as plain data. A sparse map (NMap) holds the entries that
differ from the structure's defaults, which are the values at reset. Every field cites the rule that names it. -/

namespace Sys2Proof.Machine

/-- Why the machine stops. -/
inductive Fault where
  /-- Raised by every meaning when the command names a unit the part does not have (a core of 1,024,000 or more, a
  slot of 8 or more ...): R14, R19, R20. Safe: nothing can be proved of a unit that does not exist. -/
  | noSuchUnit
  deriving DecidableEq, Repr

/-- Why a command has no meaning. -/
inductive Refusal where
  /-- Raised by an arm of exec whose command has no meaning yet. Safe: it stops. No arm raises it now. -/
  | notModelled (mnemonic : String)
  deriving DecidableEq, Repr

/-- The part's state (R655). -/
inductive PartState where
  | off | powerRamp | rom | linkUp | loading | waves | ready | maintenance | faulted
  deriving DecidableEq, Repr

/-! ## The core -/

/-- One entry of a mask stack (R235, R291). -/
structure MaskEntry where
  /-- pushed by loop (true) or by if (false) -/
  isLoop : Bool := false
  /-- saved mask -/
  saved : BitVec 16 := 0
  /-- else mask of an if entry -/
  els : BitVec 16 := 0
  /-- else has been executed for the entry -/
  elseDone : Bool := false
  /-- loop start: the instruction after loop -/
  start : Nat := 0
  /-- recorded target (R291) -/
  target : Nat := 0
  deriving DecidableEq, Repr

/-- Why a group's issue is stalled (R248). -/
inductive Stall where
  /-- not stalled -/
  | none
  /-- the matrix queue is full (R103) -/
  | queue
  /-- bank space is awaited (R154) -/
  | bank
  /-- ENGPEND of a barrier is at 63, or a bar.init awaits ENGPEND 0 (R360, R371) -/
  | engpend
  /-- waiting on a barrier object (R365, R366) -/
  | bar (b : Nat)
  deriving DecidableEq, Repr

/-- State of a resident slot (R221, R222, R267). -/
inductive GStatus where
  | empty | running | ended | halted
  deriving DecidableEq, Repr

/-- A fence of a group with the earlier requests it covers (R327-R329). -/
structure PFence where
  /-- acquire half -/
  acq : Bool
  /-- release half -/
  rel : Bool
  /-- SCOPE: 0 GROUP, 1 CORE, 2 PART, 3 SYSTEM (R310) -/
  scope : Nat
  /-- requests that were outstanding and covered when it issued -/
  waits : List Nat
  deriving DecidableEq, Repr

/-- A thread group in a resident slot (R221-R223, R235, R244, R265). Absent entries read as 0. -/
structure Group where
  status : GStatus := .empty
  /-- program counter, a word index (R271) -/
  pc : Nat := 0
  /-- s0-s31 -/
  sregs : NMap (BitVec 32) := []
  /-- v0-v31: register n of lane l at key 16 n + l -/
  vregs : NMap (BitVec 32) := []
  /-- p1-p7, a bit a lane; p0 is constant (R233) -/
  preds : NMap (BitVec 16) := []
  /-- active mask A -/
  active : BitVec 16 := 0
  /-- live mask -/
  live : BitVec 16 := 0
  /-- mask stack, top first -/
  stack : List MaskEntry := []
  /-- GSW [0] DIVERGED -/
  diverged : Bool := false
  /-- GSW [1] INVALID -/
  invalid : Bool := false
  /-- GSW [2] OVFL -/
  ovfl : Bool := false
  /-- GSW [15:8] FAULT -/
  fault : BitVec 8 := 0
  /-- conversion safeguard word (R265) -/
  csw : BitVec 64 := 0
  stall : Stall := .none
  /-- s registers whose value a reply will bring (R224, R313, R314) -/
  awaiting : List Nat := []
  /-- fences, oldest first (R327, R328) -/
  fences : List PFence := []
  deriving DecidableEq, Repr

/-- A barrier object (R356). -/
structure Bar where
  count : Nat := 0
  arrived : Nat := 0
  waiters : BitVec 8 := 0
  gen : BitVec 16 := 0
  lsrc : Nat := 0
  lslot : Nat := 0
  overflow : Bool := false
  engpend : Nat := 0
  deriving DecidableEq, Repr

/-- An exact or non-finite number: m times 2^e, an infinity, or NaN (R135, R139, R140). -/
inductive Num where
  | fin (m : Int) (e : Int)
  | inf (neg : Bool)
  | nan
  deriving DecidableEq, Repr

/-- A decoded operand element with its scale exponent (R108, R135); esc marks an escaped element (R118, R119). -/
structure Opnd where
  v : Num := .fin 0 0
  esc : Bool := false
  s : Int := 0
  deriving DecidableEq, Repr

/-- A cell's open run (R135-R139). -/
structure Run where
  /-- products so far, escape terms included -/
  cnt : Nat := 0
  /-- combined scale exponent c of the run -/
  c : Int := 0
  /-- KSEL entry of the run (R188) -/
  ksel : Nat := 0
  /-- weight exponent of the register's least significant bit -/
  lsb : Int := 0
  /-- the 40-bit run register -/
  reg : BitVec 40 := 0
  /-- the first product of a run with an OB8e operand, kept until its run closes (R135, R138) -/
  pend : List (Int × Int) := []
  /-- escape terms in ascending K -/
  escs : List Num := []
  deriving DecidableEq, Repr

/-- One filled queue entry: 8 K positions of every row and column of a pass (R108). -/
structure FeedEntry where
  /-- A, key row * 8 + position -/
  a : NMap Opnd := []
  /-- B, key column * 8 + position, or (row * 64 + column) * 8 + position for variant rows (R122) -/
  b : NMap Opnd := []
  /-- ACLK the array still waits for escapes in this entry (R119) -/
  stall : Nat := 0
  /-- mma.wg: the tile that receives each position, 0xFFFF for none (R186) -/
  ksel : List Nat := []
  deriving DecidableEq, Repr

/-- A drain as accepted: the descriptor copy and the register values kept with it (R299, R302). -/
structure DrainReq where
  /-- E0-E15 -/
  words : List (BitVec 64) := []
  scl : BitVec 32 := 0
  bias : BitVec 32 := 0
  slope : BitVec 32 := 0
  /-- RELEASE (true) or KEEP (R159) -/
  release : Bool := false
  deriving DecidableEq, Repr

/-- Kinds of matrix queue entries. -/
inductive MxKind where
  | mma | mmaWg | drain
  deriving DecidableEq, Repr

/-- An accepted matrix instruction (R93, R103, R299) with its progress. -/
structure MxInstr where
  /-- its request number, in the part's acceptance order -/
  rid : Nat
  kind : MxKind
  /-- issuing slot -/
  slot : Nat
  /-- launch of its kernel -/
  kid : Nat
  /-- the two instruction words -/
  w0 : BitVec 64 := 0
  w1 : BitVec 64 := 0
  /-- operand tile descriptors of A and B, D0-D3 (R299, R300) -/
  aD : List (BitVec 64) := []
  bD : List (BitVec 64) := []
  /-- K0 of a convolution form (R293) -/
  k0 : Nat := 0
  /-- total it promotes into, or drains -/
  tid : Nat := 0
  /-- WGS group it promotes into (R186) -/
  gid : Nat := 0
  /-- core-store address of KSEL -/
  ksel : Nat := 0
  /-- fold: 0 apart, 1 G32x16, 2 G16x32, 3 G64x8 (R94, R97) -/
  fold : Nat := 0
  drain : Option DrainReq := none
  /-- next entry the feeder fills: pass and entry number within it -/
  fillPass : Nat := 0
  fillEnt : Nat := 0
  /-- filled entries, oldest first, at most 8 (R108) -/
  entries : List FeedEntry := []
  /-- the array's pass, K position in it, ACLK spent in the position -/
  pass : Nat := 0
  kpos : Nat := 0
  sub : Nat := 0
  /-- open runs of the pass, key row * 64 + column -/
  runs : NMap Run := []
  /-- the OPREL arrival has been made -/
  oprelDone : Bool := false
  /-- the last K step has entered the array -/
  arrayDone : Bool := false
  /-- tile safeguard word of the instruction (R84) -/
  tsw : BitVec 64 := 0
  /-- WGS tiles it has promoted into (R199) -/
  touched : List Nat := []
  deriving DecidableEq, Repr

/-- A total in the accumulator bank (R142, R151, R158, R176). -/
structure Total where
  m : Nat := 0
  n : Nat := 0
  /-- 0 T32, 1 T64, 2 T128 (R177 TFMT) -/
  fmt : Nat := 0
  /-- W of a T64 total -/
  w : Int := 0
  /-- stored elements in the layout of R142, key row * 64 + column; absent entries hold the initial element -/
  elems : NMap (BitVec 128) := []
  inexact : Bool := false
  overflow : Bool := false
  nonfin : Bool := false
  undef : Bool := false
  tsw : BitVec 64 := 0
  count : Nat := 0
  /-- initialised by a ganged instruction (R161) -/
  ganged : Bool := false
  deriving DecidableEq, Repr

/-- What an accepted instruction will leave a handle bound to (R152). -/
structure Bound where
  tid : Nat
  m : Nat
  n : Nat
  fmt : Nat
  w : Int
  deriving DecidableEq, Repr

/-- An accepted drain in its core's pipeline, in acceptance order (R161). -/
structure DrainJob where
  rid : Nat
  slot : Nat
  kid : Nat
  tid : Nat
  req : DrainReq
  /-- DONE barrier -/
  done : Option Nat
  /-- its total was initialised by a ganged instruction: it takes the cluster's four pipelines (R161) -/
  ganged : Bool := false
  /-- it has started to read its total (R160) -/
  started : Bool := false
  /-- status to write: TSW and DSW (R176) -/
  tsw : BitVec 64 := 0
  dsw : BitVec 64 := 0
  deriving DecidableEq, Repr

/-- A write target of a stream (R334). -/
inductive Target where
  /-- a core store, by logical core id -/
  | store (core : Nat)
  /-- this part's device memory -/
  | device
  /-- a peer part, by its address -/
  | peer (part : Nat)
  deriving DecidableEq, Repr

/-- A sender's epoch record (R334, R339, R527). -/
structure EpochRec where
  stream : Nat
  target : Target
  /-- epoch number, modulo 256 -/
  epoch : Nat := 0
  /-- sector writes sent in the epoch -/
  sent : Nat := 0
  /-- the epoch has ended and its EPOCH_END is in flight (R532) -/
  ending : Bool := false
  deriving DecidableEq, Repr

/-- A loaded code image (R442). -/
structure Image where
  codeVA : Nat
  codeLen : Nat
  ctx : Nat
  deriving DecidableEq, Repr

/-- A core (R14). -/
structure Core where
  /-- resident groups by slot -/
  groups : NMap Group := []
  /-- 40 KiB core store; unlisted bytes read 0 -/
  store : Mem := []
  /-- instruction store, 1,024 words -/
  istore : NMap (BitVec 64) := []
  /-- tile file: element (r, c) of tile t at key 256 t + 16 r + c -/
  tiles : NMap (BitVec 32) := []
  /-- barrier objects -/
  bars : NMap Bar := []
  image : Option Image := none
  /-- kernel running on the core -/
  kid : Option Nat := none
  /-- matrix queue, at most 4 (R103) -/
  mq : List MxInstr := []
  /-- instructions past their last K step, not yet complete (R100) -/
  pipe : List MxInstr := []
  /-- totals in the accumulator bank by number -/
  totals : NMap Total := []
  /-- handle bindings as they will stand after every accepted instruction (R152) -/
  hbind : NMap Bound := []
  /-- totals whose releasing drain is pending (R154) -/
  releasing : List Nat := []
  /-- drain pipeline (R161) -/
  drains : List DrainJob := []
  epochs : List EpochRec := []
  /-- the kernel whose epochs those records hold (R527, R532, R774) -/
  streamOf : Option Nat := none
  /-- slot of the last issue (R745 SAMPLE) -/
  lastSlot : Nat := 0
  deriving DecidableEq, Repr

/-! ## The cluster -/

/-- A tile of a WGS group (R183, R199). -/
structure WTile where
  elems : NMap (BitVec 128) := []
  inexact : Bool := false
  overflow : Bool := false
  nonfin : Bool := false
  undef : Bool := false
  /-- instructions promoted into it since it was opened or cleared, with their safeguard words (R199) -/
  insts : NMap (BitVec 64) := []
  /-- kernels that have promoted into it since then (R443) -/
  kids : List Nat := []
  deriving DecidableEq, Repr

/-- An open WGS group (R183, R185). -/
structure WGroup where
  u0 : Nat
  wcount : Nat
  m : Nat
  n : Nat
  /-- 0 T32, 1 T64 -/
  fmt : Nat
  w : Int
  shared : Bool
  /-- core of the cluster that opened it -/
  owner : Nat
  /-- an accepted discard will close it (R184) -/
  closing : Bool := false
  /-- context that opened it -/
  ctx : Nat
  tiles : NMap WTile := []
  deriving DecidableEq, Repr

/-- A pending WGS operation of a cluster, in acceptance order (R192, R197). -/
structure WOp where
  rid : Nat
  gid : Nat
  /-- 0 mma.wg, 1 commit, 2 discard -/
  kind : Nat
  core : Nat
  slot : Nat := 0
  kid : Nat := 0
  w0 : BitVec 64 := 0
  w1 : BitVec 64 := 0
  /-- commit: address, stride, pitch as read from registers -/
  va : Nat := 0
  stride : Nat := 0
  pitch : Nat := 0
  /-- DONE barrier -/
  done : Option Nat := none
  deriving DecidableEq, Repr

/-- A cluster, by logical number (R14, R94, R130-R133, R603). -/
structure Cluster where
  /-- the four arrays run as a gang (R130) -/
  ganged : Bool := false
  /-- gang.hold is in force (R133) -/
  hold : Bool := false
  /-- apart instructions that start before a gang may form again, after a release by the 4,096-ACLK count (R132) -/
  apartFirst : List Nat := []
  /-- ACLK an apart instruction has waited under the gang (R132) -/
  apartWait : Nat := 0
  /-- WGS groups by number -/
  wgs : NMap WGroup := []
  wops : List WOp := []
  /-- HELD (true) or PARKED (R603) -/
  held : Bool := false
  /-- time of the last K step started (R606) -/
  lastWork : Nat := 0
  /-- core-ACLK in which its arrays ran since the last tick of the power controller (R603) -/
  ran : Nat := 0
  /-- the next request number when its share or grain was admitted (R695, R708) -/
  shareFrom : Nat := 0
  /-- kernel the cluster is admitted for -/
  admitted : Option Nat := none
  /-- it asks for a place: kernel to be admitted for, or readmission (R608, R609) -/
  asking : Option Nat := none
  /-- grain it runs (R205) -/
  grain : Option Nat := none
  /-- the cluster failed and awaits its siding; packets to it are held (R702) -/
  lost : Bool := false
  deriving DecidableEq, Repr

/-! ## The region and its stack -/

/-- A substitution entry of a points table (R678). -/
structure Subst where
  index : Nat
  rank : Nat
  deriving DecidableEq, Repr

/-- A channel's lanes (R396, R399-R402). -/
structure Channel where
  /-- lanes erased (R399) -/
  erased : List Nat := []
  /-- lanes replaced by a spare, oldest first: lane and the spare it moved to (36 or 37); a lane that left spare 36 has two entries -/
  spared : List (Nat × Nat) := []
  /-- lane being rebuilt and the slot pointer of the sweep (R400) -/
  rebuild : Option (Nat × Nat) := none
  /-- corrected symbols of each lane in the scrub pass (R399) -/
  laneCorr : NMap Nat := []
  /-- time of the last retraining (R409) -/
  retrained : Option Nat := none
  /-- time of the last refresh of each bank (R408) -/
  refreshed : NMap Nat := []
  deriving DecidableEq, Repr

/-- A region with its points table, its stack and its clock (R14, R26, R674, R678, R613). -/
structure Region where
  /-- owning context (R26) -/
  owner : Option Nat := none
  /-- the cores must be cleared before the next kernel of the owner (R27) -/
  needsClear : Bool := false
  /-- VFAB and VMEM are on (R42, R43) -/
  vfab : Bool := false
  vmem : Bool := false
  /-- rank-skip entries, ascending (R679) -/
  skips : List Nat := []
  /-- substitution entries, oldest first (R678) -/
  subs : List Subst := []
  /-- ranks of failed sidings and failed clusters (R681) -/
  failed : List Nat := []
  /-- SERVICE: 0 IN_SERVICE, 1 RESETTING, 2 OUT -/
  service : Nat := 0
  /-- stack LOST (R720) -/
  stackLost : Bool := false
  resets : Nat := 0
  clfaults : Nat := 0
  routers : Nat := 0
  /-- SB_RGN_BOOT WAVE and DONE -/
  wave : Nat := 0
  bootDone : Bool := false
  /-- signal box in service -/
  sbUp : Bool := false
  /-- region FCLK is borrowed from a neighbour (R693) -/
  fclkBorrowed : Bool := false
  /-- point in force or target of the move (R613), move in progress (R640) and its start -/
  point : Nat := 0
  moving : Bool := false
  moveAt : Nat := 0
  /-- droop stretch in force (R617) -/
  stretch : Bool := false
  aLock : Bool := false
  fLock : Bool := false
  dLock : Bool := false
  /-- time at which a sensor last exceeded TJ_THROTTLE (R623) -/
  throttledAt : Option Nat := none
  /-- last activity estimate, mW, and its time (R599) -/
  estimate : Nat := 0
  estimatedAt : Option Nat := none
  /-- draw of the holding loads in the last microsecond, mW (R603) -/
  holdMw : Nat := 0
  /-- channels by number -/
  channels : NMap Channel := []
  /-- bad-word list: word numbers granule * 8 + word (R406) -/
  badWords : List Nat := []
  corr : Nat := 0
  uncorr : Nat := 0
  /-- stack above 85 °C (R408) -/
  hot : Bool := false
  /-- granules read by the running scrub pass, and the start of the pass (R399, R410) -/
  scrubbed : List Nat := []
  scrubAt : Option Nat := none
  /-- a DRAM_MARGIN runs on the stack (R731) -/
  margining : Bool := false
  /-- PARK trace: counts and time of the last record (R746) -/
  parkShown : Nat × Nat := (0, 0)
  parkAt : Option Nat := none
  deriving DecidableEq, Repr

/-- A line of a region cache (R388), keyed by its granule. -/
structure Line where
  way : Nat := 0
  /-- valid, dirty and BAD bits, one a sector -/
  valid : BitVec 8 := 0
  dirty : BitVec 8 := 0
  bad : BitVec 8 := 0
  /-- recency: larger is more recent; a STREAM fill enters below every line of its set (R390) -/
  stamp : Int := 0
  /-- sectors that a STREAM fill brought and that the access it was made for has not yet used (R390) -/
  streamed : BitVec 8 := 0
  /-- bytes of the line, offset 0-255 -/
  data : Mem := []
  deriving DecidableEq, Repr

/-! ## Requests and messages -/

/-- Where an access goes. -/
inductive Place where
  /-- byte address in the core store of a core -/
  | store (core : Nat) (addr : Nat)
  /-- device virtual address in a context's space -/
  | dev (va : Nat)
  /-- device virtual address on a peer part -/
  | peer (part : Nat) (va : Nat)
  /-- host bus address of an access already translated -/
  | host (addr : Nat)
  deriving DecidableEq, Repr

/-- Kinds of messages in flight. -/
inductive MsgKind where
  /-- a sector write on its way to its home -/
  | write
  /-- a read request -/
  | read
  /-- a device-memory atomic (R352) -/
  | atom
  /-- acknowledgement of a write (R336) -/
  | ack
  /-- read data on its way back -/
  | readReply
  /-- reply of an atomic (R353) -/
  | atomReply
  /-- reply of the region allocator engine (R495) -/
  | heapReply
  /-- an engine arrival on its way to a barrier object (R361) -/
  | arrival
  /-- a host-memory read outstanding on the link (R417) -/
  | hostRead
  /-- an EPOCH_END to a peer not yet answered (R532) -/
  | epochEnd
  /-- an exchange packet not yet answered (R576) -/
  | exch
  deriving DecidableEq, Repr

/-- A message in flight: one sector access, one reply, one arrival. -/
structure Msg where
  kind : MsgKind
  /-- request it belongs to -/
  rid : Nat := 0
  /-- issuing core and slot -/
  core : Nat := 0
  slot : Nat := 0
  ctx : Nat := 0
  kid : Nat := 0
  /-- the queue of the work is ENFORCED (R475) -/
  enforced : Bool := false
  place : Place := .dev 0
  /-- bytes written, or read: offset from the place's address and byte -/
  data : Mem := []
  /-- bytes asked for -/
  len : Nat := 0
  /-- core-store address the source bytes come from, or the data goes to -/
  local_ : Nat := 0
  /-- the data are core-store bytes the engine may still have to read (R326) -/
  late : Bool := false
  /-- a host-page write that waits for the link with its bytes read: nothing of it is left on this part (R320, R329) -/
  away : Bool := false
  /-- atomic operation, comparand; s register of the result, RET (R313) -/
  op : Nat := 0
  cmp : BitVec 32 := 0
  reg : Nat := 0
  ret : Bool := false
  /-- old value of an atomic, or the address of h.alloc -/
  value : BitVec 64 := 0
  /-- stream and epoch of a stream write (R334) -/
  stream : Option Nat := none
  epoch : Nat := 0
  /-- closing write, its count, whether it holds a place (R335, R338) -/
  closing : Bool := false
  ecount : Nat := 0
  holding : Bool := false
  /-- returned to its sender: time of the return (R338, R516) -/
  returned : Option Nat := none
  /-- NO_ROUTE was received, or the request last sent to an unreachable part, at this time (R538) -/
  noRoute : Option Nat := none
  /-- time it was first sent -/
  sentAt : Nat := 0
  /-- a closing write not sent before earlier writes are acknowledged (R336) -/
  unsent : Bool := false
  /-- barrier and arrival source (R358) -/
  bar : Nat := 0
  src : Nat := 0
  /-- the packet of a write that came from a peer (R531) -/
  pkt : Option Packet := none
  /-- the packet of an exchange message (R576) -/
  out : Option Packet := none
  deriving DecidableEq, Repr

/-- What an engine request is. -/
inductive ReqKind where
  | mma | mmaWg | drain | commit | mvGet | mvPut | nsPut | nsGet | atom | heap
  deriving DecidableEq, Repr

/-- An accepted once-per-group request whose accesses are not all performed (R329). -/
structure Req where
  kind : ReqKind
  core : Nat
  slot : Nat
  kid : Nat
  ctx : Nat
  /-- accesses not yet performed, and those of them whose home is on this part (R329) -/
  left : Nat := 0
  leftHere : Nat := 0
  /-- DONE barrier and its source code -/
  done : Option Nat := none
  src : Nat := 0
  /-- the issuing unit has handed everything off -/
  handed : Bool := false
  deriving DecidableEq, Repr

/-- A target's epoch entry (R335, R530). -/
structure EpochEntry where
  /-- sending part: 0 for this part, else the peer part address plus 1 -/
  part : Nat
  score : Nat
  stream : Nat
  epoch : Nat
  target : Target
  landed : Nat := 0
  faulted : Option (BitVec 8) := none
  deriving DecidableEq, Repr

/-! ## Queues, kernels, contexts -/

/-- A fetched descriptor (R433). -/
structure Desc where
  /-- submission ring index -/
  ring : Nat
  /-- submission number of the queue -/
  seq : Nat
  /-- Q0-Q7 -/
  q : List (BitVec 64)
  /-- for a replayed plan entry: it writes no record (R549) -/
  replayed : Bool := false
  deriving DecidableEq, Repr

/-- The started normal-lane descriptor of a queue. -/
structure Cur where
  desc : Desc
  /-- kernel it runs, when it is a KERNEL or a RECOMPUTE's entry -/
  kid : Option Nat := none
  /-- time it started -/
  at_ : Nat := 0
  deriving DecidableEq, Repr

/-- A completion record waiting for room (R449, R450). -/
structure Rec where
  ring : Nat
  utag : BitVec 16
  status : BitVec 8
  diverged : Bool := false
  barOvf : Bool := false
  typ : BitVec 8
  fcore : Nat := 0
  fslot : Nat := 0
  fpc : Nat := 0
  time : Nat
  data : BitVec 64 := 0
  irq : Bool
  deriving DecidableEq, Repr

/-- An open checkpoint plan (R543-R546). -/
structure Plan where
  va : Nat
  capacity : Nat
  count : Nat := 0
  segment : Nat := 0
  keep : Bool
  overflow : Bool := false
  deriving DecidableEq, Repr

/-- A running RECOMPUTE: entries still to run (R548). -/
structure Recomp where
  entries : List (List (BitVec 64))
  pdelta : BitVec 64
  phase : BitVec 3
  /-- the entry that runs -/
  kid : Option Nat := none
  deriving DecidableEq, Repr

/-- A queue (R424-R435, R472). -/
structure Queue where
  /-- 0 DISABLED, 1 ACTIVE, 2 STOPPING, 3 ERROR -/
  state : Nat := 0
  lastErr : BitVec 8 := 0
  sqHead : Nat := 0
  cqTail : Nat := 0
  cqPh : Bool := true
  /-- SQTAIL and CQHEAD last read (R427) -/
  sqTail : Nat := 0
  cqHead : Nat := 0
  /-- descriptors submitted, and fetched or dropped: submission numbers never repeat -/
  submitted : Nat := 0
  fetchedN : Nat := 0
  fetched : List Desc := []
  cur : Option Cur := none
  /-- deferred kernels that have started, in order (R209) -/
  deferred : List Nat := []
  recs : List Rec := []
  plan : Option Plan := none
  recomp : Option Recomp := none
  deriving DecidableEq, Repr

/-- Why a share was lost and what was decided (R707-R710). -/
structure Share where
  /-- it did something that a rerun cannot reproduce (R707) -/
  unsafe_ : Bool := false
  /-- it issued mma.wg in this kernel (R708) -/
  mmaWg : Bool := false
  tries : Nat := 0
  /-- lost and to be rerun: whether by a region reset -/
  lost : Option Bool := none
  /-- it has ended without a rerun -/
  dropped : Bool := false
  deriving DecidableEq, Repr

/-- A kernel (R440-R443, R204-R212, R269). -/
structure Kernel where
  queue : Nat
  ctx : Nat
  desc : Desc
  /-- 0 ready to launch, 1 launched -/
  phase : Nat := 0
  /-- time its first cluster was admitted (R443) -/
  since : Option Nat := none
  /-- clusters that have been admitted -/
  admitted : List Nat := []
  /-- it was taken and could not launch: its place in the order of taking (R436) -/
  taken : Option Nat := none
  /-- the busy clusters that it reserves while it waits (R436) -/
  reserved : List Nat := []
  /-- clusters of a deferred kernel whose instruction stores have been loaded for it (R442) -/
  loaded : List Nat := []
  /-- group faults: core, slot, pc, code (R269) -/
  gfaults : List (Nat × Nat × Nat × BitVec 8) := []
  /-- engine-path faults: acceptance number, core and status (R695) -/
  efaults : List (Nat × Nat × BitVec 8) := []
  diverged : Bool := false
  barOvf : Bool := false
  /-- it has issued an mma.wg (R203) -/
  accumulating : Bool := false
  /-- status that replaces the order of R452 -/
  final : Option (BitVec 8) := none
  /-- stopped by TLIMIT, ABORT, teardown or a reset -/
  stopped : Bool := false
  shares : NMap Share := []
  /-- deferred: next grain, lost grains to hand out again, grains completed (R205, R711) -/
  nextGrain : Nat := 0
  lostGrains : List Nat := []
  doneGrains : Nat := 0
  /-- a rerun of the whole kernel is due (R708) -/
  rerun : Bool := false
  /-- the report of its first faulted access has been written (R696) -/
  reported : Bool := false
  deriving DecidableEq, Repr

/-- A context (R457, R466-R468, R500). -/
structure Ctx where
  /-- 0 FREE, 1 LIVE, 2 TEARDOWN -/
  state : Nat := 0
  gen : BitVec 8 := 0
  cbFrame : BitVec 32 := 0
  heapVA : Nat := 0
  heapCh : Nat := 0
  rlog : Nat := 0
  rlAddr : Nat := 0
  rlSeq : Nat := 0
  /-- blocks allocated: address and class exponent; each chunk in use with its class exponent and the region that took it (R495-R497) -/
  blocks : List (Nat × Nat) := []
  chunks : List (Nat × Nat × Nat) := []
  /-- objects and fences whose release waits: (isFence, index) and, per queue, the descriptors covered (R481) -/
  releases : List ((Bool × Nat) × List (Nat × Nat)) := []
  /-- counters 0-13 (R743) -/
  counters : NMap (BitVec 64) := []
  deriving DecidableEq, Repr

/-- A watch this part holds as owner (R493, R534). -/
structure OwnerWatch where
  part : Nat
  ctx : Nat
  gen : Nat
  fence : Nat
  check : BitVec 64
  wseq : Nat := 0
  lastSent : Nat := 0
  /-- the fence changed since the last WATCH_VALUE -/
  dirty : Bool := false
  deriving DecidableEq, Repr

/-- A watch this part holds as importer (R493, R494). -/
structure ImportWatch where
  lo : BitVec 64
  check : BitVec 64
  value : BitVec 64 := 0
  abandoned : Bool := false
  /-- the fabric has reported the owner unreachable (R494) -/
  unreachable : Bool := false
  wseq : Option Nat := none
  /-- the last WATCH_REQ was answered RETRY, or NO_ROUTE, at this time (R535, R538) -/
  retryAt : Option Nat := none
  noRouteAt : Option Nat := none
  /-- time since which a WATCH_REQ has had no answer (R538) -/
  asked : Option Nat := none
  deriving DecidableEq, Repr

/-! ## Edzous -/

/-- Flits taken in the shares of a receive store: per pool, oldest first, each run with whether it stands in the shared share
(R510, R511). -/
abbrev Shares := NMap (List (Bool × Nat))

/-- A port (R503-R511, R536-R541). -/
structure Port where
  /-- 0 DOWN, 1 TRAINING, 2 UP, 3 DEGRADED, 4 FAILED -/
  state : Nat := 0
  /-- LANES: wavelengths that carry a lane -/
  lanes : BitVec 17 := 0
  /-- the lane on the spare wavelength of the receive and of the transmit fibre (R540) -/
  rxSpare : Option Nat := none
  txSpare : Option Nat := none
  /-- lanes of the receive fibre now erased, and those whose SWITCH notice has come, each with its SFRAME (R539, R540) -/
  erased : List Nat := []
  switching : List (Nat × Nat) := []
  corr : Nat := 0
  replays : Nat := 0
  /-- corrected symbols per lane in a 1 ms window, the window's number, and the lanes that corrected too many (R539) -/
  laneCorr : NMap Nat := []
  window : Nat := 0
  noisy : List Nat := []
  /-- packets behind an uncorrectable flit that the partner has already sent: they are discarded (R507) -/
  skip : Nat := 0
  /-- times at which the port trained, and last ceased to be UP or DEGRADED (R538, R540) -/
  trainedAt : Nat := 0
  downAt : Nat := 0
  /-- good flits received since training (R508) -/
  rxCount : Nat := 0
  /-- flits sent since training -/
  txCount : Nat := 0
  /-- replay store: flit count of each packet's header flit, its replays, the packet (R507, R509) -/
  store : List (Nat × Nat × Packet) := []
  /-- replay stores of links that were lost, oldest first: each awaits the partner's RECOVER (R537) -/
  old : List (List (Nat × Nat × Packet)) := []
  /-- packets that wait for credits, each with the port that received it (R511) -/
  waiting : List (Option Nat × Packet) := []
  /-- credits taken of the partner's receive store, and room taken in the port's own (R510, R511) -/
  taken : Shares := []
  room : Shares := []
  /-- packets and LINK notices sent on the port, in order -/
  sent : List Packet := []
  notices : List LinkFlit := []
  /-- the part at the other end, from SELF of its LINK flits -/
  partner : Nat := 0
  /-- PLL known to be locked, and the time it last started again or was stopped (R637, R638) -/
  lock : Bool := false
  pllAt : Option Nat := none
  deriving DecidableEq, Repr

/-! ## Exchange -/

/-- An exchange job (R551). -/
structure Job where
  ctx : Nat
  q : List (BitVec 64)
  /-- member table in rank order -/
  members : List Nat
  buckets : Nat := 0
  redispatch : Nat := 0
  nonfin : Nat := 0
  timeouts : Nat := 0
  deriving DecidableEq, Repr

/-- The reduction state of one owned chunk (R565-R568). -/
structure Chunk where
  chunk : Nat
  engine : Nat
  /-- exact image sums by element, modulo 2^320 -/
  acc : NMap (BitVec 320) := []
  /-- marks by element: bit 0 +inf, bit 1 -inf, bit 2 NaN -/
  marks : NMap (BitVec 3) := []
  /-- sum of the contribution checksums, ranks complete; packets received by rank -/
  checks : BitVec 64 := 0
  ends : List (Nat × Nat) := []
  got : NMap Nat := []
  deriving DecidableEq, Repr

/-- A bucket in flight (R557-R569); the keys rise in the order of the starts over the part (R566). -/
structure Bucket where
  job : Nat
  ctx : Nat
  queue : Nat
  number : Nat
  step : Nat
  src : Nat
  hp : Nat
  fence : Nat
  value : BitVec 64
  started : Nat
  reserved : Bool := false
  dispatch : Nat := 0
  chunks : List Chunk := []
  /-- every owned chunk has matched and has been applied -/
  applied : Bool := false
  /-- landed chunks; PARAM packets landed by chunk; PARAM_END counts by chunk (R575) -/
  landed : List Nat := []
  params : NMap Nat := []
  paramEnds : NMap Nat := []
  /-- the report of its first faulted access has been written (R696) -/
  faulted : Bool := false
  deriving DecidableEq, Repr

/-- A snapshot (R578-R581). -/
structure Snap where
  queue : Nat
  ctx : Nat
  q : List (BitVec 64)
  /-- blocks read; blocks read ahead of the ascending order (R580) -/
  read : List Nat := []
  early : Nat := 0
  /-- blocks that writes wait on -/
  wanted : List Nat := []
  /-- the queue is ENFORCED (R475) -/
  enforced : Bool := false
  deriving DecidableEq, Repr

/-! ## Power -/

/-- A timetable entry, T0-T3 (R592). -/
structure Entry where
  t0 : BitVec 64
  t1 : BitVec 64
  t2 : BitVec 64
  t3 : BitVec 64
  deriving DecidableEq, Repr

/-- A loaded timetable (R591). -/
structure Table where
  gap : Nat
  hold : Nat
  activate : Nat
  entries : List Entry
  digest : BitVec 512
  deriving DecidableEq, Repr

/-- A disturbance response in progress (R619-R622). -/
structure Disturb where
  budget : Nat
  holdCyc : Nat
  /-- the line cycle in which it ends, while holdCyc is not 0 -/
  endCycle : Nat
  /-- the part of that cycle at which it ends is endFrac / endSpan -/
  endFrac : Nat
  endSpan : Nat
  startAt : Nat
  deriving DecidableEq, Repr

/-- The line clock as it stood at a device time, after a notice: what LineClock says of it (R587). -/
structure LineMark where
  at_ : Nat
  cycle : Nat
  frac : Nat
  period : Nat
  slew : Nat := 0
  fast : Bool := false
  deriving DecidableEq, Repr

/-- The line clock (R582-R588). -/
structure LineClock where
  /-- 0 UNSET, 1 LOCKED, 2 HOLDOVER -/
  state : Nat := 0
  cycle : Nat := 0
  /-- part of the cycle that has passed, in units of 1/8 ps -/
  frac : Nat := 0
  /-- PERIOD in ps -/
  period : Nat := 20000000000
  /-- error still to remove, in 1/8 ps of line clock time; the clock runs fast (true) at 9/8 or slow at 7/8 -/
  slew : Nat := 0
  fast : Bool := false
  /-- what the last nanosecond of a slew has still to remove (less than 0: to add), in 1/8 ps -/
  debt : Int := 0
  /-- the clock as it stood after the last notices, newest first (R587) -/
  past : List LineMark := []
  /-- last accepted notice: CYCLE, TS, device time -/
  notice : Option (Nat × Nat × Nat) := none
  deriving DecidableEq, Repr

/-- The power controller (R589-R627). -/
structure Power where
  /-- TIMETABLE mode -/
  timetable : Bool := false
  preset : Nat := 0
  table : Option Table := none
  pendingTable : Option Table := none
  /-- index of the entry in force -/
  entry : Option Nat := none
  rackCap : Nat := 0
  coolCap : Nat := 0
  inlet : BitVec 16 := 0
  flow : BitVec 16 := 0
  disturb : Option Disturb := none
  /-- effective budget b, mW, and slopes, W/ms, which are mW/us -/
  eff : Nat := 40000000
  up : Nat := 2000
  down : Nat := 4000
  /-- e of the previous tick, allowance left, mW -/
  ePrev : Int := 0
  allowance : Int := 0
  /-- last 10 us measured average, estimate, ceiling, floor of R620, mW -/
  meas : Nat := 0
  est : Nat := 0
  ceil : Nat := 0
  floor : Nat := 0
  /-- last per-entry averages, mW -/
  entryMeas : List Nat := []
  /-- calibration scale of each quadrant, numerator and denominator (R600) -/
  scale : NMap (Nat × Nat) := []
  calibrated : Bool := false
  guard : Nat := 0
  limit : Nat := 0
  /-- clusters parked in this 128 ns by region (R607): window number and count; clusters that are to be parked in later ones -/
  parked : NMap (Nat × Nat) := []
  parkDue : List Nat := []
  /-- parked clusters that departure slots have still to make held before regions become unowned, by the context in teardown, 64
  for a REGION_ASSIGN (R611) -/
  handing : NMap (List Nat) := []
  /-- time of the last departure slot by region (R608) -/
  slots : NMap Nat := []
  /-- measured 10 us averages of the last 1 ms, newest first, mW, and how many were formed (R612, R631) -/
  hist : List Nat := []
  measN : Nat := 0
  /-- sum of the measured averages since the last 10 ms boundary; averages of the 10 ms windows of the last second (R630) -/
  tenAcc : Nat := 0
  tens : List Nat := []
  /-- time of the last tick, measurement and calibration (R598, R600, R605) -/
  tickAt : Option Nat := none
  railAt : Option Nat := none
  calAt : Option Nat := none
  /-- estimated and measured energy of each quadrant since the last calibration, mW x us (R600) -/
  estQ : NMap Nat := []
  measQ : NMap Nat := []
  /-- 10 us averages of the four entries over the last 1 ms, newest first, mW (R602, R756) -/
  entryHist : List (List Nat) := []
  /-- last time of a disturbance response, a thermal emergency, or a drop of R611 (R612) -/
  excused : Option Nat := none
  /-- time up to which thermal steps have used up the down-slope (R623) -/
  fallFrom : Nat := 0
  /-- parts of a mJ not yet counted: holding-load energy by region, estimated energy by context, mW x us (R743) -/
  burn : NMap Nat := []
  estC : NMap Nat := []
  deriving DecidableEq, Repr

/-- The open ledger period (R628-R631). -/
structure Period where
  cstart : Nat := 0
  dstart : Nat := 0
  /-- measured energy, mW x us, and budget integral, mW x ns -/
  energy : Nat := 0
  benergy : Nat := 0
  peak1s : Nat := 0
  /-- highest and lowest b, mW -/
  bmax : Nat := 40000000
  bmin : Nat := 40000000
  flags : BitVec 32 := 0
  efirst : Option Nat := none
  elast : Option Nat := none
  ndist : Nat := 0
  holdNs : Nat := 0
  deriving DecidableEq, Repr

/-- A sealed record (R629): its sequence number, body and signature when signed. -/
structure LedgerRec where
  seq : Nat
  body : List Byte
  sig : Option (List Byte)
  deriving DecidableEq, Repr

/-- The ledger (R628-R633). -/
structure Ledger where
  seq : Nat := 0
  boot : BitVec 64 := 0
  period : Period := {}
  held : List LedgerRec := []
  deriving DecidableEq, Repr

/-! ## Clocks, boot, faults, observation -/

/-- Reference clocks (R634-R646). -/
structure Clocks where
  linkReady : Bool := false
  pinReady : Bool := false
  /-- strap REFSEL as sampled (R768) -/
  refsel : Bool := false
  /-- source in use: false LINK, true PIN -/
  cur : Bool := false
  holdover : Bool := false
  /-- target of the switch in progress (R644) -/
  switching : Option Bool := none
  /-- SEL write to be judged when the switch ends (R646) -/
  selAfter : Option Bool := none
  switches : Nat := 0
  hLock : Bool := false
  /-- time the host PLL started, and the time the port PLLs did: the first LINK_UP (R637) -/
  hAt : Nat := 0
  portsAt : Option Nat := none
  /-- time POWER_RAMP was left (R636) -/
  since : Nat := 0
  deriving DecidableEq, Repr

/-- Boot state (R655-R677). -/
structure Boot where
  err : Nat := 0
  waves : Nat := 0
  svn : Nat := 0
  /-- ARB blown beyond the fuses' count at manufacture (R669) -/
  arbBlown : Nat := 0
  /-- ARB target while blowing -/
  blowing : Option Nat := none
  /-- DEBUG_LOCK blown, and blowing (R749) -/
  lockBlown : Bool := false
  lockBlowing : Bool := false
  locked : Bool := false
  dvalid : Bool := false
  disp : Nat := 3
  follow : List Nat := [4, 5]
  takeovers : Nat := 0
  /-- entries of the supplement accepted in LOADING -/
  supplement : List (BitVec 64) := []
  /-- BHDIG of the accepted bundle (R735) -/
  bhdig : BitVec 512 := 0
  ikReady : Bool := false
  lkReady : Bool := false
  deriving DecidableEq, Repr

/-- Pins and entries (R655, R755, R766), the host interface (R419-R423, R721). -/
structure Edge where
  pwrEn : Bool := true
  /-- time PWR_EN fell -/
  fellAt : Option Nat := none
  /-- a rise waits for its 100 ms (R766) -/
  riseDue : Bool := false
  /-- entries within 48-60 V -/
  entriesOk : Bool := true
  /-- active instance: false A, true B; the other has failed -/
  hia : Bool := false
  standbyFailed : Bool := false
  linkUp : Bool := false
  /-- the link has trained since the part left POWER_RAMP: a further training counts in RETRAINS -/
  trained : Bool := false
  d3hot : Bool := false
  width : Nat := 16
  retrains : Nat := 0
  /-- PTM pairs (MTIME, LTIME), newest first, at most two; time of the last dialogue -/
  ptm : List (Nat × Nat) := []
  ptmAt : Option Nat := none
  /-- HL_PTM_MASTER and HL_PTM_LOCAL have been reset since the last dialogue (R418) -/
  ptmReset : Bool := false
  /-- MSI-X: time of each vector's last message; waiting requests (vector, due time) -/
  msixLast : NMap Nat := []
  msixWait : List (Nat × Nat) := []
  msixTable : NMap (BitVec 32) := []
  msixPending : List Nat := []
  msixSent : List Nat := []
  /-- sequence number of the next report (R455) -/
  reportSeq : Nat := 1
  /-- start of the last summary poll (R432) -/
  polledAt : Option Nat := none
  /-- queue engine's round robin pointer (R436) -/
  rr : Nat := 0
  deriving DecidableEq, Repr

/-- A failed cluster that awaits its siding, with what its report says (R702, R703, R723). -/
structure Failing where
  region : Nat
  index : Nat
  rank : Nat
  status : Nat
  ctx : Nat
  queue : Nat
  deriving DecidableEq, Repr

/-- Held management work (R471, R725, R728, R731). -/
structure Held where
  /-- MAINT_ENTER has started: only queue 0 starts descriptors -/
  maintEntering : Bool := false
  /-- regions a held RELEASE names -/
  releasing : List Nat := []
  /-- DRAM_MARGIN that runs: its descriptor -/
  margin : Option Desc := none
  /-- clusters that failed on an SRAM row: (region, rank) awaiting the start image (R704) -/
  background : List (Nat × Nat) := []
  /-- failed clusters that await a siding -/
  failing : List Failing := []
  /-- OUT regions that a report names once queue 0 is enabled (R674) -/
  outReports : List Nat := []
  /-- router planes lost: wafer x, y (R692) -/
  planes : List (Nat × Nat) := []
  /-- engines failed (R719) -/
  engines : List Nat := []
  /-- cache ways left unused: region, slice, set, way (R690) -/
  deadWays : List (Nat × Nat × Nat × Nat) := []
  /-- availability (R732): unavailable ns, intervals, whether inside one -/
  unavailNs : Nat := 0
  unavailEvents : Nat := 0
  unavail : Bool := false
  /-- SB_REPLAY counters -/
  shares : Nat := 0
  wholes : Nat := 0
  failed : Nat := 0
  lostAcc : Nat := 0
  /-- flits resent by routers (R36), by wafer position -/
  resent : NMap Nat := []
  deriving DecidableEq, Repr

/-- Observation (R741-R748). -/
structure Obs where
  /-- core counters by physical core, key (physical core) * 8 + index (R743) -/
  coreCnt : NMap (BitVec 64) := []
  /-- region counters, key region * 4 + index -/
  rgnCnt : NMap (BitVec 64) := []
  /-- OBS_REPKIND -/
  repKind : NMap (BitVec 64) := []
  /-- OBS_CORESEL: a snapshot is pending, READY, and the snapshot's counters (R744) -/
  corePending : Bool := false
  coreReady : Bool := false
  coreSnap : List (BitVec 64) := []
  /-- OBS_BARSEL: the same, and the view word -/
  barPending : Bool := false
  barReady : Bool := false
  barSnap : BitVec 64 := 0
  traceSeq : Nat := 0
  drops : Nat := 0
  /-- time of the last TICK and SAMPLE records (R745, R746) -/
  tickAt : Option Nat := none
  sampleAt : Option Nat := none
  /-- records sent to the observation port, oldest first -/
  portOut : List (List Byte) := []
  deriving DecidableEq, Repr

/-- The whole part. -/
structure Gk1 where
  /-- counter of the free values drawn (the model's own) -/
  free : Nat := 0
  part : PartState := .rom
  /-- DTIME, ns (HL_TIME) -/
  dtime : Nat := 0
  /-- RW and W1C bits of BAR0 registers that differ from their reset values, by offset (R7) -/
  regs : NMap (BitVec 64) := []
  edge : Edge := {}
  boot : Boot := {}
  clocks : Clocks := {}
  line : LineClock := {}
  power : Power := {}
  ledger : Ledger := {}
  held : Held := {}
  obs : Obs := {}
  /-- cores by logical core id, clusters by logical number, regions by number -/
  cores : NMap Core := []
  clusters : NMap Cluster := []
  regions : NMap Region := []
  /-- stored bytes of the stacks by physical address; unlisted bytes read 0 (log 2) -/
  dram : Mem := []
  /-- region cache lines by granule -/
  cache : NMap Line := []
  stamp : Nat := 0
  /-- sectors whose fill has been requested, granule * 8 + sector, with the context of the access that caused the fill and
  STREAM of its placement entry (R389-R391) -/
  fills : NMap (Nat × Bool) := []
  /-- next request and message number -/
  nextId : Nat := 1
  reqs : NMap Req := []
  msgs : NMap Msg := []
  epochs : List EpochEntry := []
  queues : NMap Queue := []
  ctxs : NMap Ctx := [(0, { state := 1 })]
  kernels : NMap Kernel := []
  ownerWatches : NMap OwnerWatch := []
  importWatches : NMap ImportWatch := []
  ports : NMap Port := []
  /-- FAB_DROP counters: INSTALL, HOPS, REFUSED, UNREACH -/
  drops : NMap Nat := []
  /-- peer parts now unreachable -/
  unreachable : List Nat := []
  /-- answers, watch packets and RECOVERs of the part that had no usable port, with the time of the last try (R518, R538) -/
  kept : NMap (Packet × Nat) := []
  /-- time of the last write of a route table entry, by its register (R538) -/
  routedAt : NMap Nat := []
  jobs : NMap Job := []
  buckets : NMap Bucket := []
  snaps : NMap Snap := []
  /-- posted writes sent on the host link, oldest first: host bus address and bytes (R416) -/
  posted : List (Nat × List Byte) := []
  /-- posted writes that wait for the link, D0 or an instance switch (R37, R419) -/
  postHeld : List (Nat × List Byte) := []
  deriving DecidableEq, Repr

/-- The machine: the part, and the commands that wait, first in first out. -/
structure State extends Gk1 where
  pending : List Instr := []
  deriving DecidableEq, Repr

/-- The part as it leaves POWER_RAMP (R9): in ROM, every field at its Reset value, the strap REFSEL at LINK (log 39); BOOT has
been drawn and the first ledger period is open, the line clock UNSET (R628, R629). No command waits. -/
def State.reset : State := {
  ledger := { boot := Config.random 0, period := { flags := 32 } }, boot := { locked := Config.debugLockFuse }, free := 1 }

end Sys2Proof.Machine
end

