-- ==== Sys2Proof/Machine/Num.lean ====
section
/-! DEFINITION. Exact numbers and their rounding: the number formats of R45 and R48-R53, the rounding rule of R78 with
the overflow rule of R73, IEEE arithmetic by R231, and the random bits of R79. -/

namespace Sys2Proof.Machine

/-- The number formats of R45. -/
inductive Fmt where
  | fp32 | bf16 | fp16 | ob4 | ob4i | ob3 | ob2 | ob8 | ob8e
  deriving DecidableEq, Repr

/-- The format a 4-bit code names (R45). -/
def Fmt.ofCode : Nat → Option Fmt
  | 0 => some .fp32 | 1 => some .bf16 | 2 => some .fp16 | 3 => some .ob4 | 4 => some .ob4i
  | 5 => some .ob3 | 6 => some .ob2 | 7 => some .ob8 | 8 => some .ob8e | _ => none

/-- An Olpel format. -/
def Fmt.olpel : Fmt → Bool
  | .fp32 | .bf16 | .fp16 => false
  | .ob4 | .ob4i | .ob3 | .ob2 | .ob8 | .ob8e => true

/-- A format with escape codes (R61). -/
def Fmt.escapes : Fmt → Bool
  | .ob4 | .ob4i | .ob2 => true
  | .fp32 | .bf16 | .fp16 | .ob3 | .ob8 | .ob8e => false

/-- Element bits (R45). -/
def Fmt.bits : Fmt → Nat
  | .fp32 => 32 | .bf16 => 16 | .fp16 => 16 | .ob4 => 4 | .ob4i => 4 | .ob3 => 3 | .ob2 => 2 | .ob8 => 8 | .ob8e => 8

/-- Block bytes (R45). -/
def Fmt.blockBytes (f : Fmt) : Nat := f.bits * 4

/-- Significant bits of the format, the hidden bit included; 4 for the integers of OB4i. -/
def Fmt.prec : Fmt → Nat
  | .fp32 => 24 | .bf16 => 8 | .fp16 => 11 | .ob4 => 2 | .ob4i => 4 | .ob3 => 1 | .ob2 => 1 | .ob8 => 4 | .ob8e => 3

/-- Exponent of the smallest step of the format's grid. -/
def Fmt.qmin : Fmt → Int
  | .fp32 => -149 | .bf16 => -133 | .fp16 => -24 | .ob4 => -1 | .ob4i => 0 | .ob3 => 0 | .ob2 => 0 | .ob8 => -9
  | .ob8e => -16

/-- Exponent bits of the IEEE formats. -/
def Fmt.ebits : Fmt → Nat
  | .fp32 => 8 | .bf16 => 8 | .fp16 => 5 | .ob4 | .ob4i | .ob3 | .ob2 | .ob8 | .ob8e => 0

/-- The magnitude code of the largest element, E_max of R45, and of the largest finite number. -/
def Fmt.maxCode : Fmt → Nat
  | .fp32 => 0x7F7FFFFF | .bf16 => 0x7F7F | .fp16 => 0x7BFF | .ob4 => 7 | .ob4i => 7 | .ob3 => 3 | .ob2 => 1
  | .ob8 => 0x7F | .ob8e => 0x7F

/-- The position of the sign bit in the IEEE and sign-magnitude formats. -/
def Fmt.signBit (f : Fmt) : Nat := f.bits - 1

/-- A rounding mode (R74, R78) with its 24 random bits. -/
inductive Rnd where
  | nearest
  | stochastic (r : Nat)
  | zero
  deriving DecidableEq, Repr

/-- The magnitude m x 2^e of a magnitude code: a subnormal has no hidden bit (R48-R53). -/
def magValue (f : Fmt) (code : Nat) : Nat × Int :=
  if code < 2 ^ (f.prec - 1) then (code, f.qmin)
  else (2 ^ (f.prec - 1) + code % 2 ^ (f.prec - 1), f.qmin + (code / 2 ^ (f.prec - 1) : Nat) - 1)

/-- Round the magnitude m x 2^e to a magnitude code by R78: the lower neighbour's code and, where the mode says so, the
next one. A tie takes the code whose bit 0 is clear. -/
def roundMag (f : Fmt) (rnd : Rnd) (m : Nat) (e : Int) : Nat :=
  if m = 0 then 0 else
  let q := max ((Nat.log2 m : Int) + e - ((f.prec : Int) - 1)) f.qmin
  let base := (q - f.qmin).toNat * 2 ^ (f.prec - 1)
  if q ≤ e then base + m * 2 ^ (e - q).toNat else
  let sh := (q - e).toNat
  let rem := m % 2 ^ sh
  let code := base + m >>> sh
  match rnd with
  | .zero => code
  | .nearest => if 2 ^ sh < 2 * rem ∨ (2 * rem = 2 ^ sh ∧ code % 2 = 1) then code + 1 else code
  | .stochastic r => if r < rem * 2 ^ 24 / 2 ^ sh then code + 1 else code

/-- Compare m1 x 2^e1 with m2 x 2^e2. -/
def dyLe (m1 : Int) (e1 : Int) (m2 : Int) (e2 : Int) : Bool :=
  if e1 ≤ e2 then decide (m1 ≤ m2 * 2 ^ (e2 - e1).toNat) else decide (m1 * 2 ^ (e1 - e2).toNat ≤ m2)

/-- Add m1 x 2^e1 and m2 x 2^e2 exactly. -/
def dyAdd (m1 : Int) (e1 : Int) (m2 : Int) (e2 : Int) : Int × Int :=
  if m1 = 0 then (m2, e2) else if m2 = 0 then (m1, e1) else
  if e1 ≤ e2 then (m1 + m2 * 2 ^ (e2 - e1).toNat, e1) else (m1 * 2 ^ (e1 - e2).toNat + m2, e2)

/-- Bits of an infinity of an IEEE format. -/
def infBits (f : Fmt) (neg : Bool) : Nat := (2 ^ f.ebits - 1) * 2 ^ (f.prec - 1) + b2n neg * 2 ^ f.signBit

/-- Bits of the canonical NaN (R73). -/
def nanBits (f : Fmt) : Nat := (2 ^ f.ebits - 1) * 2 ^ (f.prec - 1) + 2 ^ (f.prec - 2)

/-- Round the finite value (-1)^neg x m x 2^e into an IEEE format by R78, overflow judged after rounding by R73: a
rounded magnitude beyond F is an infinity, except under toward zero, which gives F. -/
def roundFin (f : Fmt) (rnd : Rnd) (neg : Bool) (m : Nat) (e : Int) : Nat :=
  let code := roundMag f rnd m e
  let code' := if f.maxCode < code then (if rnd = .zero then f.maxCode else infBits f false) else code
  code' + b2n neg * 2 ^ f.signBit

/-- A number with the sign of its zero: what an IEEE operation works on. -/
structure XNum where
  neg : Bool
  num : Num
  deriving DecidableEq, Repr

/-- The value of a finite exact number. -/
def XNum.ofInt (m e : Int) : XNum := { neg := decide (m < 0), num := .fin m e }

/-- The canonical form of an exact number's sign. -/
def XNum.ofNum : Num → XNum
  | .fin m e => XNum.ofInt m e
  | .inf n => { neg := n, num := .inf n }
  | .nan => { neg := false, num := .nan }

/-- Decode the bits of an IEEE format; subnormals are kept (R46). -/
def decodeF (f : Fmt) (b : Nat) : XNum :=
  let neg := b.testBit f.signBit
  let mag := b % 2 ^ f.signBit
  if infBits f false < mag then { neg := false, num := .nan }
  else if mag = infBits f false then { neg := neg, num := .inf neg }
  else
    let v := magValue f mag
    { neg := neg, num := .fin (if neg then -(v.1 : Int) else v.1) v.2 }

/-- Round a number into an IEEE format under a mode; every NaN is canonical (R73). -/
def roundF (f : Fmt) (rnd : Rnd) (x : XNum) : Nat :=
  match x.num with
  | .nan => nanBits f
  | .inf n => infBits f n
  | .fin m e => if m = 0 then b2n x.neg * 2 ^ f.signBit else roundFin f rnd (decide (m < 0)) m.natAbs e

/-- A number is NaN. -/
def XNum.isNan (x : XNum) : Bool := match x.num with | .nan => true | .inf _ => false | .fin _ _ => false

/-- A number is infinite. -/
def XNum.isInf (x : XNum) : Bool := match x.num with | .inf _ => true | .nan => false | .fin _ _ => false

/-- A number is finite. -/
def XNum.isFin (x : XNum) : Bool := match x.num with | .fin _ _ => true | .inf _ => false | .nan => false

/-- The exact product (R140); the sign of a zero product is that of the factors' signs. -/
def XNum.mul (a b : XNum) : XNum :=
  let n := a.neg != b.neg
  match a.num, b.num with
  | .nan, _ => { neg := false, num := .nan }
  | _, .nan => { neg := false, num := .nan }
  | .inf _, .inf _ => { neg := n, num := .inf n }
  | .inf _, .fin m _ => if m = 0 then { neg := false, num := .nan } else { neg := n, num := .inf n }
  | .fin m _, .inf _ => if m = 0 then { neg := false, num := .nan } else { neg := n, num := .inf n }
  | .fin m1 e1, .fin m2 e2 => { neg := n, num := .fin (m1 * m2) (e1 + e2) }

/-- The exact sum; an exact zero of nonzero terms is +0, and of two zeros -0 only when both are -0 (R231, R350). -/
def XNum.add (a b : XNum) : XNum :=
  match a.num, b.num with
  | .nan, _ => { neg := false, num := .nan }
  | _, .nan => { neg := false, num := .nan }
  | .inf x, .inf y => if x = y then { neg := x, num := .inf x } else { neg := false, num := .nan }
  | .inf x, .fin _ _ => { neg := x, num := .inf x }
  | .fin _ _, .inf y => { neg := y, num := .inf y }
  | .fin m1 e1, .fin m2 e2 =>
    let s := dyAdd m1 e1 m2 e2
    { neg := if s.1 = 0 then a.neg && b.neg && decide (m1 = 0) && decide (m2 = 0) else decide (s.1 < 0)
      num := .fin s.1 s.2 }

/-- The negated number. -/
def XNum.negate (a : XNum) : XNum :=
  match a.num with
  | .nan => a
  | .inf x => { neg := !x, num := .inf (!x) }
  | .fin m e => { neg := !a.neg, num := .fin (-m) e }

/-- The number times 2^k, exactly. -/
def XNum.scale (a : XNum) (k : Int) : XNum :=
  match a.num with
  | .fin m e => { a with num := .fin m (e + k) }
  | .inf _ => a
  | .nan => a

/-- Ordered less-than of IEEE 754: false with a NaN, zeros equal. -/
def XNum.lt (a b : XNum) : Bool :=
  match a.num, b.num with
  | .nan, _ => false
  | _, .nan => false
  | .inf x, .inf y => x && !y
  | .inf x, .fin _ _ => x
  | .fin _ _, .inf y => !y
  | .fin m1 e1, .fin m2 e2 => !dyLe m2 e2 m1 e1

/-- IEEE 754 equality: false with a NaN, zeros equal. -/
def XNum.eq (a b : XNum) : Bool := !a.isNan && !b.isNan && !a.lt b && !b.lt a

/-- Fused multiply-add a x b + c in a format, one rounding to nearest (R231). -/
def fFma (f : Fmt) (a b c : Nat) : Nat :=
  roundF f .nearest (((decodeF f a).mul (decodeF f b)).add (decodeF f c))

/-- Addition in a format (R231). -/
def fAdd (f : Fmt) (a b : Nat) : Nat := roundF f .nearest ((decodeF f a).add (decodeF f b))

/-- The bits of the negated operand; a NaN stays a NaN. -/
def fNeg (f : Fmt) (a : Nat) : Nat := a ^^^ 2 ^ f.signBit

/-- Subtraction in a format (R231). -/
def fSub (f : Fmt) (a b : Nat) : Nat := fAdd f a (fNeg f b)

/-- Multiplication in a format (R231). -/
def fMul (f : Fmt) (a b : Nat) : Nat := roundF f .nearest ((decodeF f a).mul (decodeF f b))

/-- a is ordered below b, with -0 below +0 (R231 minimum and maximum). -/
def fBelow (f : Fmt) (a b : Nat) : Bool :=
  let x := decodeF f a
  let y := decodeF f b
  x.lt y || (x.eq y && x.neg && !y.neg)

/-- Minimum (R231): NaN when either operand is NaN. -/
def fMin (f : Fmt) (a b : Nat) : Nat :=
  if (decodeF f a).isNan || (decodeF f b).isNan then nanBits f else if fBelow f b a then b else a

/-- Maximum (R231): NaN when either operand is NaN. -/
def fMax (f : Fmt) (a b : Nat) : Nat :=
  if (decodeF f a).isNan || (decodeF f b).isNan then nanBits f else if fBelow f a b then b else a

/-- An integer rounded into a format under a mode. -/
def fOfInt (f : Fmt) (rnd : Rnd) (i : Int) : Nat := roundF f rnd (XNum.ofInt i 0)

/-- A number rounded to an integer, toward zero or to nearest with ties to even. -/
def dyToInt (near : Bool) (m e : Int) : Int :=
  if 0 ≤ e then m * 2 ^ e.toNat else
  let sh := (-e).toNat
  let q := m.natAbs >>> sh
  let r := m.natAbs % 2 ^ sh
  let q' := if near && (decide (2 ^ sh < 2 * r) || (decide (2 * r = 2 ^ sh) && decide (q % 2 = 1))) then q + 1 else q
  if m < 0 then -(q' : Int) else q'

/-- An FP32 value as an integer in a range, saturating; NaN gives 0 (R284, R286). -/
def fToInt (lo hi : Int) (near : Bool) (b : Nat) : Int :=
  match (decodeF .fp32 b).num with
  | .nan => 0
  | .inf n => if n then lo else hi
  | .fin m e => max lo (min hi (dyToInt near m e))

/-- The 24 random bits of an element (R79). -/
def rbits (seed idx : Nat) : Nat :=
  let m := 2 ^ 64
  let z0 := seed ^^^ (idx * 0x9E3779B97F4A7C15 % m)
  let z1 := (z0 ^^^ z0 >>> 30) * 0xBF58476D1CE4E5B9 % m
  let z2 := (z1 ^^^ z1 >>> 27) * 0x94D049BB133111EB % m
  let z3 := z2 ^^^ z2 >>> 31
  z3 >>> 40

/-- A rounding mode from its 2-bit code, with the random bits of an element (R74). -/
def Rnd.ofCode (code seed idx : Nat) : Rnd :=
  match code with
  | 1 => .stochastic (rbits (seed % 2 ^ 64) (idx % 2 ^ 64))
  | 2 => .zero
  | _ => .nearest

end Sys2Proof.Machine
end

