-- ==== Sys2Proof/Machine/Ops.lean ====
section
/-! DEFINITION. The named operations that the meanings share: reading and changing one unit of the part, the numbering
of clusters and cores (R15-R21, R680), counters (R743), posted writes, trace, reports and interrupt requests. -/

namespace Sys2Proof.Machine

/-- What a meaning does to the part. -/
abbrev Out := Host.Outcome Gk1 Fault Refusal

/-- What a command answers. -/
abbrev Answer := Host.Outcome State Fault Refusal

/-- Act on the part; the commands that wait stay as they are. -/
def State.act (s : State) (f : Gk1 → Out) : Answer := match f s.toGk1 with
  | .next p => .next { s with toGk1 := p }
  | .fault e => .fault e
  | .refused r => .refused r

/-! ## Units -/

/-- A core by logical core id. -/
def Gk1.core (s : Gk1) (c : Nat) : Core := NMap.getD s.cores c {}

/-- Replace a core. -/
def Gk1.setCore (s : Gk1) (c : Nat) (C : Core) : Gk1 := { s with cores := NMap.set s.cores c C }

/-- Change a core. -/
def Gk1.modCore (s : Gk1) (c : Nat) (f : Core → Core) : Gk1 := s.setCore c (f (s.core c))

/-- A group by resident slot. -/
def Core.group (C : Core) (g : Nat) : Group := NMap.getD C.groups g {}

/-- Replace a group. -/
def Core.setGroup (C : Core) (g : Nat) (G : Group) : Core := { C with groups := NMap.set C.groups g G }

/-- A group of a core. -/
def Gk1.group (s : Gk1) (c g : Nat) : Group := (s.core c).group g

/-- Replace a group of a core. -/
def Gk1.setGroup (s : Gk1) (c g : Nat) (G : Group) : Gk1 := s.setCore c ((s.core c).setGroup g G)

/-- Change a group of a core. -/
def Gk1.modGroup (s : Gk1) (c g : Nat) (f : Group → Group) : Gk1 := s.setGroup c g (f (s.group c g))

/-- A barrier object. -/
def Core.bar (C : Core) (b : Nat) : Bar := NMap.getD C.bars b {}

/-- A cluster by logical number. -/
def Gk1.cluster (s : Gk1) (n : Nat) : Cluster := NMap.getD s.clusters n {}

/-- Change a cluster. -/
def Gk1.modCluster (s : Gk1) (n : Nat) (f : Cluster → Cluster) : Gk1 :=
  { s with clusters := NMap.set s.clusters n (f (s.cluster n)) }

/-- A region by number. -/
def Gk1.region (s : Gk1) (r : Nat) : Region := NMap.getD s.regions r {}

/-- Change a region. -/
def Gk1.modRegion (s : Gk1) (r : Nat) (f : Region → Region) : Gk1 :=
  { s with regions := NMap.set s.regions r (f (s.region r)) }

/-- A queue by number. -/
def Gk1.queue (s : Gk1) (q : Nat) : Queue := NMap.getD s.queues q {}

/-- Change a queue. -/
def Gk1.modQueue (s : Gk1) (q : Nat) (f : Queue → Queue) : Gk1 :=
  { s with queues := NMap.set s.queues q (f (s.queue q)) }

/-- A context by number. -/
def Gk1.ctx (s : Gk1) (c : Nat) : Ctx := NMap.getD s.ctxs c {}

/-- Change a context. -/
def Gk1.modCtx (s : Gk1) (c : Nat) (f : Ctx → Ctx) : Gk1 :=
  { s with ctxs := NMap.set s.ctxs c (f (s.ctx c)) }

/-- Change a kernel that runs. -/
def Gk1.modKernel (s : Gk1) (k : Nat) (f : Kernel → Kernel) : Gk1 := { s with kernels := NMap.upd s.kernels k f }

/-- A port by number. -/
def Gk1.port (s : Gk1) (p : Nat) : Port := NMap.getD s.ports p {}

/-- Change a port. -/
def Gk1.modPort (s : Gk1) (p : Nat) (f : Port → Port) : Gk1 := { s with ports := NMap.set s.ports p (f (s.port p)) }

/-! ## Numbers of units (R14-R21) -/

/-- Logical cores of the part. -/
def coreCount : Nat := 1024000

/-- Logical clusters of the part. -/
def clusterCount : Nat := 256000

/-- The cluster of a logical core id (R20). -/
def clusterOf (core : Nat) : Nat := core / 4

/-- The region of a logical cluster number (R19). -/
def regionOf (cluster : Nat) : Nat := cluster / 4000

/-- The rank of a logical index (R680): its substitution entry, or past the skipped ranks at or below it. -/
def Region.rank (r : Region) (i : Nat) : Nat :=
  match r.subs.find? (fun e => e.index = i) with
  | some e => e.rank
  | none => r.skips.foldl (fun k s => if s ≤ k then k + 1 else k) i

/-- The rank of a logical cluster. -/
def Gk1.rankOf (s : Gk1) (cluster : Nat) : Nat := (s.region (regionOf cluster)).rank (cluster % 4000)

/-- VCORE and VSRAM of a logical cluster, which are switched together: on in an owned region that is in service, unless the
cluster is lost (R42, R44, R702, R714). -/
def Gk1.coreRails (s : Gk1) (cluster : Nat) : Bool :=
  let R := s.region (regionOf cluster)
  R.owner.isSome && R.service = 0 && !(s.cluster cluster).lost

/-- The wafer position of a rank of a region (R16, R17). -/
def waferOf (region rank : Nat) : Nat × Nat := (region % 8 * 64 + rank % 64, region / 8 * 64 + rank / 64)

/-- The router of a logical cluster, as the points table of its region translates its index: in a network interface of that region,
or in the edge interface at which a packet enters it (R16, R32, R33, R680). All 4,100 copies of the table always agree (R678). -/
def Gk1.routerOf (s : Gk1) (cluster : Nat) : Nat × Nat := waferOf (regionOf cluster) (s.rankOf cluster)

/-- PLACE of a report for a logical cluster: wafer x in [8:0] and y in [17:9] (R722). -/
def Gk1.placeOf (s : Gk1) (cluster : Nat) : Nat := (s.routerOf cluster).1 + (s.routerOf cluster).2 * 512

/-- A number for the physical core of a logical core id (R743: counters stay with the physical core). -/
def Gk1.physCore (s : Gk1) (core : Nat) : Nat :=
  (regionOf (clusterOf core) * 4096 + s.rankOf (clusterOf core)) * 4 + core % 4

/-! ## Registers and counters -/

/-- The stored bits of a BAR0 register, by offset and Reset value. -/
def Gk1.reg (s : Gk1) (off reset : Nat) : Nat := (NMap.getD s.regs off (BitVec.ofNat 64 reset)).toNat

/-- Store bits of a BAR0 register. -/
def Gk1.setReg (s : Gk1) (off reset v : Nat) : Gk1 :=
  { s with regs := NMap.put s.regs off (BitVec.ofNat 64 v) (BitVec.ofNat 64 reset) }

/-- Set bits of a W1C register. -/
def Gk1.setErr (s : Gk1) (off bit : Nat) : Gk1 := s.setReg off 0 (s.reg off 0 ||| 2 ^ bit)

/-- Add to a 64-bit counter; it wraps (R742). -/
def bump (m : NMap (BitVec 64)) (k n : Nat) : NMap (BitVec 64) := NMap.put m k (NMap.getD m k 0 + BitVec.ofNat 64 n) 0

/-- Add to a context counter (R743). -/
def Gk1.countCtx (s : Gk1) (c i n : Nat) : Gk1 :=
  if n = 0 then s else s.modCtx c fun x => { x with counters := bump x.counters i n }

/-- The kernel that runs on a core. -/
def Gk1.kernelOf (s : Gk1) (core : Nat) : Option Kernel := (s.core core).kid.bind fun k => NMap.get? s.kernels k

/-- The context of the kernel that runs on a core. -/
def Gk1.ctxOf (s : Gk1) (core : Nat) : Nat := ((s.kernelOf core).map Kernel.ctx).getD 0

/-- Add to a core counter and, for counters 0-4, to its context's sum (R743). -/
def Gk1.countCore (s : Gk1) (core i n : Nat) : Gk1 :=
  if n = 0 then s else
  let s := { s with obs := { s.obs with coreCnt := bump s.obs.coreCnt (s.physCore core * 8 + i) n } }
  if i < 5 then (match s.kernelOf core with | some k => s.countCtx k.ctx (2 + i) n | none => s) else s

/-- Add to a region counter (R743). -/
def Gk1.countRgn (s : Gk1) (r i n : Nat) : Gk1 :=
  { s with obs := { s.obs with rgnCnt := bump s.obs.rgnCnt (r * 4 + i) n } }

/-- Add to FAB_DROP: 0 INSTALL, 1 HOPS, 2 REFUSED, 3 UNREACH; a counter stops at 0xFFFF. -/
def Gk1.countDrop (s : Gk1) (i : Nat) : Gk1 :=
  { s with drops := NMap.put s.drops i (min (NMap.getD s.drops i 0 + 1) 0xFFFF) 0 }

/-! ## The host link -/

/-- Posted writes go out: the link is up, and the function is not in D3hot (R37, R419). -/
def Gk1.linkOpen (s : Gk1) : Bool := s.edge.linkUp && !s.edge.d3hot

/-- Send a posted write to host memory, or hold it in its order while the link is closed (R37, R416, R419). -/
def Gk1.post (s : Gk1) (addr : Nat) (bytes : List Byte) : Gk1 :=
  if s.linkOpen && s.postHeld.isEmpty then { s with posted := s.posted ++ [(addr, bytes)] }
  else { s with postHeld := s.postHeld ++ [(addr, bytes)] }

/-- Send the posted writes that waited. -/
def Gk1.flush (s : Gk1) : Gk1 :=
  if s.linkOpen then { s with posted := s.posted ++ s.postHeld, postHeld := [] } else s

/-- Request a vector's message with a holdoff in microseconds (R454): it may be sent once that much time has passed
since the vector's last message. -/
def Gk1.irq (s : Gk1) (vector holdoff : Nat) : Gk1 :=
  let due := match NMap.get? s.edge.msixLast vector with
    | some t => max s.dtime (t + holdoff * 1000)
    | none => s.dtime
  { s with edge := { s.edge with msixWait := s.edge.msixWait ++ [(vector, due)] } }

/-! ## Trace and reports -/

/-- OBS_TRACE_CTL as it stands. -/
def Gk1.traceCtl (s : Gk1) : Nat := s.reg 0x700008 (12 * 8)

/-- Emit a trace record of a kind (R745, R747); 0xFF and 0xFFFF name no context and no queue. -/
def Gk1.trace (s : Gk1) (kind ctx queue unit : Nat) (data : List Byte) : Gk1 :=
  let ctl := s.traceCtl
  if ctl.testBit 0 && ctl.testBit (7 + kind) && (ctx = 0xFF || (s.reg 0x700010 (2 ^ 64 - 1)).testBit ctx) then
    let rec_ := leBytes 8 s.dtime ++ leBytes 4 s.obs.traceSeq ++ leBytes 1 kind ++ leBytes 1 ctx ++ leBytes 2 queue
      ++ leBytes 4 unit ++ data ++ List.replicate (12 - data.length) 0
    let idx := s.obs.traceSeq % 2 ^ fld ctl 3 5
    let s := if ctl.testBit 1 then s.post (s.reg 0x700000 0 + idx * 32) rec_ else s
    { s with obs := { s.obs with
        traceSeq := (s.obs.traceSeq + 1) % 2 ^ 32
        portOut := if ctl.testBit 2 then s.obs.portOut ++ [rec_] else s.obs.portOut } }
  else s

/-- A report before it is written (R722). -/
structure Report where
  kind : Nat
  status : Nat := 0
  ctx : Nat := 0xFF
  queue : Nat := 0xFFFF
  unit : Nat := 0
  place : Nat := 0
  siding : Nat := 0xFFFF
  detail : Nat := 0
  deriving DecidableEq, Repr

/-- The 64 bytes of a report entry (R455, R722). -/
def Report.bytes (r : Report) (seq time : Nat) : List Byte :=
  leBytes 4 seq ++ leBytes 2 r.status ++ leBytes 1 r.kind ++ leBytes 1 0 ++ leBytes 8 time ++ leBytes 1 r.ctx
    ++ leBytes 1 0 ++ leBytes 2 r.queue ++ leBytes 4 r.unit ++ leBytes 4 r.place ++ leBytes 2 r.siding ++ leBytes 2 0
    ++ leBytes 8 r.detail ++ leBytes 24 0

/-- Write a report entry (R455): bytes 4-63 and then bytes 0-3, at slot (SEQ - 1) of the ring; the number is used also
while the ring is off (log 10). It asks for vector 0 with RHOLD (R453, R454) and is traced (R745). -/
def Gk1.report (s : Gk1) (r : Report) : Gk1 :=
  let seq := s.edge.reportSeq
  let ctl := s.reg 0x30 (8 * 2)
  let bs := r.bytes seq s.dtime
  let s := { s with edge := { s.edge with reportSeq := (seq + 1) % 2 ^ 32 } }
  let s := s.trace 6 r.ctx r.queue r.unit (leBytes 1 r.kind ++ leBytes 1 r.status)
  if ctl.testBit 0 then
    let base := fld ctl 12 52 * 4096 + (seq + 2 ^ 32 - 1) % 2 ^ 32 % 2 ^ fld ctl 1 4 * 64
    let s := (s.post (base + 4) (bs.drop 4)).post base (bs.take 4)
    let s := { s with obs := { s.obs with repKind := bump s.obs.repKind r.kind 1 } }
    s.irq 0 (fld (s.reg 0x20 (4 + 8 * 256)) 8 8)
  else s

/-! ## Free values -/

/-- Draw a random value of the security engine (R738). -/
def Gk1.draw (s : Gk1) : BitVec 64 × Gk1 := (Config.random s.free, { s with free := s.free + 1 })

/-- Draw a bit that the manual leaves open. -/
def Gk1.openBit (s : Gk1) : Bool × Gk1 := (Config.freeBit s.free, { s with free := s.free + 1 })

/-- Draw n bytes that the manual leaves open. -/
def Gk1.openBytes (s : Gk1) (n : Nat) : List Byte × Gk1 :=
  ((List.range n).map fun i => Config.freeByte (s.free + i), { s with free := s.free + n })

/-! ## Refusals of a command by its unit -/

/-- The command names a unit of the part. -/
def coreOk (core : Nat) : Bool := decide (core < coreCount)

/-- Answer a next state when the unit exists. -/
def guardUnit (ok : Bool) (s : Gk1) : Out := if ok then .next s else .fault .noSuchUnit

end Sys2Proof.Machine
end

