-- ==== Sys2Proof/Machine/Operands.lean ====
section
/-! DEFINITION. The fields of the instruction words (R271-R283, R773) and the reading of operands (R228-R230, R274). -/

namespace Sys2Proof.Machine

/-! ## Fields -/

/-- MAJ (R273). -/
def wMaj (w : Nat) : Nat := fld w 0 6
/-- GUARD (R273). -/
def wGuard (w : Nat) : Nat := fld w 7 3
/-- OP of the three 64-bit forms. -/
def wOp (w : Nat) : Nat := fld w 11 5
/-- VD of the V form, SD of the S form. -/
def wD (w : Nat) : Nat := fld w 16 5
/-- VA of the V form, SA of the S form. -/
def wA (w : Nat) : Nat := fld w 21 5
/-- VB of the V form, SB of the S form. -/
def wB (w : Nat) : Nat := fld w 26 5
/-- VC. -/
def wC (w : Nat) : Nat := fld w 31 5
/-- BSEL. -/
def wBsel (w : Nat) : Nat := fld w 36 2
/-- TYPE. -/
def wType (w : Nat) : Nat := fld w 38 3
/-- RND. -/
def wRnd (w : Nat) : Nat := fld w 41 2
/-- SX of the V form. -/
def wSx (w : Nat) : Nat := fld w 43 5
/-- IMM16. -/
def wImm (w : Nat) : Nat := fld w 48 16
/-- IMMB of the S form. -/
def wImmB (w : Nat) : Bool := w.testBit 31
/-- IMM32 of the S form. -/
def wImm32 (w : Nat) : Nat := fld w 32 32
/-- SC of the S form. -/
def wSc (w : Nat) : Nat := fld w 32 5
/-- PX of the C form. -/
def wPx (w : Nat) : Nat := fld w 16 3
/-- SX of the C form. -/
def wCsx (w : Nat) : Nat := fld w 20 5
/-- TGT of the C form. -/
def wTgt (w : Nat) : Nat := fld w 32 10

/-- Every bit of a value lies in a mask. -/
def within (v mask : Nat) : Bool := v ||| mask = mask

/-- What an op of the V form uses of its fields (R773). -/
structure VUse where
  /-- bits of VD -/
  vd : Nat := 31
  /-- bits of VA; R773 reserves it only for mov -/
  va : Nat := 31
  /-- BSEL codes of a second source; empty when the op has none -/
  bs : List Nat := []
  /-- bits of VB -/
  vb : Nat := 31
  /-- bits of VC -/
  vc : Nat := 0
  /-- TYPE codes accepted -/
  types : List Nat := [0]
  /-- RND codes accepted -/
  rnd : List Nat := [0]
  /-- SX is used -/
  sx : Bool := false
  /-- bits of IMM16 used whatever BSEL is -/
  imm : Nat := 0
  deriving DecidableEq, Repr

/-- The fields that an op of the V form does not use are zero, and its codes are accepted; an immediate second source leaves VB
without a use (R279-R281, R773). -/
def vOk (u : VUse) (w : Nat) : Bool :=
  within (wD w) u.vd && within (wA w) u.va && within (wC w) u.vc && u.types.contains (wType w) && u.rnd.contains (wRnd w)
    && (u.sx || wSx w = 0)
    && (if u.bs.isEmpty then wB w = 0 && wBsel w = 0 && within (wImm w) u.imm
        else within (wB w) (if wBsel w = 2 then 0 else u.vb) && u.bs.contains (wBsel w)
          && within (wImm w) (if wBsel w = 2 && u.imm = 0 then 0xFFFF else u.imm))

/-- What an op of the S form uses (R282, R773). -/
structure SUse where
  sa : Bool := true
  b : Bool := true
  sc : Bool := false
  deriving DecidableEq, Repr

/-- The fields that an op of the S form does not use are zero. -/
def sOk (u : SUse) (w : Nat) : Bool :=
  (u.sa || wA w = 0)
    && (if wImmB w then u.b && !u.sc && wB w = 0
        else (u.b || wB w = 0) && (if u.sc then fld w 37 27 = 0 else fld w 32 32 = 0))

/-- The fields that an op of the C form does not use are zero, and its guard is p0 (R276, R283). -/
def cOk (px sx tgt mask : Bool) (w : Nat) : Bool :=
  fld w 7 4 = 0 && (px || wPx w = 0) && !w.testBit 19 && (sx || wCsx w = 0) && fld w 25 7 = 0
    && (tgt || wTgt w = 0 || (mask && wTgt w < 8)) && fld w 42 22 = 0

/-! ## Registers -/

/-- s register n. -/
def Group.s (G : Group) (n : Nat) : BitVec 32 := NMap.getD G.sregs n 0

/-- s register n as a number. -/
def Group.sn (G : Group) (n : Nat) : Nat := (G.s n).toNat

/-- The 64-bit value of the s pair at an even base (R229). -/
def Group.pair (G : Group) (n : Nat) : Nat := G.sn n + G.sn (n + 1) * 2 ^ 32

/-- Write an s register. -/
def Group.setS (G : Group) (n : Nat) (v : BitVec 32) : Group := { G with sregs := NMap.put G.sregs n v 0 }

/-- Write an s pair (R229). -/
def Group.setPair (G : Group) (n v : Nat) : Group :=
  (G.setS n (BitVec.ofNat 32 v)).setS (n + 1) (BitVec.ofNat 32 (v / 2 ^ 32))

/-- v register n of a lane. -/
def Group.v (G : Group) (n l : Nat) : BitVec 32 := NMap.getD G.vregs (16 * n + l) 0

/-- v register n of a lane as a number. -/
def Group.vn (G : Group) (n l : Nat) : Nat := (G.v n l).toNat

/-- Write v register n of a lane. -/
def Group.setLane (G : Group) (n l : Nat) (v : BitVec 32) : Group := { G with vregs := NMap.put G.vregs (16 * n + l) v 0 }

/-- Predicate n; p0 is true in every lane (R233). -/
def Group.p (G : Group) (n : Nat) : BitVec 16 := if n = 0 then 0xFFFF else NMap.getD G.preds n 0

/-- Write a predicate; a write to p0 is ignored (R233). -/
def Group.setP (G : Group) (n : Nat) (v : BitVec 16) : Group :=
  if n = 0 then G else { G with preds := NMap.put G.preds n v 0 }

/-- The 16 lanes. -/
def lanes : List Nat := List.range 16

/-- Write v register n in the lanes of a mask. -/
def Group.setV (G : Group) (n : Nat) (on : Nat → Bool) (f : Nat → Nat) : Group :=
  lanes.foldl (fun G l => if on l then G.setLane n l (BitVec.ofNat 32 (f l)) else G) G

/-- The guard of an instruction word in a lane (R274). -/
def Group.guard (G : Group) (w l : Nat) : Bool := (G.p (wGuard w)).getLsbD l != w.testBit 10

/-- The lane is active and its guard is true (R234). -/
def Group.on (G : Group) (w l : Nat) : Bool := G.active.getLsbD l && G.guard w l

/-- The issuing lane: the lowest active one (R246). -/
def Group.lane (G : Group) : Nat := ((bitsOf 16 G.active.toNat).head?).getD 0

/-- There is an issuing lane and the guard holds in it (R245, R246, R275). -/
def Group.issues (G : Group) (w : Nat) : Bool := decide (G.active ≠ 0) && G.guard w G.lane

/-- An immediate as the type reads it (R230): upper half of FP32, one element twice, or sign-extended. -/
def immOf (ty imm : Nat) : Nat :=
  match ty with
  | 0 => imm * 2 ^ 16
  | 4 | 5 => imm + imm * 2 ^ 16
  | _ => twos 32 (sgn 16 imm)

/-- The second source of a V-form word in a lane (R230, R279). -/
def Group.vb (G : Group) (w ty l : Nat) : Nat :=
  match wBsel w with
  | 1 => G.sn (wB w)
  | 2 => immOf ty (wImm w)
  | _ => G.vn (wB w) l

/-- The second source of an S-form word (R282). -/
def Group.sb (G : Group) (w : Nat) : Nat := if wImmB w then wImm32 w else G.sn (wB w)

/-- s registers that a V-form word reads or writes, given whether VD, VA, SX and VC name s registers. -/
def vRegs (w : Nat) (d a x c : Bool) : List Nat :=
  (if d then [wD w, wD w + 1] else []) ++ (if a then [wA w] else []) ++ (if wBsel w = 1 then [wB w] else [])
    ++ (if x then [wSx w, wSx w + 1] else []) ++ (if c then [wC w] else [])

/-- The group status word (R244). -/
def Group.gsw (G : Group) : Nat :=
  b2n G.diverged + 2 * b2n G.invalid + 4 * b2n G.ovfl + 8 * b2n (decide (G.status = .halted))
    + G.fault.toNat * 2 ^ 8 + G.stack.length * 2 ^ 16 + G.active.toNat * 2 ^ 32 + G.live.toNat * 2 ^ 48

end Sys2Proof.Machine
end

