-- ==== Sys2Proof/Machine/Flags.lean ====
section
/-! DEFINITION. The sticky flags of the group status word that arithmetic sets (R244). -/

namespace Sys2Proof.Machine

/-- INVALID and OVFL of one result (R244): a NaN from operands that were not NaN, an infinity from finite operands. -/
structure Flg where
  invalid : Bool := false
  ovfl : Bool := false
  deriving DecidableEq, Repr

/-- Both sets of flags. -/
def Flg.or (a b : Flg) : Flg := { invalid := a.invalid || b.invalid, ovfl := a.ovfl || b.ovfl }

/-- The flags of a floating-point result in a format from its operands. -/
def flagsOf (f : Fmt) (ops : List Nat) (res : Nat) : Flg :=
  let r := decodeF f res
  { invalid := r.isNan && !(ops.any fun x => (decodeF f x).isNan)
    ovfl := r.isInf && ops.all fun x => (decodeF f x).isFin }

/-- Set the sticky bits. -/
def Group.flag (G : Group) (f : Flg) : Group := { G with invalid := G.invalid || f.invalid, ovfl := G.ovfl || f.ovfl }

/-- A lane gather sets DIVERGED when a lane is not active (R240). -/
def Group.gather (G : Group) : Group := { G with diverged := G.diverged || decide (G.active ≠ 0xFFFF) }

end Sys2Proof.Machine
end

