-- ==== Sys2Proof/Machine/Issue.lean ====
section
/-! DEFINITION. How a group issues an instruction: the fetch from the instruction store (R271, R272), decoding by MAJ,
LONG and OP (R277), the refusal of a bad word (R266, R773), the group fault (R267) and the end of a group (R238). -/

namespace Sys2Proof.Machine

/-- What an issued instruction does. -/
inductive Iss where
  /-- it took effect and the program counter goes on -/
  | ok (s : Gk1)
  /-- it took effect and set the program counter itself -/
  | jump (s : Gk1)
  /-- it is refused: the group takes the fault (R267) -/
  | fault (code : Nat)
  /-- the group's issue stalls (R248) -/
  | stall (st : Stall)
  /-- it cannot issue yet (R224, R327, R328) -/
  | hold

/-- A fetched instruction with the group that issues it. -/
structure GI where
  s : Gk1
  core : Nat
  grp : Nat
  /-- first word, and the second of a 128-bit instruction -/
  w : Nat
  w1 : Nat := 0

/-- The core of the instruction. -/
def GI.C (i : GI) : Core := i.s.core i.core

/-- The group of the instruction. -/
def GI.G (i : GI) : Group := i.s.group i.core i.grp

/-- Answer the state with the group replaced. -/
def GI.done (i : GI) (G : Group) : Iss := .ok (i.s.setGroup i.core i.grp G)

/-- The word at an index of the instruction store (R271). -/
def Core.word (C : Core) (pc : Nat) : Nat := (NMap.getD C.istore pc 0).toNat

/-- The ops that a major opcode names (R277, R284, R289, R307-R314). -/
def namedOp (w : Nat) : Bool :=
  let op := wOp w
  let op3 := fld w 11 3
  match wMaj w with
  | 0x00 => decide (op ≤ 14)
  | 0x01 => decide (op ≤ 23)
  | 0x02 => decide (op ≤ 10)
  | 0x08 => decide (op ≤ 8)
  | 0x09 => decide (op ≤ 14)
  | 0x0A => decide (op ≤ 5) || (decide (8 ≤ op) && decide (op ≤ 12))
  | 0x0B => decide (op ≤ 6) || (decide (8 ≤ op) && decide (op ≤ 10))
  | 0x0C => decide (op ≤ 4)
  | 0x0D => decide (op ≤ 7)
  | 0x0E => decide (op ≤ 3)
  | 0x0F => decide (op ≤ 12)
  | 0x10 => decide (op ≤ 9)
  | 0x11 => decide (op ≤ 1)
  | 0x20 => true
  | 0x21 => true
  | 0x22 => true
  | 0x23 => decide (op3 ≤ 2)
  | 0x24 => true
  | 0x28 => decide (op3 ≤ 5)
  | 0x29 => decide (fld w 13 2 ≠ 3)
  | 0x2A => decide (op3 ≤ 1)
  | 0x2B => decide (op3 ≤ 1)
  | 0x2C => decide (op3 ≤ 1)
  | 0x2D => decide (op ≤ 12)
  | _ => false

/-- A MAJ of the 128-bit size (R277). -/
def isLong (maj : Nat) : Bool := maj = 0x20 || maj = 0x21 || maj = 0x23 || maj = 0x2B

/-- The word at the program counter is executable as an instruction: the map names MAJ, LONG agrees, the minor table
names OP, and a 128-bit instruction starts at an even index with CONT behind it (R272, R277). -/
def Core.wellPlaced (C : Core) (pc : Nat) : Bool :=
  let w := C.word pc
  decide (pc < 1024) && namedOp w && w.testBit 6 == isLong (wMaj w)
    && (!isLong (wMaj w) || (decide (pc % 2 = 0) && decide (fld (C.word (pc + 1)) 0 7 = 0x7F)))

/-- A group may issue: it runs, its issue is not stalled, and its cluster has power (R224, R248, R702). -/
def Gk1.ready (s : Gk1) (core grp : Nat) : Bool :=
  let G := s.group core grp
  decide (G.status = .running) && decide (G.stall = .none) && !(s.cluster (clusterOf core)).lost

/-- Group faults that a kernel keeps for its record, one a slot (R269). -/
def Gk1.groupFault (s : Gk1) (core grp code : Nat) : Gk1 :=
  let G := s.group core grp
  let s := s.setGroup core grp { G with status := .halted, fault := BitVec.ofNat 8 code }
  match (s.core core).kid with
  | some k => s.modKernel k fun K => { K with
      gfaults := K.gfaults ++ [(core, grp, G.pc, BitVec.ofNat 8 code)], diverged := K.diverged || G.diverged }
  | none => s

/-- A group with no live lane ends (R238); its DIVERGED flag reaches the kernel's record (R243). -/
def Gk1.endGroup (s : Gk1) (core grp : Nat) : Gk1 :=
  let G := s.group core grp
  if G.live ≠ 0 then s else
  let s := s.setGroup core grp { G with status := .ended }
  match (s.core core).kid with
  | some k => s.modKernel k fun K => { K with diverged := K.diverged || G.diverged }
  | none => s

/-- Move the program counter past the instruction. -/
def Gk1.passPc (s : Gk1) (core grp pc : Nat) : Gk1 :=
  s.modCore core fun C =>
    { C.setGroup grp { C.group grp with pc := pc } with lastSlot := grp }

/-- Issue the instruction of a group at its program counter, when it is the row's: `maj` and `isOp` name it, `ok` is the
check of its fields, `regs` the s registers it reads or writes, `vport` the ACLK it occupies the V port (R227). An
instruction that is another row's, or that cannot issue yet, leaves the state as it is (log 11). -/
def issue (maj : Nat) (isOp : Nat → Bool) (ok : Nat → Nat → Bool) (regs : Nat → List Nat) (vport : Nat)
    (run : GI → Iss) (core grp : Nat) (s : Gk1) : Out :=
  if !(coreOk core && decide (grp < 8)) then .fault .noSuchUnit else
  if !s.ready core grp then .next s else
  let C := s.core core
  let G := C.group grp
  let w := C.word G.pc
  let w1 := if isLong maj then C.word (G.pc + 1) else 0
  if !(C.wellPlaced G.pc && wMaj w = maj && isOp w) then .next s else
  if !ok w w1 then .next (s.groupFault core grp 0x20) else
  if (regs w).any G.awaiting.contains then .next s else
  match run { s := s, core := core, grp := grp, w := w, w1 := w1 } with
  | .ok s' => .next ((s'.passPc core grp (G.pc + if isLong maj then 2 else 1)).countCore core 4 vport)
  | .jump s' => .next s'
  | .fault code => .next (s.groupFault core grp code)
  | .stall st => .next (s.modGroup core grp fun G => { G with stall := st })
  | .hold => .next s

/-- The op field of the three 64-bit forms. -/
def opIs (n : Nat) (w : Nat) : Bool := wOp w = n

/-- The 3-bit op field of the own-form majors. -/
def op3Is (n : Nat) (w : Nat) : Bool := fld w 11 3 = n

/-- A word that no row names, at the program counter of a group that may issue: INSTR_INVALID (R266, R272, R277). -/
def execUndefinedInstruction (core grp : Nat) (s : State) : Answer := s.act fun s =>
  if !(coreOk core && decide (grp < 8)) then .fault .noSuchUnit else
  if s.ready core grp && !(s.core core).wellPlaced (s.group core grp).pc then .next (s.groupFault core grp 0x20)
  else .next s

end Sys2Proof.Machine
end

