-- ==== Sys2Proof/Machine/Barrier.lean ====
section
/-! DEFINITION. Barrier objects (R356-R376) and the major bar (R309). -/

namespace Sys2Proof.Machine

/-- The object after an arrival of a count from a source (R362, R363). -/
def Bar.arrive (B : Bar) (cnt src slot : Nat) : Bar :=
  let left := B.count - B.arrived
  if cnt < left then { B with arrived := B.arrived + cnt, lsrc := src, lslot := slot }
  else { B with
    arrived := 0, waiters := 0, gen := B.gen + 1, lsrc := src, lslot := slot
    overflow := B.overflow || decide (left < cnt) }

/-- A group that waited on an object whose phase is complete goes on (R362, R367). -/
def Group.release (G : Group) (b : Nat) : Group := if G.stall = .bar b then { G with stall := .none } else G

/-- Apply an arrival on an object of a core; a completed phase releases its waiters. -/
def Core.arrive (C : Core) (b cnt src slot : Nat) : Core :=
  let B := C.bar b
  let B' := B.arrive cnt src slot
  let C := { C with bars := NMap.set C.bars b B' }
  if B'.gen = B.gen then C else { C with groups := NMap.mapVals C.groups fun _ G => G.release b }

/-- A barrier named by one of these engine arrivals would take ENGPEND above 63 (R360). -/
def Core.pendFull (C : Core) (bs : List Nat) : Bool := bs.any fun b => decide (63 < (C.bar b).engpend + bs.count b)

/-- Promise engine arrivals (R360). -/
def Core.promise (C : Core) : List Nat → Core
  | [] => C
  | b :: bs => Core.promise { C with bars := NMap.set C.bars b { C.bar b with engpend := (C.bar b).engpend + 1 } } bs

/-- The view word of an object (R356). -/
def Bar.view (B : Bar) : Nat :=
  B.count + B.arrived * 2 ^ 8 + B.waiters.toNat * 2 ^ 16 + B.gen.toNat * 2 ^ 24 + B.lsrc * 2 ^ 40 + B.lslot * 2 ^ 43
    + b2n B.overflow * 2 ^ 48 + B.engpend * 2 ^ 50

/-- The engine arrival of an accepted instruction starts on its way to the object (R361, R375). -/
def Gk1.sendArrival (s : Gk1) (core slot kid ctx bar src : Nat) : Gk1 :=
  let m : Msg := { kind := .arrival, core := core, slot := slot, kid := kid, ctx := ctx, bar := bar, src := src }
  { s with msgs := NMap.set s.msgs s.nextId m, nextId := s.nextId + 1 }

/-- A word of the major bar uses these of its fields; the others are zero (R309, R773). -/
def barOk (cnt sg sd : Bool) (w : Nat) : Bool :=
  (cnt || fld w 20 8 = 0) && (sg || fld w 28 5 = 0) && (sd || fld w 33 5 = 0) && fld w 38 26 = 0

/-- Issue a bar instruction on the object that the word names. -/
def barIns (op : Nat) (ok : Nat → Bool) (regs : Nat → List Nat) (run : GI → Nat → Iss) (core grp : Nat) (s : Gk1) : Out :=
  issue 0x28 (op3Is op) (fun w _ => ok w) regs 0 (fun i => if !i.G.issues i.w then .ok i.s else run i (fld i.w 14 6)) core grp s

/-- bar.init: COUNT becomes CNT and ARRIVED 0; refused with waiters, stalled while ENGPEND is not zero (R370-R372). -/
def doBarInit (core grp : Nat) (s : Gk1) : Out :=
  barIns 0 (fun w => barOk true false false w && fld w 20 8 ≠ 0) (fun _ => []) (fun i b =>
    let B := i.C.bar b
    if B.waiters ≠ 0 then .fault 0x2C
    else if B.engpend ≠ 0 then .stall .engpend
    else .ok (i.s.modCore i.core fun C => { C with
      bars := NMap.set C.bars b { B with
        count := fld i.w 20 8, arrived := 0, overflow := B.overflow || decide (B.arrived ≠ 0) } })) core grp s

/-- The row BAR_INIT: doBarInit on the part. -/
def execBarInit (core grp : Nat) (s : State) : Answer := s.act fun s => doBarInit core grp s

/-- bar.arrive: a group-engine arrival of CNT (R358, R359, R362). -/
def execBarArrive (core grp : Nat) (s : State) : Answer := s.act fun s =>
  barIns 1 (fun w => barOk true false false w && fld w 20 8 ≠ 0) (fun _ => []) (fun i b =>
    .ok (i.s.modCore i.core fun C => C.arrive b (fld i.w 20 8) 1 i.grp)) core grp s

/-- Stall the group on an object and set its WAITERS bit (R365). -/
def Core.await (C : Core) (b grp : Nat) : Core :=
  { C.setGroup grp { C.group grp with stall := .bar b } with
    bars := NMap.set C.bars b { C.bar b with waiters := (C.bar b).waiters ||| BitVec.ofNat 8 (2 ^ grp) } }

/-- bar.wait: completes once GEN differs from the low 16 bits of s[SG] (R365). -/
def execBarWait (core grp : Nat) (s : State) : Answer := s.act fun s =>
  barIns 2 (barOk false true false) (fun w => [fld w 28 5]) (fun i b =>
    if (i.C.bar b).gen.toNat ≠ i.G.sn (fld i.w 28 5) % 2 ^ 16 then .ok i.s
    else .ok (i.s.modCore i.core fun C => C.await b i.grp)) core grp s

/-- bar.arw: arrives, then waits for the phase that the arrival joined (R366). -/
def execBarArw (core grp : Nat) (s : State) : Answer := s.act fun s =>
  barIns 3 (fun w => barOk true false false w && fld w 20 8 ≠ 0) (fun _ => []) (fun i b =>
    let C := i.C.arrive b (fld i.w 20 8) 1 i.grp
    if (C.bar b).gen ≠ (i.C.bar b).gen then .ok (i.s.setCore i.core C)
    else .ok (i.s.setCore i.core (C.await b i.grp))) core grp s

/-- bar.gen: GEN into s[SD] (R368). -/
def execBarGen (core grp : Nat) (s : State) : Answer := s.act fun s =>
  barIns 4 (barOk false false true) (fun w => [fld w 33 5]) (fun i b =>
    i.done (i.G.setS (fld i.w 33 5) (BitVec.ofNat 32 (i.C.bar b).gen.toNat))) core grp s

/-- bar.insp: the view word into the even pair SD; not an arrival and not a wait (R356, R357). -/
def execBarInsp (core grp : Nat) (s : State) : Answer := s.act fun s =>
  barIns 5 (fun w => barOk false false true w && fld w 33 5 % 2 = 0) (fun w => [fld w 33 5, fld w 33 5 + 1]) (fun i b =>
    i.done (i.G.setPair (fld i.w 33 5) (i.C.bar b).view)) core grp s

/-- The report of a blocked arrival (R376, R722). -/
def Gk1.foreign (s : Gk1) (m : Msg) : Gk1 :=
  let s := s.countCore m.core 5 1
  s.report {
    kind := 0x0B, status := 0x63
    ctx := match s.kernelOf m.core with | some k => k.ctx | none => 0xFF
    unit := clusterOf m.core, place := s.placeOf (clusterOf m.core)
    detail := m.core + m.bar * 2 ^ 20 + m.src * 2 ^ 26 + m.ctx * 2 ^ 32 }

/-- An engine arrival takes effect: it lowers ENGPEND and counts 1, when the kernel that made it runs on the core; every
other arrival is blocked, counted and reported (R360-R362, R375, R376). -/
def execEngineArrival (id : Nat) (s : State) : Answer := s.act fun s =>
  match NMap.get? s.msgs id with
  | none => .next s
  | some m =>
    if m.kind ≠ .arrival then .next s else
    let s := { s with msgs := NMap.erase s.msgs id }
    if (s.core m.core).kid ≠ some m.kid then .next (s.foreign m) else
    .next (s.modCore m.core fun C =>
      let B := C.bar m.bar
      ({ C with bars := NMap.set C.bars m.bar { B with engpend := B.engpend - 1 } }).arrive m.bar 1 m.src m.slot)

end Sys2Proof.Machine
end

