-- ==== Sys2Proof/Machine/Func.lean ====
section
/-! DEFINITION. The faithfully rounded functions (R164, R217, R218, R220, R257-R259). Each is enclosed between two
fixed-point numbers of 256 fraction bits; the result is the FP32 value inside the enclosure, or one of the two FP32
neighbours around it, which one being left open (log 6). -/

namespace Sys2Proof.Machine

/-- Fraction bits of the fixed-point numbers of this file. -/
def fxP : Nat := 256

/-- One in fixed point. -/
def fxOne : Int := 2 ^ fxP

/-- ln 2 in fixed point. -/
def fxLn2 : Int := 0xB17217F7D1CF79ABC9E3B39803F2F6AF40F343267298B62D8A0D175B8BAAFA2B

/-- 1 / sqrt (2 pi) in fixed point. -/
def fxInvSqrt2Pi : Int := 0x662114CF50D942343F2CF1402EAE38BFD3829F30512706D8C0471B4802639D2E

/-- sqrt (2 / pi) in fixed point. -/
def fxSqrt2OverPi : Int := 0xCC42299EA1B284687E59E2805D5C717FA7053E60A24E0DB1808E369004C73A5D

/-- pi / 2 with 416 fraction bits. -/
def halfPi416 : Int :=
  0x1921FB54442D18469898CC51701B839A252049C1114CF98E804177D4C76273644A29410F31C6809BBDF2A33679A748636605614DB

/-- The product of two fixed-point numbers. -/
def fxMul (a b : Int) : Int := a * b / fxOne

/-- The quotient of two fixed-point numbers. -/
def fxDiv (a b : Int) : Int := a * fxOne / b

/-- m x 2^e in fixed point with p fraction bits, rounded down. -/
def fxOf (p : Nat) (m e : Int) : Int :=
  if 0 ≤ e + p then m * 2 ^ (e + p).toNat else m / (2 ^ (-(e + p)).toNat : Nat)

/-- Horner's sum 1 + r/1 (1 + r/2 (1 + ... r/n)). -/
def fxExpSeries (r : Int) : Nat → Nat → Int → Int
  | 0, _, acc => acc
  | fuel + 1, n, acc => fxExpSeries r fuel (n - 1) (fxOne + r * acc / fxOne / n)

/-- e^x for x clamped to -300 ... 300. -/
def fxExp (x : Int) : Int :=
  let y := max (min x (300 * fxOne)) (-300 * fxOne)
  let k := y / fxLn2
  let v := fxExpSeries (y - k * fxLn2) 64 64 fxOne
  if 0 ≤ k then v * 2 ^ k.toNat else v / (2 ^ (-k).toNat : Nat)

/-- The sum of z^(2i+1)/(2i+1). -/
def fxAtanhSeries (z2 : Int) : Nat → Nat → Int → Int → Int
  | 0, _, _, acc => acc
  | fuel + 1, n, t, acc => fxAtanhSeries z2 fuel (n + 2) (fxMul t z2) (acc + t / n)

/-- ln y for y > 0 in fixed point. -/
def fxLn (y : Int) : Int :=
  let k : Int := (Nat.log2 y.toNat : Int) - fxP
  let m := if 0 ≤ k then y / (2 ^ k.toNat : Nat) else y * 2 ^ (-k).toNat
  let z := fxDiv (m - fxOne) (m + fxOne)
  2 * fxAtanhSeries (fxMul z z) 90 1 z 0 + k * fxLn2

/-- 1 / (1 + e^-x). -/
def fxSigmoid (x : Int) : Int :=
  if 0 ≤ x then fxDiv fxOne (fxOne + fxExp (-x)) else fxDiv (fxExp x) (fxOne + fxExp x)

/-- The sum of x^(2n+1) / (1 3 5 ... (2n+1)). -/
def fxPhiSeries (x2 : Int) : Nat → Nat → Int → Int → Int
  | 0, _, _, acc => acc
  | fuel + 1, n, t, acc => fxPhiSeries x2 fuel (n + 2) (fxMul t x2 / (n + 2)) (acc + t)

/-- The normal density at x, |x| at most 15. -/
def fxDensity (x : Int) : Int := fxDiv fxInvSqrt2Pi (fxExp (fxMul x x / 2))

/-- The normal distribution function at x, |x| at most 15. -/
def fxNormal (x : Int) : Int :=
  fxOne / 2 + fxMul fxInvSqrt2Pi (fxDiv (fxPhiSeries (fxMul x x) 480 1 x 0) (fxExp (fxMul x x / 2)))

/-- sin r and cos r for |r| at most pi/4. -/
def fxSinCosSeries (r2 : Int) : Nat → Nat → Int → Int → Int
  | 0, _, _, acc => acc
  | fuel + 1, n, t, acc => fxSinCosSeries r2 fuel (n + 2) (-(fxMul t r2) / ((n + 1) * (n + 2) : Nat)) (acc + t)

/-- sin x for x = m 2^e, a quarter period later for cos. -/
def fxSin (m e : Int) (quarter : Int) : Int :=
  let x := fxOf 416 m e
  let k := (2 * x + halfPi416) / (2 * halfPi416)
  let r := (x - k * halfPi416) / (2 ^ 160 : Nat)
  let s := fxSinCosSeries (fxMul r r) 32 1 r 0
  let c := fxSinCosSeries (fxMul r r) 32 0 fxOne 0
  match (k + quarter) % 4 with
  | 0 => s
  | 1 => c
  | 2 => -s
  | _ => -c

/-- Bits of the square root of n, rounded down, from the given bit down. -/
def isqrtGo (n : Nat) : Nat → Nat → Nat
  | 0, r => r
  | i + 1, r => isqrtGo n i (if (r + 2 ^ i) * (r + 2 ^ i) ≤ n then r + 2 ^ i else r)

/-- The square root of n, rounded down. -/
def isqrt (n : Nat) : Nat := isqrtGo n (Nat.log2 n / 2 + 1) 0

/-! ## Faithful rounding -/

/-- The position of the largest FP32 value at or below m x 2^e, zeros at 0, infinities at the ends: overflow is judged after
rounding (R73), so that a magnitude of 2^128 or more is an infinity. -/
def ordDown (m e : Int) : Int :=
  let c := if dyLe 1 128 m.natAbs e then 0x7F800000 else min (roundMag .fp32 .zero m.natAbs e) 0x7F800000
  if 0 ≤ m then c else
    -(if dyLe (magValue .fp32 c).1 (magValue .fp32 c).2 m.natAbs e && !dyLe m.natAbs e (magValue .fp32 c).1 (magValue .fp32 c).2
        && decide (c < 0x7F800000) then (c : Int) + 1 else c)

/-- The smallest FP32 value at or above m x 2^e. -/
def ordUp (m e : Int) : Int := -ordDown (-m) e

/-- The FP32 bits of a position; a zero takes the given sign. -/
def bitsOfOrd (neg : Bool) (o : Int) : Nat :=
  if o = 0 then b2n neg * 0x80000000 else if o < 0 then 0x80000000 + o.natAbs else o.natAbs

/-- m x 2^e with m odd, or 0. -/
def dyNorm (m e : Int) : Int × Int :=
  if m = 0 then (0, 0) else
  let t := Nat.log2 (((m.natAbs ^^^ (m.natAbs - 1)) + 1) / 2)
  (m / (2 ^ t : Nat), e + t)

/-- A faithfully rounded value (log 6) of function `fn` at m x 2^e, enclosed between lo and hi in fixed point. -/
def faithful (fn : Nat) (m e lo hi : Int) : Nat :=
  let a := ordDown lo (-fxP)
  let b := ordUp hi (-fxP)
  let neg := decide (lo + hi < 0)
  if b - a ≤ 1 then
    let n := dyNorm m e
    bitsOfOrd neg (if a = b then a else if Config.faithfulUp fn n.1 n.2 then b else a)
  else bitsOfOrd neg (a + 1)

/-- The enclosure of a computed value: the error of the computation is far below 2^-200 of it and 2^-216. -/
def around (v : Int) : Int × Int := (v - (v.natAbs / 2 ^ 200 : Nat) - 2 ^ 40, v + (v.natAbs / 2 ^ 200 : Nat) + 2 ^ 40)

/-- The enclosure of a value of known sign whose magnitude is below 2^-200. -/
def tiny (neg : Bool) : Int × Int := if neg then (-(2 ^ 56), 0) else (0, 2 ^ 56)

/-- e^x (code 8), the enclosure. -/
def enclExp (x : Int) : Int × Int :=
  if x < -300 * fxOne then tiny false else
  around (fxExp x)

/-- Enclosures of the transcendental activations of R164 at x, by code. GELU's tanh form is
x / 2 (1 + tanh (sqrt (2/pi) (x + 0.044715 x^3))) (log 6). -/
def enclAct (code : Nat) (x : Int) : Int × Int :=
  let big := decide (300 * fxOne < x)
  let small := decide (x < -300 * fxOne)
  let wide := decide (15 * fxOne < x)
  let low := decide (x < -15 * fxOne)
  match code with
  | 3 => if wide then (x - 2 ^ 56, x + 1) else if low then tiny true else
      let u := 2 * fxMul fxSqrt2OverPi (x + 44715 * fxMul x (fxMul x x) / 1000000)
      around (fxMul x (fxSigmoid u))
  | 4 => if wide then (x - 2 ^ 110, x + 1) else if low then (-(2 ^ 100), 0) else around (fxMul x (fxNormal x))
  | 5 => if big then (x - 2 ^ 56, x + 1) else if small then tiny true else around (fxMul x (fxSigmoid x))
  | 6 => if small then tiny false else around (fxSigmoid x)
  | 7 => if big then (fxOne - 2 ^ 56, fxOne) else if small then (-fxOne, -fxOne + 2 ^ 56) else around (2 * fxSigmoid (2 * x) - fxOne)
  | 8 => enclExp x
  | _ => if big then (x, x + 2 ^ 56) else if small then tiny false else around (fxLn (fxOne + fxExp x))

/-- Enclosures of the transcendental derivatives of R217 at z, by code. -/
def enclDer (code : Nat) (x : Int) : Int × Int :=
  let big := decide (300 * fxOne < x)
  let small := decide (x < -300 * fxOne)
  let wide := decide (15 * fxOne < x)
  let low := decide (x < -15 * fxOne)
  match code with
  | 3 => if wide then (fxOne - 2 ^ 56, fxOne + 2 ^ 56) else if low then tiny true else
      let x2 := fxMul x x
      let u := 2 * fxMul fxSqrt2OverPi (x + 44715 * fxMul x x2 / 1000000)
      let du := 2 * fxMul fxSqrt2OverPi (fxOne + 134145 * x2 / 1000000)
      around (fxSigmoid u + fxMul (fxMul x du) (fxMul (fxSigmoid u) (fxSigmoid (-u))))
  | 4 => if wide then (fxOne - 2 ^ 100, fxOne + 2 ^ 100) else if low then (-(2 ^ 100), 0) else
      around (fxNormal x + fxMul x (fxDensity x))
  | 5 => if big then (fxOne - 2 ^ 56, fxOne + 2 ^ 56) else if small then tiny true else
      around (fxMul (fxSigmoid x) (fxOne + fxMul x (fxSigmoid (-x))))
  | 6 => if big || small then tiny false else around (fxMul (fxSigmoid x) (fxSigmoid (-x)))
  | 7 => if big || small then tiny false else around (4 * fxMul (fxSigmoid (2 * x)) (fxSigmoid (-2 * x)))
  | 8 => enclExp x
  | _ => if small then tiny false else around (fxSigmoid x)

/-- The exact zero results: the activation of zero that is zero keeps the sign of its argument. -/
def actZero (code : Nat) : Bool := code = 3 || code = 4 || code = 5 || code = 7

/-- The activation of R164 with a function code 1-10 and a leaky slope, from an exact argument to FP32 bits. Codes 1, 2
and 9 are rational and round to nearest (R163). -/
def activation (code slope : Nat) (x : XNum) : Nat :=
  match code with
  | 1 => match x.num with
    | .nan => nanBits .fp32
    | .inf n => if n then 0 else infBits .fp32 false
    | .fin m _ => if m ≤ 0 then 0 else roundF .fp32 .nearest x
  | 2 => match x.num with
    | .nan => nanBits .fp32
    | .inf n => if n then roundF .fp32 .nearest ((decodeF .fp32 slope).mul x) else infBits .fp32 false
    | .fin m _ => if 0 < m then roundF .fp32 .nearest x else roundF .fp32 .nearest ((decodeF .fp32 slope).mul x)
  | 9 => roundF .fp32 .nearest (x.mul x)
  | _ => match x.num with
    | .nan => nanBits .fp32
    | .inf n => match code with
      | 6 => if n then 0 else 0x3F800000
      | 7 => if n then 0xBF800000 else 0x3F800000
      | 8 => if n then 0 else infBits .fp32 false
      | 10 => if n then 0 else infBits .fp32 false
      | _ => if n then (Config.actAtNegInf code).toNat else infBits .fp32 false
    | .fin m e =>
      if m = 0 && actZero code then b2n x.neg * 0x80000000 else
      let en := enclAct code (fxOf fxP m e)
      faithful code m e en.1 en.2

/-- The PRE derivative f' of R217 and R220, as FP32 bits. -/
def derivPre (code slope : Nat) (z : XNum) : Nat :=
  match z.num with
  | .nan => nanBits .fp32
  | .inf n => match code with
    | 1 => if n then 0 else 0x3F800000
    | 2 => if n then slope else 0x3F800000
    | 3 | 4 | 5 | 10 => if n then 0 else 0x3F800000
    | 8 => if n then 0 else infBits .fp32 false
    | 9 => infBits .fp32 n
    | _ => 0
  | .fin m e => match code with
    | 1 => if 0 < m then 0x3F800000 else 0
    | 2 => if 0 < m then 0x3F800000 else slope
    | 9 => roundF .fp32 .nearest (z.scale 1)
    | _ =>
      let en := enclDer code (fxOf fxP m e)
      faithful (16 + code) m e en.1 en.2

/-- A function code with an OUT method (R217). -/
def hasOut (code : Nat) : Bool := code = 1 || code = 2 || code = 6 || code = 7 || code = 8

/-- The OUT derivative f' of R217 and R220, exactly. -/
def derivOut (code slope : Nat) (y : XNum) : XNum :=
  let one := XNum.ofInt 1 0
  let pos := match y.num with | .fin m _ => decide (0 < m) | .inf n => !n | .nan => false
  if y.isNan then { neg := false, num := .nan } else
  match code with
  | 1 => if pos then one else XNum.ofInt 0 0
  | 2 => if pos then one else decodeF .fp32 slope
  | 6 => y.mul (one.add y.negate)
  | 7 => one.add (y.mul y).negate
  | _ => y

/-! ## The special functions of the vector engine (R259) -/

/-- vf.exp2, vf.log2, vf.rcp, vf.rsqrt, vf.sqrt, vf.sin and vf.cos by OP 0-6, on FP32 bits. At zero, at an infinity, at
NaN and at a negative argument the result is that of IEEE 754 (log 9). -/
def special (op bits : Nat) : Nat :=
  let x := decodeF .fp32 bits
  match x.num with
  | .nan => nanBits .fp32
  | .inf n => match op with
    | 0 => if n then 0 else infBits .fp32 false
    | 1 => if n then nanBits .fp32 else infBits .fp32 false
    | 2 => b2n n * 0x80000000
    | 3 => if n then nanBits .fp32 else 0
    | 4 => if n then nanBits .fp32 else infBits .fp32 false
    | _ => nanBits .fp32
  | .fin m e =>
    if m = 0 then match op with
      | 0 => 0x3F800000
      | 1 => infBits .fp32 true
      | 2 => infBits .fp32 x.neg
      | 3 => infBits .fp32 x.neg
      | 4 => bits
      | 5 => bits
      | _ => 0x3F800000
    else match op with
    | 0 =>
      let k := fxOf 0 m e
      let fr := fxOf fxP m e - k * fxOne
      let en := if k < -200 then tiny false else
        let v := fxExpSeries (fxMul fr fxLn2) 64 64 fxOne
        let w := if 0 ≤ k then v * 2 ^ (min k 200).toNat else v / (2 ^ (-k).toNat : Nat)
        around w
      faithful 32 m e en.1 en.2
    | 1 => if m < 0 then nanBits .fp32 else
      let en := around (fxDiv (fxLn (fxOf fxP m e)) fxLn2)
      faithful 33 m e en.1 en.2
    | 2 =>
      let q : Int := fxOf fxP 1 (-e)
      let v := q / m.natAbs
      let w := if v * m.natAbs = q then v else v + 1
      if m < 0 then faithful 34 m e (-w) (-v) else faithful 34 m e v w
    | 3 => if m < 0 then nanBits .fp32 else
      let n := (fxOf (2 * fxP) 1 (-e)).toNat
      let v : Int := isqrt (n / m.natAbs)
      faithful 35 m e v (if v * v * m = n then v else v + 1)
    | 4 => if m < 0 then nanBits .fp32 else
      let n := (fxOf 400 m e).toNat
      let r := isqrt n
      roundFin .fp32 .nearest false (2 * r + b2n (decide (r * r < n))) (-201)
    | 5 =>
      let en := around (fxSin m e 0)
      faithful 37 m e en.1 en.2
    | _ =>
      let en := around (fxSin m e 1)
      faithful 38 m e en.1 en.2

end Sys2Proof.Machine
end

