-- ==== Sys2Proof/Machine/Olpel.lean ====
section
/-! DEFINITION. Olpel blocks: element codes (R48-R53), block geometry and planes (R54-R59), escapes (R61-R64), the
quantiser (R74-R81) and the safeguard words (R82-R84). -/

namespace Sys2Proof.Machine

/-- Events that a tile safeguard word counts (R83). -/
structure Ev where
  sat : Nat := 0
  nonfin : Nat := 0
  esc : Nat := 0
  nanb : Bool := false
  deriving DecidableEq, Repr

/-- Both sets of events. -/
def Ev.add (a b : Ev) : Ev :=
  { sat := a.sat + b.sat, nonfin := a.nonfin + b.nonfin, esc := a.esc + b.esc, nanb := a.nanb || b.nanb }

/-- The events of a safeguard word's fields (R82). -/
def Ev.ofTsw (t : BitVec 64) : Ev :=
  { sat := fld t.toNat 0 16, nonfin := fld t.toNat 16 16, esc := fld t.toNat 32 16, nanb := t.getLsbD 49 }

/-- A safeguard word that adds events: every field stops at 0xFFFF, CLAMPED is set when one reaches it (R82). -/
def tswAdd (t : BitVec 64) (e : Ev) : BitVec 64 :=
  let o := (Ev.ofTsw t).add e
  let clamped := t.getLsbD 48 || decide (0xFFFF ≤ o.sat) || decide (0xFFFF ≤ o.nonfin) || decide (0xFFFF ≤ o.esc)
  BitVec.ofNat 64 (min o.sat 0xFFFF + min o.nonfin 0xFFFF * 2 ^ 16 + min o.esc 0xFFFF * 2 ^ 32
    + b2n clamped * 2 ^ 48 + b2n o.nanb * 2 ^ 49)

/-- The field-wise saturating sum of two safeguard words, sticky bits ORed (R176, R265). -/
def tswSum (a b : BitVec 64) : BitVec 64 := tswAdd a (Ev.ofTsw b) ||| (a &&& 0x1000000000000) ||| (b &&& 0x1000000000000)

/-- The value of an Olpel element code; none is the escape code (R48-R53). Every zero reads as +0 (R68). -/
def elemValue (f : Fmt) (code : Nat) : Option (Int × Int) :=
  if f.escapes && decide (code = 2 ^ (f.bits - 1)) then none else
  match f with
  | .ob4i => some (sgn 4 code, 0)
  | .ob2 => some (sgn 2 code, 0)
  | .ob4 | .ob3 | .ob8 | .ob8e | .fp32 | .bf16 | .fp16 =>
    let v := magValue f (code % 2 ^ f.signBit)
    some (if code.testBit f.signBit then -(v.1 : Int) else v.1, v.2)

/-- The code of a sign and a magnitude code; a zero magnitude is the +0 code (R69). -/
def elemCode (f : Fmt) (neg : Bool) (mag : Nat) : Nat :=
  if mag = 0 || !neg then mag else
  match f with
  | .ob4i => 16 - mag
  | .ob2 => 4 - mag
  | .ob4 | .ob3 | .ob8 | .ob8e | .fp32 | .bf16 | .fp16 => mag + 2 ^ f.signBit

/-- A tensor in Olpel planes of a byte memory (R58): format, geometry, escape capacity, padded columns, bases. -/
structure Planes where
  fmt : Fmt
  patch : Bool
  cap : Nat
  nc : Nat
  ebase : Nat
  sbase : Nat
  xbase : Nat
  deriving DecidableEq, Repr

/-- Block number and element index of a position (R54, R55, R57). -/
def Planes.place (t : Planes) (row col : Nat) : Nat × Nat :=
  if t.patch then (row / 4 * (t.nc / 8) + col / 8, row % 4 * 8 + col % 8)
  else (row * (t.nc / 32) + col / 32, col % 32)

/-- Row and column of element i of block b (R264). -/
def Planes.coord (t : Planes) (b i : Nat) : Nat × Nat :=
  if t.patch then (b / (t.nc / 8) * 4 + i / 8, b % (t.nc / 8) * 8 + i % 8)
  else (b / (t.nc / 32), b % (t.nc / 32) * 32 + i)

/-- The element code at index i of block b (R59). -/
def Planes.code (t : Planes) (m : Mem) (b i : Nat) : Nat :=
  fld (Mem.le m (t.ebase + b * t.fmt.blockBytes) t.fmt.blockBytes) (t.fmt.bits * i) t.fmt.bits

/-- Escape codes of block b before index i (R63). -/
def Planes.escapesBefore (t : Planes) (m : Mem) (b i : Nat) : Nat :=
  ((List.range i).filter fun j => (elemValue t.fmt (t.code m b j)).isNone).length

/-- The element at index i of block b with the events of feeding it: value before the scale, escape mark, scale
exponent (R47, R63, R64, R67, R83). An element of a NaN block, which has no scale, has scale exponent 0 in the c of R135
(DESIGN CHOICE, log 63). -/
def Planes.read (t : Planes) (m : Mem) (b i : Nat) : Opnd × Ev :=
  let sb := (Mem.read m (t.sbase + b)).toNat
  if sb = 255 then ({ v := .nan, esc := false, s := 0 }, { nonfin := 1, nanb := true }) else
  let s : Int := (sb : Int) - 127
  match elemValue t.fmt (t.code m b i) with
  | some (v, e) => ({ v := .fin v e, esc := false, s := s }, {})
  | none =>
    let n := t.escapesBefore m b i
    if t.cap ≤ n then ({ v := .nan, esc := true, s := s }, { nonfin := 1 }) else
    let x := decodeF .fp16 (Mem.le m (t.xbase + (b * t.cap + n) * 2) 2)
    ({ v := x.num, esc := true, s := s }, { esc := 1, nonfin := b2n (!x.isFin) })

/-- The decoded value of an operand element: its value times its scale. -/
def Opnd.value (o : Opnd) : XNum := (XNum.ofNum o.v).scale o.s

/-! ## The quantiser -/

/-- The fields of a quantiser control word (R74). -/
structure Qcw where
  fmt : Nat
  geom : Bool
  rnd : Nat
  given : Bool
  sgiven : Nat
  capCode : Nat
  thr : Nat
  rsv : Nat
  deriving DecidableEq, Repr

/-- The control word of 32 bits (R74). -/
def Qcw.ofNat (w : Nat) : Qcw :=
  { fmt := fld w 0 4, geom := w.testBit 4, rnd := fld w 5 2, given := w.testBit 7, sgiven := fld w 8 8
    capCode := fld w 16 3, thr := fld w 19 4, rsv := fld w 23 9 }

/-- The escape capacity of a capacity code (R61, R74). -/
def capOf : Nat → Option Nat
  | 0 => some 0 | 1 => some 1 | 2 => some 2 | 3 => some 4 | _ => none

/-- A capacity code a format may have (R61). -/
def capOk (f : Fmt) (code : Nat) : Bool :=
  match capOf code with
  | none => false
  | some c => decide (c = 0) || f.escapes

/-- The control word is not refused by R75. -/
def Qcw.ok (q : Qcw) : Bool :=
  match Fmt.ofCode q.fmt, capOf q.capCode with
  | some f, some c =>
    f.olpel && decide (q.rnd ≠ 3) && !(q.given && decide (q.sgiven = 255)) && (decide (c = 0) || f.escapes)
      && (decide (c = 0) || (decide (1 ≤ q.thr) && decide (q.thr ≤ 8))) && decide (q.rsv = 0)
  | _, _ => false

/-- A quantised block (R77). -/
structure QBlock where
  codes : List Nat
  scale : Nat
  slots : List Nat
  ev : Ev
  deriving DecidableEq, Repr

/-- A magnitude put in its place of a falling list. -/
def insertMag (x : Nat × Int) : List (Nat × Int) → List (Nat × Int)
  | [] => [x]
  | y :: l => if dyLe y.1 y.2 x.1 x.2 then x :: y :: l else y :: insertMag x l

/-- The magnitude of a finite number. -/
def XNum.mag (x : XNum) : Option (Nat × Int) :=
  match x.num with
  | .fin m e => some (m.natAbs, e)
  | .inf _ => none
  | .nan => none

/-- The number of the largest elements that escape: the largest j at most n with b[j+1] > 0 and b[j] at least
2^thr times b[j+1] (R77). -/
def escCount (b : List (Nat × Int)) (thr : Nat) : Nat → Nat
  | 0 => 0
  | n + 1 =>
    let hi := b.getD n (0, 0)
    let lo := b.getD (n + 1) (0, 0)
    if lo.1 ≠ 0 ∧ dyLe lo.1 (lo.2 + thr) hi.1 hi.2 then n + 1 else escCount b thr n

/-- The smallest s with m x 2^(e-s) at most E_max of the format, for m > 0 (R77). -/
def fitScale (f : Fmt) (m : Nat) (e : Int) : Int :=
  let top := magValue f f.maxCode
  let s0 := (Nat.log2 m : Int) + e - ((Nat.log2 top.1 : Int) + top.2)
  if dyLe m (e - s0) top.1 top.2 then s0 else s0 + 1

/-- Write one element of a block: code, escape slot and events (R77). An escape slot whose scaled value rounds to zero in FP16 keeps
its sign: a negative one is 0x8000 (DESIGN CHOICE, log 63). -/
def quantElem (f : Fmt) (rnd : Rnd) (s : Int) (escaped : Bool) (x : XNum) : Nat × Option Nat × Ev :=
  match x.num with
  | .nan => (0, none, {})
  | .inf n => (elemCode f n f.maxCode, none, { sat := 1, nonfin := 1 })
  | .fin m e =>
    let neg := decide (m < 0)
    if escaped then
      let h := roundFin .fp16 .nearest false m.natAbs (e - s)
      let tooBig := decide (Fmt.fp16.maxCode < h)
      (2 ^ (f.bits - 1), some ((if tooBig then Fmt.fp16.maxCode else h) + b2n neg * 0x8000), { sat := b2n tooBig, esc := 1 })
    else
      let top := magValue f f.maxCode
      if dyLe m.natAbs (e - s) top.1 top.2 then (elemCode f neg (roundMag f rnd m.natAbs (e - s)), none, {})
      else (elemCode f neg f.maxCode, none, { sat := 1 })

/-- Quantise 32 values (R77) under a control word that R75 accepts; `idx` holds their logical indices (R80). -/
def quantise (f : Fmt) (q : Qcw) (seed : Nat) (xs : List XNum) (idx : List Nat) : QBlock :=
  let c := (capOf q.capCode).getD 0
  let bad := (xs.filter fun x => !x.isFin).length
  if xs.any XNum.isNan then
    { codes := xs.map fun _ => 0, scale := 255, slots := List.replicate c 0, ev := { nonfin := bad, nanb := true } }
  else
    let b := (xs.filterMap XNum.mag).foldl (fun l x => insertMag x l) []
    let j := escCount b q.thr c
    let cut := b.getD (j - 1) (0, 0)
    let escaped := fun (x : XNum) => match x.mag with
      | some (m, e) => decide (j ≠ 0) && dyLe cut.1 cut.2 m e
      | none => false
    let m := b.getD j (0, 0)
    let s : Int := if q.given then (q.sgiven : Int) - 127
      else if m.1 = 0 then (if xs.any XNum.isInf then 127 else -127)
      else min (max (fitScale f m.1 m.2) (-127)) 127
    let es := (xs.zip idx).map fun p => quantElem f (Rnd.ofCode q.rnd seed p.2) s (escaped p.1) p.1
    let slots := es.filterMap fun e => e.2.1
    { codes := es.map fun e => e.1
      scale := (s + 127).toNat
      slots := slots ++ List.replicate (c - slots.length) 0
      ev := es.foldl (fun a e => a.add e.2.2) {} }

/-- The bytes of a block's element codes (R59). -/
def packCodes (f : Fmt) (codes : List Nat) : List Byte :=
  leBytes f.blockBytes ((codes.zip (List.range codes.length)).foldl (fun a p => a + p.1 * 2 ^ (f.bits * p.2)) 0)

/-- What a quantised block writes: pairs of an address and its bytes in the element, scale and escape planes. -/
def Planes.writes (t : Planes) (b : Nat) (q : QBlock) : List (Nat × List Byte) :=
  [(t.ebase + b * t.fmt.blockBytes, packCodes t.fmt q.codes), (t.sbase + b, [BitVec.ofNat 8 q.scale])]
    ++ (if t.cap = 0 then [] else [(t.xbase + b * t.cap * 2, q.slots.flatMap (leBytes 2))])

end Sys2Proof.Machine
end

