-- ==== Sys2Proof/Machine/Order.lean ====
section
/-! DEFINITION. What the fences of a group hold back (R327-R330). -/

namespace Sys2Proof.Machine

/-- An accepted request has performed all its accesses that a scope covers (R329): those homed on this part at PART, all
at SYSTEM. -/
def reqDone (s : Gk1) (scope rid : Nat) : Bool :=
  match NMap.get? s.reqs rid with
  | none => true
  | some q => q.handed && decide ((if scope = 3 then q.left else q.leftHere) = 0)

/-- The fences of a group that have not completed: they complete in program order (R328). -/
def pendingFences (s : Gk1) (G : Group) : List PFence :=
  G.fences.dropWhile fun f => f.waits.all (reqDone s f.scope)

/-- An access is held by a pending fence: every covered access by an acquire half, a write by a release half too (R327,
R328). `covered` says at which scopes it is covered. -/
def held (s : Gk1) (G : Group) (writes : Bool) (covered : Nat → Bool) : Bool :=
  (pendingFences s G).any fun f => covered f.scope && (f.acq || (f.rel && writes))

/-- A direct-path access is covered at every scope (R329). -/
def directHeld (i : GI) (writes : Bool) : Bool := held i.s i.G writes fun _ => true

/-- An engine-path access is covered at PART when its home is on this part, and at SYSTEM (R329). -/
def engineHeld (i : GI) (writes onPart : Bool) : Bool :=
  held i.s i.G writes fun sc => sc = 3 || (sc = 2 && onPart)

end Sys2Proof.Machine
end

