-- ==== Sys2Proof/Machine/CoreStore.lean ====
section
/-! DEFINITION. The majors vmem and vatom: core-store loads, stores and atomics (R249, R250, R287, R289, R324,
R347-R351). -/

namespace Sys2Proof.Machine

/-- Bytes of a core store (R249). -/
def storeSize : Nat := 40960

/-- An aligned access of n bytes inside the core store (R249). -/
def storeOk (n a : Nat) : Bool := decide (a % n = 0) && decide (a + n ≤ storeSize)

/-- A 32-bit address with its signed 16-bit offset (R287). -/
def addrOf (base imm : Nat) : Nat := twos 32 ((base : Int) + sgn 16 imm)

/-- Access bytes of TYPE .b32 or .b64. -/
def accBytes (w : Nat) : Nat := if wType w = 6 then 8 else 4

/-- The field check of vmem: .b64 names an even pair (R229, R287). -/
def vmemOk (w : Nat) : Bool :=
  vOk { types := [3, 6], imm := 0xFFFF } w && (wType w = 3 || wD w % 2 = 0)

/-- The addresses of the lanes that are on. -/
def laneAddrs (i : GI) : List (Nat × Nat) :=
  (lanes.filter (i.G.on i.w)).map fun l => (l, addrOf (i.G.vn (wA i.w) l) (wImm i.w))

/-- v.ld (R249, R287, R324). -/
def execVLd (core grp : Nat) (s : State) : Answer := s.act fun s =>
  issue 0x0E (opIs 0) (fun w _ => vmemOk w) (fun _ => []) 0 (fun i =>
    let n := accBytes i.w
    let la := laneAddrs i
    if directHeld i false then .hold
    else if !(la.all fun p => storeOk n p.2) then .fault 0x22
    else
      let m := i.C.store
      i.done (la.foldl (fun G p =>
        let v := Mem.le m p.2 n
        let G := G.setLane (wD i.w) p.1 (BitVec.ofNat 32 v)
        if n = 8 then G.setLane (wD i.w + 1) p.1 (BitVec.ofNat 32 (v / 2 ^ 32)) else G) i.G)) core grp s

/-- v.st: of the lanes that store to one byte the highest-numbered wins (R250). -/
def execVSt (core grp : Nat) (s : State) : Answer := s.act fun s =>
  issue 0x0E (opIs 1) (fun w _ => vmemOk w) (fun _ => []) 0 (fun i =>
    let n := accBytes i.w
    let la := laneAddrs i
    if directHeld i true then .hold
    else if !(la.all fun p => storeOk n p.2) then .fault 0x22
    else
      let G := i.G
      .ok (i.s.modCore i.core fun C => { C with
        store := la.foldl (fun m p =>
          Mem.writeLE m p.2 n (G.vn (wD i.w) p.1 + if n = 8 then G.vn (wD i.w + 1) p.1 * 2 ^ 32 else 0)) C.store }))
    core grp s

/-- s.ld (R249, R275, R287). -/
def execSLd (core grp : Nat) (s : State) : Answer := s.act fun s =>
  issue 0x0E (opIs 2) (fun w _ => vmemOk w) (fun w => vRegs w true true false false) 0 (fun i =>
    let n := accBytes i.w
    let a := addrOf (i.G.sn (wA i.w)) (wImm i.w)
    if !i.G.issues i.w then .ok i.s
    else if directHeld i false then .hold
    else if !storeOk n a then .fault 0x22
    else
      let v := Mem.le i.C.store a n
      i.done (if n = 8 then i.G.setPair (wD i.w) v else i.G.setS (wD i.w) (BitVec.ofNat 32 v))) core grp s

/-- s.st (R249, R275, R287). -/
def execSSt (core grp : Nat) (s : State) : Answer := s.act fun s =>
  issue 0x0E (opIs 3) (fun w _ => vmemOk w) (fun w => vRegs w true true false false) 0 (fun i =>
    let n := accBytes i.w
    let a := addrOf (i.G.sn (wA i.w)) (wImm i.w)
    if !i.G.issues i.w then .ok i.s
    else if directHeld i true then .hold
    else if !storeOk n a then .fault 0x22
    else .ok (i.s.modCore i.core fun C => { C with
      store := Mem.writeLE C.store a n (if n = 8 then i.G.pair (wD i.w) else i.G.sn (wD i.w)) })) core grp s

/-! ## Atomics -/

/-- The new value of a word by an operation of the atomic table (R289, R349, R350). -/
def atomOp (op old x cmp : Nat) : Nat :=
  match op with
  | 0 => (old + x) % 2 ^ 32
  | 1 => roundF .fp32 .nearest ((decodeF .fp32 old).add (decodeF .fp32 x))
  | 2 => if sgn 32 old ≤ sgn 32 x then old else x
  | 3 => if sgn 32 old ≤ sgn 32 x then x else old
  | 4 => min old x
  | 5 => max old x
  | 6 => fMin .fp32 old x
  | 7 => fMax .fp32 old x
  | 8 => old &&& x
  | 9 => old ||| x
  | 10 => old ^^^ x
  | 11 => x
  | _ => if old = cmp then x else old

/-- The state of one word's combined update: running value, and the exact FP32 sum of add.f32. -/
structure WordSum where
  cur : Nat
  sum : XNum

/-- Lanes in ascending order on a table of words: each lane's returned value and the words' final values. For add.f32
the value is the rounded exact sum (R348-R351). -/
def combine (op : Nat) (m : Mem) : List (Nat × Nat × Nat × Nat) → NMap WordSum → List (Nat × Nat) → NMap WordSum × List (Nat × Nat)
  | [], t, r => (t, r)
  | (l, a, x, cmp) :: ls, t, r =>
    let old := Mem.le m a 4
    let e := NMap.getD t a
      { cur := if op = 1 then roundF .fp32 .nearest (decodeF .fp32 old) else old, sum := decodeF .fp32 old }
    let sum := e.sum.add (decodeF .fp32 x)
    let e' : WordSum := { cur := if op = 1 then roundF .fp32 .nearest sum else atomOp op e.cur x cmp, sum := sum }
    combine op m ls (NMap.set t a e') (r ++ [(l, e.cur)])

/-- RET and SCL of vatom (R289). -/
def wRet (w : Nat) : Bool := w.testBit 41
/-- SCL of vatom. -/
def wScl (w : Nat) : Bool := w.testBit 42

/-- An operation on FP32 data reads its immediate as FP32 (R230). -/
def atomTy (op : Nat) : Nat := if op = 1 || op = 6 || op = 7 then 0 else 1

/-- The field check of vatom (R289, R773). -/
def vatomOk (op w : Nat) : Bool :=
  vOk { bs := [0, 1, 2], vc := if op = 12 then 31 else 0, types := [3], rnd := [0, 1, 2, 3] } w

/-- The s registers of a vatom: with SCL, VD, VA, VC and the second source are s registers (R289). -/
def vatomRegs (op w : Nat) : List Nat :=
  vRegs w (wScl w) (wScl w) false (wScl w && decide (op = 12)) ++ (if wScl w && decide (wBsel w = 0) then [wB w] else [])

/-- The data operand with SCL: an s register or an immediate (R289). -/
def Group.sclB (G : Group) (w ty : Nat) : Nat := if wBsel w = 0 then G.sn (wB w) else G.vb w ty 0

/-- INVALID and OVFL that an add.f32 sets: by the stored sum from old and the lanes' data (R244, R350). -/
def sumFlags (op old : Nat) (xs : List Nat) (new : Nat) : Flg := if op = 1 then flagsOf .fp32 (old :: xs) new else {}

/-- Issue a core-store atomic by OP (R289, R347). -/
def vatom (op : Nat) (core grp : Nat) (s : Gk1) : Out :=
  issue 0x0F (opIs op) (fun w _ => vatomOk op w) (vatomRegs op) 0 (fun i =>
      let G := i.G
      let w := i.w
      if wScl w then
        let a := G.sn (wA w)
        if !G.issues w then .ok i.s
        else if directHeld i true then .hold
        else if !storeOk 4 a then .fault 0x22
        else
          let old := Mem.le i.C.store a 4
          let x := G.sclB w (atomTy op)
          let new := atomOp op old x (G.sn (wC w))
          let s := i.s.modCore i.core fun C => { C with store := Mem.writeLE C.store a 4 new }
          .ok (s.modGroup i.core i.grp fun G =>
            (if wRet w then G.setS (wD w) (BitVec.ofNat 32 old) else G).flag (sumFlags op old [x] new))
      else
        let ls := (lanes.filter (G.on w)).map fun l => (l, G.vn (wA w) l, G.vb w (atomTy op) l, G.vn (wC w) l)
        if directHeld i true then .hold
        else if !(ls.all fun p => storeOk 4 p.2.1) then .fault 0x22
        else
          let r := combine op i.C.store ls [] []
          let s := i.s.modCore i.core fun C => { C with
            store := r.1.foldl (fun m e => Mem.writeLE m e.1 4 e.2.cur) C.store }
          let fl := r.1.foldl (fun c e => c.or (sumFlags op (Mem.le i.C.store e.1 4)
            ((ls.filter fun p => p.2.1 = e.1).map fun p => p.2.2.1) e.2.cur)) {}
          .ok (s.modGroup i.core i.grp fun G =>
            (if wRet w then r.2.foldl (fun G p => G.setLane (wD w) p.1 (BitVec.ofNat 32 p.2)) G else G).flag fl)) core grp s

/-- vatom add. -/
def execVatomAdd (core grp : Nat) (s : State) : Answer := s.act fun s => vatom 0 core grp s
/-- vatom add.f32, through the exact adder (R350). -/
def execVatomAddF32 (core grp : Nat) (s : State) : Answer := s.act fun s => vatom 1 core grp s
/-- vatom min.i32. -/
def execVatomMinI32 (core grp : Nat) (s : State) : Answer := s.act fun s => vatom 2 core grp s
/-- vatom max.i32. -/
def execVatomMaxI32 (core grp : Nat) (s : State) : Answer := s.act fun s => vatom 3 core grp s
/-- vatom min.u32. -/
def execVatomMinU32 (core grp : Nat) (s : State) : Answer := s.act fun s => vatom 4 core grp s
/-- vatom max.u32. -/
def execVatomMaxU32 (core grp : Nat) (s : State) : Answer := s.act fun s => vatom 5 core grp s
/-- vatom min.f32. -/
def execVatomMinF32 (core grp : Nat) (s : State) : Answer := s.act fun s => vatom 6 core grp s
/-- vatom max.f32. -/
def execVatomMaxF32 (core grp : Nat) (s : State) : Answer := s.act fun s => vatom 7 core grp s
/-- vatom and. -/
def execVatomAnd (core grp : Nat) (s : State) : Answer := s.act fun s => vatom 8 core grp s
/-- vatom or. -/
def execVatomOr (core grp : Nat) (s : State) : Answer := s.act fun s => vatom 9 core grp s
/-- vatom xor. -/
def execVatomXor (core grp : Nat) (s : State) : Answer := s.act fun s => vatom 10 core grp s
/-- vatom exch. -/
def execVatomExch (core grp : Nat) (s : State) : Answer := s.act fun s => vatom 11 core grp s
/-- vatom cas. -/
def execVatomCas (core grp : Nat) (s : State) : Answer := s.act fun s => vatom 12 core grp s

end Sys2Proof.Machine
end

