-- ==== Sys2Proof/Machine/Vq.lean ====
section
/-! DEFINITION. The major vq: vq.ld and vq.st (R261-R265), and the operand tile descriptor's tensor (R300). -/

namespace Sys2Proof.Machine

/-- Word k of a descriptor in a byte memory (R300). -/
def descWord (m : Mem) (a k : Nat) : Nat := Mem.le m (a + 8 * k) 8

/-- The Olpel planes that D0 and D1 name (R300), when FMT is an Olpel format and CAP names a capacity. -/
def planesOf (d0 d1 : Nat) : Option Planes :=
  match Fmt.ofCode (fld d0 0 4), capOf (fld d0 5 3) with
  | some f, some c => some
      { fmt := f, patch := d0.testBit 4, cap := c, nc := fld d0 16 16, ebase := fld d1 0 16, sbase := fld d1 16 16
        xbase := fld d1 32 16 }
  | _, _ => none

/-- The padded column count suits the geometry (R56). -/
def ldOk (patch : Bool) (ld : Nat) : Bool := decide (ld ≠ 0) && decide (ld % (if patch then 8 else 32) = 0)

/-- The checks of R264 on D0 and D1. -/
def vqDescOk (d0 d1 : Nat) : Bool :=
  match Fmt.ofCode (fld d0 0 4) with
  | none => false
  | some f => f.olpel && capOk f (fld d0 5 3) && ldOk (d0.testBit 4) (fld d0 16 16) && fld d0 11 5 = 0 && fld d1 48 16 = 0

/-- Every byte of block b lies in the core store (R249, R263). -/
def Planes.inStore (t : Planes) (b : Nat) : Bool :=
  decide (t.ebase + (b + 1) * t.fmt.blockBytes ≤ storeSize) && decide (t.sbase + b < storeSize)
    && (t.cap = 0 || decide (t.xbase + (b + 1) * t.cap * 2 ≤ storeSize))

/-- The tensor and the block number of a vq instruction, or the code it is refused with (R263, R264). A plane base that is not 64-byte
aligned against R58 is no refusal: the access is made at that base (DESIGN CHOICE, log 63). -/
def vqOperand (i : GI) : Sum Nat (Planes × Nat) :=
  let a := i.G.sn (wB i.w)
  if !(a % 32 = 0 && decide (a + 32 ≤ storeSize)) then .inl 0x22 else
  let d0 := descWord i.C.store a 0
  let d1 := descWord i.C.store a 1
  if !vqDescOk d0 d1 then .inl 0x23 else
  match planesOf d0 d1 with
  | none => .inl 0x23
  | some t => .inr (t, i.G.sn (wC i.w))

/-- vq.ld: decode a block into VD and VD + 1; the events of the whole block count (R261, R265, log 15). -/
def execVqLd (core grp : Nat) (s : State) : Answer := s.act fun s =>
  issue 0x11 (opIs 0) (fun w _ => vOk { bs := [1], vc := 31 } w && wD w % 2 = 0) (fun w => vRegs w false false false true) 4
    (fun i =>
      if directHeld i false then .hold else
      match vqOperand i with
      | .inl code => .fault code
      | .inr (t, b) =>
        if !t.inStore b then .fault 0x22 else
        let els := (List.range 32).map fun k => t.read i.C.store b k
        let bits := els.map fun e => roundF .fp32 .nearest e.1.value
        let inf := (els.zip bits).filter fun e => e.1.1.value.isFin && (decodeF .fp32 e.2).isInf
        let ev := els.foldl (fun a e => a.add e.2) { nonfin := inf.length }
        let G := i.G
        let G := G.setV (wD i.w) (i.G.on i.w) fun l => bits.getD l 0
        let G := G.setV (wD i.w + 1) (i.G.on i.w) fun l => bits.getD (l + 16) 0
        i.done ({ G with csw := tswSum G.csw (tswAdd 0 ev) }.flag { ovfl := !inf.isEmpty })) core grp s

/-- vq.st: quantise the 32 values of VA and VA + 1 into a block (R262-R265); the guard acts in the issuing lane. -/
def execVqSt (core grp : Nat) (s : State) : Answer := s.act fun s =>
  issue 0x11 (opIs 1)
    (fun w _ => vOk { vd := 0, bs := [1], vc := 31, sx := true, imm := 31 } w && wA w % 2 = 0 && fld w 48 5 % 2 = 0)
    (fun w => vRegs w false false true true ++ [fld w 48 5, fld w 48 5 + 1]) 4 (fun i =>
      let G := i.G
      if !G.issues i.w then .ok i.s
      else if directHeld i true then .hold
      else match vqOperand i with
      | .inl code => .fault code
      | .inr (t, b) =>
        let q := Qcw.ofNat (G.sn (wSx i.w))
        if !(q.ok && Fmt.ofCode q.fmt = some t.fmt && q.geom = t.patch && capOf q.capCode = some t.cap) then .fault 0x23
        else if !t.inStore b then .fault 0x22
        else
          let xs := (List.range 32).map fun k => decodeF .fp32 (if k < 16 then G.vn (wA i.w) k else G.vn (wA i.w + 1) (k - 16))
          let idx := (List.range 32).map fun k => (t.coord b k).1 * t.nc + (t.coord b k).2
          let qb := quantise t.fmt q (G.pair (fld i.w 48 5)) xs idx
          let s := i.s.modCore i.core fun C => { C with
            store := (t.writes b qb).foldl (fun m p => Mem.writeAll m p.1 p.2) C.store }
          .ok (s.modGroup i.core i.grp fun G => { G with csw := tswSum G.csw (tswAdd 0 qb.ev) })) core grp s

end Sys2Proof.Machine
end

