-- ==== Sys2Proof/Machine/MxDesc.lean ====
section
/-! DEFINITION. Operand tile descriptors (R90-R92, R115-R117, R121-R123, R300, R301): their checks, and the element that
the feeder reads at a position. -/

namespace Sys2Proof.Machine

/-- An operand tile descriptor, D0-D3 (R300). -/
structure Opd where
  d0 : Nat
  d1 : Nat
  d2 : Nat
  d3 : Nat

/-- The descriptor at an address of a core store. -/
def opdAt (m : Mem) (a : Nat) : Opd := { d0 := Mem.le m a 8, d1 := Mem.le m (a + 8) 8, d2 := Mem.le m (a + 16) 8, d3 := Mem.le m (a + 24) 8 }

/-- The descriptor of its words. -/
def opdOf (l : List (BitVec 64)) : Opd :=
  { d0 := (l.getD 0 0).toNat, d1 := (l.getD 1 0).toNat, d2 := (l.getD 2 0).toNat, d3 := (l.getD 3 0).toNat }

/-- The words of a descriptor. -/
def Opd.words (o : Opd) : List (BitVec 64) := [o.d0, o.d1, o.d2, o.d3].map (BitVec.ofNat 64)

/-- FMT. -/
def Opd.fmt (o : Opd) : Option Fmt := Fmt.ofCode (fld o.d0 0 4)
/-- The format, FP32 where FMT is reserved. -/
def Opd.fmtD (o : Opd) : Fmt := o.fmt.getD .fp32
/-- GEOM: PATCH. -/
def Opd.patch (o : Opd) : Bool := o.d0.testBit 4
/-- CAP. -/
def Opd.cap (o : Opd) : Nat := fld o.d0 5 3
/-- TRANS. -/
def Opd.trans (o : Opd) : Bool := o.d0.testBit 8
/-- EXT. -/
def Opd.ext (o : Opd) : Nat := fld o.d0 9 2
/-- A convolution form. -/
def Opd.conv (o : Opd) : Bool := o.ext = 1
/-- A variant table. -/
def Opd.variant (o : Opd) : Bool := o.ext = 2
/-- LD. -/
def Opd.ld (o : Opd) : Nat := fld o.d0 16 16
/-- ROW0. -/
def Opd.row0 (o : Opd) : Nat := fld o.d0 32 16
/-- COL0. -/
def Opd.col0 (o : Opd) : Nat := fld o.d0 48 16
/-- C. -/
def Opd.c (o : Opd) : Nat := fld o.d2 32 16
/-- OW. -/
def Opd.ow (o : Opd) : Nat := fld o.d2 48 6 + 1
/-- KH, KW, SH, SW, DH, DW: field n plus 1; PH, PW: fields 6 and 7. -/
def Opd.nib (o : Opd) (n : Nat) : Nat := fld o.d3 (4 * n) 4
/-- VSEL. -/
def Opd.vsel (o : Opd) : Nat := fld o.d2 0 16
/-- VBASE. -/
def Opd.vbase (o : Opd) : Nat := fld o.d2 16 16
/-- VSTRIDE. -/
def Opd.vstride (o : Opd) : Nat := fld o.d2 32 16
/-- VCOUNT. -/
def Opd.vcount (o : Opd) : Nat := fld o.d2 48 16

/-- The planes of the operand, moved for a variant (R122). -/
def Opd.planes (o : Opd) (v : Nat) : Planes :=
  let mv := if o.variant then v * o.vstride else 0
  { fmt := o.fmtD, patch := o.patch, cap := (capOf o.cap).getD 0, nc := o.ld
    ebase := (if o.variant then o.vbase else fld o.d1 0 16) + mv, sbase := fld o.d1 16 16 + mv, xbase := fld o.d1 32 16 + mv }

/-- Class of a format: 1 2-bit, 2 4-bit, 3 8-bit, 4 16-bit, 5 32-bit (R87). -/
def Fmt.cls : Fmt → Nat
  | .ob2 => 1 | .ob4 => 2 | .ob4i => 2 | .ob3 => 2 | .ob8 => 3 | .ob8e => 3 | .bf16 => 4 | .fp16 => 4 | .fp32 => 5

/-- FORMAT_INVALID of R301. -/
def Opd.formatOk (o : Opd) : Bool :=
  match o.fmt with
  | none => false
  | some f =>
    capOk f o.cap && (f.olpel || !o.patch) && !(f.olpel && o.trans && !o.patch) && (!f.olpel || ldOk o.patch o.ld)
      && fld o.d0 11 5 = 0 && fld o.d1 48 16 = 0
      && (if o.conv then fld o.d2 54 10 = 0 && fld o.d3 32 32 = 0 else !o.variant || o.d3 = 0)

/-- The limits of R117 on a convolution form of A. -/
def Opd.convOk (o : Opd) (k0 k : Nat) : Bool :=
  !o.conv || (!o.trans && o.c % 8 = 0 && !(o.fmtD.olpel && !o.patch && decide (o.c % 32 ≠ 0))
    && decide (k0 + k ≤ (o.nib 0 + 1) * (o.nib 1 + 1) * o.c))

/-- The storage position of element (r, k): none is padding (R115, the address pseudocode). -/
def Opd.pos (o : Opd) (r k : Nat) : Option (Nat × Nat) :=
  if o.conv then
    let c := k % o.c
    let t := k / o.c
    let dx := t % (o.nib 1 + 1)
    let dy := t / (o.nib 1 + 1)
    let ih : Int := (r / o.ow * (o.nib 2 + 1) + dy * (o.nib 4 + 1) : Nat) - (o.nib 6 : Int)
    let iw : Int := (r % o.ow * (o.nib 3 + 1) + dx * (o.nib 5 + 1) : Nat) - (o.nib 7 : Int)
    if ih < 0 ∨ (fld o.d2 0 16 : Int) ≤ ih ∨ iw < 0 ∨ (fld o.d2 16 16 : Int) ≤ iw then none
    else some ((ih * fld o.d2 16 16 + iw).toNat, c)
  else if o.trans then some (o.row0 + k, o.col0 + r)
  else some (o.row0 + r, o.col0 + k)

/-- A convolution form reads the element of position (r, k) also at an earlier K position of the instruction, for some row of
its m: the element is fed again and its events count once (R83, R115). -/
def Opd.usedBefore (o : Opd) (k0 m r k : Nat) : Bool :=
  match o.pos r k with
  | none => false
  | some (p, c) =>
    let iw := fld o.d2 16 16
    (List.range (k / o.c)).any fun t =>
      let y : Int := (p / iw : Nat) + (o.nib 6 : Int) - (t / (o.nib 1 + 1) * (o.nib 4 + 1) : Nat)
      let x : Int := (p % iw : Nat) + (o.nib 7 : Int) - (t % (o.nib 1 + 1) * (o.nib 5 + 1) : Nat)
      let oh := y.toNat / (o.nib 2 + 1)
      let ow := x.toNat / (o.nib 3 + 1)
      decide (k0 ≤ t * o.c + c) && decide (0 ≤ y) && decide (0 ≤ x) && y.toNat % (o.nib 2 + 1) = 0 && x.toNat % (o.nib 3 + 1) = 0
        && decide (ow < o.ow) && decide (oh * o.ow + ow < m)

/-- Every byte that an element at a position needs, over the operand's planes, lies in the core store: an element may run on
into a second byte (R59, R92). Bases are taken by variant. -/
def Planes.elemIn (t : Planes) (row col : Nat) : Bool :=
  if t.fmt.olpel then
    let p := t.place row col
    decide (t.ebase + p.1 * t.fmt.blockBytes + (t.fmt.bits * (p.2 + 1) - 1) / 8 < storeSize) && decide (t.sbase + p.1 < storeSize)
      && (t.cap = 0 || decide (t.xbase + (p.1 + 1) * t.cap * 2 ≤ storeSize))
  else decide (t.ebase + (row * t.nc + col + 1) * (t.fmt.bits / 8) ≤ storeSize)

/-- Every operand byte lies in the core store (R92): the last element decides, and for a convolution form every one. -/
def Opd.bytesOk (o : Opd) (v k0 rows k : Nat) : Bool :=
  if o.conv then (List.range rows).all fun r => (List.range k).all fun j =>
    match o.pos r (k0 + j) with
    | some p => (o.planes v).elemIn p.1 p.2
    | none => true
  else match o.pos (rows - 1) (k - 1) with
    | some p => (o.planes v).elemIn p.1 p.2
    | none => true

/-- OPERAND_RANGE of R92: `rows` is M or N. -/
def Opd.rangeOk (o : Opd) (k0 rows k : Nat) : Bool :=
  let p := o.planes 0
  p.ebase % 64 = 0 && (!o.fmtD.olpel || p.sbase % 64 = 0) && (p.cap = 0 || p.xbase % 64 = 0)
    && (if o.conv then decide (o.c ≤ o.ld) else decide (o.col0 + (if o.trans then rows else k) ≤ o.ld))
    && (if o.variant then true else o.bytesOk 0 k0 rows k)

/-- The element at a position as the feeder decodes it, with its events (R115, R118, R120). A padding position, which reads no scale,
has scale exponent 0 in the c of R136 (DESIGN CHOICE, log 63). -/
def Planes.fetch (t : Planes) (m : Mem) (pos : Option (Nat × Nat)) : Opnd × Ev :=
  match pos with
  | none => ({ v := .fin 0 0, esc := false, s := 0 }, {})
  | some (row, col) =>
    if t.fmt.olpel then
      let p := t.place row col
      t.read m p.1 p.2
    else
      let x := decodeF t.fmt (Mem.le m (t.ebase + (row * t.nc + col) * (t.fmt.bits / 8)) (t.fmt.bits / 8))
      ({ v := x.num, esc := false, s := 0 }, { nonfin := b2n (!x.isFin) })

/-- Effective group length along K of an operand; none for a format without scales (R113, R114). -/
def Opd.group (o : Opd) : Option Nat :=
  if !o.fmtD.olpel then none else if !o.patch then some 32 else if o.trans then some 4 else some 8

end Sys2Proof.Machine
end

