-- ==== Sys2Proof/Machine/DrainDesc.lean ====
section
/-! DEFINITION. The drain descriptor (R302-R305, R771): its fields and the checks that refuse a drain (R164, R168, R170,
R171, R216, R219). -/

namespace Sys2Proof.Machine

/-- Word n of the descriptor. -/
def DrainReq.e (d : DrainReq) (n : Nat) : Nat := (d.words.getD n 0).toNat

/-- SEXP. -/
def DrainReq.sexp (d : DrainReq) : Int := sgn 7 (d.e 0)
/-- SCL. -/
def DrainReq.sclKind (d : DrainReq) : Nat := fld (d.e 0) 7 2
/-- BIAS. -/
def DrainReq.biasKind (d : DrainReq) : Nat := fld (d.e 0) 14 2
/-- ACT. -/
def DrainReq.act (d : DrainReq) : Nat := fld (d.e 0) 21 4
/-- DER. -/
def DrainReq.der (d : DrainReq) : Nat := fld (d.e 0) 30 4
/-- DKIND: OUT. -/
def DrainReq.out (d : DrainReq) : Bool := (d.e 0).testBit 34
/-- SMAX. -/
def DrainReq.smax (d : DrainReq) : Bool := (d.e 0).testBit 35
/-- SSUM. -/
def DrainReq.ssum (d : DrainReq) : Bool := (d.e 0).testBit 36
/-- MERGE. -/
def DrainReq.merge (d : DrainReq) : Bool := (d.e 0).testBit 37
/-- STATMASK. -/
def DrainReq.statmask (d : DrainReq) : Bool := (d.e 0).testBit 38
/-- MFORM. -/
def DrainReq.mform (d : DrainReq) : Nat := fld (d.e 0) 39 2
/-- MACT. -/
def DrainReq.mact (d : DrainReq) : Nat := fld (d.e 0) 41 2
/-- RAW. -/
def DrainReq.raw (d : DrainReq) : Bool := (d.e 0).testBit 43
/-- DEST: 0 LOCAL, 1 REMOTE, 2 DRAM. -/
def DrainReq.dest (d : DrainReq) : Nat := fld (d.e 0) 44 2
/-- CLOSE. -/
def DrainReq.close (d : DrainReq) : Bool := (d.e 0).testBit 46
/-- STREAM. -/
def DrainReq.stream (d : DrainReq) : Nat := fld (d.e 0) 47 4
/-- The destination format, FP32 where OFMT is reserved. -/
def DrainReq.ofmt (d : DrainReq) : Fmt := (Fmt.ofCode (fld (d.e 1) 0 4)).getD .fp32
/-- ORND. -/
def DrainReq.ornd (d : DrainReq) : Nat := fld (d.e 1) 4 2
/-- QCW. -/
def DrainReq.qcw (d : DrainReq) : Qcw := Qcw.ofNat (fld (d.e 1) 32 32)
/-- SEED. -/
def DrainReq.seed (d : DrainReq) : Nat := d.e 2
/-- DADDR. -/
def DrainReq.daddr (d : DrainReq) : Nat := fld (d.e 3) 0 52
/-- ROWO. -/
def DrainReq.rowo (d : DrainReq) : Nat := fld (d.e 4) 0 32
/-- COLO. -/
def DrainReq.colo (d : DrainReq) : Nat := fld (d.e 4) 32 32
/-- PITCH. -/
def DrainReq.pitch (d : DrainReq) : Nat := fld (d.e 5) 0 32
/-- TCORE. -/
def DrainReq.tcore (d : DrainReq) : Nat := fld (d.e 5) 32 20
/-- STATUS. -/
def DrainReq.status (d : DrainReq) : Nat := fld (d.e 8) 0 16
/-- SCLV. -/
def DrainReq.sclv (d : DrainReq) : Nat := fld (d.e 8) 16 16
/-- BIASV. -/
def DrainReq.biasv (d : DrainReq) : Nat := fld (d.e 8) 32 16
/-- STATA. -/
def DrainReq.stata (d : DrainReq) : Nat := fld (d.e 8) 48 16
/-- AUXA. -/
def DrainReq.auxa (d : DrainReq) : Nat := fld (d.e 9) 0 16
/-- The auxiliary format, FP32 where AUXF is reserved. -/
def DrainReq.auxf (d : DrainReq) : Fmt := (Fmt.ofCode (fld (d.e 9) 16 4)).getD .fp32
/-- MASKA. -/
def DrainReq.maska (d : DrainReq) : Nat := fld (d.e 9) 20 16

/-- Stage 1 is enabled (R771). -/
def DrainReq.st1 (d : DrainReq) : Bool := d.sexp ≠ 0 || d.sclKind ≠ 0
/-- Stage 5 is enabled (R771). -/
def DrainReq.st5 (d : DrainReq) : Bool := d.smax || d.ssum
/-- Some stage of 1-6 is enabled (R170, R771). -/
def DrainReq.staged (d : DrainReq) : Bool :=
  d.st1 || d.biasKind ≠ 0 || d.act ≠ 0 || d.der ≠ 0 || d.st5 || d.mform ≠ 0

/-- The destination is written in an Olpel format. -/
def DrainReq.olpel (d : DrainReq) : Bool := d.ofmt.olpel && !d.raw

/-- Bytes of a destination element that is not Olpel; RAW writes the stored bits (R170, R303). -/
def DrainReq.esize (d : DrainReq) (tfmt : Nat) : Nat :=
  if d.raw then (match tfmt with | 0 => 4 | 1 => 8 | _ => 16) else d.ofmt.bits / 8

/-- Nc of the destination (R303). -/
def DrainReq.nc (d : DrainReq) (tfmt : Nat) : Nat := if d.olpel then d.pitch else d.pitch / d.esize tfmt

/-- The destination planes of an Olpel drain (R303). -/
def DrainReq.planes (d : DrainReq) : Planes :=
  { fmt := d.ofmt, patch := d.qcw.geom, cap := (capOf d.qcw.capCode).getD 0, nc := d.pitch
    ebase := d.daddr, sbase := fld (d.e 6) 0 52, xbase := fld (d.e 7) 0 52 }

/-- The reserved fields of the descriptor are zero (R302, R305). -/
def DrainReq.rsvOk (d : DrainReq) : Bool :=
  fld (d.e 0) 51 13 = 0 && fld (d.e 1) 6 26 = 0 && fld (d.e 3) 52 12 = 0 && fld (d.e 5) 52 12 = 0 && fld (d.e 6) 52 12 = 0
    && fld (d.e 7) 52 12 = 0 && fld (d.e 9) 36 28 = 0 && fld (d.e 10) 24 8 = 0
    && [11, 12, 13, 14, 15].all fun n => d.e n = 0

/-- The refusals of R171 on an Olpel destination. -/
def DrainReq.blocksOk (d : DrainReq) (m n : Nat) : Bool :=
  !d.olpel || (ldOk d.qcw.geom d.pitch && decide (d.colo + n ≤ d.pitch)
    && (if d.qcw.geom then d.rowo % 4 = 0 && d.colo % 8 = 0 && m % 4 = 0 else n % 32 = 0 && d.colo % 32 = 0))

/-- The refusals of R216 and R219 on the derivative stage. -/
def DrainReq.derOk (d : DrainReq) (ganged : Bool) : Bool :=
  d.der = 0 || (!d.auxf.olpel && (if d.out then
      hasOut d.der && (d.der ≠ 2 || (decodeF .fp32 0).lt (decodeF .fp32 d.slope.toNat))
    else !ganged))

/-- A range of n bytes lies in the core store. -/
def inStore (a n : Nat) : Bool := decide (a + n ≤ storeSize)

/-- The core-store inputs lie in the core store and are aligned as R304 and R305 say. -/
def DrainReq.inputsOk (d : DrainReq) (m n : Nat) : Bool :=
  let vec := fun kind a => kind < 2 || inStore a (4 * (if kind = 2 then m else n))
  d.status % 16 = 0 && inStore d.status 16 && vec d.sclKind d.sclv && vec d.biasKind d.biasv
    && (!d.st5 || inStore d.stata (8 * m)) && (d.der = 0 || inStore d.auxa (m * n * (d.auxf.bits / 8)))
    && d.maska % 8 = 0 && (d.mform ≠ 1 || inStore d.maska (m * n / 8))

/-- A LOCAL or REMOTE destination lies in the core store, every element counted (R305). -/
def DrainReq.destOk (d : DrainReq) (m n tfmt : Nat) : Bool :=
  d.dest = 2 || (decide (d.daddr < 65536) && decide (fld (d.e 6) 0 52 < 65536) && decide (fld (d.e 7) 0 52 < 65536)
    && (if d.olpel then
        let t := d.planes
        let b := (t.place (d.rowo + m - 1) (d.colo + n - 1)).1
        t.inStore b
      else inStore (d.daddr + (d.rowo + m - 1) * d.pitch) ((d.colo + n) * d.esize tfmt)))

/-- The code with which a drain of an m x n total is refused (R305): DRAIN_INVALID, or FORMAT_INVALID for a QCW that R75
refuses. -/
def DrainReq.refusal (d : DrainReq) (m n tfmt : Nat) (ganged : Bool) : Option Nat :=
  let bad := !d.rsvOk || decide (10 < d.act) || decide (10 < d.der) || d.mact = 3 || d.dest = 3
    || decide (8 < fld (d.e 1) 0 4) || d.ornd = 3 || decide (8 < fld (d.e 9) 16 4)
    || (d.dest ≠ 1 && (d.close || d.stream ≠ 0)) || (d.dest = 1 && decide (1024000 ≤ d.tcore))
    || (d.raw && d.staged) || !d.derOk ganged
  if bad then some 0x29
  else if d.ofmt.olpel && decide (d.qcw.fmt ≠ fld (d.e 1) 0 4) then some 0x29
  else if d.ofmt.olpel && !d.qcw.ok then some 0x23
  else if (d.olpel && d.mact = 2) || !d.blocksOk m n || !(d.olpel || d.pitch % d.esize tfmt = 0)
      || !d.inputsOk m n || !d.destOk m n tfmt then some 0x29
  else none

/-- The s registers that a drain descriptor names: SCLS, BIASS, SLOPES (R299). -/
def drainRegs (e0 : Nat) : List Nat := [fld e0 9 5, fld e0 16 5, fld e0 25 5]

/-- A drain as accepted: the descriptor at s[SD] and the registers it names, or the code that refuses it (R298, R299). An Olpel
destination whose plane base is not 64-byte aligned against R58 is taken as it is (DESIGN CHOICE, log 63). -/
def drainAt (m : Mem) (G : Group) (sd : Nat) (release : Bool) : Except Nat DrainReq :=
  let a := G.sn sd
  if !(a % 64 = 0 && decide (a + 128 ≤ storeSize)) then .error 0x22 else
  let ws := (List.range 16).map fun k => BitVec.ofNat 64 (Mem.le m (a + 8 * k) 8)
  let r := drainRegs ((ws.getD 0 0).toNat)
  .ok { words := ws, scl := G.s (r.getD 0 0), bias := G.s (r.getD 1 0), slope := G.s (r.getD 2 0), release := release }

end Sys2Proof.Machine
end

