-- ==== Sys2Proof/Machine/Guard.lean ====
section
/-! DEFINITION. The guard code (R394-R397). -/

namespace Sys2Proof.Machine

/-- Multiply by α in GF(2^8) with polynomial 0x11D (R394). -/
def gfDouble (a : Nat) : Nat := if a < 128 then 2 * a else (2 * a) ^^^ 0x11D

/-- Multiplication in GF(2^8), by the bits of the second factor from the highest. -/
def gfMul (a b : Nat) : Nat :=
  [7, 6, 5, 4, 3, 2, 1, 0].foldl (fun r i => gfDouble r ^^^ (if b.testBit i then a else 0)) 0

/-- a to the 2^k. -/
def gfSquares (a : Nat) : Nat → Nat
  | 0 => a
  | k + 1 => gfMul (gfSquares a k) (gfSquares a k)

/-- The inverse: a^254. -/
def gfInv (a : Nat) : Nat :=
  [1, 2, 3, 4, 5, 6, 7].foldl (fun r k => gfMul r (gfSquares a k)) 1

/-- α to a power. -/
def gfPow : Nat → Nat
  | 0 => 1
  | n + 1 => gfDouble (gfPow n)

/-- Divide by x + α^k keeping the remainder: m mod g step by step, coefficients of the remainder c0-c3 (R395). -/
def gfFeed (c : List Nat) (v : Nat) : List Nat :=
  let f := v ^^^ c.getD 3 0
  -- g(x) = x^4 + 0x0F x^3 + 0x36 x^2 + 0x78 x + 0x40
  [gfMul f 0x40, c.getD 0 0 ^^^ gfMul f 0x78, c.getD 1 0 ^^^ gfMul f 0x36, c.getD 2 0 ^^^ gfMul f 0x0F]

/-- The check symbols c0-c3 of data symbols d0-d31 and the 32-bit address value (R395): the highest power first. -/
def guardCheck (data : List Nat) (addr : Nat) : List Nat :=
  ([fld addr 24 8, fld addr 16 8, fld addr 8 8, fld addr 0 8] ++ data.reverse).foldl gfFeed [0, 0, 0, 0]

/-- The position of the symbol of a lane: x^(i+4) for di, x^i for ci (R395, R396). -/
def symPos (lane : Nat) : Nat := if lane < 32 then lane + 4 else lane - 32

/-- Remove a point from a sequence of syndromes. -/
def gfStrip (a : Nat) : List Nat → List Nat
  | x :: y :: l => (y ^^^ gfMul a x) :: gfStrip a (y :: l)
  | [_] => []
  | [] => []

/-- Error values at some lanes that explain the syndromes, if they do. -/
def gfSolve (syn : List Nat) (lanes : List Nat) : Option (List (Nat × Nat)) :=
  let pt := fun l => gfPow (symPos l)
  if (lanes.foldl (fun s l => gfStrip (pt l) s) syn).any (· ≠ 0) then none else
  some (lanes.map fun l =>
    let others := lanes.filter (· ≠ l)
    let s := others.foldl (fun s o => gfStrip (pt o) s) syn
    let den := others.foldl (fun d o => gfMul d (pt l ^^^ pt o)) 1
    (l, gfMul (s.getD 0 0) (gfInv den)))

/-- The first value a function gives on a list. -/
def firstSome {α β : Type} (f : α → Option β) : List α → Option β
  | [] => none
  | x :: l => (f x).orElse fun _ => firstSome f l

/-- The syndromes of an error pattern over the 36 symbols: the code is linear, so they are those of the word. -/
def errSyn (err : List (Nat × Nat)) : List Nat :=
  (List.range 4).map fun j => err.foldl (fun s e => s ^^^ gfMul e.2 (gfPow (j * symPos e.1))) 0

/-- The syndromes of a word as read, 36 symbols: the check symbols of its data for the address value that the reader expects against
those read (R395). -/
def wordSyn (word : List Nat) (addr : Nat) : List Nat :=
  let c := guardCheck (word.take 32) addr
  (List.range 4).map fun j =>
    (List.range 4).foldl (fun s i => s ^^^ gfMul (c.getD i 0 ^^^ word.getD (32 + i) 0) (gfPow (j * i))) 0

/-- Decode by the syndromes, with erased lanes (R397): the error values that the decoder removes, for the fewest errors e with
2e + f at most 4, or none when the word is uncorrectable. -/
def guardDecode (syn : List Nat) (erased : List Nat) : Option (List (Nat × Nat)) :=
  let all := (List.range 36).filter fun l => !erased.contains l
  let f := erased.length
  if 4 < f then none else
  match gfSolve syn erased with
  | some r => some r
  | none =>
    if 4 < f + 2 then none else
    match firstSome (fun l => gfSolve syn (erased ++ [l])) all with
    | some r => some r
    | none =>
      if 4 < f + 4 then none
      else firstSome (fun l => firstSome (fun k => if l < k then gfSolve syn (erased ++ [l, k]) else none) all) all

/-- A symbol with an error pattern. -/
def symErr (err : List (Nat × Nat)) (l x : Nat) : Nat := err.foldl (fun x e => if e.1 = l then x ^^^ e.2 else x) x

/-- After decoding: what stays wrong in each data byte (a miscorrection), and the lanes corrected; none when uncorrectable. -/
def guardFixBy (syn : List Nat) (err : List (Nat × Nat)) (erased : List Nat) : Option (List (Nat × Nat) × List Nat) :=
  (guardDecode syn erased).map fun fix =>
    (((List.range 32).map fun l => (l, symErr err l 0 ^^^ symErr fix l 0)).filter (fun e => e.2 ≠ 0),
     (fix.filter fun e => e.2 ≠ 0 && !erased.contains e.1).map Prod.fst)

/-- A guard word with an error pattern, by the pattern alone (R397). -/
def guardFix (err : List (Nat × Nat)) (erased : List Nat) : Option (List (Nat × Nat) × List Nat) := guardFixBy (errSyn err) err erased

/-! ## DRAM words (R395, R396) -/

/-- The 36 symbols that a word's lanes carry: its 32 bytes and the check symbols for an address value; the address symbols are
never stored. -/
def wordSymbols (data : List Byte) (addr : Nat) : List Nat :=
  let d := data.map BitVec.toNat
  d ++ guardCheck d addr

/-! ## Flits of an Edzous port (R504) -/

/-- The 36 symbols of a flit: its 32 payload bytes and the check symbols, every address symbol zero. -/
def flitSymbols (payload : List Byte) : List Nat := wordSymbols payload 0

/-- The lane on which symbol k of flit n of a frame travels. -/
def symbolLane (n k : Nat) : Nat := (k + 4 * n) % 16

/-- What a lane carries of a frame of four flits, in order. -/
def laneSymbols (frame : List (List Nat)) (lane : Nat) : List Nat :=
  (List.range 4).flatMap fun n => ((List.range 36).filter fun k => symbolLane n k = lane).map fun k => (frame.getD n []).getD k 0

/-- A flit with an error pattern, flit n of its frame, at a receiver that treats the symbols of erased lanes as erasures: the
lanes of the symbols that it corrects, or none when the flit is uncorrectable (R397, R507). -/
def flitDecode (erased : List Nat) (n : Nat) (err : List (Nat × Nat)) : Option (List Nat) :=
  (guardFix (err.filter fun e => decide (e.1 < 36)) ((List.range 36).filter fun k => erased.contains (symbolLane n k))).map fun r =>
    r.2.map (symbolLane n)

end Sys2Proof.Machine
end

