-- ==== Sys2Proof/Machine/Mem.lean ====
section
/-! DEFINITION. Device memory: placement (R380-R387), the region cache (R388-R392, R403-R406), translation (R457-R464,
R475) and what a faulting access does (R694-R696). -/

namespace Sys2Proof.Machine

/-! ## Placement -/

/-- Granules of a channel (R379). -/
def granulesPerChannel : Nat := 5859375

/-- The number of a granule over the part: stack, channel and slot. -/
def gidOf (stack channel slot : Nat) : Nat := (stack * 32 + channel) * granulesPerChannel + slot

/-- The stack of a granule. -/
def gStack (gid : Nat) : Nat := gid / granulesPerChannel / 32
/-- The channel of a granule. -/
def gChannel (gid : Nat) : Nat := gid / granulesPerChannel % 32
/-- The slot of a granule. -/
def gSlot (gid : Nat) : Nat := gid % granulesPerChannel

/-- The region cache slice of a granule (R387). -/
def gSlice (gid : Nat) : Nat := 2 * gChannel gid + gSlot gid % 2
/-- The set of a granule within its slice (R387). -/
def gSet (gid : Nat) : Nat := gSlot gid / 2 % 256

/-- The bank and row of a granule's slot (R387). -/
def bankRow (slot : Nat) : Nat × Nat := let r := slot >>> 2; ((r % 64) ^^^ (r >>> 6 % 64), r >>> 6)

/-- The placement pseudocode (R387): stack, channel and slot of byte offset o of a frame. -/
def place (o u0 mask : Nat) : Nat × Nat × Nat :=
  let named := bitsOf 64 mask
  let cb := 5 + Nat.log2 named.length
  let g := o >>> 8
  let lo := g % 2 ^ cb
  let q := g >>> cb
  let t := ((q * 0x9D) ^^^ (u0 * 0x2B3) ^^^ (u0 >>> 7)) % 2 ^ 16
  let ci := lo ^^^ (t % 2 ^ cb)
  (named.getD (ci >>> 5) 0, ci % 32, 4 * u0 + q)

/-- MEM_PLACE_MASK[i] (R382). -/
def Gk1.placeMask (s : Gk1) (i : Nat) : Nat := s.reg (0x300000 + 8 * i) (if i = 0 then 2 ^ 64 - 1 else 0)

/-- MEM_PLACE_ATTR[i] (R382). -/
def Gk1.placeAttr (s : Gk1) (i : Nat) : Nat := s.reg (0x300800 + 4 * i) (b2n (decide (i = 0)))

/-- A mask names a number of stacks that R382 allows. -/
def maskOk (mask : Nat) : Bool := [1, 2, 4, 8, 16, 32, 64].contains (bitsOf 64 mask).length

/-- The granule behind a frame locator and offset, with STREAM of its entry, or PLACE_INVALID (R381-R387). -/
def Gk1.locate (s : Gk1) (loc ofs : Nat) : Except Nat (Nat × Bool) :=
  let i := fld loc 21 8
  let u0 := fld loc 0 21
  let mask := s.placeMask i
  let attr := s.placeAttr i
  if !attr.testBit 0 || fld loc 29 3 ≠ 0 || decide (1464831 < u0 + 64 / (bitsOf 64 mask).length - 1) then .error 0x41 else
  let p := place ofs u0 mask
  .ok (gidOf p.1 p.2.1 p.2.2, attr.testBit 1)

/-! ## The region cache -/

/-- Bytes of a sector in a map of offsets. -/
def sectorBytes (m : Mem) (base sec : Nat) : List Byte := Mem.bytes m (base + 32 * sec) 32

/-- The line with a sector of bytes put in. -/
def Line.setSector (L : Line) (sec : Nat) (bytes : List Byte) : Line := { L with data := Mem.writeAll L.data (32 * sec) bytes }

/-- A bit of a sector mask. -/
def bit8 (n : Nat) : BitVec 8 := BitVec.ofNat 8 (2 ^ n)

/-- Word number on a bad-word list (R406). -/
def wordNo (gid sec : Nat) : Nat := gid * 8 + sec

/-- The word is on its region's bad-word list. -/
def Gk1.listed (s : Gk1) (gid sec : Nat) : Bool := (s.region (gStack gid)).badWords.contains (wordNo gid sec)

/-- Take a word off the list (R406). -/
def Gk1.unlist (s : Gk1) (gid sec : Nat) : Gk1 :=
  if s.listed gid sec then s.modRegion (gStack gid) fun r => { r with badWords := r.badWords.filter (· ≠ wordNo gid sec) } else s

/-- Write back the dirty sectors of a line, but no BAD one; a word written whole leaves the bad-word list (R390, R405, R406). -/
def Gk1.writeBack (s : Gk1) (gid : Nat) (L : Line) : Gk1 :=
  (List.range 8).foldl (fun s sec =>
    if L.dirty.getLsbD sec && !L.bad.getLsbD sec then
      { s.unlist gid sec with dram := Mem.writeAll s.dram (gid * 256 + 32 * sec) (sectorBytes L.data 0 sec) }
    else s) s

/-- Evict a line (R390, R405). -/
def Gk1.evict (s : Gk1) (gid : Nat) : Gk1 :=
  match NMap.get? s.cache gid with
  | none => s
  | some L => let s := s.writeBack gid L; { s with cache := NMap.erase s.cache gid }

/-- MEM_RC_CTL.OWNERWAYS; values above 16 read back as 16 (R391). -/
def Gk1.ownerWays (s : Gk1) : Nat := s.reg 0x300C00 12 % 32

/-- An owner way: one that fills of the region's owner may take (R391, R392); OWNERWAYS 0 and 16 give it every way (log 69). -/
def Gk1.ownerWay (s : Gk1) (w : Nat) : Bool := s.ownerWays = 0 || decide (w < s.ownerWays)

/-- The ways that an access of a context may take in a set, a dead way left out (R391, R690). -/
def Gk1.ways (s : Gk1) (gid ctx : Nat) : List Nat :=
  let o := s.ownerWays
  let mine := decide ((s.region (gStack gid)).owner = some ctx)
  (List.range 16).filter fun w =>
    (o = 0 || o = 16 || (if mine then decide (w < o) else decide (o ≤ w)))
      && !s.held.deadWays.contains (gStack gid, gSlice gid, gSet gid, w)

/-- The lines of a granule's set. -/
def Gk1.setLines (s : Gk1) (gid : Nat) : List (Nat × Line) :=
  s.cache.filter fun e => gStack e.1 = gStack gid && gSlice e.1 = gSlice gid && gSet e.1 = gSet gid

/-- The line used least recently. -/
def oldest : List (Nat × Line) → Option (Nat × Line)
  | [] => none
  | e :: l => match oldest l with
    | some o => some (if o.2.stamp < e.2.stamp then o else e)
    | none => some e

/-- Give a granule a line: a free way, or the least recently used one of the ways allowed (R390, R391). A STREAM fill enters below
every line of the set. Without a usable way the access goes past the cache. -/
def Gk1.allocLine (s : Gk1) (gid ctx : Nat) (stream : Bool) : Gk1 :=
  if NMap.has s.cache gid then s else
  let ls := s.setLines gid
  let ways := s.ways gid ctx
  let fresh := fun (s : Gk1) (w : Nat) =>
    { s with stamp := s.stamp + 1, cache := NMap.set s.cache gid {
        way := w, stamp := if stream then (ls.foldl (fun m e => min m e.2.stamp) 0) - 1 else Int.ofNat (s.stamp + 1) } }
  match ways.find? fun w => !ls.any fun e => e.2.way = w with
  | some w => fresh s w
  | none =>
    match oldest (ls.filter fun e => ways.contains e.2.way) with
    | some v => fresh (s.evict v.1) v.2.way
    | none => s

/-- Mark a line as just used. The access that a STREAM fill served is no later use of the line (log 68). -/
def Gk1.touch (s : Gk1) (gid sec : Nat) : Gk1 :=
  { s with stamp := s.stamp + 1, cache := NMap.upd s.cache gid fun L =>
      if L.streamed.getLsbD sec then { L with streamed := L.streamed &&& ~~~(bit8 sec) } else { L with stamp := Int.ofNat (s.stamp + 1) } }

/-- A sector's data enter a line; a sector written meanwhile keeps its new data. -/
def Line.fill (sec : Nat) (bad stream : Bool) (bs : List Byte) (L : Line) : Line :=
  if L.valid.getLsbD sec then L else
  { L.setSector sec bs with
    valid := L.valid ||| bit8 sec, bad := if bad then L.bad ||| bit8 sec else L.bad
    streamed := if stream then L.streamed ||| bit8 sec else L.streamed }

/-- What an access to a sector at its home meets. -/
inductive Hit where
  | done (s : Gk1)
  | miss
  | fault (code : Nat)

/-- The bytes of a patch inside one sector: offsets within the granule. -/
def wholeSector (patch : Mem) : Bool := decide (32 ≤ (patch.map Prod.fst).eraseDups.length)

/-- Write bytes of one sector at its home (R389, R404): a whole sector is taken without a fill and clears BAD; part of one
needs the sector filled, and faults when it is BAD. -/
def Gk1.cacheWrite (s : Gk1) (gid sec : Nat) (patch : Mem) (ctx : Nat) : Hit :=
  if (s.region (gStack gid)).stackLost then .fault 0x42 else
  let put := fun (s : Gk1) => { s with cache := NMap.upd s.cache gid fun L => { L with
      valid := L.valid ||| bit8 sec, dirty := L.dirty ||| bit8 sec, bad := L.bad &&& ~~~(bit8 sec)
      data := Mem.patch L.data 0 patch } }
  if wholeSector patch then
    let s := (s.allocLine gid ctx false).unlist gid sec
    if NMap.has s.cache gid then .done ((put s).touch gid sec) else .done { s with dram := Mem.patch s.dram (gid * 256) patch }
  else
    match NMap.get? s.cache gid with
    | none => .miss
    | some L =>
      if !L.valid.getLsbD sec then .miss
      else if L.bad.getLsbD sec then .fault 0x42
      else .done ((put s).touch gid sec)

/-- Read a sector at its home, when it is there (R389, R403). -/
def Gk1.cacheRead (s : Gk1) (gid sec : Nat) : Hit :=
  if (s.region (gStack gid)).stackLost then .fault 0x42 else
  match NMap.get? s.cache gid with
  | none => .miss
  | some L =>
    if !L.valid.getLsbD sec then .miss
    else if L.bad.getLsbD sec then .fault 0x42
    else .done (s.touch gid sec)

/-- Ask the stack for a sector (R389). -/
def Gk1.askFill (s : Gk1) (gid sec ctx : Nat) (stream : Bool) : Gk1 :=
  if NMap.has s.fills (wordNo gid sec) then s else { s with fills := NMap.set s.fills (wordNo gid sec) (ctx, stream) }

/-- The bytes that a byte range of one sector now holds at its home, wherever they are (log 16). -/
def Gk1.peek (s : Gk1) (gid ofs n : Nat) : Except Nat (List Byte) :=
  if (s.region (gStack gid)).stackLost then .error 0x42 else
  let sec := ofs / 32
  let cached := match NMap.get? s.cache gid with
    | some L => if L.valid.getLsbD sec then some L else none
    | none => none
  match cached with
  | some L => if L.bad.getLsbD sec then .error 0x42 else .ok (Mem.bytes L.data ofs n)
  | none => if s.listed gid sec then .error 0x42 else .ok (Mem.bytes s.dram (gid * 256 + ofs) n)

/-- Write bytes of one sector at its home for an engine of the queue engine. A whole sector is allocated without a fill; part of
one fills its sector first, at once and without error (log 16), and faults when the sector is bad (R389, R404). -/
def Gk1.poke (s : Gk1) (gid ofs : Nat) (bytes : List Byte) (ctx : Nat) (stream : Bool) : Except Nat Gk1 :=
  let sec := ofs / 32
  let whole := decide (bytes.length = 32)
  match s.peek gid ofs 1, whole with
  | .error e, false => .error e
  | _, _ =>
    let fill := fun (s : Gk1) => { s with
      cache := NMap.upd s.cache gid (Line.fill sec false stream (sectorBytes s.dram (gid * 256) sec)) }
    let s := if whole then s else fill (s.allocLine gid ctx stream)
    match s.cacheWrite gid sec (((List.range bytes.length).zip bytes).map fun e => (ofs + e.1, e.2)) ctx with
    | .done s => .ok s
    | .fault e => .error e
    | .miss => .ok { s with dram := Mem.writeAll s.dram (gid * 256 + ofs) bytes }

/-! ## Translation -/

/-- What a translated address names. -/
inductive Leaf where
  /-- a frame locator and an offset in the frame -/
  | dev (loc ofs : Nat)
  /-- a host bus address -/
  | host (addr : Nat)
  deriving DecidableEq, Repr

/-- The 8-byte word at an offset of a frame. -/
def Gk1.frameWord (s : Gk1) (loc ofs : Nat) : Except Nat Nat :=
  match s.locate loc ofs with
  | .error e => .error e
  | .ok (gid, _) =>
    match s.peek gid (ofs % 256) 8 with
    | .error e => .error e
    | .ok bs => .ok (leNat bs)

/-- A frame is a table frame of the context: its context block frame, or named by a valid entry of its list (R459). -/
def Gk1.tableFrame (s : Gk1) (c frame : Nat) : Bool :=
  let cb := (s.ctx c).cbFrame.toNat
  decide (frame = cb) || (List.range 64).any fun i =>
    match s.frameWord cb (0x120000 + 8 * i) with
    | .ok e => e.testBit 32 && decide (fld e 0 32 = frame)
    | .error _ => false

/-- Walk the levels from a table (R462, R463): each level is the lowest VA bit and the number of bits of its index. -/
def Gk1.walk (s : Gk1) (c : Nat) (write enforced : Bool) (va : Nat) : List (Nat × Nat) → Nat → Nat → Except Nat Leaf
  | [], _, _ => .error 0x40
  | (sh, len) :: rest, frame, base =>
    match s.frameWord frame (base + fld va sh len * 8) with
    | .error e => .error e
    | .ok e =>
      if !e.testBit 0 then .error 0x40
      else if e.testBit 1 then
        if 2 ≤ rest.length || (write && !e.testBit 2) then .error 0x40
        else if enforced && (match s.frameWord (s.ctx c).cbFrame.toNat (0x10000 + fld e 4 12 * 16 + 8) with
            | .ok w => decide (fld w 0 2 ≠ 1) && decide (fld w 0 2 ≠ 2)
            | .error _ => true) then .error 0x40
        else if e.testBit 3 then .ok (.host (fld e sh (64 - sh) * 2 ^ sh + va % 2 ^ sh))
        else .ok (.dev (fld e 32 32) (va % 2 ^ sh + (if sh = 16 then fld e 16 5 * 65536 else 0)))
      else if rest.isEmpty then .error 0x40
      else
        let f := fld e 32 32
        let off := fld e 16 13
        if !s.tableFrame c f || (decide (2 ≤ rest.length) && decide (off % 16 ≠ 0)) then .error 0x40
        else s.walk c write enforced va rest f (off * 256)

/-- The four levels: lowest bit and bits of each index. -/
def levels : List (Nat × Nat) := [(39, 13), (30, 9), (21, 9), (16, 5)]

/-- Translate a device address of a context (R458, R462-R464; R475 for an ENFORCED queue). -/
def Gk1.translate (s : Gk1) (c : Nat) (write enforced : Bool) (va : Nat) : Except Nat Leaf :=
  if c = 0 then (if 2 ^ 50 ≤ va then .error 0x40 else .ok (.dev (va >>> 21) (va % 2 ^ 21)))
  else if 2 ^ 52 ≤ va then .error 0x40
  else s.walk c write enforced va levels (s.ctx c).cbFrame.toNat 0

/-! ## Bytes at their homes, for the engines that the queue engine runs (log 16) -/

/-- Read n bytes of device memory that lie in one sector. What a host page holds is not the part's: the bytes are open, one per value
of Gk1.free, and so is whether the host's completion is a good one (log 16); with the link closed the read faults (R417, R464). -/
def Gk1.readVA (s : Gk1) (c : Nat) (enforced : Bool) (va n : Nat) : Except Nat (List Byte) :=
  match s.translate c false enforced va with
  | .error e => .error e
  | .ok (.host a) =>
    if s.linkOpen && Config.hostGood s.free a then .ok ((List.range n).map fun k => Config.hostByte s.free (a + k)) else .error 0x44
  | .ok (.dev loc ofs) =>
    match s.locate loc ofs with
    | .error e => .error e
    | .ok (gid, _) => s.peek gid (ofs % 256) n

/-- Write bytes of device memory that lie in one sector; bytes of a host page are posted (R464). -/
def Gk1.writeVA (s : Gk1) (c : Nat) (enforced : Bool) (va : Nat) (bytes : List Byte) : Except Nat Gk1 :=
  match s.translate c true enforced va with
  | .error e => .error e
  | .ok (.host a) => .ok (s.post a bytes)
  | .ok (.dev loc ofs) =>
    match s.locate loc ofs with
    | .error e => .error e
    | .ok (gid, stream) => s.poke gid (ofs % 256) bytes c stream

/-- The pieces of a byte range that lie in one sector each: address and length. -/
def sectorsOf : Nat → Nat → Nat → List (Nat × Nat)
  | 0, _, _ => []
  | fuel + 1, a, n =>
    if n = 0 then [] else
    let k := min n (32 - a % 32)
    (a, k) :: sectorsOf fuel (a + k) (n - k)

/-- The sectors of a byte range. -/
def sectors (a n : Nat) : List (Nat × Nat) := sectorsOf (n / 32 + 2) a n

/-- Read a byte range of device memory; the first fault ends it. -/
def Gk1.readRange (s : Gk1) (c : Nat) (enforced : Bool) : List (Nat × Nat) → Except Nat (List Byte)
  | [] => .ok []
  | (a, k) :: rest =>
    match s.readVA c enforced a k, s.readRange c enforced rest with
    | .ok b, .ok bs => .ok (b ++ bs)
    | .error e, _ => .error e
    | _, .error e => .error e

/-- An address of a context translates to host memory. -/
def Gk1.onHost (s : Gk1) (c : Nat) (a : Nat) : Bool := match s.translate c false false a with
  | .ok (.host _) => true
  | .ok (.dev _ _) => false
  | .error _ => false

/-- Read a byte range for a peer, which reaches only device memory: a host page faults PAGE_FAULT (R523-R525, log 35). -/
def Gk1.readPeer (s : Gk1) (c : Nat) : List (Nat × Nat) → Except Nat (List Byte)
  | [] => .ok []
  | (a, k) :: rest =>
    match if s.onHost c a then Except.error 0x40 else s.readVA c false a k, s.readPeer c rest with
    | .ok b, .ok bs => .ok (b ++ bs)
    | .error e, _ => .error e
    | _, .error e => .error e

/-- Write a byte range of device memory; the first fault ends it, keeping what was written and the count of bytes. -/
def Gk1.writeRange (s : Gk1) (c : Nat) (enforced : Bool) : List (Nat × Nat) → List Byte → Gk1 × Option Nat
  | [], _ => (s, none)
  | (a, k) :: rest, bs =>
    match s.writeVA c enforced a (bs.take k) with
    | .error e => (s, some e)
    | .ok s => s.writeRange c enforced rest (bs.drop k)

/-- Bytes of a range that device memory holds. -/
def Gk1.devBytes (s : Gk1) (c a n : Nat) : Nat := (((sectors a n).filter fun p => !s.onHost c p.1).map Prod.snd).sum

/-- Work of a context has read a range: DRAM_RD (R743). -/
def Gk1.hasRead (s : Gk1) (c a n : Nat) : Gk1 := s.countCtx c 7 (s.devBytes c a n)

/-- Work of a context has written a range: DRAM_WR (R743). -/
def Gk1.hasWritten (s : Gk1) (c a n : Nat) : Gk1 := s.countCtx c 8 (s.devBytes c a n)

/-! ## Faulted accesses -/

/-- A fault of an accepted instruction of a kernel: an instruction's first fault is kept (R695). -/
def Gk1.kernelFault (s : Gk1) (kid rid core code : Nat) : Gk1 :=
  s.modKernel kid fun K => { K with
    efaults := if K.efaults.any fun f => f.1 = rid then K.efaults else K.efaults ++ [(rid, core, BitVec.ofNat 8 code)] }

/-- A faulted access of a kernel's instruction: counted, recorded, and the kernel's first one is reported (R694-R696). -/
def Gk1.accessFault (s : Gk1) (kid ctx rid core code addr : Nat) : Gk1 :=
  let s := (s.countCtx ctx 11 1).kernelFault kid rid core code
  match NMap.get? s.kernels kid with
  | none => s
  | some K =>
    if K.reported then s else
    (s.modKernel kid fun K => { K with reported := true }).report {
      kind := 1, status := code, ctx := ctx, queue := K.queue, unit := clusterOf core, place := s.placeOf (clusterOf core)
      detail := addr }

end Sys2Proof.Machine
end

