-- ==== Sys2Proof/Machine/Path.lean ====
section
/-! DEFINITION. Where units sit at the wafer edges (R30) and the way of a packet over the mesh (R32, R33): the regions and the
routers that it crosses. What a packet does on its way is nobody's to see: every step that delivers one does so at its end, which
these paths reach (log 67). -/

namespace Sys2Proof.Machine

/-! ## The edges -/

/-- An edge of the wafer or a side of a region, in the numbering of the edges. -/
inductive Side where
  | north | east | south | west
  deriving DecidableEq, Repr

/-- The edge of a number. -/
def sideOf (e : Nat) : Side := [Side.north, .east, .south, .west].getD e .west

/-- The position on its edge of a port index i (R30). -/
def portPosition (i : Nat) : Nat := [0, 0, 1, 2, 2, 3, 4, 4, 5, 6, 6, 7].getD i 0

/-- The boundary region at position k of an edge: from west to east, or from south to north (R15, R30). -/
def edgeRegion (e : Side) (k : Nat) : Nat := match e with
  | .north => 56 + k
  | .east => 8 * k + 7
  | .south => k
  | .west => 8 * k

/-- The edge that a port sits on (R30). -/
def portEdge (p : Nat) : Side := sideOf (p / 12)

/-- The region whose outward edge interface a port attaches to, which routes what the port receives (R30, R518). -/
def portRegion (p : Nat) : Nat := edgeRegion (portEdge p) (portPosition (p % 12))

/-- The two regions that a reduction engine sits beside: engines 4e to 4e + 3 are between adjacent positions of edge e. -/
def engineRegions (n : Nat) : Nat × Nat :=
  (edgeRegion (sideOf (n / 4)) (2 * (n % 4)), edgeRegion (sideOf (n / 4)) (2 * (n % 4) + 1))

/-! ## The way of a packet -/

/-- The numbers from a to b, both included. -/
def stepsFrom (a b : Nat) : List Nat :=
  if a ≤ b then (List.range (b - a + 1)).map (a + ·) else (List.range (a - b + 1)).map (a - ·)

/-- From one point of a grid to another in dimension order, first along x and then along y, both ends included (R32). -/
def gridPath (a b : Nat × Nat) : List (Nat × Nat) :=
  (stepsFrom a.1 b.1).map (fun x => (x, a.2)) ++ ((stepsFrom a.2 b.2).drop 1).map fun y => (b.1, y)

/-- Coordinates of a region (R15). -/
def regionXY (r : Nat) : Nat × Nat := (r % 8, r / 8)

/-- The regions that a packet crosses, first along rx and then along ry (R33). -/
def regionPath (src dst : Nat) : List Nat := (gridPath (regionXY src) (regionXY dst)).map fun p => p.2 * 8 + p.1

/-- The edge interface through which a packet from another region enters the last region of its way: the side facing the last
hop (R33). -/
def entrySide (src dst : Nat) : Option Side :=
  let a := regionXY src
  let b := regionXY dst
  if a.2 < b.2 then some .south else if b.2 < a.2 then some .north
  else if a.1 < b.1 then some .west else if b.1 < a.1 then some .east else none

/-- The router at link n of a side of a region, n rising with x or y. -/
def sideRouter (r : Nat) (e : Side) (n : Nat) : Nat × Nat := match e with
  | .north => (r % 8 * 64 + n, r / 8 * 64 + 63)
  | .east => (r % 8 * 64 + 63, r / 8 * 64 + n)
  | .south => (r % 8 * 64 + n, r / 8 * 64)
  | .west => (r % 8 * 64, r / 8 * 64 + n)

/-- The routers of the destination's region that a packet crosses: from the sender's router when the sender is in that region, and
else from the router of the link n at which it entered (R32, R33). -/
def Gk1.lastRouters (s : Gk1) (src dst n : Nat) : List (Nat × Nat) :=
  gridPath (match entrySide (regionOf src) (regionOf dst) with
    | none => s.routerOf src
    | some e => sideRouter (regionOf dst) e n) (s.routerOf dst)

end Sys2Proof.Machine
end

