-- ==== Sys2Proof/Machine/Route.lean ====
section
/-! DEFINITION. Edzous packets: header fields (R514), classes and types (R515), results (R516), routes (R517, R518),
credits and the replay store (R507, R510, R511). -/

namespace Sys2Proof.Machine

/-- TYPE. -/
def pType (p : Packet) : Nat := fld p.h0.toNat 0 5
/-- HOPS. -/
def pHops (p : Packet) : Nat := fld p.h0.toNat 5 3
/-- LEN. -/
def pLen (p : Packet) : Nat := fld p.h0.toNat 8 4
/-- PID. -/
def pPid (p : Packet) : Nat := fld p.h0.toNat 16 16
/-- DST. -/
def pDst (p : Packet) : Nat := fld p.h0.toNat 32 32
/-- SRC. -/
def pSrc (p : Packet) : Nat := fld p.h1.toNat 0 32
/-- SCORE. -/
def pScore (p : Packet) : Nat := fld p.h1.toNat 32 20
/-- STREAM. -/
def pStream (p : Packet) : Nat := fld p.h1.toNat 52 4
/-- EPOCH. -/
def pEpoch (p : Packet) : Nat := fld p.h1.toNat 56 8
/-- ADDR. -/
def pAddr (p : Packet) : Nat := fld p.h2.toNat 0 52
/-- JOB. -/
def pJob (p : Packet) : Nat := fld p.h2.toNat 52 12
/-- TAG. -/
def pTag (p : Packet) : Nat := fld p.h3.toNat 0 32
/-- ECOUNT. -/
def pEcount (p : Packet) : Nat := fld p.h3.toNat 32 24
/-- STATUS of an answer. -/
def pStatus (p : Packet) : Nat := fld p.h3.toNat 32 8
/-- RESULT of an answer. -/
def pResult (p : Packet) : Nat := fld p.h3.toNat 56 8

/-- The fields of a header. -/
structure Hdr where
  type : Nat
  len : Nat := 0
  pid : Nat := 0
  dst : Nat
  src : Nat
  score : Nat := 0
  stream : Nat := 0
  epoch : Nat := 0
  addr : Nat := 0
  job : Nat := 0
  tag : Nat := 0
  ecount : Nat := 0
  result : Nat := 0

/-- A packet with a header and payload; HOPS is 0 at the source (R512, R514). -/
def Hdr.packet (h : Hdr) (payload : List Byte) : Packet :=
  { h0 := BitVec.ofNat 64 (h.type + h.len * 2 ^ 8 + h.pid * 2 ^ 16 + h.dst * 2 ^ 32)
    h1 := BitVec.ofNat 64 (h.src + h.score * 2 ^ 32 + h.stream * 2 ^ 52 + h.epoch * 2 ^ 56)
    h2 := BitVec.ofNat 64 (h.addr % 2 ^ 52 + h.job * 2 ^ 52)
    h3 := BitVec.ofNat 64 (h.tag + h.ecount * 2 ^ 32 + h.result * 2 ^ 56)
    payload := payload }

/-- Flits of a packet: its header and its payload sectors. -/
def pFlits (p : Packet) : Nat := 1 + ceilDiv p.payload.length 32

/-- The flits of a packet: the header words H0-H3, then the payload sectors (R514). -/
def packetFlits (p : Packet) : List (List Byte) :=
  (leBytes 8 p.h0.toNat ++ leBytes 8 p.h1.toNat ++ leBytes 8 p.h2.toNat ++ leBytes 8 p.h3.toNat)
    :: (List.range (ceilDiv p.payload.length 32)).map fun i => (p.payload.drop (32 * i)).take 32

/-- Mesh class of a type: 0 management, 1 reply, 2 request, 3 bulk; none for a type outside the table (R510, R515). -/
def classOf (type : Nat) : Option Nat :=
  if type = 8 || type = 9 || type = 10 || type = 12 then some 0
  else if type = 5 || type = 6 then some 1
  else if 1 ≤ type && type ≤ 4 then some 2
  else if 0x10 ≤ type && type ≤ 0x17 then some 3
  else none

/-- The part's own address, FAB_ID (R517). -/
def Gk1.self (s : Gk1) : Nat := s.reg 0x400000 0

/-- Part number of a peer part address: GROUP x 256 + MEMBER (R520). -/
def partNo (addr : Nat) : Nat := addr % 65536

/-- FAB_CTXPART[c] (R520). -/
def Gk1.ctxPart (s : Gk1) (c : Nat) : Nat := if c = 0 then 0 else s.reg (0x402000 + 8 * c) 0

/-- A partition entry is VALID and its range contains a part (R520-R522). -/
def inPart (entry addr : Nat) : Bool :=
  entry.testBit 49 && decide (fld entry 16 16 ≤ partNo addr) && decide (partNo addr < fld entry 16 16 + fld entry 32 17)

/-- A port that packets may be routed to: UP or DEGRADED (R518). -/
def Gk1.portUp (s : Gk1) (p : Nat) : Bool := (s.port p).state = 2 || (s.port p).state = 3

/-- Where a packet goes (R518). -/
inductive Way where
  | foreign
  | self
  | none
  | port (n : Nat)
  deriving DecidableEq, Repr

/-- The route table entry toward a part, as a register (R518). -/
def Gk1.routeReg (s : Gk1) (dst : Nat) : Nat :=
  if fld dst 8 8 = fld s.self 8 8 then 0x401800 + 8 * fld dst 0 8 else 0x401000 + 8 * fld dst 8 8

/-- Usable ports toward a part. -/
def Gk1.waysTo (s : Gk1) (dst : Nat) : List Nat := (bitsOf 48 (s.reg (s.routeReg dst) 0)).filter s.portUp

/-- The route pseudocode (R518). A received packet is routed in portRegion of its port; the copies of the tables in the regions
always agree, since every write reaches all of them (R518, R519). -/
def Gk1.route (s : Gk1) (p : Packet) : Way :=
  if fld (pDst p) 16 16 ≠ fld s.self 16 16 then .foreign
  else if pDst p = s.self then .self
  else
    let up := s.waysTo (pDst p)
    match up[((pTag p ^^^ pScore p) ^^^ (pSrc p ^^^ pStream p)) % up.length]? with
    | some n => .port n
    | none => .none

/-- The pseudo-port through which a packet addressed to the part itself is delivered (R518, log 20). -/
def selfPort : Nat := 48

/-- Flits reserved for a pool (R510). -/
def reservedOf (pool : Nat) : Nat := if pool < 4 then 512 else 256

/-- Flits of a replay store and of the shared share (R507, R510). -/
def replayFlits : Nat := 262144
/-- Flits of the shared share. -/
def sharedFlits : Nat := 228352

/-- The pool of a packet on a link: its class and the VC equal to its HOPS (R510, R512). -/
def poolOf (p : Packet) : Nat := (classOf (pType p)).getD 0 * 4 + pHops p % 4

/-- Flits that a pool has in its reserved share. -/
def Shares.own (S : Shares) (pool : Nat) : Nat := (((NMap.getD S pool []).filter fun r => !r.1).map Prod.snd).sum

/-- Flits of all pools in the shared share. -/
def Shares.shared (S : Shares) : Nat := (S.map fun e => ((e.2.filter fun r => r.1).map Prod.snd).sum).sum

/-- Flits that a pool has in both shares. -/
def Shares.total (S : Shares) (pool : Nat) : Nat := ((NMap.getD S pool []).map Prod.snd).sum

/-- Take room for a packet: all of it in the reserved share of its pool, else all of it in the shared share (R511). -/
def Shares.fill (S : Shares) (pool flits : Nat) : Option Shares :=
  let run := NMap.getD S pool []
  if Shares.own S pool + flits ≤ reservedOf pool then some (NMap.put S pool (run ++ [(false, flits)]) [])
  else if Shares.shared S + flits ≤ sharedFlits then some (NMap.put S pool (run ++ [(true, flits)]) [])
  else none

/-- Runs of flits without the oldest n flits. -/
def dropFlits : Nat → List (Bool × Nat) → List (Bool × Nat)
  | _, [] => []
  | n, r :: l => if n < r.2 then (r.1, r.2 - n) :: l else dropFlits (n - r.2) l

/-- Flits of a pool leave, the oldest first, each from the share in which it stands (R511, log 44). -/
def Shares.leave (S : Shares) (pool flits : Nat) : Shares := NMap.put S pool (dropFlits flits (NMap.getD S pool [])) []

/-- Put a packet on a link when credits for all its flits are held and the replay store has room (R507, R511). -/
def Port.transmit (P : Port) (p : Packet) : Option Port :=
  let n := pFlits p
  let stored := (P.store.map fun e => pFlits e.2.2).sum
  if replayFlits < stored + n then none else
  (Shares.fill P.taken (poolOf p) n).map fun taken => { P with
    taken := taken, txCount := (P.txCount + n) % 2 ^ 32, store := P.store ++ [(P.txCount, 0, p)], sent := P.sent ++ [p] }

/-- The pool in which a received packet stood: that of its link (R510, R512). -/
def cameIn (p : Packet) : Nat := (classOf (pType p)).getD 0 * 4 + (pHops p + 3) % 4

/-- Flits of a pool of a port's receive store whose packets still wait for credits on another port. -/
def Gk1.stuck (s : Gk1) (port pool : Nat) : Nat :=
  (s.ports.map fun e => ((e.2.waiting.filter fun w => w.1 = some port && cameIn w.2 = pool).map fun w => pFlits w.2).sum).sum

/-- CREDITS of a pool: units of 64 flits that have left the receive store (R508, R511). -/
def Gk1.owed (s : Gk1) (port pool : Nat) : Nat := min 15 ((Shares.total (s.port port).room pool - s.stuck port pool) / 64)

/-- A LINK flit of a port with its RXCOUNT and CREDITS (R508). -/
def Gk1.linkFlit (s : Gk1) (p h1 h3 : Nat) : LinkFlit :=
  { h0 := BitVec.ofNat 64 (0x1F + (s.port p).rxCount * 2 ^ 32), h1 := BitVec.ofNat 64 h1
    h2 := BitVec.ofNat 64 ((List.range 16).map fun pool => s.owed p pool * 2 ^ (4 * pool)).sum
    h3 := BitVec.ofNat 64 (h3 + s.self * 2 ^ 32) }

/-- Send a LINK flit, with a request, a notice, or neither: the credits that it returns leave the receive store. -/
def Gk1.notify (s : Gk1) (p h1 h3 : Nat) : Gk1 :=
  s.modPort p fun P => { P with
    notices := P.notices ++ [s.linkFlit p h1 h3]
    room := (List.range 16).foldl (fun S pool => Shares.leave S pool (64 * s.owed p pool)) P.room }

/-- Send a packet on a port, or let it wait for credits behind the packets of its pool that wait (R511). With nothing else to
send, the port then sends a LINK flit (R508, log 45). -/
def Gk1.sendOn (s : Gk1) (n : Nat) (w : Option Nat × Packet) : Gk1 :=
  let P := s.port n
  match if P.waiting.any fun k => poolOf k.2 = poolOf w.2 then none else P.transmit w.2 with
  | some P' => (s.modPort n fun _ => P').notify n 0 0
  | none => s.modPort n fun P => { P with waiting := P.waiting ++ [w] }

/-- Send the waiting packets that now have credits, in order within a pool; the ports that had received them return their
credits. -/
def Gk1.pumpPort (s : Gk1) (n : Nat) : Gk1 :=
  let ws := (s.port n).waiting
  let t := ws.foldl (fun s w => s.sendOn n w) (s.modPort n fun P => { P with waiting := [] })
  (List.range 48).foldl (fun t k =>
    if (ws.any fun w => w.1 = some k) && (List.range 16).any fun pool => t.stuck k pool < s.stuck k pool then t.notify k 0 0 else t) t

/-- Route and send a packet that came in on a port, or is the part's own; false when no port is usable (R518). -/
def Gk1.sendFrom (s : Gk1) (came : Option Nat) (p : Packet) : Gk1 × Bool :=
  match s.route p with
  | .foreign => (s.countDrop 0, true)
  | .self => (s.modPort selfPort fun P => { P with sent := P.sent ++ [p] }, true)
  | .none => (s, false)
  | .port n => (s.sendOn n (came, p), true)

/-- Route and send a packet of the part's own. -/
def Gk1.sendPacket (s : Gk1) (p : Packet) : Gk1 × Bool := s.sendFrom none p

/-- Send a packet that no message of the part stands for: an answer, a watch packet, a RECOVER. Without a usable port it is
kept, and sent again as after NO_ROUTE (R518, R538). -/
def Gk1.sendKept (s : Gk1) (p : Packet) : Gk1 :=
  let r := s.sendPacket p
  if r.2 then r.1 else { s with kept := NMap.set s.kept s.nextId (p, s.dtime), nextId := s.nextId + 1 }

/-- FAB_CTL. -/
def Gk1.fabCtl (s : Gk1) : Nat := s.reg 0x400008 (10 * 256 + 10 * 65536)

/-- FAB_CTL.RETRY has passed since a time (R538). -/
def Gk1.retryDue (s : Gk1) (t : Nat) : Bool := decide (t + max (fld s.fabCtl 16 8) 1 * 10000 ≤ s.dtime)

/-- The answer to a packet, of a type, with RESULT, STATUS and payload (R514-R516): it copies TAG and the source's core,
stream and epoch, and goes toward SRC. -/
def answerTo (s : Gk1) (p : Packet) (type result status : Nat) (payload : List Byte) : Packet :=
  ({ type := type, len := payload.length / 32 - 1, dst := pSrc p, src := s.self, score := pScore p, stream := pStream p
     epoch := pEpoch p, tag := pTag p, ecount := status, result := result } : Hdr).packet payload

/-- Answer a packet by an ACK (R515, R516). -/
def Gk1.ack (s : Gk1) (p : Packet) (result status : Nat) : Gk1 := s.sendKept (answerTo s p 6 result status [])

end Sys2Proof.Machine
end

