-- ==== Sys2Proof/Machine/Mesh.lean ====
section
/-! DEFINITION. Messages in flight: sector writes with their streams, epochs and closing writes (R316-R323, R334-R340,
R527-R532, R774), reads, acknowledgements, and the events that move them. -/

namespace Sys2Proof.Machine

/-! ## Requests -/

/-- QE_Q_CTL of a queue (R424); queue 0 is fixed to context 0 and VALIDATED. -/
def Gk1.qctl (s : Gk1) (q : Nat) : Nat := s.reg (0x100018 + 0x40 * q) 0x88

/-- The queue is ENFORCED (R475). -/
def Gk1.qEnforced (s : Gk1) (q : Nat) : Bool := decide (q ≠ 0) && (s.qctl q).testBit 14

/-- The kernel that runs on a core belongs to an ENFORCED queue. -/
def Gk1.enforcedOf (s : Gk1) (core : Nat) : Bool := match s.kernelOf core with
  | some k => s.qEnforced k.queue
  | none => false

/-- Add a message. -/
def Gk1.addMsg (s : Gk1) (m : Msg) : Gk1 := { s with msgs := NMap.set s.msgs s.nextId m, nextId := s.nextId + 1 }

/-- Replace a message. -/
def Gk1.setMsg (s : Gk1) (id : Nat) (m : Msg) : Gk1 := { s with msgs := NMap.set s.msgs id m }

/-- Remove a message. -/
def Gk1.delMsg (s : Gk1) (id : Nat) : Gk1 := { s with msgs := NMap.erase s.msgs id }

/-- The request of a mover or the network sender: it ends with MOVER_COMPLETE. -/
def ReqKind.byMover : ReqKind → Bool
  | .mvGet | .mvPut | .nsPut | .nsGet => true
  | .mma | .mmaWg | .drain | .commit | .atom | .heap => false

/-- Forget a request once all its accesses are performed; one of a mover or sender when it has made its arrival. -/
def Gk1.dropReq (s : Gk1) (rid : Nat) : Gk1 :=
  match NMap.get? s.reqs rid with
  | none => s
  | some q => if q.handed && q.left = 0 && !q.kind.byMover then { s with reqs := NMap.erase s.reqs rid } else s

/-- Accesses of a request have been performed: `n` in all, `here` of them among those homed on this part. -/
def Gk1.performed (s : Gk1) (rid n here : Nat) : Gk1 :=
  ({ s with reqs := NMap.upd s.reqs rid fun q => { q with left := q.left - n, leftHere := q.leftHere - here } }).dropReq rid

/-- The issuing unit has handed everything of a request off. -/
def Gk1.handOff (s : Gk1) (rid : Nat) : Gk1 :=
  ({ s with reqs := NMap.upd s.reqs rid fun q => { q with handed := true } }).dropReq rid

/-- Change what a lost share's replay depends on (R707, R708). -/
def Gk1.markShare (s : Gk1) (core : Nat) (f : Share → Share) : Gk1 :=
  match (s.core core).kid with
  | some k => s.modKernel k fun K =>
      { K with shares := NMap.set K.shares (clusterOf core) (f (NMap.getD K.shares (clusterOf core) {})) }
  | none => s

/-! ## Landing -/

/-- The sectors that a patch touches, from a base address: offset of each sector's first byte from the base. -/
def patchSectors (base : Nat) (p : Mem) : List Nat := (p.map fun e => (base + e.1) / 32).eraseDups

/-- The bytes of a patch in one sector, as offsets from the sector. -/
def patchIn (base sec : Nat) (p : Mem) : Mem :=
  p.filterMap fun e => if (base + e.1) / 32 = sec then some ((base + e.1) % 32, e.2) else none

/-- What trying to land a write gives: it must wait, or it is done with a count of sectors landed and the first fault. -/
inductive Land where
  | wait (s : Gk1)
  | done (s : Gk1) (landed : Nat) (fault : Option Nat)

/-- SRCVA and LEN of a snapshot (R578). -/
def Snap.srcVA (S : Snap) : Nat := fld ((S.q.getD 1 0).toNat) 0 52
/-- LEN. -/
def Snap.len (S : Snap) : Nat := fld ((S.q.getD 2 0).toNat) 0 41

/-- A block of a snapshot's source holds the byte at an offset of a frame, through a page of 64 KiB that the block touches. -/
def Gk1.blockAt (s : Gk1) (S : Snap) (frame ofs b : Nat) : Bool :=
  let a := S.srcVA + 65536 * b
  [a / 65536, a / 65536 + 1].any fun page =>
    let va := page * 65536 + ofs % 65536
    decide (a ≤ va) && decide (va < a + 65536) && (match s.translate S.ctx false S.enforced va with
      | .ok (.dev f o) => f = frame && o = ofs
      | .ok (.host _) => false
      | .error _ => false)

/-- The first snapshot that has not yet read the block which holds the byte at an address of a context, by whichever address and
context the snapshot reads it, with the block (R579, R580). -/
def Gk1.snapOf (s : Gk1) (ctx va : Nat) : Option (Nat × Nat) :=
  s.snaps.findSome? fun e => match s.translate ctx false false va with
    | .ok (.dev frame ofs) =>
      ((List.range (e.2.len / 65536)).find? fun b => !e.2.read.contains b && s.blockAt e.2 frame ofs b).map fun b => (e.1, b)
    | .ok (.host _) => none
    | .error _ => none

/-- A write waits for the snapshot copier, which reads its block next unless 1,024 were read out of order (R580). -/
def Gk1.wantBlock (s : Gk1) (snap b : Nat) : Gk1 :=
  { s with snaps := NMap.upd s.snaps snap fun S =>
      if S.early < 1024 then { S with wanted := addNew S.wanted b } else S }

/-- Runs of consecutive bytes of a patch, as posted writes from a host address. -/
def runsOf (a : Nat) : Mem → List (Nat × List Byte)
  | [] => []
  | (o, b) :: p => match runsOf a p with
    | (x, bs) :: rest => if x = a + o + 1 then (a + o, b :: bs) :: rest else (a + o, [b]) :: (x, bs) :: rest
    | [] => [(a + o, [b])]

/-- Land one sector of a write at a device address (R320, R389, R580). A host page takes it once the host link does; the write of
a peer does not reach it (R523, log 35). -/
def Gk1.landSector (s : Gk1) (ctx : Nat) (enforced peer : Bool) (va : Nat) (p : Mem) : Hit × Gk1 :=
  match s.snapOf ctx va with
  | some (i, b) => (.miss, s.wantBlock i b)
  | none =>
    match s.translate ctx true enforced va with
    | .error e => (.fault e, s)
    | .ok (.host a) =>
      if peer then (.fault 0x40, s)
      else if s.linkOpen && s.postHeld.isEmpty then (.done ((runsOf a p).foldl (fun s r => s.post r.1 r.2) s), s) else (.miss, s)
    | .ok (.dev loc ofs) =>
      match s.locate loc ofs with
      | .error e => (.fault e, s)
      | .ok (gid, stream) =>
        let q := p.map fun e => (ofs % 256 + e.1, e.2)
        match s.cacheWrite gid (ofs % 256 / 32) q ctx with
        | .done s' => (.done (s'.countCtx ctx 8 p.length), s)
        | .miss => (.miss, s.askFill gid (ofs % 256 / 32) ctx stream)
        | .fault e => (.fault e, s)

/-- Land the sectors of a write one by one; a sector that faults changes nothing and the others land (R524, R694). -/
def Gk1.landSectors (s : Gk1) (ctx : Nat) (enforced peer : Bool) (base : Nat) (p : Mem) :
    List Nat → Nat → Option Nat → Land
  | [], n, f => .done s n f
  | sec :: rest, n, f =>
    match s.landSector ctx enforced peer (sec * 32) (patchIn base sec p) with
    | (.done s', _) => s'.landSectors ctx enforced peer base p rest (n + 1) f
    | (.miss, s') => .wait s'
    | (.fault e, _) => s.landSectors ctx enforced peer base p rest n (if f = none then some e else f)

/-- The bytes of a write when it is carried out. Source bytes that the engine reads late are those of the acceptance or
those that the core store now holds (R325, R326, log 17). -/
def Gk1.writeBytes (s : Gk1) (m : Msg) : Mem × Gk1 :=
  if m.late && (s.core m.core).kid = some m.kid then
    let b := s.openBit
    (if b.1 then m.data else m.data.map fun e => (e.1, Mem.read (s.core m.core).store (m.local_ + e.1)), b.2)
  else (m.data, s)

/-- The fault of a stream write that reaches the store of a core: its region is in reset, or on an ENFORCED queue it is not a
region of the context. A LOCAL drain's writes are on no stream and meet neither check (R172, R475, R716). -/
def Gk1.storeFault (s : Gk1) (m : Msg) (c : Nat) : Option Nat :=
  let R := s.region (regionOf (clusterOf c))
  if m.stream.isNone then none
  else if R.service ≠ 0 then some 0x62
  else if m.enforced && decide (R.owner ≠ some m.ctx) then some 2
  else none

/-- Try to land a write at its home on this part (R31, R172, R320, R475, R702, R716). A core store without power keeps
nothing of it (R44). -/
def Gk1.land (s : Gk1) (m : Msg) : Land :=
  match m.place with
  | .store c a =>
    if (s.cluster (clusterOf c)).lost then .wait s else
    match s.storeFault m c with
    | some e => .done s 0 (some e)
    | none =>
      let b := s.writeBytes m
      let s := if s.coreRails (clusterOf c) then b.2.modCore c fun C => { C with store := Mem.patch C.store a b.1 } else b.2
      .done (if c = m.core then s else s.markShare c fun h => { h with unsafe_ := true }) 1 none
  | .dev va =>
    let b := s.writeBytes m
    match b.2.landSectors m.ctx m.enforced m.pkt.isSome va b.1 (if b.1.isEmpty then [] else patchSectors va b.1) 0 none with
    | .wait s' => .wait s'
    | .done s' n f => .done s' (if b.1.isEmpty then 1 else n) f
  | .peer _ _ => .wait s
  | .host _ => .wait s

/-- The word or byte that an access reaches: kind of home, unit and offset. An address that does not translate is its own
home (R316, R321). -/
def Gk1.homeOf (s : Gk1) (m : Msg) : Nat × Nat × Nat := match m.place with
  | .store c a => (0, c, a)
  | .dev va => match s.translate m.ctx (m.kind ≠ .read) m.enforced va with
    | .ok (.dev loc ofs) => match s.locate loc ofs with
      | .ok (gid, _) => (1, gid, ofs % 256)
      | .error _ => (3, m.ctx, va)
    | .ok (.host a) => (2, 0, a)
    | .error _ => (3, m.ctx, va)
  | .peer p va => (4, p, va)
  | .host a => (2, 0, a)

/-- The request of a message belongs to a drain: of a matrix instruction or of acc.drain. -/
def Gk1.ofDrain (s : Gk1) (m : Msg) : Bool := match NMap.get? s.reqs m.rid with
  | some q => q.kind = .mma || q.kind = .drain
  | none => false

/-- A drain's write waits for one of an earlier drain of its core to the same bytes: they land in drain order (R175). -/
def Gk1.drainBefore (s : Gk1) (id : Nat) (m : Msg) : Bool :=
  s.ofDrain m && s.msgs.any fun e => decide (e.1 < id) && decide (e.2.kind = .write) && e.2.pkt.isNone && e.2.core = m.core
    && decide (e.2.rid < m.rid) && s.ofDrain e.2 && decide (s.homeOf e.2 = s.homeOf m)
    && e.2.data.any fun p => m.data.any fun q => p.1 = q.1

/-! ## Epochs at the target -/

/-- The write target of a place (R334). -/
def Place.target : Place → Target
  | .store c _ => .store c
  | .dev _ => .device
  | .peer p _ => .peer p
  | .host _ => .device

/-- The address of a place at its home. -/
def Place.addr : Place → Nat
  | .peer _ va => va
  | .dev va => va
  | .store _ a => a
  | .host a => a

/-- The place is on a peer part. -/
def Place.isPeer : Place → Bool
  | .peer _ _ => true
  | .store _ _ => false
  | .dev _ => false
  | .host _ => false

/-- Where an epoch was sent: 0 for this part, else the peer's address plus 1. -/
def Msg.origin (m : Msg) : Nat := match m.pkt with
  | some p => pSrc p + 1
  | none => 0

/-- The epoch entry of a stream write at its target (R335, R530). -/
def Gk1.epochOf (s : Gk1) (m : Msg) : Option EpochEntry :=
  s.epochs.find? fun e =>
    e.part = m.origin && e.score = m.core && some e.stream = m.stream && e.epoch = m.epoch && e.target = m.place.target

/-- The same epoch. -/
def Msg.sameEpoch (m k : Msg) : Bool :=
  k.origin = m.origin && k.core = m.core && k.stream = m.stream && k.epoch = m.epoch && k.place.target = m.place.target

/-- Take the epoch entry of a write away (R531, R532). -/
def Gk1.dropEpoch (s : Gk1) (m : Msg) : Gk1 :=
  { s with epochs := s.epochs.filter fun e =>
      !(e.part = m.origin && e.score = m.core && some e.stream = m.stream && e.epoch = m.epoch && e.target = m.place.target) }

/-- Count landed sectors, and the first fault, of an epoch (R335, R340, R530). -/
def Gk1.countEpoch (s : Gk1) (m : Msg) (n : Nat) (f : Option Nat) : Gk1 :=
  let old := (s.epochOf m).getD
    { part := m.origin, score := m.core, stream := m.stream.getD 0, epoch := m.epoch, target := m.place.target }
  let new := { old with
    landed := old.landed + n
    faulted := match old.faulted with | some x => some x | none => f.map (BitVec.ofNat 8) }
  let t := s.dropEpoch m
  { t with epochs := t.epochs ++ [new] }

/-- The entry of a write's epoch at its target is made as the write is accepted (R530). -/
def Gk1.openEpoch (s : Gk1) (m : Msg) : Gk1 := if (s.epochOf m).isSome then s else s.countEpoch m 0 none

/-- A write of a drain that still runs faulted: its status word says so (R178). -/
def Gk1.drainFault (s : Gk1) (core rid : Nat) : Gk1 :=
  s.modCore core fun C => { C with
    drains := C.drains.map fun j => if j.rid = rid then { j with dsw := j.dsw ||| 0x10 } else j }

/-- A write to a host page that must wait for the link has its source bytes read: what is left of it is at the host (R329). -/
def Gk1.sendAway (s : Gk1) (id : Nat) (m : Msg) : Gk1 :=
  match m.place with
  | .dev va =>
    match s.translate m.ctx true m.enforced va with
    | .ok (.host _) =>
      if m.away then s else
      let b := s.writeBytes m
      (b.2.setMsg id { m with data := b.1, late := false, away := true }).performed m.rid 0 1
    | _ => s
  | _ => s

/-- The accesses of a message that are on this part and not yet performed: the read of late source bytes, the write of an
answer into the core store, a write or atomic whose home is here (R329, R330). -/
def Msg.here (m : Msg) : Nat := match m.kind, m.place with
  | .write, .store _ _ => 1
  | .write, .dev _ => b2n !m.away
  | .write, .peer _ _ => b2n (m.late && m.unsent)
  | .write, .host _ => 0
  | .ack, _ => 0
  | _, _ => 1

/-- A write has been carried out or has faulted: it is answered to a peer, becomes an acknowledgement of a stream write
of this part, or ends (R336, R340, R524, R694). -/
def Gk1.wrote (s : Gk1) (id : Nat) (m : Msg) (landed : Nat) (f : Option Nat) : Gk1 :=
  let s := if m.stream.isSome then (if m.closing then s.dropEpoch m else s.countEpoch m landed f) else s
  match m.pkt with
  | some p =>
    ((s.delMsg id).countCtx m.ctx 10 (landed * 32)).ack p (if f.isSome then 3 else 0) (f.getD 0)
  | none =>
    let s := match f with
      | some code => (s.accessFault m.kid m.ctx m.rid m.core code m.place.addr).drainFault m.core m.rid
      | none => s
    if m.stream.isSome then (s.setMsg id { m with kind := .ack }).performed m.rid 0 m.here
    else (s.delMsg id).performed m.rid 1 m.here

/-- Closing writes that a part can hold at once (R338). -/
def closingPlaces : Nat := 4096

/-- Try to carry out a write that has arrived at its home (R175, R320, R335, R338, R340, R530, R531). -/
def Gk1.tryWrite (s : Gk1) (id : Nat) (m : Msg) : Gk1 :=
  let go := if s.drainBefore id m then s else match s.land m with
    | .wait s' => s'.sendAway id m
    | .done s' n f => s'.wrote id m n f
  if !m.closing then go else
  let e := s.epochOf m
  match e.bind EpochEntry.faulted with
  | some code => s.wrote id m 0 (some code.toNat)
  | none =>
    if (e.map EpochEntry.landed).getD 0 = m.ecount then go
    else if m.holding then s
    else if closingPlaces ≤ (s.msgs.filter fun k => k.2.holding).length then
      match m.pkt with
      | some p => (s.delMsg id).ack p 1 0
      | none => s.setMsg id { m with returned := some s.dtime }
    else s.setMsg id { m with holding := true }

/-- Carry out a write that arrives, and then the held closing writes of its epoch that its landing completes (R335). -/
def Gk1.arrive (s : Gk1) (id : Nat) (m : Msg) : Gk1 :=
  let s := s.tryWrite id m
  if m.stream.isNone || m.closing then s else
  (s.msgs.filter fun k => k.2.holding && m.sameEpoch k.2).foldl (fun s k => s.tryWrite k.1 k.2) s

/-! ## The sender's side -/

/-- A write of a stream of a core that is not yet acknowledged, in flight or to be sent. -/
def Msg.ofStream (m : Msg) (core : Nat) (st : Option Nat) : Bool :=
  (m.kind = .write || m.kind = .ack) && m.pkt.isNone && m.core = core && st.isSome && m.stream = st

/-- Sector writes that an epoch may hold (R339). -/
def epochLimit : Nat := 2 ^ 24 - 1

/-- Packets of a core to peers that are not answered (R526). -/
def Gk1.unanswered (s : Gk1) (core : Nat) : Nat :=
  (s.msgs.filter fun e => e.2.core = core && !e.2.unsent && e.2.pkt.isNone && e.2.place.isPeer).length

/-- An epoch record is idle: no epoch is open and nothing of it is outstanding. -/
def Gk1.idleRec (s : Gk1) (core : Nat) (r : EpochRec) : Bool :=
  r.sent = 0 && !r.ending && !s.msgs.any fun e => e.2.ofStream core (some r.stream) && e.2.place.target = r.target

/-- A record for a peer target (R527, R528). -/
def EpochRec.toPeer (r : EpochRec) : Bool := match r.target with
  | .peer _ => true
  | .store _ => false
  | .device => false

/-- The record of a stream and target of a core, made when there is none: at most 64 name a peer (R334, R527, R528). -/
def Gk1.openRec (s : Gk1) (core st : Nat) (t : Target) : Option Gk1 :=
  let rs := (s.core core).epochs
  if rs.any fun r => r.stream = st && r.target = t then some s else
  let new : EpochRec := { stream := st, target := t }
  let rs := if !new.toPeer || (rs.filter EpochRec.toPeer).length < 64 then some rs else
    match rs.find? fun r => r.toPeer && s.idleRec core r with
    | some r => some (rs.filter fun x => x ≠ r)
    | none => none
  rs.map fun rs => s.modCore core fun C => { C with epochs := rs ++ [new] }

/-- The part of a place. -/
def Place.part : Place → Nat
  | .peer p _ => p
  | .store _ _ => 0
  | .dev _ => 0
  | .host _ => 0

/-- The packet of a request message to a peer (R514, R521-R525, R529, R532); TAG is the message's number (log 18). An exchange
message holds its packet (R576). -/
def Gk1.packetOf (s : Gk1) (id : Nat) (m : Msg) : Packet :=
  match m.out with
  | some p => p
  | none =>
  let type := if m.kind = .read then 4 else if m.kind = .epochEnd then 3 else if m.closing then 2 else 1
  ({ type := type, len := if m.kind = .epochEnd then 0 else m.len / 32 - 1, pid := fld (s.ctxPart m.ctx) 0 16
     dst := m.place.part, src := s.self, score := if coreOk m.core then m.core else 0
     stream := m.stream.getD 0, epoch := m.epoch, addr := m.place.addr, tag := id % 2 ^ 32
     ecount := if m.closing then m.ecount else 0 } : Hdr).packet (if m.kind = .write then m.data.map Prod.snd else [])

/-- Send a request to a peer, first or again; without a usable port it counts as NO_ROUTE, and toward an unreachable part it is
sent again at the same interval (R518, R538). -/
def Gk1.sendPeer (s : Gk1) (id : Nat) (m : Msg) : Gk1 :=
  let r := s.sendPacket (s.packetOf id m)
  r.1.setMsg id { m with
    returned := none, noRoute := if r.2 && !s.unreachable.contains m.place.part then none else some s.dtime }

/-- A place at a target, for a packet that names no address. -/
def Target.place : Target → Place
  | .peer p => .peer p 0
  | .store c => .store c 0
  | .device => .dev 0

/-- Sector writes that a message adds to its epoch; a closing write needs room for one. -/
def Msg.epochNeed (m : Msg) : Nat := if m.closing then 1 else max 1 (m.len / 32)

/-- End an epoch at its target: by EPOCH_END to a peer, at once on this part; the number advances (R339, R532). -/
def Gk1.endEpoch (s : Gk1) (core : Nat) (r : EpochRec) (ctx kid : Nat) (last : Bool) : Gk1 :=
  let m : Msg := {
    kind := .epochEnd, core := core, ctx := ctx, kid := kid, stream := some r.stream, epoch := r.epoch
    sentAt := s.dtime, place := r.target.place }
  let s := s.modCore core fun C => { C with
    epochs := if last && !r.toPeer then C.epochs.filter (fun x => x ≠ r)
      else C.epochs.map (fun x => if x = r then { r with epoch := (r.epoch + 1) % 256, sent := 0, ending := last } else x) }
  if r.toPeer then (s.addMsg m).sendPeer s.nextId m else s.dropEpoch m

/-- Send a message of the network sender that waits, when its turn has come: in order within a stream and target; a
closing write after every earlier write of its stream to other targets is acknowledged (R336); at most 64 unanswered
peer packets (R526); none in an epoch that is full (R339). -/
def Gk1.trySend (s : Gk1) (id : Nat) (m : Msg) : Gk1 :=
  let earlier := s.msgs.filter fun e => e.1 < id
  let mine := fun (k : Msg) => k.ofStream m.core m.stream && k.place.target = m.place.target
  if earlier.any fun e => e.2.unsent && e.2.core = m.core && e.2.kind = m.kind && (m.stream.isNone || mine e.2) then s
  else if m.closing && earlier.any fun e => e.2.ofStream m.core m.stream && e.2.place.target ≠ m.place.target then s
  else if m.place.isPeer && decide (64 ≤ s.unanswered m.core) then s
  else
    let peer := fun (s : Gk1) (m : Msg) =>
      if m.place.isPeer then (s.countCtx m.ctx 9 (if m.kind = .write then m.len else 0)).sendPeer id m else s.setMsg id m
    if m.kind ≠ .write then peer s { m with unsent := false, sentAt := s.dtime } else
    match m.stream with
    | none => peer s { m with unsent := false, sentAt := s.dtime }
    | some st =>
      match s.openRec m.core st m.place.target with
      | none => s
      | some s =>
        match (s.core m.core).epochs.find? fun r => r.stream = st && r.target = m.place.target with
        | none => s
        | some r =>
          if epochLimit < r.sent + m.epochNeed then s
          else
            -- the bytes of a peer write are read from the core store now (R325, R329)
            let away := m.place.isPeer && m.late
            let b := if away then s.writeBytes m else (m.data, s)
            let r' := if m.closing then { r with epoch := (r.epoch + 1) % 256, sent := 0, ending := false }
              else { r with sent := r.sent + m.epochNeed, ending := false }
            let s := b.2.modCore m.core fun C => { C with epochs := C.epochs.map fun x => if x = r then r' else x }
            let s := if away then s.performed m.rid 0 1 else s
            let c := if m.closing then r.sent else 0
            peer s { m with
              unsent := false, sentAt := s.dtime, epoch := r.epoch, ecount := c, data := b.1, late := m.late && !away }

/-- End the epochs of a core that take no further write, once every write of theirs is acknowledged (R339). -/
def Gk1.endFull (s : Gk1) (core : Nat) : Gk1 :=
  (s.core core).epochs.foldl (fun s r =>
    let mine := s.msgs.filter fun e => e.2.ofStream core (some r.stream) && e.2.place.target = r.target
    let need := ((mine.find? fun e => e.2.unsent).map fun e => e.2.epochNeed).getD 1
    if r.ending || mine.any (fun e => !e.2.unsent) || r.sent + need ≤ epochLimit then s
    else s.endEpoch core r (s.ctxOf core) (((s.core core).kid).getD 0) false) s

/-- Send what a core's network sender may now send, in the order of acceptance. -/
def Gk1.pump (s : Gk1) (core : Nat) : Gk1 :=
  let s := s.endFull core
  (s.msgs.filter fun e => e.2.unsent && e.2.core = core).foldl (fun s e => s.trySend e.1 e.2) s

/-- Every open epoch of a core ends (R532, R774): on this part at once, at a peer by an EPOCH_END once its writes are
answered. -/
def Gk1.closeEpochs (s : Gk1) (core ctx kid : Nat) : Gk1 :=
  (s.core core).epochs.foldl (fun s r =>
    if s.idleRec core r then s.modCore core fun C => { C with epochs := C.epochs.filter fun x => x ≠ r }
    else if r.ending || s.msgs.any (fun e => e.2.ofStream core (some r.stream) && e.2.place.target = r.target) then s
    else s.endEpoch core r ctx kid true) s

/-- A request of the sender to a peer has been answered, or a write of this part acknowledged. -/
def Gk1.answered (s : Gk1) (id : Nat) (m : Msg) : Gk1 := ((s.delMsg id).performed m.rid 1 0).pump m.core

/-! ## Events -/

/-- A sector write arrives at its home on this part and lands (R320, R321, R335, R340, R580). -/
def execMeshWriteArrival (id : Nat) (s : State) : Answer := s.act fun s =>
  match NMap.get? s.msgs id with
  | some m => if m.kind = .write && !m.unsent && m.returned.isNone then .next (s.arrive id m) else .next s
  | none => .next s

/-- A closing write that was returned for lack of a place is resent after 1 us (R338). -/
def execClosingWriteResend (id : Nat) (s : State) : Answer := s.act fun s =>
  match NMap.get? s.msgs id with
  | some m =>
    match m.returned, m.place with
    | some _, .peer _ _ => .next s
    | some t, _ => if m.kind = .write && decide (t + 1000 ≤ s.dtime) then .next (s.setMsg id { m with returned := none }) else .next s
    | none, _ => .next s
  | none => .next s

/-- An acknowledgement of a stream write of this part returns to its sender (R336, R339). -/
def execMeshAck (id : Nat) (s : State) : Answer := s.act fun s =>
  match NMap.get? s.msgs id with
  | some m => if m.kind = .ack then .next (s.answered id m) else .next s
  | none => .next s

/-- A read that faulted: nothing reaches the core store (R694). -/
def Gk1.readFault (s : Gk1) (id : Nat) (m : Msg) (code : Nat) : Gk1 :=
  ((s.accessFault m.kid m.ctx m.rid m.core code m.place.addr).delMsg id).performed m.rid 1 m.here

/-- Data of a read land in the core store of the issuing core, while the kernel that asked still runs there (R333). -/
def Gk1.deliver (s : Gk1) (id : Nat) (m : Msg) (data : List Byte) : Gk1 :=
  let s := if (s.core m.core).kid = some m.kid then
    s.modCore m.core fun C => { C with store := Mem.writeAll C.store m.local_ data } else s
  (s.delMsg id).performed m.rid 1 m.here

/-- Read data of an ns.get or mv.get land in the core store; a core store of this part is read now, and one without power holds
no bytes to give (R44, R333, R702, R716, log 66). -/
def execMeshReadReply (id : Nat) (s : State) : Answer := s.act fun s =>
  match NMap.get? s.msgs id with
  | none => .next s
  | some m =>
    let after := fun (s : Gk1) => .next (s.pump m.core)
    match m.kind, m.place with
    | .readReply, _ => after (s.deliver id m (m.data.map Prod.snd))
    | .read, .store c a =>
      if (s.cluster (clusterOf c)).lost then .next s
      else if (s.region (regionOf (clusterOf c))).service ≠ 0 then after (s.readFault id m 0x62)
      else if s.coreRails (clusterOf c) then after (s.deliver id m (Mem.bytes (s.core c).store a m.len))
      else after ((s.openBytes m.len).2.deliver id m (s.openBytes m.len).1)
    | _, _ => .next s

/-- A mover or sender request whose accesses are all performed arrives on DONE (R333). -/
def execMoverComplete (rid : Nat) (s : State) : Answer := s.act fun s =>
  match NMap.get? s.reqs rid with
  | none => .next s
  | some q =>
    if !(q.kind.byMover && q.handed && q.left = 0) then .next s else
    let s := { s with reqs := NMap.erase s.reqs rid }
    match q.done with
    | some b => .next ({ s with
        msgs := NMap.set s.msgs s.nextId { kind := .arrival, core := q.core, slot := q.slot, kid := q.kid, ctx := q.ctx, bar := b, src := q.src }
        nextId := s.nextId + 1 })
    | none => .next s

/-- An earlier atomic of the same group on the same word is still to be performed (R326, R353). -/
def Gk1.atomBefore (s : Gk1) (id : Nat) (m : Msg) : Bool :=
  s.msgs.any fun e => decide (e.1 < id) && decide (e.2.kind = .atom) && e.2.core = m.core && e.2.slot = m.slot
    && e.2.kid = m.kid && decide (s.homeOf e.2 = s.homeOf m)

/-- A faulted or finished atomic: the reply brings the old value, or 0 (R353, R694). -/
def Gk1.atomReply (s : Gk1) (id : Nat) (m : Msg) (old : Nat) : Gk1 :=
  if m.ret then s.setMsg id { m with kind := .atomReply, value := BitVec.ofNat 64 old }
  else (s.delMsg id).performed m.rid 1 1

/-- An atomic at its home (R352, R354, R404, R580). -/
def Gk1.atomAt (s : Gk1) (id va : Nat) (m : Msg) : Gk1 :=
  let bad := fun (code : Nat) => (s.accessFault m.kid m.ctx m.rid m.core code va).atomReply id m 0
  if va % 4 ≠ 0 then bad 0x43
  else if s.atomBefore id m then s
  else match s.snapOf m.ctx va with
  | some (i, b) => s.wantBlock i b
  | none =>
    match s.translate m.ctx true m.enforced va with
    | .error e => bad e
    | .ok (.host _) => bad 0x43
    | .ok (.dev loc ofs) =>
      match s.locate loc ofs with
      | .error e => bad e
      | .ok (gid, stream) =>
        let o := ofs % 256
        match s.cacheRead gid (o / 32) with
        | .fault e => bad e
        | .miss => s.askFill gid (o / 32) m.ctx stream
        | .done _ =>
          let old := match s.peek gid o 4 with
            | .ok bs => leNat bs
            | .error _ => 0
          let new := atomOp m.op old m.value.toNat m.cmp.toNat
          match s.cacheWrite gid (o / 32) ((List.range 4).zip (leBytes 4 new) |>.map fun e => (o + e.1, e.2)) m.ctx with
          | .done s => ((s.countCtx m.ctx 7 4).countCtx m.ctx 8 4).atomReply id m old
          | .miss => s
          | .fault e => bad e

/-- Non-posted requests that the link may have outstanding (R414). -/
def nonPosted : Nat := 768

/-- Reads of host memory outstanding on the link. -/
def Gk1.hostReads (s : Gk1) : Nat := (s.msgs.filter fun e => decide (e.2.kind = MsgKind.hostRead)).length

/-- A read of a sector at its home (R389, R403, R464). One of a host page waits while 768 are outstanding on the link (R414). -/
def Gk1.readAt (s : Gk1) (id va : Nat) (m : Msg) : Gk1 :=
  match s.translate m.ctx false m.enforced va with
  | .error e => s.readFault id m e
  | .ok (.host a) =>
    if nonPosted ≤ s.hostReads then s else s.setMsg id { m with kind := .hostRead, place := .host a, sentAt := s.dtime }
  | .ok (.dev loc ofs) =>
    match s.locate loc ofs with
    | .error e => s.readFault id m e
    | .ok (gid, stream) =>
      let o := ofs % 256
      match s.cacheRead gid (o / 32) with
      | .fault e => s.readFault id m e
      | .miss => s.askFill gid (o / 32) m.ctx stream
      | .done s =>
        match s.peek gid o m.len with
        | .error e => s.readFault id m e
        | .ok bs => (s.countCtx m.ctx 7 m.len).setMsg id { m with kind := .readReply, data := (List.range bs.length).zip bs }

/-- An access arrives at its home region cache slice: it hits, faults, or asks for a fill; an access to a host page goes
on to the host link (R352, R389, R403, R404, R407, R464, R694). Writes arrive by MESH_WRITE_ARRIVAL. -/
def execRegionCacheAccess (id : Nat) (s : State) : Answer := s.act fun s =>
  match NMap.get? s.msgs id with
  | none => .next s
  | some m =>
    match m.kind, m.place with
    | .atom, .dev va => .next ((s.atomAt id va m).pump m.core)
    | .read, .dev va => .next ((s.readAt id va m).pump m.core)
    | _, _ => .next s

end Sys2Proof.Machine
end

