-- ==== Sys2Proof/Machine/Mover.lean ====
section
/-! DEFINITION. The majors mv, ns, m.atom and heap (R311-R315, R334-R340, R352-R354, R495-R499, R522-R529). -/

namespace Sys2Proof.Machine

/-! ## Acceptance -/

/-- The message fields that name the issuing group. -/
def GI.msg (i : GI) : Msg :=
  { kind := .read, core := i.core, slot := i.grp, ctx := i.s.ctxOf i.core, kid := i.C.kid.getD 0
    enforced := i.s.enforcedOf i.core, rid := i.s.nextId, sentAt := i.s.dtime }

/-- Accept a request with its messages and the engine arrival it promises (R329, R360). -/
def GI.accept (i : GI) (kind : ReqKind) (done : Option Nat) (src : Nat) (msgs : List Msg) : Gk1 :=
  let q : Req := {
    kind := kind, core := i.core, slot := i.grp, kid := i.C.kid.getD 0, ctx := i.s.ctxOf i.core
    left := msgs.length, leftHere := (msgs.map Msg.here).sum, done := done, src := src, handed := true }
  let s := { i.s with reqs := NMap.set i.s.reqs i.s.nextId q, nextId := i.s.nextId + 1 }
  msgs.foldl Gk1.addMsg (s.modCore i.core fun C => C.promise done.toList)

/-- The barrier of a DONE_EN bit and field. -/
def doneOf (w en lo : Nat) : Option Nat := if w.testBit en then some (fld w lo 6) else none

/-- n bytes of the core store as a patch. -/
def patchOf (m : Mem) (a n : Nat) : Mem := (List.range n).map fun k => (k, Mem.read m (a + k))

/-- An even base of an s pair (R229, R315). -/
def evenBase (n : Nat) : Bool := n % 2 = 0

/-! ## mv -/

/-- The fields of an mv word (R311). -/
structure MvArgs where
  la : Nat
  va : Nat
  len : Nat
  rows : Nat
  pitch : Nat
  lpitch : Nat

/-- Read the operands of an mv word. -/
def GI.mvArgs (i : GI) : MvArgs :=
  { la := i.G.sn (fld i.w 14 5), va := i.G.pair (fld i.w 19 5), len := i.G.sn (fld i.w 24 5), rows := i.G.sn (fld i.w 29 5)
    pitch := i.G.sn (fld i.w 34 5), lpitch := fld i.w 46 16 }

/-- The checks of R315 on an mv. -/
def MvArgs.ok (a : MvArgs) : Bool :=
  a.la % 32 = 0 && a.va % 32 = 0 && a.len % 32 = 0 && a.pitch % 32 = 0 && a.lpitch % 32 = 0 && a.len ≠ 0 && a.rows ≠ 0
    && decide (a.la + (a.rows - 1) * a.lpitch + a.len ≤ storeSize)

/-- The sector accesses of an mv: core-store address and device address. -/
def MvArgs.sectors (a : MvArgs) : List (Nat × Nat) :=
  (List.range a.rows).flatMap fun r => (List.range (a.len / 32)).map fun k =>
    (a.la + r * a.lpitch + 32 * k, (a.va + r * a.pitch + 32 * k) % 2 ^ 64)

/-- Issue an mv request to the load/store mover. -/
def mv (op : Nat) (kind : ReqKind) (f : GI → Nat × Nat → Msg) (core grp : Nat) (s : Gk1) : Out :=
  issue 0x2A (op3Is op) (fun w _ => fld w 62 2 = 0 && evenBase (fld w 19 5))
    (fun w => [fld w 14 5, fld w 19 5, fld w 19 5 + 1, fld w 24 5, fld w 29 5, fld w 34 5]) 0 (fun i =>
      if !i.G.issues i.w then .ok i.s else
      let a := i.mvArgs
      let done := doneOf i.w 39 40
      if !a.ok then .fault 0x22
      else if engineHeld i true true then .hold
      else if i.C.pendFull done.toList then .stall .engpend
      else .ok (i.accept kind done 4 (a.sectors.map (f i)))) core grp s

/-- mv.get: DRAM rows to the core store (R311). -/
def doMvGet (core grp : Nat) (s : Gk1) : Out :=
  mv 0 .mvGet (fun i p => { i.msg with kind := .read, place := .dev p.2, len := 32, local_ := p.1 }) core grp s

/-- The row MV_GET: doMvGet on the part. -/
def execMvGet (core grp : Nat) (s : State) : Answer := s.act fun s => doMvGet core grp s

/-- mv.put: core-store rows to DRAM (R311, R325). -/
def doMvPut (core grp : Nat) (s : Gk1) : Out :=
  mv 1 .mvPut (fun i p => { i.msg with
    kind := .write, place := .dev p.2, len := 32, local_ := p.1, late := true, data := patchOf i.C.store p.1 32 }) core grp s

/-- The row MV_PUT: doMvPut on the part. -/
def execMvPut (core grp : Nat) (s : State) : Answer := s.act fun s => doMvPut core grp s

/-! ## ns -/

/-- The operands of an ns word (R312). -/
structure NsArgs where
  kind : Nat
  la : Nat
  len : Nat
  core : Nat
  va : Nat
  part : Nat
  tgt : Nat
  stream : Nat
  close : Bool

/-- Read the operands of an ns word. -/
def GI.nsArgs (i : GI) : NsArgs :=
  { kind := fld i.w 14 2, la := i.G.sn (fld i.w 16 5), len := i.G.sn (fld i.w 21 5), core := i.G.sn (fld i.w 26 5)
    va := i.G.pair (fld i.w 26 5), part := i.G.sn (fld i.w 31 5), tgt := fld i.w 48 16, stream := fld i.w 37 4, close := i.w.testBit 36 }

/-- The field checks of an ns word (R312, R315): DKIND, the pair base, the peer register, CLOSE, the reserved bits. -/
def nsOk (put : Bool) (w w1 : Nat) : Bool :=
  let k := fld w 14 2
  decide (k ≠ 3) && (k = 0 || evenBase (fld w 26 5)) && (k = 2 || fld w 31 5 = 0) && (put || !w.testBit 36)
    && (k = 0 || fld w 48 16 = 0) && w1 >>> 7 = 0

/-- The range checks of R315 on an ns. -/
def NsArgs.ok (a : NsArgs) : Bool :=
  a.la % 32 = 0 && a.len ≠ 0 && a.len % 32 = 0 && decide (a.la + a.len ≤ storeSize)
    && (if a.kind = 0 then a.tgt % 32 = 0 && decide (a.tgt + a.len ≤ storeSize) && decide (a.core < coreCount)
        else a.va % 32 = 0)

/-- The place of an offset of a request. -/
def NsArgs.at_ (a : NsArgs) (o : Nat) : Place :=
  match a.kind with
  | 0 => .store a.core (a.tgt + o)
  | 1 => .dev ((a.va + o) % 2 ^ 64)
  | _ => .peer a.part ((a.va + o) % 2 ^ 64)

/-- The packets of a range on a peer: offset and length, at most 16 sectors and within 512 bytes of the target (R523). -/
def peerPieces : Nat → Nat → Nat → Nat → List (Nat × Nat)
  | 0, _, _, _ => []
  | fuel + 1, va, o, n =>
    if n = 0 then [] else
    let k := min n (512 - (va + o) % 512)
    (o, k) :: peerPieces fuel va (o + k) (n - k)

/-- The pieces of a request: sectors on this part, packets on a peer; a closing write is the last sector alone (R529). -/
def NsArgs.pieces (a : NsArgs) : List (Nat × Nat × Bool) :=
  let body := if a.close then a.len - 32 else a.len
  let ps := if a.kind = 2 then peerPieces (a.len / 32 + 1) a.va 0 body
    else (List.range (body / 32)).map fun k => (32 * k, 32)
  (ps.map fun p => (p.1, p.2, false)) ++ (if a.close then [(body, 32, true)] else [])

/-- The request faults with NOT_OWNED without being sent (R475, R522). -/
def GI.nsRefused (i : GI) (a : NsArgs) : Bool :=
  let ctx := i.s.ctxOf i.core
  let enf := i.s.enforcedOf i.core
  match a.kind with
  | 0 => enf && (i.s.region (regionOf (clusterOf a.core))).owner ≠ some ctx
  | 1 => false
  | _ => !(i.s.ctxPart ctx).testBit 49 || (enf && !inPart (i.s.ctxPart ctx) a.part)

/-- The stream and target of a request cannot take another write now (R339, R526, R528). -/
def GI.nsBlocked (i : GI) (put : Bool) (a : NsArgs) : Bool :=
  let t := (a.at_ 0).target
  (a.kind = 2 && decide (64 ≤ i.s.unanswered i.core))
    || (put && (match i.s.openRec i.core a.stream t with
      | none => true
      | some s => (s.core i.core).epochs.any fun r =>
          r.stream = a.stream && r.target = t && decide (epochLimit ≤ r.sent)))

/-- A piece of a request to a peer whose address has a bit above bit 51: it faults with PAGE_FAULT and is not sent, and the
closing write of such a request with it (R340, R463). -/
def NsArgs.badPiece (a : NsArgs) (p : Nat × Nat × Bool) : Bool :=
  let bad := fun (p : Nat × Nat × Bool) => decide (2 ^ 52 ≤ (a.va + p.1) % 2 ^ 64)
  a.kind = 2 && (bad p || (p.2.2 && a.pieces.any bad))

/-- Accept an ns request: the pieces that may be sent, and a fault for each other one. -/
def GI.acceptNs (i : GI) (kind : ReqKind) (done : Option Nat) (a : NsArgs) (f : Nat × Nat × Bool → Msg) : Gk1 :=
  (a.pieces.filter a.badPiece).foldl
    (fun s p => s.accessFault (i.C.kid.getD 0) (i.s.ctxOf i.core) i.s.nextId i.core 0x40 ((a.va + p.1) % 2 ^ 64))
    (i.accept kind done 6 ((a.pieces.filter fun p => !a.badPiece p).map f))

/-- Issue an ns request to the network sender. Its accesses of the own core store are on this part whatever its target is. -/
def ns (op : Nat) (put : Bool) (kind : ReqKind) (f : GI → NsArgs → Nat × Nat × Bool → Msg) (core grp : Nat) (s : Gk1) : Out :=
  issue 0x2B (op3Is op) (nsOk put)
    (fun w => [fld w 16 5, fld w 21 5, fld w 26 5] ++ (if fld w 14 2 = 0 then [] else [fld w 26 5 + 1])
      ++ (if fld w 14 2 = 2 then [fld w 31 5] else [])) 0 (fun i =>
      if !i.G.issues i.w then .ok i.s else
      let a := i.nsArgs
      let done := doneOf i.w 41 42
      if !a.ok then .fault 0x22
      else if engineHeld i true true then .hold
      else if i.C.pendFull done.toList then .stall .engpend
      else if i.nsRefused a then
        .ok ((i.accept kind done 6 []).accessFault (i.C.kid.getD 0) (i.s.ctxOf i.core) i.s.nextId i.core 2 (if a.kind = 0 then a.tgt else a.va))
      else if i.nsBlocked put a then .hold
      else .ok ((i.acceptNs kind done a (f i a)).pump i.core)) core grp s

/-- ns.put: write to a core store, this part's device memory or a peer (R312, R325, R334, R522-R529). -/
def doNsPut (core grp : Nat) (s : Gk1) : Out :=
  ns 0 true .nsPut (fun i a p => { i.msg with
    kind := .write, place := a.at_ p.1, len := p.2.1, local_ := a.la + p.1, late := true, data := patchOf i.C.store (a.la + p.1) p.2.1
    stream := some a.stream, closing := p.2.2, unsent := true }) core grp s

/-- The row NS_PUT: doNsPut on the part. -/
def execNsPut (core grp : Nat) (s : State) : Answer := s.act fun s => doNsPut core grp s

/-- ns.get: read into the local core store (R312, R523, R525). -/
def doNsGet (core grp : Nat) (s : Gk1) : Out :=
  ns 1 false .nsGet (fun i a p => { i.msg with
    kind := .read, place := a.at_ p.1, len := p.2.1, local_ := a.la + p.1, stream := if a.kind = 2 then some a.stream else none
    unsent := a.kind = 2 }) core grp s

/-- The row NS_GET: doNsGet on the part. -/
def execNsGet (core grp : Nat) (s : State) : Answer := s.act fun s => doNsGet core grp s

/-! ## m.atom -/

/-- Issue a device-memory atomic by OP (R313, R353): alignment and kind of page are judged when the access is made. -/
def mAtom (op : Nat) (core grp : Nat) (s : Gk1) : Out :=
  issue 0x2D (opIs op) (fun w _ => evenBase (fld w 21 5) && (op = 12 || fld w 31 5 = 0) && fld w 37 27 = 0)
    (fun w => [fld w 21 5, fld w 21 5 + 1, fld w 26 5] ++ (if op = 12 then [fld w 31 5] else [])
      ++ (if w.testBit 36 then [fld w 16 5] else [])) 0 (fun i =>
      if !i.G.issues i.w then .ok i.s
      else if engineHeld i true true then .hold
      else
        let m : Msg := { i.msg with
          kind := .atom, place := .dev (i.G.pair (fld i.w 21 5)), len := 4, op := op, value := (i.G.s (fld i.w 26 5)).setWidth 64
          cmp := i.G.s (fld i.w 31 5), reg := fld i.w 16 5, ret := i.w.testBit 36 }
        let s := (i.accept .atom none 0 [m]).markShare i.core fun h => { h with unsafe_ := true }
        .ok (s.modGroup i.core i.grp fun G => if m.ret then { G with awaiting := addNew G.awaiting m.reg } else G)) core grp s

/-- m.atom add. -/
def execMAtomAdd (core grp : Nat) (s : State) : Answer := s.act fun s => mAtom 0 core grp s
/-- m.atom add.f32. -/
def execMAtomAddF32 (core grp : Nat) (s : State) : Answer := s.act fun s => mAtom 1 core grp s
/-- m.atom min.i32. -/
def execMAtomMinI32 (core grp : Nat) (s : State) : Answer := s.act fun s => mAtom 2 core grp s
/-- m.atom max.i32. -/
def execMAtomMaxI32 (core grp : Nat) (s : State) : Answer := s.act fun s => mAtom 3 core grp s
/-- m.atom min.u32. -/
def execMAtomMinU32 (core grp : Nat) (s : State) : Answer := s.act fun s => mAtom 4 core grp s
/-- m.atom max.u32. -/
def execMAtomMaxU32 (core grp : Nat) (s : State) : Answer := s.act fun s => mAtom 5 core grp s
/-- m.atom min.f32. -/
def execMAtomMinF32 (core grp : Nat) (s : State) : Answer := s.act fun s => mAtom 6 core grp s
/-- m.atom max.f32. -/
def execMAtomMaxF32 (core grp : Nat) (s : State) : Answer := s.act fun s => mAtom 7 core grp s
/-- m.atom and. -/
def execMAtomAnd (core grp : Nat) (s : State) : Answer := s.act fun s => mAtom 8 core grp s
/-- m.atom or. -/
def execMAtomOr (core grp : Nat) (s : State) : Answer := s.act fun s => mAtom 9 core grp s
/-- m.atom xor. -/
def execMAtomXor (core grp : Nat) (s : State) : Answer := s.act fun s => mAtom 10 core grp s
/-- m.atom exch. -/
def execMAtomExch (core grp : Nat) (s : State) : Answer := s.act fun s => mAtom 11 core grp s
/-- m.atom cas. -/
def execMAtomCas (core grp : Nat) (s : State) : Answer := s.act fun s => mAtom 12 core grp s

/-- A reply brings values into s registers of the group that waits for them (R224, R353). -/
def Gk1.replyRegs (s : Gk1) (m : Msg) (vals : List (Nat × BitVec 32)) : Gk1 :=
  if (s.core m.core).kid ≠ some m.kid then s else
  s.modGroup m.core m.slot fun G => vals.foldl (fun G v =>
    { G.setS v.1 v.2 with awaiting := G.awaiting.filter (· ≠ v.1) }) G

/-- The reply of an atomic arrives: SD receives the old value, or 0 after a fault (R353, R694). -/
def execMAtomReply (id : Nat) (s : State) : Answer := s.act fun s =>
  match NMap.get? s.msgs id with
  | some m =>
    if m.kind = .atomReply then .next (((s.replyRegs m [(m.reg, m.value.setWidth 32)]).delMsg id).performed m.rid 1 1) else .next s
  | none => .next s

/-! ## The heap -/

/-- Bytes of a heap chunk. -/
def chunkBytes : Nat := 65536

/-- The class exponent of a size: the least k of 8-20 with 2^k at least the size (R495). -/
def heapClass (size : Nat) : Option Nat :=
  if size = 0 then none else ([8, 9, 10, 11, 12, 13, 14, 15, 16, 17, 18, 19, 20].find? fun k => decide (size ≤ 2 ^ k))

/-- The chunk of an address. -/
def Ctx.chunkOf (c : Ctx) (a : Nat) : Nat := (a - c.heapVA) / chunkBytes

/-- Free blocks of a class in a chunk, by address. -/
def Ctx.freeIn (c : Ctx) (k ch : Nat) : List Nat :=
  (List.range (chunkBytes / 2 ^ k)).filterMap fun j =>
    let a := c.heapVA + ch * chunkBytes + j * 2 ^ k
    if c.blocks.any fun b => b.1 = a then none else some a

/-- A chunk of the heap is not in use. -/
def Ctx.chunkFree (c : Ctx) (ch : Nat) : Bool := decide (ch < c.heapCh) && !c.chunks.any fun x => x.1 = ch

/-- Chunks that may take a new block of a class: free ones; above 64 KiB the first of a free run aligned to the size. -/
def Ctx.freeChunks (c : Ctx) (k : Nat) : List Nat :=
  (List.range c.heapCh).filter fun ch =>
    if k ≤ 16 then c.chunkFree ch
    else (c.heapVA + ch * chunkBytes) % 2 ^ k = 0 && (List.range (2 ^ (k - 16))).all fun j => c.chunkFree (ch + j)

/-- One element of a list that nothing constrains (log 21). -/
def pick (free : Nat) (l : List Nat) : Option Nat := l[Config.freeTarget free % l.length]?

/-- Allocate a block for an engine of a region: in a chunk of the class that it holds, else in a chunk it takes (R495,
R496); the address and the context after. Which free block is taken is open (log 21). -/
def Ctx.alloc (c : Ctx) (free region size : Nat) : Nat × Ctx :=
  match heapClass size with
  | none => (0, c)
  | some k =>
    let held := (c.chunks.filter fun x => x.2.1 = k && x.2.2 = region && decide (k ≤ 16)).map Prod.fst
    match pick free (held.filter fun ch => !(c.freeIn k ch).isEmpty) with
    | some ch =>
      match pick (free + 1) (c.freeIn k ch) with
      | some a => (a, { c with blocks := c.blocks ++ [(a, k)] })
      | none => (0, c)
    | none =>
      match pick free (c.freeChunks k) with
      | none => (0, c)
      | some ch =>
        let c' := { c with chunks := c.chunks ++ (List.range (2 ^ (k - 16))).map fun j => (ch + j, k, region) }
        match pick (free + 1) (c.freeIn k ch) with
        | some a => (if k ≤ 16 then a else c.heapVA + ch * chunkBytes,
            { c' with blocks := c.blocks ++ [(if k ≤ 16 then a else c.heapVA + ch * chunkBytes, k)] })
        | none => (c.heapVA + ch * chunkBytes, { c' with blocks := c.blocks ++ [(c.heapVA + ch * chunkBytes, k)] })

/-- Free the block at an address, and its chunks once all their blocks are free (R496, R497). -/
def Ctx.free (c : Ctx) (a : Nat) : Option Ctx :=
  match c.blocks.find? fun b => b.1 = a with
  | none => none
  | some b =>
    let blocks := c.blocks.filter fun x => x.1 ≠ a
    let first := c.chunkOf a
    let mine := fun ch => decide (first ≤ ch) && decide (ch < first + 2 ^ (b.2 - 16))
    let idle := !blocks.any fun x => decide (c.chunkOf x.1 = first)
    some { c with blocks := blocks, chunks := if idle then c.chunks.filter fun x => !mine x.1 else c.chunks }

/-- h.alloc: the pair receives a block's address, or 0, when the engine replies (R314, R495). -/
def execHAlloc (core grp : Nat) (s : State) : Answer := s.act fun s =>
  issue 0x2C (op3Is 0) (fun w _ => evenBase (fld w 14 5) && fld w 24 40 = 0)
    (fun w => [fld w 14 5, fld w 14 5 + 1, fld w 19 5]) 0 (fun i =>
      if !i.G.issues i.w then .ok i.s
      else if engineHeld i false true then .hold
      else
        let ctx := i.s.ctxOf i.core
        let r := (i.s.ctx ctx).alloc i.s.free (regionOf (clusterOf i.core)) (i.G.sn (fld i.w 19 5))
        let m : Msg := { i.msg with kind := .heapReply, reg := fld i.w 14 5, value := BitVec.ofNat 64 r.1 }
        let s := (i.accept .heap none 0 [m]).markShare i.core fun h => { h with unsafe_ := true }
        let s := { s.modCtx ctx fun _ => r.2 with free := s.free + 2 }
        .ok (s.modGroup i.core i.grp fun G => { G with awaiting := addNew (addNew G.awaiting m.reg) (m.reg + 1) })) core grp s

/-- h.free: frees a block; 0 does nothing, any other address counts as misuse (R314, R327, R497). -/
def execHFree (core grp : Nat) (s : State) : Answer := s.act fun s =>
  issue 0x2C (op3Is 1) (fun w _ => fld w 14 5 = 0 && evenBase (fld w 19 5) && fld w 24 40 = 0)
    (fun w => [fld w 19 5, fld w 19 5 + 1]) 0 (fun i =>
      if !i.G.issues i.w then .ok i.s
      else if engineHeld i true true then .hold
      else
        let ctx := i.s.ctxOf i.core
        let a := i.G.pair (fld i.w 19 5)
        let s := i.s.markShare i.core fun h => { h with unsafe_ := true }
        if a = 0 then .ok s else
        match (s.ctx ctx).free a with
        | some c => .ok (s.modCtx ctx fun _ => c)
        | none => .ok (s.countCtx ctx 12 1)) core grp s

/-- The allocator engine replies and the result pair becomes readable (R224, R495). -/
def execHeapReply (id : Nat) (s : State) : Answer := s.act fun s =>
  match NMap.get? s.msgs id with
  | some m =>
    if m.kind = .heapReply then
      .next (((s.replyRegs m [(m.reg, m.value.setWidth 32), (m.reg + 1, (m.value >>> 32).setWidth 32)]).delMsg id).performed m.rid 1 1)
    else .next s
  | none => .next s

end Sys2Proof.Machine
end

