-- ==== Sys2Proof/Machine/Promote.lean ====
section
/-! DEFINITION. Run registers and totals: the run of a cell (R135-R141, R188) and promotion (R142-R149). -/

namespace Sys2Proof.Machine

/-! ## Totals -/

/-- Flags that a promotion raises. -/
structure PFlags where
  inexact : Bool := false
  overflow : Bool := false
  nonfin : Bool := false
  deriving DecidableEq, Repr

/-- The initial element of a total format: 0 T32, 1 T64, 2 T128 (R143). -/
def initElem (fmt : Nat) : BitVec 128 := if fmt = 2 then BitVec.ofNat 128 (2047 * 2 ^ 116) else 0

/-- Bytes of an element (R142). -/
def elemBytes (fmt : Nat) : Nat := match fmt with
  | 0 => 4
  | 1 => 8
  | _ => 16

/-- The value of a stored element; W is that of a T64 total (R142). -/
def elemNum (fmt : Nat) (w : Int) (b : BitVec 128) : XNum :=
  match fmt with
  | 0 => decodeF .fp32 (b.toNat % 2 ^ 32)
  | 1 => let v := sgn 64 b.toNat; if v = -(2 ^ 63 : Nat) then { neg := false, num := .nan } else XNum.ofInt v w
  | _ =>
    let v := sgn 116 b.toNat
    let e := sgn 12 (b.toNat >>> 116)
    if e = -2048 then (if v = 1 then { neg := false, num := .inf false } else if v = -1 then { neg := true, num := .inf true }
      else { neg := false, num := .nan }) else XNum.ofInt v e

/-- A T128 element of V and E. -/
def t128 (v e : Int) : BitVec 128 := BitVec.ofNat 128 (twos 116 v + twos 12 e * 2 ^ 116)

/-- m times 2^e as an integer, rounded to nearest, ties to even. -/
def roundNe (m e : Int) : Int := dyToInt true m e

/-- The exponent of the lowest set bit of a nonzero number. -/
def lowBit (m e : Int) : Int := e + ((List.range (Nat.log2 m.natAbs + 1)).find? fun i => m.natAbs.testBit i).getD 0

/-- The exponent of the leading bit of a nonzero number. -/
def topBit (m e : Int) : Int := e + Nat.log2 m.natAbs

/-- The numbers are equal. -/
def dyEq (m1 e1 m2 e2 : Int) : Bool := dyLe m1 e1 m2 e2 && dyLe m2 e2 m1 e1

/-- Promote a finite nonzero term (R144). Into a T32 total that is NaN it leaves INEXACT clear (DESIGN CHOICE, log 63). -/
def promoteFin (fmt : Nat) (w : Int) (old : BitVec 128) (m e : Int) : BitVec 128 × PFlags :=
  match fmt with
  | 0 =>
    let x := (decodeF .fp32 (old.toNat % 2 ^ 32)).add (XNum.ofInt m e)
    let b := roundF .fp32 .nearest x
    let r := decodeF .fp32 b
    (BitVec.ofNat 128 b, { inexact := !x.isNan && !x.eq r, overflow := r.isInf })
  | 1 =>
    let v := sgn 64 old.toNat
    if v = -(2 ^ 63 : Nat) then (old, {}) else
    let x := dyAdd v w m e
    let v' := roundNe x.1 (x.2 - w)
    let lim : Int := 2 ^ 63 - 1
    if lim < v'.natAbs then
      (BitVec.ofNat 128 (twos 64 (if x.1 < 0 then -lim else lim)), { inexact := true, overflow := true })
    else (BitVec.ofNat 128 (twos 64 v'), { inexact := !dyEq v' w x.1 x.2 })
  | _ =>
    let v := sgn 116 old.toNat
    let eo := sgn 12 (old.toNat >>> 116)
    if eo = -2048 then (old, {}) else
    let x := dyAdd v eo m e
    let lo := min eo (lowBit m e)
    let en := if x.1 = 0 then lo else max lo (topBit x.1 x.2 - 113)
    let v' := roundNe x.1 (x.2 - en)
    (t128 v' en, { inexact := !dyEq v' en x.1 x.2 })

/-- Promote an infinite or NaN term (R145). -/
def promoteMark (fmt : Nat) (old : BitVec 128) (t : Num) : BitVec 128 × PFlags :=
  match fmt with
  | 0 => (BitVec.ofNat 128 (roundF .fp32 .nearest ((decodeF .fp32 (old.toNat % 2 ^ 32)).add (XNum.ofNum t))), { nonfin := true })
  | 1 => (BitVec.ofNat 128 (2 ^ 63), { nonfin := true })
  | _ =>
    let cur := elemNum 2 0 old
    let v : Int := match cur.num, t with
      | .nan, _ => 0
      | _, .nan => 0
      | .inf a, .inf b => if a = b then (if b then -1 else 1) else 0
      | .fin _ _, .inf b => if b then -1 else 1
      | .inf a, .fin _ _ => if a then -1 else 1
      | .fin _ _, .fin _ _ => 0
    (t128 v (-2048), { nonfin := true })

/-- Promote a term; a zero is not promoted (R141, R144, R145). -/
def promote (fmt : Nat) (w : Int) (old : BitVec 128) (t : Num) : BitVec 128 × PFlags :=
  match t with
  | .fin m e => if m = 0 then (old, {}) else promoteFin fmt w old m e
  | .inf _ => promoteMark fmt old t
  | .nan => promoteMark fmt old t

/-! ## Runs -/

/-- The class of a product, and whether an operand is OB8e. -/
structure PClass where
  cls : Nat
  ob8e : Bool := false
  /-- 32-bit class: the operand that is split is B -/
  splitB : Bool := false
  deriving DecidableEq, Repr

/-- Longest run, in products (R135). -/
def PClass.longest (p : PClass) : Nat := match p.cls with
  | 1 => 512
  | 2 => 512
  | 3 => if p.ob8e then 2 else 8
  | _ => 1

/-- The exponent of the register's least significant bit beyond c (R135). -/
def PClass.lsb (p : PClass) : Int := match p.cls with
  | 1 => 0
  | 2 => -2
  | _ => -18

/-- A term that a cell promotes, with the tile that receives it under mma.wg (R187), and INEXACT of R138. -/
structure Term where
  t : Num
  ksel : Nat
  inexact : Bool := false
  deriving DecidableEq, Repr

/-- The exact product of two decoded elements with their scales (R135, R140). -/
def opndMul (a b : Opnd) : Num :=
  match ((XNum.ofNum a.v).mul (XNum.ofNum b.v)).num with
  | .fin m e => .fin m (e + a.s + b.s)
  | .inf n => .inf n
  | .nan => .nan

/-- The value of a run with an OB8e operand: its products in a 40-bit register whose least significant bit weighs
2^(P - 37), bits below it rounded to nearest even (R135, R138). Where that rounding loses bits INEXACT is set by R138, although R147
says that it stays clear (DESIGN CHOICE, log 63). -/
def runPair (ps : List (Int × Int)) : Num × Bool :=
  match ps.filter fun p => p.1 ≠ 0 with
  | [] => (.fin 0 0, false)
  | [p] => (.fin p.1 p.2, false)
  | p :: q :: _ =>
    let top := max (topBit p.1 p.2) (topBit q.1 q.2)
    let l := top - 37
    let a := roundNe p.1 (p.2 - l)
    let b := roundNe q.1 (q.2 - l)
    (.fin (BitVec.ofInt 40 (a + b)).toInt l, !(dyEq a l p.1 p.2 && dyEq b l q.1 q.2))

/-- Close a run: its value, then its escape terms in ascending K (R141). -/
def Run.close (p : PClass) (r : Run) : List Term :=
  if r.cnt = 0 then [] else
  let v := if p.ob8e && p.cls = 3 then runPair r.pend else (.fin r.reg.toInt r.lsb, false)
  { t := v.1, ksel := r.ksel, inexact := v.2 } :: r.escs.map fun e => { t := e, ksel := r.ksel }

/-- The terms of a product of the 16-bit or 32-bit class: the product, or the half-products with the upper and lower 12
bits of the split operand's significand (R135, R137). -/
def wideTerms (p : PClass) (a b : Opnd) (ksel : Nat) : List Term :=
  match opndMul a b with
  | .fin m e =>
    if a.esc || b.esc || p.cls = 4 then [{ t := .fin m e, ksel := ksel }] else
    let x := if p.splitB then b else a
    let y := if p.splitB then a else b
    match x.v with
    | .fin xm xe =>
      let hi : Int := (xm.natAbs / 4096 * 4096 : Nat) * (if xm < 0 then -1 else 1)
      let lo : Int := xm - hi
      [hi, lo].map fun h => { t := opndMul { x with v := .fin h xe } y, ksel := ksel }
    | .inf _ => [{ t := .fin m e, ksel := ksel }]
    | .nan => [{ t := .fin m e, ksel := ksel }]
  | .inf n => [{ t := .inf n, ksel := ksel }]
  | .nan => [{ t := .nan, ksel := ksel }]

/-- Add a product to a cell's run: the run after it, and the terms that closed runs promote (R135-R139, R188). A product
that no tile receives is dropped (R187). -/
def Run.add (p : PClass) (r : Run) (a b : Opnd) (ksel : Nat) : Run × List Term :=
  if 4 ≤ p.cls then ({}, wideTerms p a b ksel) else
  let c := a.s + b.s
  let split := decide (r.cnt ≠ 0) && (decide (r.c ≠ c) || decide (r.ksel ≠ ksel))
  let out := if split then r.close p else []
  let r : Run := if split || r.cnt = 0 then { c := c, ksel := ksel, lsb := c + p.lsb } else r
  let x := opndMul a b
  let fin := !(a.esc || b.esc) && (match x with | .fin _ _ => true | .inf _ => false | .nan => false)
  let r' := match x with
    | .fin m e =>
      if !fin then { r with cnt := r.cnt + 1, escs := r.escs ++ [x] }
      else if p.ob8e then { r with cnt := r.cnt + 1, pend := r.pend ++ [(m, e)] }
      else { r with cnt := r.cnt + 1, reg := r.reg + BitVec.ofInt 40 (roundNe m (e - r.lsb)) }
    | .inf _ => { r with cnt := r.cnt + 1, escs := r.escs ++ [x] }
    | .nan => { r with cnt := r.cnt + 1, escs := r.escs ++ [x] }
  if p.longest ≤ r'.cnt then ({}, out ++ r'.close p) else (r', out)

end Sys2Proof.Machine
end

