-- ==== Sys2Proof/Machine/Matrix.lean ====
section
/-! DEFINITION. Matrix instructions: acceptance (R89-R93, R97, R103, R127-R129, R150-R154, R183-R192, R293-R299), the
feeder (R108-R125), the array's K steps and promotions (R87, R95-R101, R112, R135-R149, R156-R158, R187, R188). -/

namespace Sys2Proof.Machine

/-! ## Words (R293) -/

/-- M. -/
def mxM (w : Nat) : Nat := (fld w 11 2 + 1) * 16
/-- N. -/
def mxN (w : Nat) : Nat := (fld w 13 3 + 1) * 8
/-- K. -/
def mxK (w : Nat) : Nat := (fld w 16 5 + 1) * 32
/-- AH. -/
def mxAH (w : Nat) : Nat := fld w 36 5
/-- INIT. -/
def mxInit (w : Nat) : Bool := w.testBit 41
/-- TFMT. -/
def mxTfmt (w : Nat) : Nat := fld w 42 2
/-- WIN. -/
def mxWin (w : Nat) : Int := sgn 10 (w >>> 44)
/-- U0 of mma.wg. -/
def mxU0 (w : Nat) : Nat := fld w 41 6
/-- MODE. -/
def mxMode (w : Nat) : Nat := fld w 54 2
/-- FOLD. -/
def mxFold (w : Nat) : Nat := fld w 56 2
/-- NM: N-outer pass order. -/
def mxNm (w : Nat) : Bool := w.testBit 58
/-- OPREL, when enabled. -/
def mxOprel (w1 : Nat) : Option Nat := doneOf w1 7 8
/-- DONE, when enabled. -/
def mxDone (w1 : Nat) : Option Nat := doneOf w1 14 15
/-- DRN. -/
def mxDrn (w1 : Nat) : Bool := w1.testBit 21
/-- REL. -/
def mxRel (w1 : Nat) : Bool := w1.testBit 22
/-- SD. -/
def mxSD (w1 : Nat) : Nat := fld w1 23 5
/-- CLS. -/
def mxCls (w1 : Nat) : Nat := fld w1 28 3

/-- The fields of an mma word that R293 and R295 refuse with INSTR_INVALID. -/
def mmaOk (w w1 : Nat) : Bool :=
  fld w 59 5 = 0 && fld w1 31 33 = 0 && mxMode w ≠ 3 && decide (mxCls w1 ≤ 5)
    && (fld w 44 10 = 0 || mxTfmt w = 2) && (mxDrn w1 || (!mxRel w1 && mxSD w1 = 0))

/-- The fields of an mma.wg word that R293 and R295 refuse with INSTR_INVALID. -/
def mmaWgOk (w w1 : Nat) : Bool :=
  fld w 47 7 = 0 && fld w 59 5 = 0 && fld w1 31 33 = 0 && mxMode w ≠ 3 && decide (mxCls w1 ≤ 5)

/-- Fields of mma.wg that name a drain, a handle, a fold or N-outer order, or force gang (R189, R295, R297). -/
def mmaWgMode (w w1 : Nat) : Bool :=
  mxAH w ≠ 0 || mxFold w ≠ 0 || mxNm w || mxDrn w1 || mxRel w1 || mxSD w1 ≠ 0 || mxMode w = 1

/-- The kernel's array mode is GANGED (R129, R440). -/
def Gk1.gangMode (s : Gk1) (core : Nat) : Bool := match s.kernelOf core with
  | some k => (k.desc.q.getD 0 0).getLsbD 37
  | none => false

/-- Rows and columns of the physical array: apart, or a fold of the gang (R94). -/
def arrayShape (fold : Nat) : Nat × Nat := match fold with
  | 1 => (32, 16)
  | 2 => (16, 32)
  | 3 => (64, 8)
  | _ => (16, 8)

/-- The arrays of a shape: the core's own when apart, the cluster's four when ganged (R94). -/
def foldCores (fold : Nat) : List Nat := if fold = 0 then [0] else [0, 1, 2, 3]

/-- The rows of the ganged array that core c takes (R94): cx is c mod 2 and cy c div 2 (R20). -/
def foldRows (fold c : Nat) : List Nat := match fold with
  | 1 => (List.range 16).map (c / 2 * 16 + ·)
  | 3 => (List.range 16).map (c * 16 + ·)
  | _ => List.range 16

/-- The columns that core c takes (R94). -/
def foldCols (fold c : Nat) : List Nat := match fold with
  | 1 => (List.range 8).map (c % 2 * 8 + ·)
  | 2 => (List.range 8).map (c * 8 + ·)
  | _ => List.range 8

/-- The cores that share the A rows of core c: those that take the same rows (R94). -/
def sharesRows (fold c : Nat) : List Nat := (foldCores fold).filter fun d => foldRows fold d = foldRows fold c

/-- The cores that share the B columns of core c (R94). -/
def sharesCols (fold c : Nat) : List Nat := (foldCores fold).filter fun d => foldCols fold d = foldCols fold c

/-- Passes over a fold (R95). -/
def passes (m n fold : Nat) : Nat := ceilDiv m (arrayShape fold).1 * ceilDiv n (arrayShape fold).2

/-- The fold that the part picks: fewest passes, ties in the order G32x16, G16x32, G64x8 (R97). -/
def pickFold (m n : Nat) : Nat :=
  let best := if passes m n 2 < passes m n 1 then 2 else 1
  if passes m n 3 < passes m n best then 3 else best

/-- TFMT resolved: 0 T32, 1 T64, 2 T128; AUTO by R150. -/
def resolveFmt (tfmt m n : Nat) (olpel : Bool) : Nat :=
  match tfmt with
  | 0 => if olpel && decide (m * n ≤ 1024) then 2 else 0
  | t => t - 1

/-- The class of a product of two descriptors (R88, R137). -/
def classOfProduct (a b : Opd) : PClass :=
  { cls := max a.fmtD.cls b.fmtD.cls, ob8e := decide (a.fmtD = .ob8e) || decide (b.fmtD = .ob8e), splitB := decide (b.fmtD = .fp32) }

/-- The checks of the operands (R92, R117, R294, R298, R300, R301), in the order FORMAT_INVALID, SHAPE_INVALID,
MMA_MODE_INVALID, OPERAND_RANGE (log 22). A VSEL table that leaves the core store is OPERAND_RANGE at issue (DESIGN CHOICE,
log 63). -/
def operandRefusal (wg : Bool) (w w1 k0 : Nat) (a b : Opd) : Option Nat :=
  let m := mxM w
  let n := mxN w
  let k := mxK w
  if !a.formatOk || !b.formatOk || (mxCls w1 ≠ 0 && decide (mxCls w1 ≠ (classOfProduct a b).cls)) then some 0x23
  else if b.conv || (!wg && !a.convOk k0 k) then some 0x24
  else if a.variant || a.ext = 3 || b.ext = 3 || (b.variant && (b.vstride % 64 ≠ 0 || b.vcount = 0))
      || (wg && (b.variant || a.conv)) then some 0x25
  else if !a.rangeOk k0 m k || !b.rangeOk 0 n k || (b.variant && !inStore b.vsel (2 * m)) then some 0x22
  else none

/-- Bytes of the totals that a core now holds in the bank (R153). -/
def Core.bankBytes (C : Core) : Nat := (C.totals.map fun e => e.2.m * e.2.n * elemBytes e.2.fmt).sum

/-- The cores that share a bank limit: the core alone, or the cluster under GANGED (R153). -/
def Gk1.bankCores (s : Gk1) (core : Nat) : List Nat :=
  if s.gangMode core then (List.range 4).map fun i => clusterOf core * 4 + i else [core]

/-- The bank limit (R153). -/
def Gk1.bankLimit (s : Gk1) (core : Nat) : Nat := if s.gangMode core then 65536 else 16384

/-- An address register: bits [31:16] zero, aligned, and n bytes in the core store (R298). -/
def addrReg (a align n : Nat) : Bool := a % align = 0 && inStore a n

/-- What an mma instruction is, once its operands are read. -/
structure MmaArgs where
  a : Opd
  b : Opd
  k0 : Nat
  ganged : Bool
  /-- the total was initialised by a ganged instruction (R161) -/
  tgang : Bool
  fold : Nat
  bound : Bound
  drain : Option DrainReq

/-- The address checks and the descriptors of A and B (R298). -/
def GI.opds (i : GI) : Option (Opd × Opd) :=
  let sa := i.G.sn (fld i.w 21 5)
  let sb := i.G.sn (fld i.w 26 5)
  if addrReg sa 32 32 && addrReg sb 32 32 then some (opdAt i.C.store sa, opdAt i.C.store sb) else none

/-- The s registers that a drain request reads through SD: SD itself, and those that the descriptor it names names (R224,
R299). -/
def GI.drainReads (i : GI) (sd : Nat) : List Nat :=
  let a := i.G.sn sd
  sd :: (if addrReg a 64 128 then drainRegs (Mem.le i.C.store a 8) else [])

/-- The s registers that an mma reads beside SA and SB: K0 of a convolution form, and those of its drain (R224, R293, R299). -/
def GI.mmaReads (i : GI) : List Nat :=
  (match i.opds with
    | some (a, _) => if a.conv then [fld i.w 31 5] else []
    | none => []) ++ (if mxDrn i.w1 then i.drainReads (mxSD i.w1) else [])

/-- An instruction waits for one of these registers, before any check that could read it (R93, R224). -/
def GI.waitsFor (i : GI) (rs : List Nat) : Bool := rs.any i.G.awaiting.contains

/-- The matrix queue takes no instruction of this group now: it is full, or a group of a lower slot waits for the entry
(R103, R104). -/
def GI.queueFull (i : GI) : Bool :=
  decide (4 ≤ i.C.mq.length)
    || (List.range i.grp).any fun g => (i.C.group g).stall = .queue && (i.C.group g).status = .running

/-- Every check that can refuse an mma, R93: its arguments, or the code. -/
def GI.mmaArgs (i : GI) : Except Nat MmaArgs :=
  let w := i.w
  match i.opds with
  | none => .error 0x22
  | some (a, b) =>
    let k0 := if a.conv then i.G.sn (fld w 31 5) else 0
    match operandRefusal false w i.w1 k0 a b with
    | some e => .error e
    | none =>
      let ganged := !b.variant && (mxMode w = 1 || (mxMode w = 0 && i.s.gangMode i.core))
      if (b.variant && mxMode w = 1) || (mxFold w ≠ 0 && !ganged) then .error 0x25 else
      let fmt := resolveFmt (mxTfmt w) (mxM w) (mxN w) (a.fmtD.olpel && b.fmtD.olpel)
      let old := NMap.get? i.C.hbind (mxAH w)
      let bound : Bound := match old with
        | some o => o
        | none => { tid := i.s.nextId, m := mxM w, n := mxN w, fmt := fmt, w := mxWin w }
      let handleOk := match old with
        | some o => !mxInit w && o.m = mxM w && o.n = mxN w && o.fmt = fmt
        | none => mxInit w
      if !handleOk then .error 0x27 else
      let tgang := match NMap.get? i.C.totals bound.tid with
        | some t => t.ganged
        | none => ganged
      let fold := if !ganged then 0 else if mxFold w ≠ 0 then mxFold w else pickFold (mxM w) (mxN w)
      let res := fun d => { a := a, b := b, k0 := k0, ganged := ganged, tgang := tgang, fold := fold, bound := bound, drain := d : MmaArgs }
      if !mxDrn i.w1 then .ok (res none) else
      match drainAt i.C.store i.G (mxSD i.w1) (mxRel i.w1) with
      | .error e => .error e
      | .ok d =>
        match d.refusal bound.m bound.n bound.fmt tgang with
        | some e => .error e
        | none => .ok (res (some d))

/-- A request for an accepted matrix instruction: what it still performs is unknown until it is handed off (R329). -/
def GI.mxReq (i : GI) (kind : ReqKind) : Gk1 :=
  let q : Req := { kind := kind, core := i.core, slot := i.grp, kid := i.C.kid.getD 0, ctx := i.s.ctxOf i.core }
  { i.s with reqs := NMap.set i.s.reqs i.s.nextId q, nextId := i.s.nextId + 1 }

/-- Accept an mma into the matrix queue (R93, R103, R151, R154, R159, R299, R360). -/
def GI.acceptMma (i : GI) (x : MmaArgs) : Iss :=
  let w := i.w
  let done := mxDone i.w1
  let bytes := x.bound.m * x.bound.n * elemBytes x.bound.fmt
  let bank := i.s.bankCores i.core
  let used := (bank.map fun c => (i.s.core c).bankBytes).sum
  if mxInit w && decide (i.s.bankLimit i.core < used + bytes) then
    (if bank.any fun c => !(i.s.core c).releasing.isEmpty then
      (if i.queueFull then .stall .queue else .stall .bank) else .fault 0x28)
  else if engineHeld i (mxDrn i.w1) true then .hold
  else if i.queueFull then .stall .queue
  else if i.C.pendFull ((mxOprel i.w1).toList ++ done.toList) then .stall .engpend
  else
    let rid := i.s.nextId
    let ins : MxInstr := {
      rid := rid, kind := .mma, slot := i.grp, kid := i.C.kid.getD 0, w0 := BitVec.ofNat 64 w, w1 := BitVec.ofNat 64 i.w1
      aD := x.a.words, bD := x.b.words, k0 := x.k0, tid := x.bound.tid, fold := x.fold, drain := x.drain }
    let s := (i.mxReq .mma).modCore i.core fun C => { C.promise ((mxOprel i.w1).toList ++ done.toList) with
      mq := C.mq ++ [ins]
      totals := if mxInit w then NMap.set C.totals x.bound.tid
        { m := x.bound.m, n := x.bound.n, fmt := x.bound.fmt, w := x.bound.w, ganged := x.ganged } else C.totals
      hbind := if x.drain.isSome && mxRel i.w1 then NMap.erase C.hbind (mxAH w) else NMap.set C.hbind (mxAH w) x.bound
      releasing := if x.drain.isSome && mxRel i.w1 then C.releasing ++ [x.bound.tid] else C.releasing
      drains := match x.drain with
        | some d => C.drains ++ [{
            rid := rid, slot := i.grp, kid := ins.kid, tid := x.bound.tid, req := d, done := done, ganged := x.tgang }]
        | none => C.drains }
    .ok s

/-- mma (R93). -/
def doMma (core grp : Nat) (s : Gk1) : Out :=
  issue 0x20 (fun _ => true) mmaOk
    (fun w => [fld w 21 5, fld w 26 5]) 0 (fun i =>
      if !i.G.issues i.w then .ok i.s else
      if i.waitsFor i.mmaReads then .hold else
      match i.mmaArgs with
      | .error e => .fault e
      | .ok x => i.acceptMma x) core grp s

/-- The row MMA: doMma on the part. -/
def execMma (core grp : Nat) (s : State) : Answer := s.act fun s => doMma core grp s

/-- The open group of a cluster whose first unit is u0, as it stands once every accepted WGS instruction has run (R184). -/
def Cluster.groupAt (c : Cluster) (u0 : Nat) : Option (Nat × WGroup) :=
  c.wgs.find? fun e => e.2.u0 = u0 && !e.2.closing

/-- mma.wg (R93, R185-R192, R295, R297). -/
def doMmaWg (core grp : Nat) (s : Gk1) : Out :=
  issue 0x21 (fun _ => true) mmaWgOk
    (fun w => [fld w 21 5, fld w 26 5, fld w 31 5]) 0 (fun i =>
      if !i.G.issues i.w then .ok i.s
      else if mmaWgMode i.w i.w1 then .fault 0x25
      else
        let sks := i.G.sn (fld i.w 31 5)
        match i.opds with
        | none => .fault 0x22
        | some (a, b) =>
          match operandRefusal true i.w i.w1 0 a b with
          | some e => .fault e
          | none =>
            if !inStore sks (2 * mxK i.w) then .fault 0x22 else
            match (i.s.cluster (clusterOf i.core)).groupAt (mxU0 i.w) with
            | none => .fault 0x2A
            | some (gid, g) =>
              if !(g.m = mxM i.w && g.n = mxN i.w) || (!g.shared && decide (g.owner ≠ i.core)) then .fault 0x2A
              else if engineHeld i false true then .hold
              else if i.queueFull then .stall .queue
              else if i.C.pendFull ((mxOprel i.w1).toList ++ (mxDone i.w1).toList) then .stall .engpend
              else
                let rid := i.s.nextId
                let kid := i.C.kid.getD 0
                let ins : MxInstr := {
                  rid := rid, kind := .mmaWg, slot := i.grp, kid := kid, w0 := BitVec.ofNat 64 i.w, w1 := BitVec.ofNat 64 i.w1
                  aD := a.words, bD := b.words, gid := gid, ksel := sks }
                let s := (i.mxReq .mmaWg).modCore i.core fun C =>
                  { C.promise ((mxOprel i.w1).toList ++ (mxDone i.w1).toList) with mq := C.mq ++ [ins] }
                let op : WOp := { rid := rid, gid := gid, kind := 0, core := i.core, slot := i.grp, kid := kid }
                let s := s.modCluster (clusterOf i.core) fun c => { c with wops := c.wops ++ [op] }
                let s := s.markShare i.core fun h => { h with unsafe_ := true, mmaWg := true }
                .ok (s.modKernel kid fun K => { K with accumulating := true })) core grp s

/-- The row MMA_WG: doMmaWg on the part. -/
def execMmaWg (core grp : Nat) (s : State) : Answer := s.act fun s => doMmaWg core grp s

/-- acc.drain: queue a drain of a bound handle (R93, R152, R159, R298, R305, R306). -/
def doAccDrain (core grp : Nat) (s : Gk1) : Out :=
  issue 0x22 (fun _ => true) (fun w _ => fld w 29 35 = 0) (fun w => [fld w 17 5]) 0 (fun i =>
    if !i.G.issues i.w then .ok i.s else
    if i.waitsFor (i.drainReads (fld i.w 17 5)) then .hold else
    let ah := fld i.w 11 5
    let rel := i.w.testBit 16
    let done := doneOf i.w 22 23
    match drainAt i.C.store i.G (fld i.w 17 5) rel, NMap.get? i.C.hbind ah with
    | .error e, _ => .fault e
    | .ok _, none => .fault 0x27
    | .ok d, some b =>
      let tgang := match NMap.get? i.C.totals b.tid with
        | some t => t.ganged
        | none => false
      match d.refusal b.m b.n b.fmt tgang with
      | some e => .fault e
      | none =>
        if engineHeld i true true then .hold
        else if i.queueFull then .stall .queue
        else if i.C.pendFull done.toList then .stall .engpend
        else
          let rid := i.s.nextId
          let kid := i.C.kid.getD 0
          .ok ((i.mxReq .drain).modCore i.core fun C => { C.promise done.toList with
            mq := C.mq ++ [{ rid := rid, kind := .drain, slot := i.grp, kid := kid, tid := b.tid, drain := some d }]
            hbind := if rel then NMap.erase C.hbind ah else C.hbind
            releasing := if rel then C.releasing ++ [b.tid] else C.releasing
            drains := C.drains ++ [{
              rid := rid, slot := i.grp, kid := kid, tid := b.tid, req := d, done := done, ganged := tgang }] })) core grp s

/-- The row ACC_DRAIN: doAccDrain on the part. -/
def execAccDrain (core grp : Nat) (s : State) : Answer := s.act fun s => doAccDrain core grp s

/-! ## The feeder -/

/-- A matrix instruction that forms products. -/
def MxInstr.forms (m : MxInstr) : Bool := decide (m.kind ≠ .drain)

/-- M, N and K of an accepted instruction. -/
def MxInstr.mnk (m : MxInstr) : Nat × Nat × Nat := (mxM m.w0.toNat, mxN m.w0.toNat, mxK m.w0.toNat)

/-- Passes of an accepted instruction. -/
def MxInstr.passes (m : MxInstr) : Nat := Machine.passes m.mnk.1 m.mnk.2.1 m.fold

/-- The pass position (bm, bn) of a pass number, M-outer unless NM is set (R95, R96). -/
def MxInstr.passAt (m : MxInstr) (p : Nat) : Nat × Nat :=
  let mm := ceilDiv m.mnk.1 (arrayShape m.fold).1
  let nn := ceilDiv m.mnk.2.1 (arrayShape m.fold).2
  if mxNm m.w0.toNat then (p % mm, p / mm) else (p / nn, p % nn)

/-- Output rows of a pass. -/
def MxInstr.rows (m : MxInstr) (p : Nat) : List Nat :=
  let pr := (arrayShape m.fold).1
  ((List.range pr).map fun r => (m.passAt p).1 * pr + r).filter fun r => decide (r < m.mnk.1)

/-- Output columns of a pass. -/
def MxInstr.cols (m : MxInstr) (p : Nat) : List Nat :=
  let pc := (arrayShape m.fold).2
  ((List.range pc).map fun c => (m.passAt p).2 * pc + c).filter fun c => decide (c < m.mnk.2.1)

/-- Cells of a pass that work: those of each array of the shape in its part of it (R94, R95); the others are clock-gated
(R96). -/
def MxInstr.cells (m : MxInstr) (p : Nat) : List (Nat × Nat) :=
  let sh := arrayShape m.fold
  let bm := (m.passAt p).1 * sh.1
  let bn := (m.passAt p).2 * sh.2
  ((foldCores m.fold).flatMap fun c => (foldRows m.fold c).flatMap fun i => (foldCols m.fold c).map fun j => (bm + i, bn + j)).filter
    fun q => decide (q.1 < m.mnk.1) && decide (q.2 < m.mnk.2.1)

/-- The variant of a row, none for a row that receives +0 (R121, R123). -/
def variantOf (b : Opd) (m : Mem) (row : Nat) : Option Nat :=
  let v := Mem.le m (b.vsel + 2 * row) 2
  if v = 0xFFFF then none else some v

/-- A variant id that faults: not below VCOUNT, or its operand leaves the core store (R124). -/
def variantBad (b : Opd) (m : Mem) (n k row : Nat) : Bool :=
  match variantOf b m row with
  | none => false
  | some v => decide (b.vcount ≤ v) || !b.bytesOk v 0 n k

/-- The further escaped elements of one queue's entry (R119). -/
def escWait (l : List Opnd) : Nat := (l.filter Opnd.esc).length - 1

/-- Elements read for one entry of a queue, with their events. -/
def feedRow (t : Planes) (m : Mem) (pos : Nat → Option (Nat × Nat)) (k : Nat) : List (Opnd × Ev) :=
  (List.range 8).map fun j => t.fetch m (pos (k + j))

/-- Build entry e of pass p: the entry, its events, counted once per element of the instruction (R83, R115-R123), and
whether a variant id is out of range (R124). An element of a row with such an id is a value that nothing constrains. A row
whose id is 0xFFFF gets no B element: it forms no product, for its output row is zero whatever A holds (R123). With variant
rows each (row, column) pair counts as an escape path of its own (DESIGN CHOICE, log 63). -/
def MxInstr.feed (x : MxInstr) (m : Mem) (free p e : Nat) : FeedEntry × Ev × Bool :=
  let a := opdOf x.aD
  let b := opdOf x.bD
  let k := 8 * e
  let rows := x.rows p
  let cols := x.cols p
  let bm := (x.passAt p).1
  let bn := (x.passAt p).2
  let as := rows.map fun r => (r, feedRow (a.planes 0) m (fun j => a.pos r (x.k0 + j)) k)
  let again := fun r j => a.conv && a.usedBefore x.k0 x.mnk.1 r (x.k0 + k + j)
  let aEv : Ev := if bn = 0 then as.foldl (fun (v : Ev) q => (q.2.zip (List.range 8)).foldl
    (fun (v : Ev) (d : (Opnd × Ev) × Nat) => if again q.1 d.2 then v else v.add d.1.2) v) {} else {}
  let aKeys := as.flatMap fun q => (q.2.zip (List.range 8)).map fun d => (q.1 * 8 + d.2, d.1.1)
  let ksel := if x.kind = .mmaWg then (List.range 8).map fun j => Mem.le m (x.ksel + 2 * (k + j)) 2 else []
  if b.variant then
    let col : Nat → Nat → List (Opnd × Ev) := fun r c => match variantOf b m r with
      | none => []
      | some v =>
        if variantBad b m x.mnk.2.1 x.mnk.2.2 r then List.replicate 8 ({ v := .fin (Config.freeTarget free) 0 }, {})
        else feedRow (b.planes v) m (fun j => b.pos c j) k
    let bs := rows.flatMap fun r => cols.map fun c => (r, c, col r c)
    let first := fun r => match variantOf b m r with
      | none => false
      | some v => !(List.range r).any fun q => variantOf b m q = some v
    let bEv := bs.foldl (fun (v : Ev) q => if first q.1 then q.2.2.foldl (fun (v : Ev) d => v.add d.2) v else v) ({} : Ev)
    let bKeys := bs.flatMap fun q => (q.2.2.zip (List.range 8)).map fun d => ((q.1 * 64 + q.2.1) * 8 + d.2, d.1.1)
    let wait := ((as.map fun q => escWait (q.2.map Prod.fst)) ++ (bs.map fun q => escWait (q.2.2.map Prod.fst))).foldl max 0
    ({ a := aKeys, b := bKeys, stall := wait, ksel := ksel }, aEv.add bEv,
      rows.any fun r => variantBad b m x.mnk.2.1 x.mnk.2.2 r)
  else
    let bs := cols.map fun c => (c, feedRow (b.planes 0) m (fun j => b.pos c j) k)
    let bEv := if bm = 0 then bs.foldl (fun (v : Ev) q => q.2.foldl (fun (v : Ev) d => v.add d.2) v) ({} : Ev) else {}
    let bKeys := bs.flatMap fun q => (q.2.zip (List.range 8)).map fun d => (q.1 * 8 + d.2, d.1.1)
    let wait := ((as.map fun q => escWait (q.2.map Prod.fst)) ++ (bs.map fun q => escWait (q.2.map Prod.fst))).foldl max 0
    ({ a := aKeys, b := bKeys, stall := wait, ksel := ksel }, aEv.add bEv, false)

/-- Every entry of the instruction has been filled (R105). -/
def MxInstr.fed (x : MxInstr) : Bool := !x.forms || decide (x.passes ≤ x.fillPass)

/-- Replace an instruction of a core, in its queue or its pipeline. -/
def Core.setMx (C : Core) (x : MxInstr) : Core :=
  { C with mq := C.mq.map fun y => if y.rid = x.rid then x else y
           pipe := C.pipe.map fun y => if y.rid = x.rid then x else y }

/-- A fault of a unit on an accepted instruction: recorded and reported as a faulted access is (R124, R191, R695). -/
def Gk1.unitFault (s : Gk1) (core : Nat) (x : MxInstr) (code : Nat) : Gk1 :=
  let s := s.kernelFault x.kid x.rid core code
  match NMap.get? s.kernels x.kid with
  | none => s
  | some K =>
    if K.reported then s else
    (s.modKernel x.kid fun K => { K with reported := true }).report {
      kind := 1, status := code, ctx := K.ctx, queue := K.queue, unit := clusterOf core, place := s.placeOf (clusterOf core) }

/-- Mark a total UNDEF (R158). -/
def Core.undefTotal (C : Core) (tid : Nat) : Core :=
  { C with totals := NMap.upd C.totals tid fun t => { t with undef := true } }

/-- Change an open WGS group. -/
def Gk1.modWgs (s : Gk1) (cl gid : Nat) (f : WGroup → WGroup) : Gk1 :=
  s.modCluster cl fun c => { c with wgs := NMap.upd c.wgs gid f }

/-- A WGS tile. -/
def WGroup.tile (g : WGroup) (t : Nat) : WTile := NMap.getD g.tiles t {}

/-- Mark tiles of a group UNDEF (R191, R443). -/
def WGroup.undefTiles (g : WGroup) (l : List Nat) : WGroup :=
  { g with tiles := l.foldl (fun ts t => NMap.set ts t { NMap.getD ts t {} with undef := true }) g.tiles }

/-- Entries that wait in the row and column feeder queues of a core, over all its instructions (R101, R108). -/
def Core.queued (C : Core) : Nat := (C.mq.map fun x => x.entries.length).sum

/-- The feeder fills the next entry of the oldest instruction that lacks one: a queue holds at most 8 entries (R108). KSEL entries
out of range fault the instruction and mark the group's tiles (R191); where their products go is open. -/
def execFeederFill (core : Nat) (s : State) : Answer := s.act fun s =>
  if !coreOk core then .fault .noSuchUnit else
  let C := s.core core
  match C.mq.find? fun x => !x.fed with
  | none => .next s
  | some x =>
    if 8 ≤ C.queued || (s.cluster (clusterOf core)).lost then .next s else
    let f := x.feed C.store s.free x.fillPass x.fillEnt
    let last := decide (x.mnk.2.2 / 8 ≤ x.fillEnt + 1)
    let wc := match NMap.get? (s.cluster (clusterOf core)).wgs x.gid with
      | some g => g.wcount
      | none => 0
    let badK := f.1.ksel.any fun v => v ≠ 0xFFFF && decide (wc ≤ v)
    let fix := fun v => if v ≠ 0xFFFF && decide (wc ≤ v) then
      (let r := Config.freeTarget (s.free + 1) % (wc + 1); if r = wc then 0xFFFF else r) else v
    let x' := { x with
      entries := x.entries ++ [{ f.1 with ksel := f.1.ksel.map fix }], tsw := tswAdd x.tsw f.2.1
      fillEnt := if last then 0 else x.fillEnt + 1, fillPass := if last then x.fillPass + 1 else x.fillPass }
    let s := s.setCore core (C.setMx x')
    let s := if f.2.2 then (s.unitFault core x 0x26).modCore core fun C => C.undefTotal x.tid else s
    let s := if badK then (s.unitFault core x 0x2B).modWgs (clusterOf core) x.gid fun g => g.undefTiles (List.range wc) else s
    let s := { s with free := s.free + 2 }
    -- without a drain, every access of the instruction is now performed (R329, R330)
    .next (if x'.fed && x'.drain.isNone then s.handOff x.rid else s)

/-- An instruction of a core by its request number, in the queue or the pipeline. -/
def Core.mx (C : Core) (rid : Nat) : Option MxInstr := (C.pipe ++ C.mq).find? fun x => x.rid = rid

/-- The context of a kernel. -/
def Gk1.kernelCtx (s : Gk1) (kid : Nat) : Nat := ((NMap.get? s.kernels kid).map Kernel.ctx).getD 0

/-- The OPREL arrival that an instruction has promised and not made yet (R105, R333). -/
def Gk1.arriveOprel (s : Gk1) (core : Nat) (x : MxInstr) : Gk1 :=
  match mxOprel x.w1.toNat with
  | none => s
  | some b =>
    if !x.forms || !x.fed || x.oprelDone then s else
    (s.modCore core fun C => C.setMx { x with oprelDone := true }).sendArrival core x.slot x.kid (s.kernelCtx x.kid) b 2

/-- The feeder has read every byte of an instruction and it arrives on OPREL (R105, R333). -/
def execOprelArrival (core rid : Nat) (s : State) : Answer := s.act fun s =>
  if !coreOk core then .fault .noSuchUnit else
  match (s.core core).mx rid with
  | none => .next s
  | some x => .next (s.arriveOprel core x)

/-! ## The array -/

/-- The instruction has started its first K step (R101, R130). -/
def MxInstr.started (x : MxInstr) : Bool := x.pass ≠ 0 || x.kpos ≠ 0 || x.sub ≠ 0

/-- The instruction runs ganged (R127). -/
def MxInstr.ganged (x : MxInstr) : Bool := x.forms && x.fold ≠ 0

/-- The four cores of a cluster. -/
def coresOf (cl : Nat) : List Nat := (List.range 4).map fun i => cl * 4 + i

/-- The heads of a cluster's four matrix queues, with their cores. -/
def Gk1.heads (s : Gk1) (cl : Nat) : List (Nat × MxInstr) :=
  (coresOf cl).filterMap fun c => (s.core c).mq.head?.map fun x => (c, x)

/-- All arrays of a cluster are empty: nothing started, nothing past its last K step (R130). -/
def Gk1.arraysEmpty (s : Gk1) (cl : Nat) : Bool :=
  (coresOf cl).all fun c => (s.core c).pipe.isEmpty && !(s.core c).mq.any MxInstr.started

/-- A ganged instruction at a queue head, or a hold, asks for the gang (R130, R133). -/
def Gk1.wantsGang (s : Gk1) (cl : Nat) : Bool := (s.cluster cl).hold || (s.heads cl).any fun h => h.2.ganged

/-- The head of a core's queue may run a K step now: its cluster runs for its kernel, is HELD, and its mode allows it
(R107, R126, R130-R133, R603). -/
def Gk1.mayRun (s : Gk1) (core : Nat) (x : MxInstr) : Bool :=
  let cl := clusterOf core
  let c := s.cluster cl
  c.held && !c.lost && decide (c.admitted = some x.kid) && x.forms &&
    (if x.ganged then
      c.ganged && (x.started || (c.apartFirst.isEmpty && !(s.heads cl).any (fun h => h.2.ganged && (h.2.started || decide (h.2.rid < x.rid)))
        && (s.heads cl).all fun h => !(h.2.ganged && h.2.started)))
    else !c.ganged && (x.started || !s.wantsGang cl || c.apartFirst.contains x.rid))

/-- ACLK that one step of the array takes, and K positions it covers (R87, R113). -/
def MxInstr.pace (x : MxInstr) : Nat × Nat :=
  let a := opdOf x.aD
  let b := opdOf x.bD
  match (classOfProduct a b).cls with
  | 1 => if (a.group = some 4 || b.group = some 4) then (1, 1) else (1, 2)
  | 2 => (1, 1)
  | 3 => (2, 1)
  | 4 => (4, 1)
  | _ => (16, 1)

/-- One K position of every cell of a pass: the open runs and the terms promoted, by cell (R135-R141). -/
def MxInstr.position (x : MxInstr) (en : FeedEntry) (k : Nat) : NMap Run × List (Nat × Term) :=
  let b := opdOf x.bD
  let p := classOfProduct (opdOf x.aD) b
  let ks := if x.kind = .mmaWg then en.ksel.getD (k % 8) 0xFFFF else 0
  (x.cells x.pass).foldl (fun acc q =>
    let cell := q.1 * 64 + q.2
    match NMap.get? en.a (q.1 * 8 + k % 8), NMap.get? en.b ((if b.variant then cell else q.2) * 8 + k % 8) with
    | some va, some vb =>
      let d := Run.add p (NMap.getD acc.1 cell {}) va vb ks
      (NMap.set acc.1 cell d.1, acc.2 ++ d.2.map fun t => (cell, t))
    | _, _ => acc) (x.runs, [])

/-- The terms of the runs still open, at the end of a pass (R136). -/
def MxInstr.closeRuns (x : MxInstr) : List (Nat × Term) :=
  let p := classOfProduct (opdOf x.aD) (opdOf x.bD)
  x.runs.flatMap fun e => (e.2.close p).map fun t => (e.1, t)

/-- Promote terms into a total (R141, R144-R146). -/
def Total.take (t : Total) (l : List (Nat × Term)) : Total :=
  l.foldl (fun t e =>
    let r := promote t.fmt t.w (NMap.getD t.elems e.1 (initElem t.fmt)) e.2.t
    { t with
      elems := NMap.put t.elems e.1 r.1 (initElem t.fmt)
      inexact := t.inexact || r.2.inexact || e.2.inexact, overflow := t.overflow || r.2.overflow, nonfin := t.nonfin || r.2.nonfin }) t

/-- Promote terms into the tiles of a WGS group (R187). -/
def WGroup.take (g : WGroup) (l : List (Nat × Term)) : WGroup :=
  l.foldl (fun g e =>
    if e.2.ksel = 0xFFFF then g else
    let t := g.tile e.2.ksel
    let r := promote g.fmt g.w (NMap.getD t.elems e.1 (initElem g.fmt)) e.2.t
    { g with tiles := NMap.set g.tiles e.2.ksel { t with
      elems := NMap.put t.elems e.1 r.1 (initElem g.fmt)
      inexact := t.inexact || r.2.inexact || e.2.inexact, overflow := t.overflow || r.2.overflow, nonfin := t.nonfin || r.2.nonfin } }) g

/-- Promotions of an instruction are held: by an earlier instruction on its total that is not complete, or an earlier
drain of it that has not read it (R156, R160); by an earlier operation on its WGS group (R192, R197). -/
def Gk1.promoteHeld (s : Gk1) (core : Nat) (x : MxInstr) : Bool :=
  let C := s.core core
  if x.kind = .mmaWg then (s.cluster (clusterOf core)).wops.any fun o => o.gid = x.gid && decide (o.rid < x.rid)
  else (C.pipe ++ C.mq).any (fun y => y.tid = x.tid && decide (y.kind = .mma) && decide (y.rid < x.rid))
    || C.drains.any fun d => d.tid = x.tid && decide (d.rid < x.rid) && !d.started

/-- Tiles that terms enter. -/
def tilesOf (l : List (Nat × Term)) : List Nat := ((l.map fun e => e.2.ksel).filter (· ≠ 0xFFFF)).eraseDups

/-- Note a kernel as one that has promoted into some tiles (R443). -/
def WGroup.promotedBy (g : WGroup) (kid : Nat) (l : List Nat) : WGroup :=
  { g with tiles := l.foldl (fun ts t =>
      let w : WTile := NMap.getD ts t {}
      NMap.set ts t { w with kids := addNew w.kids kid }) g.tiles }

/-- Carry out promotions. -/
def Gk1.promoteAll (s : Gk1) (core : Nat) (x : MxInstr) (l : List (Nat × Term)) : Gk1 :=
  if x.kind = .mmaWg then s.modWgs (clusterOf core) x.gid fun g => (g.take l).promotedBy x.kid (tilesOf l)
  else s.modCore core fun C => { C with totals := NMap.upd C.totals x.tid fun t => t.take l }

/-- An ACLK passes under a gang: an apart head that waits counts it toward the release (R132). -/
def Gk1.gangAclk (s : Gk1) (core : Nat) (x : MxInstr) : Gk1 :=
  let cl := clusterOf core
  if x.ganged && (s.heads cl).any (fun h => !h.2.ganged && h.2.forms) then
    s.modCluster cl fun c => { c with apartWait := c.apartWait + 1 } else s

/-- The array counts an ACLK as busy, feeder stall or escape wait: 0, 1, 2 (R743). A ganged instruction counts on the
cluster's four cores, also on one whose cells a pass gates (DESIGN CHOICE, log 63). -/
def Gk1.countAclk (s : Gk1) (core : Nat) (x : MxInstr) (i : Nat) : Gk1 :=
  let s := if i ≠ 0 then s else s.modCluster (clusterOf core) fun c => { c with ran := c.ran + if x.ganged then 4 else 1 }
  (if x.ganged then (coresOf (clusterOf core)).foldl (fun s c => s.countCore c i 1) s else s.countCore core i 1).gangAclk core x

/-- A K step of an instruction starts: its cluster works, and an instruction that was to start before a gang forms has
started (R132, R606). -/
def Gk1.stepStarts (s : Gk1) (core : Nat) (x : MxInstr) : Gk1 :=
  if x.sub ≠ 0 then s else
  s.modCluster (clusterOf core) fun c => { c with lastWork := s.dtime, apartFirst := c.apartFirst.filter (· ≠ x.rid) }

/-- The K positions of one step: runs, terms, position by position within the front entry. -/
def MxInstr.advance (x : MxInstr) (en : FeedEntry) : Nat → MxInstr × List (Nat × Term)
  | 0 => (x, [])
  | n + 1 =>
    let p := x.position en x.kpos
    let y := { x with runs := p.1, kpos := x.kpos + 1 }
    let r := y.advance en n
    (r.1, p.2 ++ r.2)

/-- One ACLK of the array of a core (or of the gang it drives): a feeder stall, an escape wait, or work on a K step
(R98, R112, R119, R136, R144, R606, R743). In an ACLK in which a promotion is held (R156) the array only waits. The entry of
the matrix queue frees when the last K step has entered (R103). -/
def execKStep (core : Nat) (s : State) : Answer := s.act fun s =>
  if !coreOk core then .fault .noSuchUnit else
  match (s.core core).mq.head? with
  | none => .next s
  | some x =>
    if !s.mayRun core x then .next s else
    match x.entries with
    | [] => .next (s.countAclk core x 1)
    | en :: rest =>
      if en.stall ≠ 0 then
        .next ((s.modCore core fun C => C.setMx { x with entries := { en with stall := en.stall - 1 } :: rest }).countAclk core x 2)
      else if x.sub + 1 < x.pace.1 then
        .next (((s.stepStarts core x).modCore core fun C => C.setMx { x with sub := x.sub + 1 }).countAclk core x 0)
      else
        let a := x.advance en x.pace.2
        let y : MxInstr := { a.1 with sub := 0, entries := if a.1.kpos % 8 = 0 then rest else en :: rest }
        let passEnd := decide (y.mnk.2.2 ≤ y.kpos)
        let final := passEnd && decide (y.passes ≤ y.pass + 1)
        let terms := if passEnd && !final then a.2 ++ y.closeRuns else a.2
        let y : MxInstr := if passEnd && !final then { y with runs := [], kpos := 0, pass := y.pass + 1 } else y
        let y : MxInstr := { y with touched := (y.touched ++ tilesOf terms).eraseDups }
        if !terms.isEmpty && s.promoteHeld core x then .next (s.gangAclk core x) else
        let s := (s.stepStarts core x).promoteAll core y terms
        let s := s.modCore core fun C =>
          if final then { C with mq := C.mq.filter (fun z => z.rid ≠ x.rid), pipe := C.pipe ++ [{ y with arrayDone := true }] }
          else C.setMx y
        .next (s.countAclk core x 0)

/-- Close a group: its units are free (R201, R202). -/
def Cluster.closeGroup (c : Cluster) (gid : Nat) : Cluster :=
  { c with wgs := NMap.erase c.wgs gid, wops := c.wops.filter fun o => !(o.gid = gid && o.kind = 2) }

/-- A discard at the front of its group runs (R197, R201). -/
def Cluster.runDiscards (c : Cluster) : Cluster :=
  (c.wops.filter fun o => o.kind = 2).foldl (fun c o =>
    if c.wops.any fun p => p.gid = o.gid && decide (p.rid < o.rid) then c else c.closeGroup o.gid) c

/-- The last runs of an instruction past its last K step are promoted: it is complete (R100, R105, R144, R156). An OPREL arrival
that it still owes is made now at the latest (R374). -/
def Gk1.complete (s : Gk1) (core : Nat) (x : MxInstr) : Gk1 :=
  let s := s.arriveOprel core x
  let terms := x.closeRuns
  let x := { x with touched := (x.touched ++ tilesOf terms).eraseDups }
  let s := s.promoteAll core x terms
  let s := s.modCore core fun C => { C with pipe := C.pipe.filter fun y => y.rid ≠ x.rid }
  let s := if x.kind = .mmaWg then
      (s.modWgs (clusterOf core) x.gid fun g => { g with
        tiles := x.touched.foldl (fun ts t =>
          let w : WTile := NMap.getD ts t {}
          NMap.set ts t { w with insts := NMap.set w.insts x.rid x.tsw }) g.tiles }).modCluster
        (clusterOf core) fun c => ({ c with wops := c.wops.filter fun o => o.rid ≠ x.rid }).runDiscards
    else s.modCore core fun C => { C with totals := NMap.upd C.totals x.tid fun t =>
      { t with tsw := tswSum t.tsw x.tsw, count := min (t.count + 1) 0xFFFF } }
  match x.drain, mxDone x.w1.toNat with
  | none, some b => s.sendArrival core x.slot x.kid (s.kernelCtx x.kid) b 3
  | _, _ => s

/-- Complete an instruction of a kind. -/
def mxComplete (kind : MxKind) (core rid : Nat) (s : Gk1) : Out :=
  if !coreOk core then .fault .noSuchUnit else
  match (s.core core).pipe.find? fun x => x.rid = rid with
  | none => .next s
  | some x => if x.kind ≠ kind || s.promoteHeld core x then .next s else .next (s.complete core x)

/-- The last run of an mma is promoted (R99, R100, R144). -/
def execMmaComplete (core rid : Nat) (s : State) : Answer := s.act fun s => mxComplete .mma core rid s

/-- The last promotion of an mma.wg into the WGS is done, and it arrives on DONE (R193, R197). -/
def execMmaWgComplete (core rid : Nat) (s : State) : Answer := s.act fun s => mxComplete .mmaWg core rid s

end Sys2Proof.Machine
end

