-- ==== Sys2Proof/Machine/Drain.lean ====
section
/-! DEFINITION. The drain pipeline (R159-R178, R214, R216-R220, R303, R304, R337): its stages and its two events. -/

namespace Sys2Proof.Machine

/-! ## Stages 1-6 -/

/-- Round once to FP32, nearest. -/
def to32 (x : XNum) : XNum := decodeF .fp32 (roundF .fp32 .nearest x)

/-- An FP32 operand of stage 1 or 2 at an element: the scalar, or the vector by row or by column (R162, R304). -/
def stageOperand (m : Mem) (kind : Nat) (scalar : BitVec 32) (base i j : Nat) : XNum :=
  decodeF .fp32 (match kind with
    | 1 => scalar.toNat
    | 2 => Mem.le m (base + 4 * i) 4
    | _ => Mem.le m (base + 4 * j) 4)

/-- The working value that leaves stage 4 (R163-R165, R217, R218): each enabled operation rounds once to FP32. -/
def DrainReq.work (d : DrainReq) (m : Mem) (n i j : Nat) (x : XNum) : XNum :=
  let x := x.scale d.sexp
  let x := if d.sclKind = 0 then x else to32 (x.mul (stageOperand m d.sclKind d.scl d.sclv i j))
  let x := if d.biasKind = 0 then x else to32 (x.add (stageOperand m d.biasKind d.bias d.biasv i j))
  let x := if d.act = 0 then x else decodeF .fp32 (activation d.act d.slope.toNat x)
  if d.der = 0 then x else
    let k := d.auxf.bits / 8
    let z := decodeF d.auxf (Mem.le m (d.auxa + (i * n + j) * k) k)
    to32 (x.mul (if d.out then derivOut d.der d.slope.toNat z else decodeF .fp32 (derivPre d.der d.slope.toNat z)))

/-- Stage 6 masks element (i, j) (R167). -/
def DrainReq.masked (d : DrainReq) (m : Mem) (n i j : Nat) : Bool :=
  match d.mform with
  | 1 => !(Mem.read m (d.maska + (i * n + j) / 8)).toNat.testBit ((i * n + j) % 8)
  | 2 => let e := d.e 10
    !(decide (fld e 0 6 ≤ i) && decide (i ≤ fld e 6 6) && decide (fld e 12 6 ≤ j) && decide (j ≤ fld e 18 6))
  | 3 => decide ((i + d.rowo : Nat) + sgn 32 (d.e 10 >>> 32) < ((j + d.colo : Nat) : Int))
  | _ => false

/-- The row statistics of FP32 values in column order: maximum and sum (R166). -/
def rowStats : List Nat → Nat × Nat
  | [] => (infBits .fp32 true, 0)
  | x :: xs =>
    let x' := roundF .fp32 .nearest (decodeF .fp32 x)
    (xs.foldl (fMax .fp32) x', xs.foldl (fAdd .fp32) x')

/-- The 8 bytes of a row's statistics: a half that is not enabled keeps its bytes, one that is may merge (R166). -/
def DrainReq.statsAt (d : DrainReq) (m : Mem) (i : Nat) (r : Nat × Nat) : Mem :=
  let a := d.stata + 8 * i
  let mx := if d.merge then fMax .fp32 r.1 (Mem.le m a 4) else r.1
  let sm := if d.merge then fAdd .fp32 (Mem.le m (a + 4) 4) r.2 else r.2
  let m := if d.smax then Mem.writeLE m a 4 mx else m
  if d.ssum then Mem.writeLE m (a + 4) 4 sm else m

/-- Stage 5 over a tile whose working values are given (R166). -/
def DrainReq.stats (d : DrainReq) (m : Mem) (rows cols : Nat) (x : Nat → Nat → XNum) : Mem :=
  if !d.st5 then m else
  (List.range rows).foldl (fun acc i =>
    let js := (List.range cols).filter fun j => !(d.statmask && d.masked m cols i j)
    d.statsAt acc i (rowStats (js.map fun j => roundF .fp32 .nearest (x i j)))) m

/-! ## Stages 7 and 8 -/

/-- Bytes that a drain writes, from an address up. -/
abbrev Chunks := List (Nat × List Byte)

/-- The logical index of an element in its destination (R80, R303). -/
def DrainReq.index (d : DrainReq) (tfmt i j : Nat) : Nat := (d.rowo + i) * d.nc tfmt + d.colo + j

/-- The address of an element of a destination that is not Olpel (R303). -/
def DrainReq.addr (d : DrainReq) (tfmt i j : Nat) : Nat :=
  d.daddr + (d.rowo + i) * d.pitch + (d.colo + j) * d.esize tfmt

/-- One element written to a destination that is not Olpel (R167, R169, R170, R214). -/
def DrainReq.putElem (d : DrainReq) (m : Mem) (tfmt n i j : Nat) (stored : BitVec 128) (x : XNum) : Chunks × Ev :=
  let a := d.addr tfmt i j
  let k := d.esize tfmt
  if d.raw then ([(a, leBytes k stored.toNat)], {})
  else if d.masked m n i j then
    (match d.mact with
      | 0 => ([], {})
      | 1 => ([(a, leBytes k 0)], {})
      | _ => ([(a, leBytes k (infBits d.ofmt true))], {}))
  else
    let b := roundF d.ofmt (Rnd.ofCode d.ornd d.seed (d.index tfmt i j)) x
    ([(a, leBytes k b)], { nonfin := b2n (x.isFin && (decodeF d.ofmt b).isInf) })

/-- The blocks of an Olpel destination that the tile covers (R171). -/
def DrainReq.blocks (d : DrainReq) (m n : Nat) : List Nat :=
  let t := d.planes
  if t.patch then (List.range (m / 4)).flatMap fun p => (List.range (n / 8)).map fun q => (t.place (d.rowo + 4 * p) (d.colo + 8 * q)).1
  else (List.range m).flatMap fun i => (List.range (n / 32)).map fun q => (t.place (d.rowo + i) (d.colo + 32 * q)).1

/-- One block written to an Olpel destination: skipped when SKIP masks all of it, masked elements quantised as +0
(R77, R167, R168). -/
def DrainReq.putBlock (d : DrainReq) (m : Mem) (n : Nat) (x : Nat → Nat → XNum) (b : Nat) : Chunks × Ev :=
  let t := d.planes
  let ps := (List.range 32).map fun k => ((t.coord b k).1 - d.rowo, (t.coord b k).2 - d.colo)
  if d.mact = 0 && ps.all fun p => d.masked m n p.1 p.2 then ([], {}) else
  let vs := ps.map fun p => if d.masked m n p.1 p.2 then { neg := false, num := .fin 0 0 } else x p.1 p.2
  let q := quantise d.ofmt d.qcw d.seed vs (ps.map fun p => d.index 0 p.1 p.2)
  (t.writes b q, q.ev)

/-- Everything that stages 7 and 8 write, with the conversion events. -/
def DrainReq.puts (d : DrainReq) (m : Mem) (tfmt rows cols : Nat) (stored : Nat → Nat → BitVec 128) (x : Nat → Nat → XNum) :
    Chunks × Ev :=
  let all := if d.olpel then (d.blocks rows cols).map (d.putBlock m cols x)
    else (List.range rows).flatMap fun i => (List.range cols).map fun j => d.putElem m tfmt cols i j (stored i j) (x i j)
  (all.flatMap Prod.fst, all.foldl (fun (v : Ev) q => v.add q.2) ({} : Ev))

/-- The address of the last byte of element (M - 1, N - 1): its sector is that of the closing write (R337). -/
def DrainReq.lastByte (d : DrainReq) (tfmt rows cols : Nat) : Nat :=
  if d.olpel then
    let t := d.planes
    let p := t.place (d.rowo + rows - 1) (d.colo + cols - 1)
    t.ebase + p.1 * t.fmt.blockBytes + (t.fmt.bits * p.2 + t.fmt.bits - 1) / 8
  else d.addr tfmt (rows - 1) (cols - 1) + d.esize tfmt - 1

/-- An address lies in a core-store input of the drain (R175). -/
def DrainReq.ownInput (d : DrainReq) (rows cols a : Nat) : Bool :=
  let inR := fun (on : Bool) (b n : Nat) => on && decide (b ≤ a) && decide (a < b + n)
  inR (decide (2 ≤ d.sclKind)) d.sclv (4 * (if d.sclKind = 2 then rows else cols))
    || inR (decide (2 ≤ d.biasKind)) d.biasv (4 * (if d.biasKind = 2 then rows else cols))
    || inR (d.der ≠ 0) d.auxa (rows * cols * (d.auxf.bits / 8))
    || inR (d.mform = 1) d.maska (rows * cols / 8) || inR d.st5 d.stata (8 * rows)

/-- The writes of a drain by sector, each a patch at the sector's address (R322). -/
def bySector (ws : Chunks) : NMap Mem :=
  ws.foldl (fun acc w => (w.2.zip (List.range w.2.length)).foldl (fun acc b =>
    let a := w.1 + b.2
    NMap.set acc (a / 32) (NMap.set (NMap.getD acc (a / 32) []) (a % 32) b.1)) acc) []

/-- The target core store of a drain, if its destination is one (R172). -/
def DrainReq.storeOf (d : DrainReq) (core : Nat) : Option Nat := match d.dest with
  | 0 => some core
  | 1 => some d.tcore
  | _ => none

/-! ## The pipeline -/

/-- The drain status word of a total, without WRITE_FAULT (R177). -/
def dswOf (inexact overflow nonfin undef : Bool) (fmt count : Nat) : BitVec 64 :=
  BitVec.ofNat 64 (b2n inexact + 2 * b2n overflow + 4 * b2n nonfin + 8 * b2n undef + fmt * 2 ^ 8 + min count 0xFFFF * 2 ^ 16)

/-- The drain at the front of a core's pipeline may start: it has not, every earlier instruction on its total is complete,
an acc.drain is at the head of the matrix queue, and no drain of a ganged total shares its pipeline (R103, R160, R161). -/
def Gk1.drainReady (s : Gk1) (core : Nat) (j : DrainJob) : Bool :=
  let C := s.core core
  let cl := clusterOf core
  let own := C.mq.any fun y => y.rid = j.rid && decide (y.kind = .drain)
  !j.started && !(C.pipe ++ C.mq).any (fun y => y.tid = j.tid && decide (y.kind = .mma) && decide (y.rid ≤ j.rid))
    && (!own || (match C.mq with | y :: _ => y.rid = j.rid | [] => true)) && !(s.cluster cl).lost
    && (coresOf cl).all fun c => (s.core c).drains.all fun k => !k.started || (!j.ganged && !k.ganged)

/-- Run a drain whose total is t: it reads the total, applies its stages and forms its sector writes, which land one by one in
no order between sectors, those to its own store too (R160-R172, R322, R323, R326). -/
def Gk1.runDrain (s : Gk1) (core : Nat) (j : DrainJob) (t : Total) : Gk1 :=
  let d := j.req
  let C := s.core core
  let m := C.store
  let stored := fun i k => NMap.getD t.elems (i * 64 + k) (initElem t.fmt)
  let xs : NMap XNum := (List.range t.m).flatMap fun i => (List.range t.n).map fun k =>
    (i * 64 + k, d.work m t.n i k (elemNum t.fmt t.w (stored i k)))
  let x := fun i k => NMap.getD xs (i * 64 + k) { neg := false, num := .fin 0 0 }
  let w := d.puts m t.fmt t.m t.n stored x
  let sec := bySector w.1
  -- bytes over the drain's own inputs are undefined (R175)
  let sec := if d.storeOf core = some core then NMap.mapVals sec fun q p => NMap.mapVals p fun o b =>
    if d.ownInput t.m t.n (32 * q + o) then Config.freeByte (s.free + 32 * q + o) else b else sec
  let j' := { j with
    started := true, tsw := tswSum t.tsw (tswAdd 0 w.2), dsw := dswOf t.inexact t.overflow t.nonfin t.undef t.fmt t.count }
  let s := { s with free := s.free + 65536 }
  let s := s.modCore core fun C => { C with
    store := d.stats m t.m t.n x
    mq := C.mq.filter fun y => !(y.rid = j.rid && decide (y.kind = .drain))
    totals := if d.release then NMap.erase C.totals j.tid else NMap.upd C.totals j.tid fun t => { t with tsw := 0 }
    releasing := if d.release then C.releasing.filter (· ≠ j.tid) else C.releasing
    drains := C.drains.map fun k => if k.rid = j.rid then j' else k }
  let base : Msg := {
    kind := .write, rid := j.rid, core := core, slot := j.slot, kid := j.kid
    ctx := s.kernelCtx j.kid, enforced := s.enforcedOf core, len := 32, sentAt := s.dtime }
  let last := d.lastByte t.fmt t.m t.n / 32
  let body := if d.close then NMap.erase sec last else sec
  let msgs := match d.dest with
    | 0 => sec.map fun (e : Nat × Mem) => { base with place := .store core (32 * e.1), data := e.2 }
    | 1 => (body.map fun (e : Nat × Mem) => { base with
          place := .store d.tcore (32 * e.1), data := e.2, stream := some d.stream, unsent := true })
        ++ (if d.close then [{ base with
          place := .store d.tcore (32 * last), data := NMap.getD sec last [], stream := some d.stream, unsent := true, closing := true }]
          else [])
    | _ => body.map fun (e : Nat × Mem) => { base with place := .dev (32 * e.1 % 2 ^ 64), data := e.2 }
  let s := { s with reqs := NMap.upd s.reqs j.rid fun q => { q with
    left := q.left + msgs.length, leftHere := q.leftHere + msgs.length } }
  (msgs.foldl Gk1.addMsg s).pump core

/-- The drain at the front of a core's pipeline starts (R160-R172, R175). -/
def execDrainStart (core : Nat) (s : State) : Answer := s.act fun s =>
  if !coreOk core then .fault .noSuchUnit else
  match (s.core core).drains with
  | [] => .next s
  | j :: _ =>
    match NMap.get? (s.core core).totals j.tid with
    | none => .next s
    | some t => if s.drainReady core j then .next (s.runDrain core j t) else .next s

/-- A write would fault if it reached its home now: the store it goes to or the page or stack behind its address refuses it,
or it closes an epoch with a faulted write (R172, R340, R404, R462, R463). -/
def Gk1.wouldFault (s : Gk1) (m : Msg) : Bool :=
  (m.closing && ((s.epochOf m).bind EpochEntry.faulted).isSome) || (match m.place with
    | .store c _ => !(s.cluster (clusterOf c)).lost && (s.storeFault m c).isSome
    | .dev va => (patchSectors va m.data).any fun q => match s.landSector m.ctx m.enforced m.pkt.isSome (32 * q) (patchIn va q m.data) with
      | (.fault _, _) => true
      | _ => false
    | .peer _ _ => false
    | .host _ => false)

/-- The pending writes of a request. -/
def Gk1.pendingWrites (s : Gk1) (rid : Nat) : NMap Msg := s.msgs.filter fun e => e.2.rid = rid && decide (e.2.kind = .write)

/-- Carry out the pending writes of a request that a test names; whether any of them has faulted. -/
def Gk1.carryOut (s : Gk1) (rid : Nat) (sel : Gk1 → Msg → Bool) : Gk1 × Bool :=
  (s.pendingWrites rid).foldl (fun r e => if !e.2.unsent && e.2.returned.isNone && sel r.1 e.2
    then (r.1.arrive e.1 e.2, r.2 || r.1.wouldFault e.2) else r) (s, false)

/-- A pending write of a started drain keeps it from completing: any of a LOCAL destination; of another, one that waits in the
drain pipeline because its stream's epoch is full, or one whose fault is still to come (R174, R178, R333, R339). -/
def Gk1.drainWaits (s : Gk1) (core : Nat) (j : DrainJob) : Bool :=
  (s.pendingWrites j.rid).any fun e => j.req.dest = 0 || s.wouldFault e.2
    || (e.2.unsent && (s.core core).epochs.any fun r =>
      some r.stream = e.2.stream && r.target = e.2.place.target && decide (epochLimit < r.sent + e.2.epochNeed))

/-- The started drain of a core completes: its last write is done, or has been handed on; it writes its status and arrives
on DONE (R174, R176-R178, R333). The event carries out the LOCAL writes that have not landed, and the other writes that
fault now: a fault after completion is reported, but the status word no longer tells of it (log 64). -/
def execDrainComplete (core : Nat) (s : State) : Answer := s.act fun s =>
  if !coreOk core then .fault .noSuchUnit else
  match (s.core core).drains with
  | [] => .next s
  | j :: rest =>
    if !j.started then .next s else
    let s := (s.carryOut j.rid fun s m => j.req.dest = 0 || s.wouldFault m).1
    if s.drainWaits core j then .next s else
    let dsw := (((s.core core).drains.head?).map DrainJob.dsw).getD j.dsw
    let s := s.modCore core fun C => { C with
      drains := rest
      store := Mem.writeLE (Mem.writeLE C.store j.req.status 8 j.tsw.toNat) (j.req.status + 8) 8 dsw.toNat }
    let s := match j.done with
      | some b => s.sendArrival core j.slot j.kid (s.kernelCtx j.kid) b 3
      | none => s
    .next (s.handOff j.rid)

end Sys2Proof.Machine
end

