-- ==== Sys2Proof/Machine/Wgs.lean ====
section
/-! DEFINITION. The major wgs (R182-R203, R307): groups of weight-gradient tiles, their opening, commit and discard. -/

namespace Sys2Proof.Machine

/-- U0 of a wgs word. -/
def wgU0 (w : Nat) : Nat := fld w 14 6

/-- Bytes of a tile of a group (R183). -/
def wgTileBytes (m n fmt : Nat) : Nat := m * n * elemBytes fmt

/-- Units that tiles take: the first, and the one after the last (R182, R183). -/
def wgUnits (u0 wcount m n fmt : Nat) : Nat × Nat := (u0, u0 + ceilDiv (wcount * wgTileBytes m n fmt) 512)

/-- Two ranges of units meet. -/
def meets (a b : Nat × Nat) : Bool := decide (a.1 < b.2) && decide (b.1 < a.2)

/-- The units of a group. -/
def WGroup.units (g : WGroup) : Nat × Nat := wgUnits g.u0 g.wcount g.m g.n g.fmt

/-- Issue a wgs instruction. It makes the share one that a rerun cannot reproduce (R707). -/
def wgs (op : Nat) (ok : Nat → Nat → Bool) (regs : Nat → List Nat) (run : GI → Iss) (core grp : Nat) (s : Gk1) : Out :=
  issue 0x23 (op3Is op) ok regs 0 (fun i => if !i.G.issues i.w then .ok i.s else run i) core grp s

/-- Mark the share of the issuing core as one that issued a wgs instruction (R707). -/
def GI.wgsMark (i : GI) (s : Gk1) : Gk1 := s.markShare i.core fun h => { h with unsafe_ := true }

/-- The field check of wgs.open (R307). -/
def wgsOpenOk (w w1 : Nat) : Bool :=
  let f := fld w 31 2
  decide (f ≠ 3) && (f = 2 || fld w 34 10 = 0) && fld w 44 20 = 0 && w1 >>> 7 = 0

/-- wgs.open: opens a group whose tiles are zero; AUTO is T32 and OWNED, whatever SHARED says (R143, R183, R184, R307). A shared T32
group is refused first, then one that leaves the store, then one that meets an open group (DESIGN CHOICE, log 63). -/
def execWgsOpen (core grp : Nat) (s : State) : Answer := s.act fun s =>
  wgs 0 wgsOpenOk (fun _ => []) (fun i =>
    let w := i.w
    let cl := clusterOf i.core
    let fmt := if fld w 31 2 = 2 then 1 else 0
    let m := (fld w 26 2 + 1) * 16
    let n := (fld w 28 3 + 1) * 8
    let g : WGroup := {
      u0 := wgU0 w, wcount := fld w 20 6 + 1, m := m, n := n, fmt := fmt, w := sgn 10 (w >>> 34), shared := decide (fld w 31 2 ≠ 0) && w.testBit 33
      owner := i.core, ctx := i.s.ctxOf i.core }
    if g.shared && fmt = 0 then .fault 0x2A
    else if 64 < g.units.2 then .fault 0x2B
    else if (i.s.cluster cl).wgs.any fun e => !e.2.closing && meets e.2.units g.units then .fault 0x2A
    else
      let s := i.wgsMark i.s
      .ok ({ s with nextId := s.nextId + 1 }.modCluster cl fun c => { c with wgs := NMap.set c.wgs s.nextId g })) core grp s

/-- The field check of wgs.commit (R307): without bit 35 the range fields are zero. -/
def wgsCommitOk (w w1 : Nat) : Bool :=
  fld w 58 6 = 0 && evenBase (fld w 36 5) && w1 >>> 47 = 0 && (w.testBit 35 || fld w1 7 24 = 0)

/-- The status address of a commit. -/
def wgStatus (w1 : Nat) : Nat := fld w1 31 16

/-- Add a pending WGS operation of a cluster. -/
def Gk1.addWop (s : Gk1) (cl : Nat) (o : WOp) : Gk1 := s.modCluster cl fun c => { c with wops := c.wops ++ [o] }

/-- wgs.commit: checked and accepted; it runs at its turn (R194, R197, R199, R307, R360). A misaligned destination, stride or STATUS is
OPERAND_RANGE, and a commit that names no open group WGS_STATE (DESIGN CHOICE, log 63). -/
def doWgsCommit (core grp : Nat) (s : Gk1) : Out :=
  wgs 1 wgsCommitOk (fun w => [fld w 36 5, fld w 36 5 + 1, fld w 41 5, fld w 46 5]) (fun i =>
    let w := i.w
    let cl := clusterOf i.core
    let va := i.G.pair (fld w 36 5)
    let stride := i.G.sn (fld w 41 5)
    let done := doneOf w 51 52
    match (i.s.cluster cl).groupAt (wgU0 w) with
    | none => .fault 0x2A
    | some (gid, g) =>
      if g.wcount < fld w 20 6 + (fld w 26 6 + 1) then .fault 0x2B
      else if !(va % 64 = 0 && stride % 64 = 0 && wgStatus i.w1 % 16 = 0 && inStore (wgStatus i.w1) 16) then .fault 0x22
      else if engineHeld i true true then .hold
      else if i.C.pendFull done.toList then .stall .engpend
      else
        let o : WOp := {
          rid := i.s.nextId, gid := gid, kind := 1, core := i.core, slot := i.grp, kid := i.C.kid.getD 0
          w0 := BitVec.ofNat 64 w, w1 := BitVec.ofNat 64 i.w1, va := va, stride := stride, pitch := i.G.sn (fld w 46 5), done := done }
        .ok ((i.wgsMark ((i.mxReq .commit).modCore i.core fun C => C.promise done.toList)).addWop cl o)) core grp s

/-- The row WGS_COMMIT: doWgsCommit on the part. -/
def execWgsCommit (core grp : Nat) (s : State) : Answer := s.act fun s => doWgsCommit core grp s

/-- wgs.discard: closes a group without writing, once earlier operations on it are done; of no group, it has no effect
(R197, R201). -/
def execWgsDiscard (core grp : Nat) (s : State) : Answer := s.act fun s =>
  wgs 2 (fun w w1 => fld w 20 44 = 0 && w1 >>> 7 = 0) (fun _ => []) (fun i =>
    let cl := clusterOf i.core
    let c := i.s.cluster cl
    let s := i.wgsMark i.s
    match c.groupAt (wgU0 i.w) with
    | none => .ok s
    | some (gid, _) =>
      if c.wops.any fun o => o.gid = gid then
        .ok (({ s with nextId := s.nextId + 1 }.modCluster cl fun c =>
            { c with wgs := NMap.upd c.wgs gid fun g => { g with closing := true } }).addWop cl
          { rid := i.s.nextId, gid := gid, kind := 2, core := i.core, slot := i.grp, kid := i.C.kid.getD 0 })
      else .ok (s.modCluster cl fun c => c.closeGroup gid)) core grp s

/-! ## The commit -/

/-- Element (r, c) of a tile lies in a commit's ranges (R195, R215, R307). -/
def WOp.covers (o : WOp) (r c : Nat) : Bool :=
  let w1 := o.w1.toNat
  !o.w0.getLsbD 35 || (decide (fld w1 7 6 ≤ r) && decide (r ≤ fld w1 13 6) && decide (fld w1 19 6 ≤ c) && decide (c ≤ fld w1 25 6))

/-- First tile and tile count. -/
def WOp.tiles (o : WOp) : List Nat := (List.range (fld o.w0.toNat 26 6 + 1)).map fun k => fld o.w0.toNat 20 6 + k

/-- The destination format. -/
def WOp.fmt (o : WOp) : Fmt := if o.w0.getLsbD 32 then .bf16 else .fp32

/-- The destination of an element: tile k of the commit at k strides (R194). -/
def WOp.addr (o : WOp) (k r c : Nat) : Nat := o.va + k * o.stride + r * o.pitch + c * (o.fmt.bits / 8)

/-- The elements that a commit writes: tile, row, column and address. -/
def WOp.elems (o : WOp) (g : WGroup) : List (Nat × Nat × Nat × Nat) :=
  (o.tiles.zip (List.range o.tiles.length)).flatMap fun t =>
    (List.range g.m).flatMap fun r => (List.range g.n).filterMap fun c =>
      if o.covers r c then some (t.1, r, c, o.addr t.2 r c % 2 ^ 64) else none

/-- The exact value of one element: the tile's, or its sum with the destination (R195). -/
def WOp.exact (o : WOp) (x : XNum) (old : Nat) : XNum := if o.w0.getLsbD 33 then (decodeF o.fmt old).add x else x

/-- The result of one element: its exact value, rounded once (R195). -/
def WOp.value (o : WOp) (x : XNum) (old : Nat) : Nat := roundF o.fmt .nearest (o.exact x old)

/-- What a commit writes, its conversion events and the first fault of its reads with its address (R195, R196, R694). -/
structure CommitOut where
  ws : Chunks := []
  ev : Ev := {}
  fault : Option (Nat × Nat) := none

/-- Form the writes of a commit. A finite value that rounds to an infinity is a NONFIN conversion event (R83, R199). -/
def Gk1.commitOut (s : Gk1) (o : WOp) (g : WGroup) (ctx : Nat) (enforced : Bool) : CommitOut :=
  (o.elems g).foldl (fun out e =>
    let k := o.fmt.bits / 8
    let x := elemNum g.fmt g.w (NMap.getD (g.tile e.1).elems (e.2.1 * 64 + e.2.2.1) (initElem g.fmt))
    let rd := if o.w0.getLsbD 33 then s.readRange ctx enforced (sectors e.2.2.2 k) else .ok (List.replicate k 0)
    match rd with
    | .error f => { out with fault := if out.fault.isNone then some (f, e.2.2.2) else out.fault }
    | .ok old =>
      let v := o.value x (leNat old)
      { out with
        ws := (e.2.2.2, leBytes k v) :: out.ws
        ev := out.ev.add { nonfin := b2n ((o.exact x (leNat old)).isFin && (decodeF o.fmt v).isInf) } }) {}

/-- The tiles of a commit. -/
def WOp.wtiles (o : WOp) (g : WGroup) : List WTile := o.tiles.map g.tile

/-- The instructions promoted into any committed tile, each once, with its safeguard word (R199). -/
def WOp.insts (o : WOp) (g : WGroup) : NMap (BitVec 64) :=
  (o.wtiles g).foldl (fun acc t => t.insts.foldl (fun acc e => NMap.set acc e.1 e.2) acc) []

/-- The status words of a commit: TSW and DSW (R199). -/
def WOp.status (o : WOp) (g : WGroup) (ev : Ev) : BitVec 64 × BitVec 64 :=
  let ts := o.wtiles g
  let ins := o.insts g
  (ins.foldl (fun acc e => tswSum acc e.2) (tswAdd 0 ev),
    dswOf (ts.any WTile.inexact) (ts.any WTile.overflow) (ts.any WTile.nonfin) (ts.any WTile.undef) g.fmt ins.length)

/-- Carry out a commit: it reads its tiles, hands its writes to the mover, clears the tiles if CLEAR is set, writes its
status and arrives on DONE (R195-R200, R215). Writes that fault now fault before it completes (R333, log 64). -/
def Gk1.runCommit (s : Gk1) (cl : Nat) (o : WOp) (g : WGroup) : Gk1 :=
  let ctx := ((NMap.get? s.kernels o.kid).map Kernel.ctx).getD 0
  let enf := s.enforcedOf o.core
  let out := s.commitOut o g ctx enf
  let base : Msg := {
    kind := .write, rid := o.rid, core := o.core, slot := o.slot, kid := o.kid, ctx := ctx, enforced := enf, len := 32
    sentAt := s.dtime }
  let msgs := (bySector out.ws.reverse).map fun (e : Nat × Mem) => { base with place := .dev (32 * e.1), data := e.2 }
  let st := o.status g out.ev
  let s := s.modCluster cl fun c => { c with
    wops := c.wops.filter fun p => p.rid ≠ o.rid
    wgs := if o.w0.getLsbD 34 then NMap.upd c.wgs o.gid fun g => { g with tiles := o.tiles.foldl (fun ts t => NMap.erase ts t) g.tiles }
      else c.wgs }
  let s := { s with free := s.free + 1, reqs := NMap.upd s.reqs o.rid fun q => { q with
    left := q.left + msgs.length, leftHere := q.leftHere + msgs.length } }
  let s := msgs.foldl Gk1.addMsg s
  let s := if o.w0.getLsbD 33 then s.countCtx ctx 7 (((out.ws.filter fun w => !s.onHost ctx w.1).map fun w => w.2.length).sum) else s
  let s := match out.fault with
    | some f => s.accessFault o.kid ctx o.rid o.core f.1 f.2
    | none => s
  let r := s.carryOut o.rid Gk1.wouldFault
  let s := r.1
  let bad := out.fault.isSome || r.2
  let a := wgStatus o.w1.toNat
  let s := s.modCore o.core fun C => { C with
    store := Mem.writeLE (Mem.writeLE C.store a 8 st.1.toNat) (a + 8) 8 (st.2.toNat + 16 * b2n bad) }
  let s := match o.done with
    | some b => s.sendArrival o.core o.slot o.kid ctx b 5
    | none => s
  (s.handOff o.rid).modCluster cl Cluster.runDiscards

/-- The first commit of a cluster that no earlier operation on its group holds back (R192, R197). -/
def Cluster.commitDue (c : Cluster) : Option WOp :=
  c.wops.find? fun o => o.kind = 1 && !c.wops.any fun p => p.gid = o.gid && decide (p.rid < o.rid)

/-- A commit's last write is handed to the mover (R200). -/
def execWgsCommitComplete (cluster : Nat) (s : State) : Answer := s.act fun s =>
  if clusterCount ≤ cluster then .fault .noSuchUnit else
  let c := s.cluster cluster
  if c.lost then .next s else
  match c.commitDue with
  | none => .next s
  | some o =>
    match NMap.get? c.wgs o.gid with
    | none => .next s
    | some g => .next (s.runCommit cluster o g)

end Sys2Proof.Machine
end

