-- ==== Sys2Proof/Machine/Gang.lean ====
section
/-! DEFINITION. The gang (R126-R134, R308) and the stalls that end when queue, bank or barrier space frees (R103, R154,
R360). -/

namespace Sys2Proof.Machine

/-- Issue a gang instruction: bit 11 is OP, the rest is reserved (R308). -/
def gangIns (op : Bool) (core grp : Nat) (s : Gk1) : Out :=
  issue 0x24 (fun w => w.testBit 11 = op) (fun w _ => w >>> 12 = 0) (fun _ => []) 0 (fun i =>
    if !i.G.issues i.w then .ok i.s
    else .ok (i.s.modCluster (clusterOf i.core) fun c => { c with
      hold := !op, apartFirst := if c.ganged && !op then [] else c.apartFirst })) core grp s

/-- gang.hold: the cluster goes into gang by R130 and stays there; a release that has not yet left gang is overridden (R132,
R133). -/
def execGangHold (core grp : Nat) (s : State) : Answer := s.act fun s => gangIns false core grp s

/-- gang.free: the hold ends (R133). -/
def execGangFree (core grp : Nat) (s : State) : Answer := s.act fun s => gangIns true core grp s

/-- Count the switch of a gang on each of its four cores (R743). -/
def Gk1.countGang (s : Gk1) (cl : Nat) : Gk1 := (coresOf cl).foldl (fun s c => s.countCore c 3 6) s

/-- Instructions that are to start apart before a gang may form again are still queued and not started (R132). -/
def Gk1.apartOwed (s : Gk1) (cl : Nat) : Bool :=
  (s.cluster cl).apartFirst.any fun r => (coresOf cl).any fun c => (s.core c).mq.any fun x => x.rid = r && !x.started

/-- The four arrays are empty and a gang is asked for: it forms (R130, R132, R133). -/
def execGangForm (cluster : Nat) (s : State) : Answer := s.act fun s =>
  if clusterCount ≤ cluster then .fault .noSuchUnit else
  if (s.cluster cluster).ganged || !s.wantsGang cluster || !s.arraysEmpty cluster || s.apartOwed cluster then .next s
  else .next ((s.modCluster cluster fun c => { c with ganged := true, apartWait := 0, apartFirst := [] }).countGang cluster)

/-- The cluster leaves gang: it is empty, no hold is in force, and either an apart instruction waits and no ganged one is at
a head, or the 4,096-ACLK count has released it (R132). -/
def execGangLeave (cluster : Nat) (s : State) : Answer := s.act fun s =>
  if clusterCount ≤ cluster then .fault .noSuchUnit else
  let c := s.cluster cluster
  let hs := s.heads cluster
  let apart := hs.any fun h => !h.2.ganged && h.2.forms
  let gang := hs.any fun h => h.2.ganged
  if !c.ganged || c.hold || !s.arraysEmpty cluster || !(!c.apartFirst.isEmpty || (apart && !gang)) then .next s
  else .next ((s.modCluster cluster fun c => { c with ganged := false, apartWait := 0 }).countGang cluster)

/-- 4,096 ACLK of gang have passed since an apart instruction came to wait: the gang is released, and the apart
instructions now at queue heads start before it forms again (R132). -/
def execGangReleaseCountExpiry (cluster : Nat) (s : State) : Answer := s.act fun s =>
  if clusterCount ≤ cluster then .fault .noSuchUnit else
  let c := s.cluster cluster
  if !c.ganged || c.hold || !c.apartFirst.isEmpty || decide (c.apartWait < 4096) then .next s else
  let rids := ((s.heads cluster).filter fun h => !h.2.ganged && h.2.forms).map fun h => h.2.rid
  .next (s.modCluster cluster fun c => { c with apartFirst := rids })

/-! ## Stalls that end -/

/-- Issue again the instruction of a group whose issue stalled, by its major and OP. -/
def reissue (core grp : Nat) (s : Gk1) : Out :=
  let w := (s.core core).word (s.group core grp).pc
  match wMaj w, fld w 11 3 with
  | 0x20, _ => doMma core grp s
  | 0x21, _ => doMmaWg core grp s
  | 0x22, _ => doAccDrain core grp s
  | 0x23, _ => doWgsCommit core grp s
  | 0x28, _ => doBarInit core grp s
  | 0x2A, 0 => doMvGet core grp s
  | 0x2A, _ => doMvPut core grp s
  | 0x2B, 0 => doNsPut core grp s
  | 0x2B, _ => doNsGet core grp s
  | _, _ => .next s

/-- A group stalled for a reason tries its instruction again; if it still cannot be accepted it stays stalled (R103, R154,
R224, R360). -/
def resume (st : Stall) (core grp : Nat) (s : Gk1) : Out :=
  if !(coreOk core && decide (grp < 8)) then .fault .noSuchUnit else
  if (s.group core grp).stall ≠ st then .next s
  else match reissue core grp (s.modGroup core grp fun G => { G with stall := .none }) with
    | .next s' => if (s'.group core grp).pc = (s.group core grp).pc && (s'.group core grp).status = .running
        && (s'.group core grp).stall = .none then .next s else .next s'
    | o => o

/-- A stalled matrix instruction is accepted once a queue entry frees (R103). -/
def execMatrixQueueAccept (core grp : Nat) (s : State) : Answer := s.act fun s => resume .queue core grp s

/-- A stalled initialising instruction is accepted once a releasing drain has read its total (R154). -/
def execBankSpaceAccept (core grp : Nat) (s : State) : Answer := s.act fun s => resume .bank core grp s

/-- An instruction stalled on ENGPEND goes on once an arrival lowers it (R360). -/
def execEngpendResume (core grp : Nat) (s : State) : Answer := s.act fun s => resume .engpend core grp s

end Sys2Proof.Machine
end

