-- ==== Sys2Proof/Machine/HostLink.lean ====
section
/-! DEFINITION. The host link (R37, R414-R420): training and loss, D3hot, completions of host-memory reads, PTM dialogues
(R423) and MSI-X messages (R453, R454). -/

namespace Sys2Proof.Machine

/-- Device ID and class code, a processing accelerator (R414); the vendor ID is Config.vendorId. They stand in the function's
configuration space, which no row of the table reads. -/
def pciDeviceId : BitVec 16 := 0x0C01
/-- Class code. -/
def pciClass : BitVec 24 := 0x120000

/-- Offset of HL_ERR. -/
def hlErr : Nat := 0x60

/-- The link trains at 64 GT/s: at x16, or at x8 with WIDTH_DOWN when some lane does not train (R415). With fewer than 8
lanes it does not train. Held posted writes go out (R37). -/
def execHostLinkTrain (lanes : Nat) (s : State) : Answer := s.act fun s =>
  if s.part = .off || s.part = .powerRamp || lanes < 8 then .next s else
  let full := decide (16 ≤ lanes)
  let s := if full then s else s.setErr hlErr 4
  .next ({ s with edge := { s.edge with
    linkUp := true, trained := true, width := if full then 16 else 8
    retrains := if s.edge.trained then min (s.edge.retrains + 1) 0xFF else s.edge.retrains } }).flush

/-- The link is lost; launched kernels go on and posted writes are held (R37). -/
def execHostLinkDown (s : State) : Answer := s.act fun s => .next { s with edge := { s.edge with linkUp := false } }

/-- The function enters D3hot (R419). -/
def execD3hotEntry (s : State) : Answer := s.act fun s => .next { s with edge := { s.edge with d3hot := true } }

/-- The function returns to D0: polling resumes, without a reset (R419). -/
def execD0Return (s : State) : Answer := s.act fun s => .next ({ s with edge := { s.edge with d3hot := false } }).flush

/-- A host-memory read of a group's access fails with HOST_ACCESS (R417, R694). -/
def Gk1.hostReadFault (s : Gk1) (id : Nat) (m : Msg) : Gk1 := (s.readFault id m 0x44).pump m.core

/-- A completion arrives: its data go on to the core store, or a poisoned or failed one faults the access (R417). A
completion of another length is none of this read. -/
def execHostCompletion (id : Nat) (good : Bool) (data : List Byte) (s : State) : Answer := s.act fun s =>
  match NMap.get? s.msgs id with
  | none => .next s
  | some m =>
    if m.kind ≠ .hostRead || !s.linkOpen then .next s
    else if !good then .next (s.hostReadFault id m)
    else if data.length ≠ m.len then .next s
    else .next (s.setMsg id { m with kind := .readReply, data := (List.range m.len).zip data })

/-- 50 ms without a completion (R417). -/
def execHostCompletionTimeout (id : Nat) (s : State) : Answer := s.act fun s =>
  match NMap.get? s.msgs id with
  | none => .next s
  | some m =>
    if m.kind = .hostRead && decide (m.sentAt + 50000000 ≤ s.dtime) then .next (s.hostReadFault id m) else .next s

/-- HL_PTM_CTL as it stands. -/
def Gk1.ptmCtl (s : Gk1) : Nat := s.reg 0x48 (1 + 10 * 256)

/-- Nanoseconds of a PTM period (0 reads as 1). -/
def Gk1.ptmPeriod (s : Gk1) : Nat := max (fld s.ptmCtl 8 8) 1 * 1000000

/-- HL_LINK.PTM_VALID: a dialogue completed within the last two periods. -/
def Gk1.ptmValid (s : Gk1) : Bool := match s.edge.ptmAt with
  | some t => decide (s.dtime ≤ t + 2 * s.ptmPeriod)
  | none => false

/-- A PTM dialogue, once every PERIOD: master and local time change together (R423). -/
def execPtmDialogue (mtime ltime : Nat) (s : State) : Answer := s.act fun s =>
  let due := match s.edge.ptmAt with
    | some t => decide (t + s.ptmPeriod ≤ s.dtime)
    | none => true
  if !(s.linkOpen && s.ptmCtl.testBit 0 && due && decide (ltime ≤ s.dtime)) then .next s else
  .next { s with edge := { s.edge with ptm := (mtime % 2 ^ 64, ltime) :: s.edge.ptm.take 1, ptmAt := some s.dtime, ptmReset := false } }

/-! ## MSI-X -/

/-- Word w of the MSI-X table; at reset every vector is masked (PCI Express, log 24). -/
def Gk1.msixWord (s : Gk1) (w : Nat) : BitVec 32 := NMap.getD s.edge.msixTable w (if w % 4 = 3 then 1 else 0)

/-- The vector is masked. -/
def Gk1.msixMasked (s : Gk1) (v : Nat) : Bool := (s.msixWord (4 * v + 3)).getLsbD 0

/-- Send the message of a vector: a posted write of the entry's data to its address. It answers every request that waits on the
vector (R454). -/
def Gk1.msixSend (s : Gk1) (v : Nat) : Gk1 :=
  let a := (s.msixWord (4 * v)).toNat + (s.msixWord (4 * v + 1)).toNat * 2 ^ 32
  let s := s.post a (leBytes 4 (s.msixWord (4 * v + 2)).toNat)
  { s with edge := { s.edge with
      msixLast := NMap.set s.edge.msixLast v s.dtime
      msixSent := s.edge.msixSent ++ [v]
      msixWait := s.edge.msixWait.filter fun w => w.1 ≠ v
      msixPending := s.edge.msixPending.filter (· ≠ v) } }

/-- A request that waits on the vector may be sent: one message answers all of them, or the pending bit of a masked
vector is set (R454). -/
def execMsixMessage (vector : Nat) (s : State) : Answer := s.act fun s =>
  if !(s.linkOpen && s.edge.msixWait.any fun w => w.1 = vector && decide (w.2 ≤ s.dtime)) then .next s else
  if s.msixMasked vector then .next { s with edge := { s.edge with
    msixWait := s.edge.msixWait.filter fun w => w.1 ≠ vector, msixPending := addNew s.edge.msixPending vector } }
  else .next (s.msixSend vector)

end Sys2Proof.Machine
end

