-- ==== Sys2Proof/Machine/Queue.lean ====
section
/-! DEFINITION. Queues (R424-R436, R439, R449-R454, R472): doorbells, the summary poll, fetch, the start and the
completion of a descriptor, completion records. -/

namespace Sys2Proof.Machine

/-- Queues in the part. -/
def queueCount : Nat := 4096

/-- The QE_ registers work and queues run (R658, R729). -/
def Gk1.queuesRun (s : Gk1) : Bool := s.part = .ready || s.part = .maintenance

/-- Descriptors that a submission ring holds. -/
def Gk1.sqSize (s : Gk1) (q : Nat) : Nat := 2 ^ fld (s.qctl q) 0 4
/-- Records that a completion ring holds. -/
def Gk1.cqSize (s : Gk1) (q : Nat) : Nat := 2 ^ fld (s.qctl q) 4 4
/-- The context that owns a queue (R424). -/
def Gk1.qctx (s : Gk1) (q : Nat) : Nat := if q = 0 then 0 else fld (s.qctl q) 8 6

/-- Take a queue to ERROR (R428, R472). -/
def Gk1.queueError (s : Gk1) (q code : Nat) : Gk1 :=
  s.modQueue q fun Q => { Q with state := 3, lastErr := BitVec.ofNat 8 code }

/-- A doorbell word is read: none when the read faulted (R417, R427, R428). -/
def Gk1.doorbell (s : Gk1) (q : Nat) (w : Option (BitVec 64)) : Gk1 :=
  match w with
  | none => s.setErr hlErr 2
  | some w =>
    let tail := fld w.toNat 0 16
    let head := fld w.toNat 32 16
    if s.sqSize q ≤ tail || s.cqSize q ≤ head then s.queueError q 1
    else s.modQueue q fun Q => { Q with
      submitted := Q.submitted + (tail + s.sqSize q - Q.sqTail) % s.sqSize q, sqTail := tail, cqHead := head }

/-- Read the doorbell word of each listed queue from what the host memory gives. -/
def Gk1.doorbells (s : Gk1) (qs : List Nat) (words : List (Nat × Option (BitVec 64))) : Gk1 :=
  qs.foldl (fun s q => s.doorbell q ((words.find? fun w => w.1 = q).bind Prod.snd)) s

/-- HL_SUMMARY. -/
def Gk1.summaryReg (s : Gk1) : Nat := s.reg 0x28 0

/-- A poll may start: polling is on, the link is open, and INTERVAL has passed since the last one (R419, R432). -/
def Gk1.pollDue (s : Gk1) : Bool :=
  s.queuesRun && s.summaryReg.testBit 0 && s.linkOpen && (match s.edge.polledAt with
    | some t => decide (t + 250 * max (fld (s.reg 0x20 (4 + 8 * 256)) 0 8) 1 ≤ s.dtime)
    | none => true)

/-- The queues of the summary bytes that are not zero and whose doorbell words a poll reads. -/
def Gk1.polled (s : Gk1) (bytes : List Nat) : List Nat :=
  (bytes.flatMap fun b => (List.range 8).map fun k => 8 * b + k).filter fun q =>
    decide ((s.queue q).state = 1) || decide ((s.queue q).state = 2)

/-- A poll of the summary (R431): read, clear every byte that is not zero, read the doorbell words. -/
def execSummaryPoll (summary : Option (List Byte)) (words : List (Nat × Option (BitVec 64))) (s : State) : Answer := s.act fun s =>
  if !s.pollDue then .next s else
  let s := { s with edge := { s.edge with polledAt := some s.dtime } }
  match summary with
  | none => .next (s.setErr hlErr 2)
  | some bs =>
    let set := (List.range 512).filter fun i => bs.getD i 0 ≠ 0
    let s := set.foldl (fun s i => s.post (fld s.summaryReg 6 58 * 64 + i) [0]) s
    .next (s.doorbells (s.polled set) words)

/-- Descriptors fetched in one read, at most 4,096 bytes and not past the end of the ring; at most 256 are held (R433). A read that
faults brings none, and the fetch is made again (R417, log 70). -/
def execDescriptorFetch (queue : Nat) (descs : List (List (BitVec 64))) (s : State) : Answer := s.act fun s =>
  if queueCount ≤ queue then .fault .noSuchUnit else
  let Q := s.queue queue
  let n := descs.length
  let size := s.sqSize queue
  if !(s.queuesRun && s.linkOpen && decide (Q.state = 1) && decide (n ≤ Q.submitted - Q.fetchedN) && decide (n ≤ 64)
      && decide (Q.fetched.length + n ≤ 256) && decide (Q.sqHead + n ≤ size) && descs.all fun d => d.length = 8) then .next s
  else
    let new : List Desc := (descs.zip (List.range n)).map fun d =>
      { ring := (Q.sqHead + d.2) % size, seq := Q.fetchedN + d.2, q := d.1 }
    .next (s.modQueue queue fun Q => { Q with
      fetched := Q.fetched ++ new, fetchedN := Q.fetchedN + n, sqHead := (Q.sqHead + n) % size })

/-! ## Fields of a descriptor (R437) -/

/-- Word n. -/
def Desc.w (d : Desc) (n : Nat) : Nat := (d.q.getD n 0).toNat
/-- TYPE. -/
def Desc.type (d : Desc) : Nat := fld (d.w 0) 0 8
/-- IRQ. -/
def Desc.irq (d : Desc) : Bool := (d.w 0).testBit 8
/-- CMP. -/
def Desc.cmp (d : Desc) : Bool := (d.w 0).testBit 9
/-- PHASE. -/
def Desc.phase (d : Desc) : Nat := fld (d.w 0) 10 3
/-- UTAG. -/
def Desc.utag (d : Desc) : Nat := fld (d.w 0) 16 16
/-- A KERNEL of the deferred lane (R435). -/
def Desc.deferred (d : Desc) : Bool := d.type = 1 && (d.w 0).testBit 35
/-- The types of R439 with the exchange types that R542 names. -/
def typeNamed (t : Nat) : Bool := [0, 1, 2, 4, 5, 8, 9, 10, 11, 13, 16].contains t

/-- The header bits that are no reserved field. -/
def hdrMask : Nat := 0xFFFF1FFF

/-- Bits lo to lo + len - 1. -/
def span (lo len : Nat) : Nat := (2 ^ len - 1) * 2 ^ lo

/-- Every reserved bit of a descriptor is zero: `ms` are the bits used in Q0-Q7, the header apart. -/
def Desc.rsvOk (d : Desc) (ms : List Nat) : Bool :=
  (List.range 8).all fun i => within (d.w i) (ms.getD i 0 ||| if i = 0 then hdrMask else 0)

/-- PHASE has the reserved code, in a descriptor in which it has an effect: not in an exchange descriptor other than RECOMPUTE (R437,
R542, R548, log 72). -/
def Desc.phaseBad (d : Desc) : Bool := d.phase = 6 && !(decide (8 ≤ d.type) && decide (d.type < 0x10) && d.type ≠ 0xB)

/-- The descriptor breaks a rule of every type: PHASE, or on an ENFORCED queue a reserved field (R437, R475). -/
def Gk1.descBad (s : Gk1) (q : Nat) (d : Desc) (ms : List Nat) : Bool := d.phaseBad || (s.qEnforced q && !d.rsvOk ms)

/-! ## Completion -/

/-- How a descriptor completed. -/
structure Fin_ where
  status : Nat := 0
  data : Nat := 0
  diverged : Bool := false
  barOvf : Bool := false
  fcore : Nat := 0
  fslot : Nat := 0
  fpc : Nat := 0

/-- Records that the completion ring has room for (R450). -/
def Gk1.cqRoom (s : Gk1) (q : Nat) : Nat :=
  let Q := s.queue q
  (Q.cqHead + s.cqSize q - Q.cqTail - 1) % s.cqSize q

/-- The record of a completion (R449). -/
def Desc.record (d : Desc) (time : Nat) (f : Fin_) : Rec :=
  let g := decide (0x20 ≤ f.status) && decide (f.status < 0x40)
  { ring := d.ring, utag := BitVec.ofNat 16 d.utag, status := BitVec.ofNat 8 f.status, diverged := f.diverged, barOvf := f.barOvf
    typ := BitVec.ofNat 8 d.type, fcore := if g then f.fcore else 0, fslot := if g then f.fslot else 0, fpc := if g then f.fpc else 0
    time := time, data := BitVec.ofNat 64 f.data, irq := d.irq }

/-- Nothing of a queue runs. -/
def Queue.idle (Q : Queue) : Bool := Q.cur.isNone && Q.deferred.isEmpty && Q.fetched.isEmpty && Q.recs.isEmpty

/-- A STOPPING queue of which nothing runs becomes DISABLED (R472). -/
def Gk1.settle (s : Gk1) (q : Nat) : Gk1 :=
  if (s.queue q).state = 2 && (s.queue q).idle then s.modQueue q fun Q => { Q with state := 0 } else s

/-- A descriptor of a queue completes (R437, R449, R450, R472, R473): a record waits to be written when CMP is set or the
status is not OK; a status other than OK takes an ACTIVE queue to ERROR. A DISABLED queue keeps only records for which
there is room. -/
def Gk1.finish (s : Gk1) (q : Nat) (d : Desc) (f : Fin_) : Gk1 :=
  let keep := !d.replayed && (f.status ≠ 0 || d.cmp)
    && (decide ((s.queue q).state ≠ 0) || decide ((s.queue q).recs.length < s.cqRoom q))
  let err := f.status ≠ 0 && !d.replayed && !(q = 0 && (f.status = 6 || f.status = 7))
  (s.modQueue q fun Q => { Q with
    cur := if (Q.cur.map fun c => c.desc.seq) = some d.seq then none else Q.cur
    recs := if keep then Q.recs ++ [d.record s.dtime f] else Q.recs
    state := if err && Q.state = 1 then 3 else Q.state
    lastErr := if err && Q.state = 1 then BitVec.ofNat 8 f.status else Q.lastErr }).settle q

/-- Complete with a status and no data. -/
def Gk1.finishWith (s : Gk1) (q : Nat) (d : Desc) (status : Nat) : Gk1 := s.finish q d { status := status }

/-- The bytes of a record (R449). -/
def Rec.bytes (r : Rec) (ph : Bool) (sqHead : Nat) : List Byte :=
  leBytes 8 (r.ring + r.utag.toNat * 2 ^ 16 + r.status.toNat * 2 ^ 32 + b2n ph * 2 ^ 40 + b2n r.diverged * 2 ^ 41
      + b2n r.barOvf * 2 ^ 42 + r.typ.toNat * 2 ^ 48)
    ++ leBytes 8 (sqHead + r.fcore * 2 ^ 16 + r.fslot * 2 ^ 36 + r.fpc * 2 ^ 40) ++ leBytes 8 r.time ++ leBytes 8 r.data.toNat

/-- The oldest record that waits is written at CQTAIL once there is room: bytes 8-31, then bytes 0-7; its interrupt is
requested after them (R37, R450, R451, R453). -/
def execCompletionRecord (queue : Nat) (s : State) : Answer := s.act fun s =>
  if queueCount ≤ queue then .fault .noSuchUnit else
  let Q := s.queue queue
  match Q.recs with
  | [] => .next s
  | r :: rest =>
    if s.cqRoom queue = 0 || !s.linkOpen then .next s else
    let bs := r.bytes Q.cqPh Q.sqHead
    let a := fld (s.reg (0x100008 + 0x40 * queue) 0) 12 52 * 4096 + 32 * Q.cqTail
    let wrap := decide (Q.cqTail + 1 = s.cqSize queue)
    let s := (s.post (a + 8) (bs.drop 8)).post a (bs.take 8)
    let s := s.modQueue queue fun Q => { Q with
      recs := rest, cqTail := if wrap then 0 else Q.cqTail + 1, cqPh := Q.cqPh != wrap }
    let v := fld (s.qctl queue) 16 11
    let s := if r.irq && v ≠ 0 then s.irq v (fld (s.reg (0x10001C + 0x40 * queue) 0) 0 8) else s
    .next (s.settle queue)

/-! ## Starting -/

/-- A descriptor of the queue may start: it is ACTIVE, no record waits for room, and MAINTENANCE leaves the queue running
(R435, R450, R472, R728, R729). -/
def Gk1.mayStart (s : Gk1) (q : Nat) : Bool :=
  s.queuesRun && decide ((s.queue q).state = 1) && decide ((s.queue q).recs.length ≤ s.cqRoom q)
    && (q = 0 || !(s.held.maintEntering || decide (s.part = .maintenance)))

/-- The next descriptor of the normal lane. -/
def Queue.nextNormal (Q : Queue) : Option Desc := Q.fetched.find? fun d => !d.deferred

/-- Take a descriptor out of the fetched ones. -/
def Queue.take (Q : Queue) (d : Desc) : Queue := { Q with fetched := Q.fetched.filter fun x => x.seq ≠ d.seq }

/-- Start a descriptor of the normal lane. -/
def Gk1.start (s : Gk1) (q : Nat) (d : Desc) : Gk1 :=
  s.modQueue q fun Q => { Q.take d with cur := some { desc := d, at_ := s.dtime } }

/-- Start the next normal-lane descriptor of a queue if it is of the row's kind (R435). -/
def onStart (q : Nat) (isRow : Desc → Bool) (run : Desc → Gk1 → Gk1) (s : Gk1) : Out :=
  if queueCount ≤ q then .fault .noSuchUnit else
  if !(s.mayStart q && (s.queue q).cur.isNone) then .next s else
  match (s.queue q).nextNormal with
  | none => .next s
  | some d => if isRow d then .next (run d (s.start q d)) else .next s

/-- SUB of a MGMT descriptor (R446). -/
def Desc.sub (d : Desc) : Nat := fld (d.w 0) 32 8

/-- The descriptor has no effect but to complete at once: a NOP, a TYPE, subtype or OP that no table names, or a MGMT
descriptor on a queue other than 0 (R439, R446, R542, R543). -/
def Desc.plain (d : Desc) (q : Nat) : Bool :=
  d.type = 0 || !typeNamed d.type || (d.type = 0x10 && (q ≠ 0 || d.sub = 0 || decide (0xF < d.sub)))
    || (d.type = 0xA && fld (d.w 0) 32 2 = 3)

/-- A NOP completes at once; a descriptor that no table names completes with DESC_INVALID, and MGMT on a queue other than 0
with NOT_PERMITTED (R439, R446, R542). -/
def execNopDescriptor (queue : Nat) (s : State) : Answer := s.act fun s =>
  onStart queue (fun d => d.plain queue) (fun d s =>
    s.finishWith queue d (
      if d.type = 0x10 && queue ≠ 0 then 8 else if d.type ≠ 0 || s.descBad queue d [] then 1 else 0)) s

end Sys2Proof.Machine
end

