-- ==== Sys2Proof/Machine/Kernel.lean ====
section
/-! DEFINITION. Kernels (R440-R443): their start, launch (R27, R38, R436), admission (R221-R223, R608, R609), grains
(R204-R212), time limit and completion (R107, R134, R157, R269, R342, R374, R452). -/

namespace Sys2Proof.Machine

/-! ## Fields -/

/-- Bits of a KERNEL descriptor that are no reserved field (R440, R706). -/
def kernelMasks : List Nat :=
  [span 32 7 ||| span 40 10, span 0 63, span 0 52, span 0 36, span 0 64, span 0 6]

/-- G (R221). -/
def Desc.groups (d : Desc) : Nat := fld (d.w 0) 32 3 + 1
/-- WAIT_DEFERRED. -/
def Desc.waitDeferred (d : Desc) : Bool := (d.w 0).testBit 36
/-- RELOAD. -/
def Desc.reload (d : Desc) : Bool := (d.w 0).testBit 38
/-- ENTRY. -/
def Desc.entry (d : Desc) : Nat := fld (d.w 0) 40 10
/-- CODEVA. -/
def Desc.codeVA (d : Desc) : Nat := fld (d.w 1) 0 52
/-- CODELEN. -/
def Desc.codeLen (d : Desc) : Nat := fld (d.w 1) 52 11
/-- PARAMVA. -/
def Desc.paramVA (d : Desc) : Nat := fld (d.w 2) 0 52
/-- CFIRST. -/
def Desc.cFirst (d : Desc) : Nat := fld (d.w 3) 0 18
/-- CCOUNT. -/
def Desc.cCount (d : Desc) : Nat := fld (d.w 3) 18 18
/-- GRAINS. -/
def Desc.grains (d : Desc) : Nat := fld (d.w 4) 0 32
/-- TLIMIT. -/
def Desc.tLimit (d : Desc) : Nat := fld (d.w 4) 32 32
/-- A KERNEL of the normal lane. -/
def Desc.normalKernel (d : Desc) : Bool := d.type = 1 && !d.deferred

/-- The clusters of a KERNEL. -/
def Desc.clusters (d : Desc) : List Nat := (List.range d.cCount).map (d.cFirst + ·)

/-- The regions that a KERNEL covers. -/
def Desc.regions (d : Desc) : List Nat :=
  let a := regionOf d.cFirst
  (List.range (regionOf (d.cFirst + d.cCount - 1) + 1 - a)).map (a + ·)

/-- A cluster is one of a KERNEL. -/
def Desc.covers (d : Desc) (cl : Nat) : Bool := decide (d.cFirst ≤ cl) && decide (cl < d.cFirst + d.cCount)

/-- Two KERNELs share a cluster. -/
def Desc.overlaps (d e : Desc) : Bool :=
  decide (d.cFirst < e.cFirst + e.cCount) && decide (e.cFirst < d.cFirst + d.cCount)

/-- A KERNEL breaks a field rule of R440. -/
def Desc.kernelBad (d : Desc) : Bool :=
  d.codeLen = 0 || decide (1024 < d.codeLen) || decide (d.codeLen ≤ d.entry) || d.codeVA % 64 ≠ 0 || d.paramVA % 8 ≠ 0
    || d.cCount = 0 || decide (256000 < d.cFirst + d.cCount) || (d.grains = 0) != !d.deferred || (d.deferred && d.waitDeferred)

/-- Every region that a KERNEL covers belongs to a context (R441). -/
def Gk1.owns (s : Gk1) (ctx : Nat) (d : Desc) : Bool := d.regions.all fun r => (s.region r).owner = some ctx

/-- The phase tag of a KERNEL (R438): a code of R437. -/
def Desc.tag (d : Desc) : Nat := if d.phase = 7 then (if d.deferred then 2 else 0) else d.phase

/-! ## Faults of the queue engine's own accesses -/

/-- Count and report a faulted access of a copy, plan or snapshot of a queue (R694, R696). -/
def Gk1.bulkFault (s : Gk1) (q code addr : Nat) : Gk1 :=
  (s.countCtx (s.qctx q) 11 1).report { kind := 1, status := code, ctx := s.qctx q, queue := q, detail := addr }

/-- Bytes as a list of 8-byte words. -/
def wordsBytes (ws : List (BitVec 64)) : List Byte := ws.flatMap fun w => leBytes 8 w.toNat

/-! ## Start -/

/-- Copy a starting normal-lane KERNEL into the queue's open plan (R544, R545). -/
def Gk1.planRecord (s : Gk1) (q : Nat) (d : Desc) : Gk1 :=
  match (s.queue q).plan with
  | none => s
  | some P =>
    if P.capacity ≤ P.count then s.modQueue q fun Q => { Q with plan := some { P with overflow := true } } else
    let entry := (d.q.take 6) ++ [BitVec.ofNat 64 (P.segment + b2n P.keep * 2 ^ 16), d.q.getD 7 0]
    let va := P.va + 64 + 64 * P.count
    let s := s.modQueue q fun Q => { Q with plan := some { P with count := P.count + 1 } }
    match s.writeRange (s.qctx q) (s.qEnforced q) (sectors va 64) (wordsBytes entry) with
    | (s, none) => s.hasWritten (s.qctx q) va 64
    | (s, some code) => s.bulkFault q code va

/-- A kernel that becomes ready to launch. -/
def Gk1.addKernel (s : Gk1) (q : Nat) (d : Desc) : Gk1 :=
  { s with kernels := NMap.set s.kernels s.nextId { queue := q, ctx := s.qctx q, desc := d }, nextId := s.nextId + 1 }

/-- The status with which a KERNEL is refused at its start, 0 for none (R439-R441, R475). -/
def Gk1.kernelRefusal (s : Gk1) (q : Nat) (d : Desc) : Nat :=
  if s.descBad q d kernelMasks || d.kernelBad then 1 else if !s.owns (s.qctx q) d then 2 else 0

/-- A normal-lane KERNEL starts (R435, R440, R441). -/
def Gk1.startNormal (s : Gk1) (q : Nat) (d : Desc) : Gk1 :=
  let e := s.kernelRefusal q d
  if e ≠ 0 then s.finishWith q d e else
  let kid := s.nextId
  ((s.addKernel q d).modQueue q fun Q => { Q with cur := Q.cur.map fun c => { c with kid := some kid } }).planRecord q d

/-- The next deferred kernel of a queue that is eligible: every normal-lane kernel before it has completed (R204). -/
def Queue.nextDeferred (Q : Queue) : Option Desc :=
  match Q.fetched.find? fun d => d.deferred with
  | none => none
  | some d =>
    let before := (Q.fetched ++ (Q.cur.map fun c => c.desc).toList).filter fun x => decide (x.seq < d.seq)
    if before.any fun x => x.normalKernel || x.type = 0xB then none else some d

/-- The block that keeps a KERNEL from being recorded: one of a snapshot that its plan entry lies in and that is not yet read (R544,
R580). -/
def Gk1.recordWait (s : Gk1) (q : Nat) (d : Desc) : Option (Nat × Nat) :=
  match (s.queue q).plan with
  | none => none
  | some P =>
    if P.capacity ≤ P.count || s.kernelRefusal q d ≠ 0 then none
    else (sectors (P.va + 64 + 64 * P.count) 64).findSome? fun p => s.snapOf (s.qctx q) p.1

/-- Start the next normal-lane descriptor of a queue if it is of the row's kind, unless what it writes first must wait for a snapshot
(R435, R580). -/
def onStartAfter (q : Nat) (isRow : Desc → Bool) (wait : Desc → Option (Nat × Nat)) (run : Desc → Gk1 → Gk1) (s : Gk1) : Out :=
  onStart q (fun d => isRow d && (wait d).isNone) run (match (s.queue q).nextNormal with
    | some d => match wait d with
      | some w => if isRow d && s.mayStart q && (s.queue q).cur.isNone then s.wantBlock w.1 w.2 else s
      | none => s
    | none => s)

/-- A KERNEL descriptor starts: in the normal lane in ring order, in the deferred lane once it is eligible (R204, R435,
R440, R441). -/
def execKernelStart (queue : Nat) (deferred : Bool) (s : State) : Answer := s.act fun s =>
  if !deferred then
    onStartAfter queue Desc.normalKernel (fun d => s.recordWait queue d) (fun d s => s.startNormal queue d) s else
  if queueCount ≤ queue then .fault .noSuchUnit else
  if !s.mayStart queue then .next s else
  match (s.queue queue).nextDeferred with
  | none => .next s
  | some d =>
    let s := s.modQueue queue fun Q => Q.take d
    let e := s.kernelRefusal queue d
    if e ≠ 0 then .next (s.finishWith queue d e) else
    let kid := s.nextId
    .next ((s.addKernel queue d).modQueue queue fun Q => { Q with deferred := Q.deferred ++ [kid] })

/-! ## Launch -/

/-- Deferred kernels of a queue that were submitted before a descriptor and have not completed (R210, R445). -/
def Gk1.deferredBefore (s : Gk1) (q seq : Nat) : Bool :=
  (s.queue q).fetched.any (fun d => d.deferred && decide (d.seq < seq)) ||
    (s.queue q).deferred.any fun k => match NMap.get? s.kernels k with
      | some K => decide (K.desc.seq < seq)
      | none => false

/-- A normal-lane kernel is ready and has not launched (R207, R210, R436). -/
def Gk1.kernelReady (s : Gk1) (K : Kernel) : Bool :=
  K.phase = 0 && !K.stopped && !K.desc.deferred && !(K.desc.waitDeferred && s.deferredBefore K.queue K.desc.seq)

/-- The kernel that the queue engine takes next: of the first queue from the round robin pointer on that has a ready one
(R436). -/
def Gk1.nextTaken (s : Gk1) : Option Nat :=
  let l := s.kernels.filter fun e => s.kernelReady e.2 && e.2.taken.isNone
  let key := fun (q : Nat) => (q + queueCount - s.edge.rr % queueCount) % queueCount
  (l.foldl (fun (b : Option (Nat × Nat)) e => match b with
    | some (k, i) => if key e.2.queue < k then some (key e.2.queue, e.1) else some (k, i)
    | none => some (key e.2.queue, e.1)) none).map Prod.snd

/-- A cluster runs no kernel and none has launched on it. -/
def Cluster.free (c : Cluster) : Bool := c.admitted.isNone && c.asking.isNone && c.grain.isNone

/-- A region takes launches: its signal box is up, it is in service, and no release of it is held (R38, R471). -/
def Gk1.launchable (s : Gk1) (r : Nat) : Bool :=
  (s.region r).sbUp && decide ((s.region r).service = 0) && !s.held.releasing.contains r

/-- A grain runs in a region. -/
def Gk1.grainIn (s : Gk1) (r : Nat) : Bool := s.clusters.any fun e => regionOf e.1 = r && e.2.grain.isSome

/-- The clusters of a kernel that are busy. -/
def Gk1.busyOf (s : Gk1) (K : Kernel) : List Nat := (s.clusters.filter fun e => K.desc.covers e.1 && !e.2.free).map Prod.fst

/-- A taken kernel can launch: its clusters are free and no kernel taken before it has reserved one, its regions take
launches and no grain runs in them (R38, R208, R436). -/
def Gk1.canLaunch (s : Gk1) (kid : Nat) (K : Kernel) : Bool :=
  K.desc.regions.all (fun r => s.launchable r && !s.grainIn r)
    && (s.busyOf K).isEmpty
    && s.kernels.all fun e => e.1 = kid || e.2.phase ≠ 0 || !e.2.reserved.any K.desc.covers || (match e.2.taken, K.taken with
      | some a, some b => !decide (a < b)
      | _, _ => true)

/-- A core whose power went, or that is cleared: everything but its network interface (R27, R44, R703, R714). -/
def Core.wiped (C : Core) : Core := { epochs := C.epochs, streamOf := C.streamOf, lastSlot := C.lastSlot }

/-- The cores, accumulator banks, WGS and gangs of a region's clusters are lost with their power (R44). -/
def Gk1.wipeRegion (s : Gk1) (r : Nat) : Gk1 := { s with
  cores := NMap.mapVals s.cores fun (c : Nat) (C : Core) => if regionOf (clusterOf c) = r then C.wiped else C
  clusters := NMap.mapVals s.clusters fun (n : Nat) (c : Cluster) =>
    if regionOf n = r then { c with ganged := false, hold := false, apartFirst := [], apartWait := 0, wgs := [], wops := [] } else c }

/-- Clear a region for the first kernel of its new owner: core stores, instruction stores, tile files, accumulator banks,
WGS and region cache lines, whose dirty sectors are written back (R27). -/
def Gk1.clearRegion (s : Gk1) (r : Nat) : Gk1 :=
  if !(s.region r).needsClear then s else
  let s := s.wipeRegion r
  let s := (s.cache.filter fun e => gStack e.1 = r && s.ownerWay e.2.way).foldl (fun s e => s.evict e.1) s
  s.modRegion r fun R => { R with needsClear := false }

/-- The image that a KERNEL names. -/
def Desc.image (d : Desc) (ctx : Nat) : Image := { codeVA := d.codeVA, codeLen := d.codeLen, ctx := ctx }

/-- The instruction store that an image leaves: exit above it (R442). -/
def imageStore (bs : List Byte) (len : Nat) : NMap (BitVec 64) :=
  ((List.range 1024).map fun i =>
    (i, if i < len then BitVec.ofNat 64 (leNat ((bs.drop (8 * i)).take 8)) else 0x3800)).filter fun e => e.2 ≠ 0

/-- The cores of a KERNEL that must load its image (R442). RELOAD asks for it once for a cluster: a later grain loads the image
only if another kernel's has taken its place meanwhile (log 65). -/
def Gk1.loadCores (s : Gk1) (K : Kernel) : List Nat :=
  (K.desc.clusters.flatMap coresOf).filter fun c =>
    (K.desc.reload && !K.loaded.contains (clusterOf c)) || (s.core c).image ≠ some (K.desc.image K.ctx)

/-- Load the code image where it is needed, or the fault of reading it (R442). -/
def Gk1.loadCode (s : Gk1) (K : Kernel) : Except Nat Gk1 :=
  match s.loadCores K with
  | [] => .ok s
  | cores =>
    match s.readRange K.ctx (s.qEnforced K.queue) (sectors K.desc.codeVA (8 * K.desc.codeLen)) with
    | .error e => .error e
    | .ok bs =>
      let st := imageStore bs K.desc.codeLen
      .ok (cores.foldl (fun s c => s.modCore c fun C => { C with istore := st, image := some (K.desc.image K.ctx) })
        ({ s with free := s.free + 1 }.hasRead K.ctx K.desc.codeVA (8 * K.desc.codeLen)))

/-! ## The end of a kernel -/

/-- The group fault that a record carries: lowest core, then lowest slot (R269). -/
def firstGroupFault : List (Nat × Nat × Nat × BitVec 8) → Option (Nat × Nat × Nat × BitVec 8)
  | [] => none
  | f :: l => match firstGroupFault l with
    | some g => some (if g.1 * 8 + g.2.1 < f.1 * 8 + f.2.1 then g else f)
    | none => some f

/-- The kernel's first engine-path fault, in acceptance order of the instructions (R695). -/
def Kernel.firstFault (K : Kernel) : Option (Nat × Nat × BitVec 8) :=
  K.efaults.foldl (fun a f => match a with
    | some b => if f.1 < b.1 then some f else some b
    | none => some f) none

/-- The status of a kernel (R452, R474). -/
def Kernel.status (K : Kernel) : Nat :=
  match K.final, firstGroupFault K.gfaults, K.firstFault with
  | some c, _, _ => c.toNat
  | none, some f, _ => f.2.2.2.toNat
  | none, none, some f => f.2.2.toNat
  | none, none, none => 0

/-- What the record of a kernel holds (R449). FPC has 10 bits: of a group that ran past word 1,023 it reads 0 (log 65). -/
def Kernel.fin (K : Kernel) : Fin_ :=
  let f := (firstGroupFault K.gfaults).getD (0, 0, 0, 0)
  { status := K.status, data := K.gfaults.length, diverged := K.diverged, barOvf := K.barOvf, fcore := f.1, fslot := f.2.1
    fpc := f.2.2.1 % 1024 }

/-- What is left of a core when its kernel ends: accumulator handles are freed, barrier objects are discarded (R157,
R374). -/
def Core.ended (C : Core) : Core :=
  { C with groups := [], bars := [], kid := none, mq := [], pipe := [], totals := [], hbind := [], releasing := [], drains := [] }

/-- A kernel or grain leaves a cluster: the gang is released, and the cluster stays held or parked (R134, R157, R373, R374,
R610). The epochs of its streams end with the kernel, not with a grain (R532). -/
def Gk1.leaveCluster (s : Gk1) (kid cl : Nat) : Gk1 :=
  let ovf := (coresOf cl).any fun c => (s.core c).bars.any fun e => e.2.overflow
  let s := (coresOf cl).foldl (fun s c => s.modCore c Core.ended) s
  (s.modCluster cl fun c => { c with
    ganged := false, hold := false, apartFirst := [], apartWait := 0, admitted := none, asking := none, grain := none }).modKernel
    kid fun K => { K with barOvf := K.barOvf || ovf }

/-- A replayed kernel of a RECOMPUTE has completed: a failure or the last entry completes the RECOMPUTE (R549). -/
def Gk1.recompDone (s : Gk1) (q : Nat) (f : Fin_) : Gk1 :=
  match (s.queue q).recomp, (s.queue q).cur with
  | some R, some c =>
    if f.status ≠ 0 || R.entries.isEmpty then
      (s.modQueue q fun Q => { Q with recomp := none }).finish q c.desc { f with data := 0 }
    else s.modQueue q fun Q => { Q with recomp := some { R with kid := none } }
  | _, _ => s

/-- The cores whose senders hold epochs of a kernel. -/
def Gk1.streamCores (s : Gk1) (kid : Nat) : List Nat := (s.cores.filter fun e => e.2.streamOf = some kid).map Prod.fst

/-- Every open epoch of a kernel's cores ends (R532, R774). -/
def Gk1.endEpochs (s : Gk1) (kid ctx : Nat) : Gk1 := (s.streamCores kid).foldl (fun s c => s.closeEpochs c ctx kid) s

/-- A kernel is over: this part forgets its counts of the kernel's epochs, and the cores' records are no kernel's (R774). -/
def Gk1.leaveStreams (s : Gk1) (kid : Nat) : Gk1 :=
  let cs := s.streamCores kid
  cs.foldl (fun s c => s.modCore c fun C => { C with streamOf := none })
    { s with epochs := s.epochs.filter fun e => !(e.part = 0 && cs.contains e.score) }

/-- Complete a kernel: its clusters are left, it is counted and traced, and its descriptor or RECOMPUTE goes on (R342,
R452, R743, R745). -/
def Gk1.completeKernel (s : Gk1) (kid : Nat) : Gk1 :=
  match NMap.get? s.kernels kid with
  | none => s
  | some K0 =>
    let s := (s.clusters.filter fun e => K0.desc.covers e.1 && (e.2.admitted = some kid || e.2.asking = some kid)).foldl
      (fun s e => s.leaveCluster kid e.1) ((s.endEpochs kid K0.ctx).leaveStreams kid)
    let K := (NMap.get? s.kernels kid).getD K0
    let f := K.fin
    let s := (s.countCtx K.ctx 0 1).countCtx K.ctx 1 (b2n (decide (f.status ≠ 0)))
    let s := s.trace 2 K.ctx K.queue K.desc.cFirst (leBytes 2 K.desc.ring ++ leBytes 1 f.status)
    let s := { s with held := { s.held with
      failed := min (s.held.failed + b2n (decide (f.status = 0x61))) 0xFFFF
      lostAcc := min (s.held.lostAcc + b2n (decide (f.status = 0x60))) 0xFFFF } }
    let mine := decide (((s.queue K.queue).recomp.bind Recomp.kid) = some kid)
    let s := { s with kernels := NMap.erase s.kernels kid }.modQueue K.queue fun Q => { Q with
      deferred := Q.deferred.filter (· ≠ kid) }
    if mine then s.recompDone K.queue f else s.finish K.queue K.desc f

/-- Complete a kernel with a status that replaces the order of R452. -/
def Gk1.failKernel (s : Gk1) (kid code : Nat) : Gk1 :=
  (s.modKernel kid fun K => { K with final := some (BitVec.ofNat 8 code) }).completeKernel kid

/-- Launch a taken kernel if it can: its regions are cleared for a new owner, its code is loaded, and its clusters ask for
their places; if not it reserves the clusters that are busy (R27, R436, R441, R442, R608). -/
def Gk1.tryLaunch (s : Gk1) (kid : Nat) : Gk1 :=
  match NMap.get? s.kernels kid with
  | none => s
  | some K =>
    if !s.owns K.ctx K.desc then s.failKernel kid 2 else
    if !s.canLaunch kid K then s.modKernel kid fun K => { K with reserved := (K.reserved ++ s.busyOf K).eraseDups } else
    let s := K.desc.regions.foldl (fun s r => s.clearRegion r) s
    match s.loadCode K with
    | .error e => (s.bulkFault K.queue e K.desc.codeVA).failKernel kid e
    | .ok s =>
      let s := K.desc.clusters.foldl (fun s n => s.modCluster n fun c => { c with asking := some kid }) s
      let s := s.modKernel kid fun K => { K with phase := 1, taken := none, reserved := [] }
      s.trace 1 K.ctx K.queue K.desc.cFirst (leBytes 4 K.desc.cCount ++ leBytes 2 K.desc.ring ++ leBytes 1 1)

/-- The queue engine takes a ready kernel, or tries one again that it has taken (R38, R208, R436). -/
def execKernelLaunch (kid : Nat) (s : State) : Answer := s.act fun s =>
  match NMap.get? s.kernels kid with
  | none => .next s
  | some K =>
    if !s.kernelReady K then .next s
    else if K.taken.isSome then .next (s.tryLaunch kid)
    else if s.nextTaken ≠ some kid then .next s
    else
      let s := { s with nextId := s.nextId + 1, edge := { s.edge with rr := K.queue + 1 } }.modKernel kid fun K =>
        { K with taken := some s.nextId }
      .next (s.tryLaunch kid)

/-! ## Admission -/

/-- A group at its start (R223). -/
def startGroup (core g grain : Nat) (d : Desc) : Group :=
  let s (n v : Nat) (m : NMap (BitVec 32)) := NMap.put m n (BitVec.ofNat 32 v) 0
  { status := .running, pc := d.entry, active := 0xFFFF, live := 0xFFFF
    sregs := s 5 d.groups (s 4 grain (s 3 (d.paramVA >>> 32) (s 2 d.paramVA (s 1 g (s 0 core [])))))
    vregs := (List.range 15).map fun l => (l + 1, BitVec.ofNat 32 (l + 1)) }

/-- The groups and barrier objects of a core at the start of a kernel (R221-R223, R356). -/
def Core.started (C : Core) (core kid grain : Nat) (d : Desc) : Core :=
  { C with
    kid := some kid
    streamOf := some kid
    groups := (List.range d.groups).map fun g => (g, startGroup core g grain d)
    bars := (List.range 64).map fun b => (b, ({ count := d.groups } : Bar)) }

/-- The quadrant, and power entry, of a region (R753). -/
def quadrantOf (r : Nat) : Nat := if r < 32 then r % 8 / 4 else 3 - r % 8 / 4

/-- A coefficient of a region scaled by its quadrant's calibration (R600). -/
def Gk1.scaled (s : Gk1) (r mw : Nat) : Nat :=
  let c := NMap.getD s.power.scale (quadrantOf r) (1, 1)
  mw * c.1 / max c.2 1

/-- Milliwatts that one held cluster of a region draws at a point (R600). -/
def Gk1.drawAt (s : Gk1) (r k : Nat) : Nat := s.scaled r (Config.heldDraw r k)

/-- The draw of one held cluster at its region's point: pc of R605. -/
def Gk1.drawOf (s : Gk1) (r : Nat) : Nat := s.drawAt r (s.region r).point

/-- Another kernel starts on a core between the grains of a deferred one: it begins a new epoch on every stream (R774). -/
def Gk1.newStreams (s : Gk1) (core kid : Nat) : Gk1 :=
  match (s.core core).streamOf with
  | some k => if k = kid then s else s.closeEpochs core (s.kernelCtx k) k
  | none => s

/-- A cluster takes its place: it is admitted for the kernel it asks for and its groups start, or it is readmitted
(R222, R608, R609). -/
def Gk1.letIn (s : Gk1) (cl kid : Nat) : Gk1 :=
  match NMap.get? s.kernels kid with
  | none => s.modCluster cl fun c => { c with asking := none }
  | some K =>
    let c := s.cluster cl
    if c.admitted = some kid then s.modCluster cl fun c => { c with held := true, asking := none } else
    let s := s.modCluster cl fun c => { c with held := true, asking := none, admitted := some kid, shareFrom := s.nextId }
    let s := (coresOf cl).foldl (fun s n => (s.newStreams n kid).modCore n fun C => C.started n kid (c.grain.getD 0) K.desc) s
    s.modKernel kid fun K => { K with admitted := addNew K.admitted cl, since := some (K.since.getD s.dtime) }

/-- PT_SLOT.CLUSTERS. -/
def Gk1.slotClusters (s : Gk1) : Nat := s.reg 0x200034 64 % 2 ^ 7

/-- A dispatcher runs its ticks: the signal box of SB_DISP is in service. Before the first wave none has been named (R699, R700). -/
def Gk1.dispatcherRuns (s : Gk1) : Bool :=
  !s.boot.dvalid || ((s.region s.boot.disp).sbUp && decide ((s.region s.boot.disp).service = 0))

/-- One asking cluster of a slot: the state, the places left, and whether a parked cluster of it waits (R608). While no dispatcher
runs only held clusters are admitted (R700). -/
def Gk1.slotOne (r : Nat) (a : Gk1 × Nat × Bool) (e : Nat × Cluster) : Gk1 × Nat × Bool :=
  let s := a.1
  match e.2.asking, a.2.1 with
  | none, _ => a
  | _, 0 => a
  | some kid, n + 1 =>
    if e.2.lost then a
    else if e.2.held then (s.letIn e.1 kid, n, a.2.2)
    else if a.2.2 || !s.dispatcherRuns || decide (s.power.allowance < s.drawOf r) then (s, n + 1, true)
    else (({ s with power := { s.power with allowance := s.power.allowance - s.drawOf r } }).letIn e.1 kid, n, false)

/-- The length of a region's ACLK in eighths of its unstretched length: PT_DROOP.STRETCH (R617). -/
def Gk1.eighths (s : Gk1) (r : Nat) : Nat :=
  if (s.region r).stretch then 9 + fld (s.reg 0x200038 (40 + 2 ^ 8)) 8 3 else 8

/-- Parked clusters of a region that take over held draw become held, as many as the slot has places left, while a dispatcher
runs (R611, R700). -/
def Gk1.takeOver (s : Gk1) (r places : Nat) : Gk1 :=
  let l := if s.dispatcherRuns then ((s.power.handing.flatMap Prod.snd).filter fun c => regionOf c = r).take places else []
  let s := l.foldl (fun s c => s.modCluster c fun c => { c with held := true }) s
  if l.isEmpty then s else
  { s with power := { s.power with handing := NMap.mapVals s.power.handing fun (_ : Nat) (cs : List Nat) => cs.filter fun c => !l.contains c } }

/-- A region's departure slot, every 128 ns: clusters that ask take places first, then those that take over held draw (R222, R607,
R608, R611). -/
def execDepartureSlot (region : Nat) (s : State) : Answer := s.act fun s =>
  if 64 ≤ region then .fault .noSuchUnit else
  let due := match NMap.get? s.power.slots region with
    | some t => decide (t + 128 ≤ s.dtime)
    | none => true
  if !(due && (s.region region).sbUp && decide ((s.region region).service = 0)) then .next s else
  let s := { s with power := { s.power with slots := NMap.set s.power.slots region s.dtime } }
  let a := (s.clusters.filter fun e => regionOf e.1 = region).foldl (Gk1.slotOne region) (s, s.slotClusters, false)
  .next (a.1.takeOver region a.2.1)

/-- An array of the cluster has a K step ready. -/
def Gk1.stepReady (s : Gk1) (cl : Nat) : Bool :=
  let t := s.modCluster cl fun c => { c with held := true }
  (coresOf cl).any fun n => match (s.core n).mq.head? with
    | some x => !x.entries.isEmpty && t.mayRun n x
    | none => false

/-- An admitted cluster that is parked asks for readmission once an array has a K step ready (R609). -/
def execReadmissionRequest (cluster : Nat) (s : State) : Answer := s.act fun s =>
  if clusterCount ≤ cluster then .fault .noSuchUnit else
  let c := s.cluster cluster
  if c.admitted.isSome && !c.held && !c.lost && c.asking.isNone && s.stepReady cluster then
    .next (s.modCluster cluster fun c => { c with asking := c.admitted })
  else .next s

/-! ## Completion -/

/-- No group of a core runs, and its matrix queue, pipeline and drains are empty (R107, R238, R268). -/
def Core.quiet (C : Core) : Bool :=
  C.groups.all (fun e => e.2.status ≠ .running) && C.mq.isEmpty && C.pipe.isEmpty && C.drains.isEmpty

/-- Nothing of a kernel's engines is outstanding from some cores, EPOCH_ENDs apart (R342). -/
def Gk1.enginesDone (s : Gk1) (kid : Nat) (here : Nat → Bool) : Bool :=
  s.reqs.all (fun e => e.2.kid ≠ kid || !here e.2.core)
    && s.msgs.all fun e => e.2.kid ≠ kid || !here e.2.core || e.2.kind = .epochEnd || e.2.pkt.isSome

/-- Every EPOCH_END of a kernel has been answered (R532). -/
def Gk1.epochsDone (s : Gk1) (kid : Nat) : Bool := s.msgs.all fun e => e.2.kid ≠ kid || e.2.kind ≠ .epochEnd

/-- No WGS operation of a kernel waits in a cluster. -/
def Cluster.noWops (c : Cluster) (kid : Nat) : Bool := c.wops.all fun o => o.kid ≠ kid

/-- A kernel's share on a cluster is over: it has ended, or was lost and is not rerun (R107, R708). -/
def Gk1.shareDone (s : Gk1) (kid : Nat) (K : Kernel) (cl : Nat) : Bool :=
  let h := NMap.getD K.shares cl {}
  h.dropped || (h.lost.isNone && K.admitted.contains cl && decide ((s.cluster cl).admitted = some kid)
    && (coresOf cl).all (fun c => (s.core c).quiet) && (s.cluster cl).noWops kid)

/-- Clusters that a kernel has been admitted on hold nothing of it that runs. -/
def Gk1.stoppedDone (s : Gk1) (kid : Nat) (K : Kernel) : Bool :=
  s.clusters.all fun e => !K.desc.covers e.1 || (e.2.noWops kid && (e.2.admitted ≠ some kid || (coresOf e.1).all fun c => (s.core c).quiet))

/-- A deferred kernel hands out no more grains: its queue has stopped. -/
def Gk1.noMoreGrains (s : Gk1) (K : Kernel) : Bool := (s.queue K.queue).state = 2

/-- A cluster runs a grain of a kernel. -/
def Gk1.grainOut (s : Gk1) (kid : Nat) : Bool :=
  s.clusters.any fun e => e.2.grain.isSome && (e.2.admitted = some kid || e.2.asking = some kid)

/-- A kernel may complete: stopped, its writes have landed; normal, every share is over; deferred, its grains are done or
its queue has stopped and no grain runs (R107, R212, R342, R443, R472). -/
def Gk1.mayComplete (s : Gk1) (kid : Nat) (K : Kernel) : Bool :=
  !K.rerun && s.enginesDone kid (fun _ => true) &&
    (if K.stopped then s.stoppedDone kid K
    else if K.desc.deferred then decide (K.desc.grains ≤ K.doneGrains) || (s.noMoreGrains K && !s.grainOut kid)
    else K.phase = 1 && K.desc.clusters.all fun cl => s.shareDone kid K cl)

/-! ## Stopping -/

/-- Stop the groups of a core and discard its matrix instructions and handles (R157, R443). -/
def Core.stopped (C : Core) : Core :=
  { C with
    groups := NMap.mapVals C.groups fun (_ : Nat) (G : Group) => if G.status = .running then { G with status := .ended } else G
    mq := [], pipe := [], totals := [], hbind := [], releasing := [], drains := [] }

/-- Requests of a stop's discarded matrix instructions. -/
def Gk1.dropMatrixReqs (s : Gk1) (kid : Nat) (here : Nat → Bool) : Gk1 :=
  { s with reqs := s.reqs.filter fun e =>
      !(e.2.kid = kid && here e.2.core && !e.2.handed && (e.2.kind = .mma || e.2.kind = .mmaWg || e.2.kind = .drain)) }

/-- A write of a LOCAL drain: on no stream, to the store of its own core. -/
def Msg.isLocal (m : Msg) : Bool := m.kind = .write && m.stream.isNone && (match m.place with
  | .store c _ => c = m.core
  | .dev _ => false
  | .peer _ _ => false
  | .host _ => false)

/-- Messages that a stop discards: those not yet handed to the mesh, the writes of LOCAL drains, those returned from it,
closing writes of this part, whose epochs end, and packets to a part that is unreachable (R340, R443, R500, R538, R774). -/
def Gk1.discards (s : Gk1) (m : Msg) : Bool :=
  m.unsent || m.isLocal || m.returned.isSome || m.noRoute.isSome || (m.kind = .write && m.closing && !m.place.isPeer)
    || (m.place.isPeer && s.unreachable.contains m.place.part)

/-- Discard what a stopped kernel has not handed to the mesh, its requests counting those accesses as done (R443, R500). -/
def Gk1.dropMsgs (s : Gk1) (kid : Nat) (here : Nat → Bool) : Gk1 :=
  (s.msgs.filter fun e => e.2.kid = kid && here e.2.core && e.2.pkt.isNone && s.discards e.2).foldl
    (fun s e =>
      let s := if e.2.closing && !e.2.place.isPeer && !e.2.unsent then s.dropEpoch e.2 else s
      let s := if e.2.kind ≠ .epochEnd then s else s.modCore e.2.core fun C => { C with
        epochs := C.epochs.filter fun r => !(r.ending && some r.stream = e.2.stream && r.target = e.2.place.target) }
      (s.delMsg e.1).performed e.2.rid 1 e.2.here) s

/-- Stop a kernel on one cluster (R443): its groups, its matrix work, its handles; the WGS tiles it promoted into become
UNDEF, and a discard that waited for its mma.wg runs (R201). -/
def Gk1.stopCluster (s : Gk1) (kid cl : Nat) : Gk1 :=
  let mine := decide ((s.cluster cl).admitted = some kid)
  let s := if mine then (coresOf cl).foldl (fun s c => s.modCore c Core.stopped) s else s
  s.modCluster cl fun c => Cluster.runDiscards { c with
    asking := if c.asking = some kid then none else c.asking
    grain := if c.asking = some kid || mine then none else c.grain
    wops := c.wops.filter fun o => !(o.kid = kid && o.kind = 0)
    wgs := NMap.mapVals c.wgs fun (_ : Nat) (g : WGroup) =>
      g.undefTiles ((g.tiles.filter fun t => t.2.kids.contains kid).map Prod.fst) }

/-- A kernel completes once its EPOCH_ENDs are answered (R107, R342, R532). A deferred kernel of a stopped queue that has
grains left completes CANCELLED (log 25). -/
def execKernelComplete (kid : Nat) (s : State) : Answer := s.act fun s =>
  match NMap.get? s.kernels kid with
  | none => .next s
  | some K =>
    let s := if K.stopped then s.dropMsgs kid fun _ => true else s
    if !s.queuesRun || !s.mayComplete kid K then .next s else
    let s := s.endEpochs kid K.ctx
    if !s.epochsDone kid then .next s
    else if K.desc.deferred && !K.stopped && decide (K.doneGrains < K.desc.grains) then .next (s.failKernel kid 5)
    else .next (s.completeKernel kid)

/-- The clusters of a kernel that the part has an entry for. -/
def Gk1.kernelClusters (s : Gk1) (K : Kernel) : List Nat := (s.clusters.filter fun e => K.desc.covers e.1).map Prod.fst

/-- Stop every group of a kernel and discard its matrix work (R443). -/
def Gk1.stopWork (s : Gk1) (kid : Nat) : Gk1 :=
  match NMap.get? s.kernels kid with
  | none => s
  | some K => (((s.kernelClusters K).foldl (fun s cl => s.stopCluster kid cl) s).dropMatrixReqs kid fun _ => true).dropMsgs kid fun _ => true

/-- Stop a kernel for good, with a status that an interruption's keeps its place before (R443, R452). -/
def Gk1.stopKernel (s : Gk1) (kid : Nat) (code : Nat) (always : Bool) : Gk1 :=
  (s.stopWork kid).modKernel kid fun K => { K with
    stopped := true, rerun := false
    final := if always || K.final.isNone then some (BitVec.ofNat 8 code) else K.final }

/-- TLIMIT microseconds have passed since the kernel's first cluster was admitted (R443, R712). -/
def execKernelTimeout (kid : Nat) (s : State) : Answer := s.act fun s =>
  match NMap.get? s.kernels kid with
  | none => .next s
  | some K =>
    match K.since with
    | none => .next s
    | some t =>
      if K.stopped || K.desc.tLimit = 0 || decide (s.dtime < t + K.desc.tLimit * 1000) then .next s
      else .next (s.stopKernel kid 3 false)

/-! ## Grains -/

/-- A ready normal-lane kernel covers a region (R207, R208). -/
def Gk1.readyOver (s : Gk1) (r : Nat) : Bool :=
  s.kernels.any fun e => s.kernelReady e.2 && e.2.desc.regions.contains r

/-- A number is a kernel's of the normal lane. -/
def Gk1.isNormal (s : Gk1) (kid : Nat) : Bool := match NMap.get? s.kernels kid with
  | some K => !K.desc.deferred
  | none => false

/-- A normal-lane kernel has clusters admitted in a region, or launched and asking for their places there (R207). -/
def Gk1.normalIn (s : Gk1) (r : Nat) : Bool :=
  s.clusters.any fun e => regionOf e.1 = r && (e.2.admitted.any s.isNormal || e.2.asking.any s.isNormal)

/-- The descriptor at the head of a queue's normal lane: of a RECOMPUTE the kernel that runs in its place (R210, R548). -/
def Gk1.headDesc (s : Gk1) (Q : Queue) (c : Cur) : Desc :=
  match (Q.recomp.bind Recomp.kid).bind (NMap.get? s.kernels) with
  | some K => K.desc
  | none => c.desc

/-- A queue's deferred lane runs without regard to bubbles: its normal lane is empty, or a WAIT_DEFERRED kernel that was
submitted after the deferred one is at its head (R210, R211). -/
def Gk1.freeLane (s : Gk1) (K : Kernel) : Bool :=
  let Q := s.queue K.queue
  match Q.cur with
  | some c => let d := s.headDesc Q c
    d.normalKernel && d.waitDeferred && decide (K.desc.seq < d.seq)
  | none => Q.nextNormal.isNone

/-- Grains of a kernel that are left to hand out. -/
def Kernel.grainsLeft (K : Kernel) : Bool := !K.lostGrains.isEmpty || decide (K.nextGrain < K.desc.grains)

/-- Earlier deferred kernels of the queue have handed out all of their grains (R209). -/
def Gk1.laneTurn (s : Gk1) (kid : Nat) (K : Kernel) : Bool :=
  ((s.queue K.queue).deferred.takeWhile (· ≠ kid)).all fun k => match NMap.get? s.kernels k with
    | some J => !J.grainsLeft
    | none => true

/-- A grain may be handed to a cluster (R205-R211, R711). -/
def Gk1.mayHand (s : Gk1) (kid : Nat) (K : Kernel) (cl : Nat) : Bool :=
  let r := regionOf cl
  K.desc.deferred && !K.stopped && !K.rerun && K.grainsLeft && K.desc.covers cl && (s.queue K.queue).state = 1 && s.laneTurn kid K
    && (s.cluster cl).free && !(s.cluster cl).lost && s.launchable r && !s.readyOver r
    && (s.freeLane K || !s.normalIn r)

/-- Hand a grain to a cluster: the lowest lost one, or the next (R205, R711); it asks for its place. -/
def Gk1.hand (s : Gk1) (kid : Nat) (K : Kernel) (cl : Nat) : Gk1 :=
  let n := match K.lostGrains with
    | g :: _ => g
    | [] => K.nextGrain
  let s := s.modKernel kid fun K => { K with
    phase := 1, lostGrains := K.lostGrains.drop 1, loaded := addNew K.loaded cl
    nextGrain := if K.lostGrains.isEmpty then K.nextGrain + 1 else K.nextGrain }
  s.modCluster cl fun c => { c with asking := some kid, grain := some n }

/-- The queue engine hands a grain to a cluster of a deferred kernel: regions are cleared and code is loaded as at a launch,
and the first grain of a kernel is its launch in the trace (R27, R205-R211, R442, R745). A kernel one of whose regions its context
no longer owns ends with NOT_OWNED at its next grain (R441, R471, R475, log 65). -/
def execGrainHandout (kid cluster : Nat) (s : State) : Answer := s.act fun s =>
  if clusterCount ≤ cluster then .fault .noSuchUnit else
  match NMap.get? s.kernels kid with
  | none => .next s
  | some K =>
    if !s.mayHand kid K cluster then .next s else
    if !s.owns K.ctx K.desc then .next (s.stopKernel kid 2 false) else
    let s := s.clearRegion (regionOf cluster)
    let one : Kernel := { K with desc := { K.desc with q := K.desc.q.set 3 (BitVec.ofNat 64 (cluster + 2 ^ 18)) } }
    match s.loadCode one with
    | .error e => .next ((s.bulkFault K.queue e K.desc.codeVA).stopKernel kid e false)
    | .ok s =>
      let s := if K.phase ≠ 0 then s else
        s.trace 1 K.ctx K.queue K.desc.cFirst (leBytes 4 K.desc.cCount ++ leBytes 2 K.desc.ring ++ leBytes 1 1)
      .next (s.hand kid K cluster)

/-- A grain is over on its cluster: its groups have ended and everything of its cores has landed. -/
def Gk1.grainOver (s : Gk1) (kid cl : Nat) : Bool :=
  decide ((s.cluster cl).admitted = some kid) && (s.cluster cl).grain.isSome && (coresOf cl).all (fun c => (s.core c).quiet)
    && (s.cluster cl).noWops kid && s.enginesDone kid (fun c => clusterOf c = cl)

/-- A grain completes and leaves its cluster; the last one completes the kernel, once its EPOCH_ENDs are answered (R205, R212,
R532). -/
def execGrainComplete (kid cluster : Nat) (s : State) : Answer := s.act fun s =>
  if clusterCount ≤ cluster then .fault .noSuchUnit else
  match NMap.get? s.kernels kid with
  | none => .next s
  | some K =>
    if K.stopped || !s.grainOver kid cluster then .next s else
    let s := (s.leaveCluster kid cluster).modKernel kid fun K => { K with
      doneGrains := K.doneGrains + 1, admitted := K.admitted.filter (· ≠ cluster), shares := NMap.erase K.shares cluster }
    let last := (NMap.get? s.kernels kid).any fun K => s.mayComplete kid K && decide (K.desc.grains ≤ K.doneGrains)
    if !last then .next s else
    let s := s.endEpochs kid K.ctx
    .next (if s.epochsDone kid then s.completeKernel kid else s)

end Sys2Proof.Machine
end

