-- ==== Sys2Proof/Machine/Object.lean ====
section
/-! DEFINITION. Context blocks (R457-R460), memory objects and their release (R477-R484), timeline fences (R445,
R485-R494), fence watches (R533-R535) and COPY (R444). -/

namespace Sys2Proof.Machine

/-! ## The context block -/

/-- An 8-byte word of a context's block; a word that cannot be read counts as 0 (log 26). -/
def Gk1.cbWord (s : Gk1) (c ofs : Nat) : Nat := match s.frameWord (s.ctx c).cbFrame.toNat ofs with
  | .ok w => w
  | .error _ => 0

/-- Write an 8-byte word of a frame. -/
def Gk1.putFrameWord (s : Gk1) (c frame ofs v : Nat) : Gk1 :=
  match s.locate frame ofs with
  | .error _ => s
  | .ok (gid, stream) => match s.poke gid (ofs % 256) (leBytes 8 v) c stream with
    | .ok s => s
    | .error _ => s

/-- Write a word of a context's block. -/
def Gk1.putCb (s : Gk1) (c ofs v : Nat) : Gk1 := s.putFrameWord c (s.ctx c).cbFrame.toNat ofs v

/-- Offset of an object entry (R457, R477). -/
def objOfs (n : Nat) : Nat := 0x10000 + 16 * n

/-- Offset of a word of a fence entry (R457, R485). -/
def fenceOfs (n w : Nat) : Nat := 0x20000 + 64 * n + 8 * w

/-- A word of a fence entry. -/
def Gk1.fenceWord (s : Gk1) (c n w : Nat) : Nat := s.cbWord c (fenceOfs n w)

/-- Offset of the word that holds the STATE of an object or fence. -/
def stateOfs (isFence : Bool) (n : Nat) : Nat := if isFence then fenceOfs n 1 else objOfs n + 8

/-- STATE of an object or fence: 0 UNUSED, 1 LIVE, 2 RELEASING, 3 RELEASED. -/
def Gk1.entryState (s : Gk1) (c : Nat) (isFence : Bool) (n : Nat) : Nat := fld (s.cbWord c (stateOfs isFence n)) 0 2

/-- Set STATE, keeping the word's other bits. -/
def Gk1.setEntryState (s : Gk1) (c : Nat) (isFence : Bool) (n v : Nat) : Gk1 :=
  s.putCb c (stateOfs isFence n) (setFld (s.cbWord c (stateOfs isFence n)) 0 2 v)

/-! ## Release -/

/-- A descriptor can hold a fence: a FENCE_WAIT or a FENCE_SIGNAL (R486). -/
def Desc.holdsFence (d : Desc) : Bool := d.type = 4 || d.type = 5

/-- A descriptor of a queue with a submission number below a limit that holds an object, or a fence, has neither completed nor been
dropped (R479, R481, R486). One that is not fetched may be of any type (log 71). -/
def Gk1.outstanding (s : Gk1) (isFence : Bool) (q limit : Nat) : Bool :=
  let Q := s.queue q
  let holds := fun (d : Desc) => decide (d.seq < limit) && (!isFence || d.holdsFence)
  (Q.state ≠ 0 && decide (Q.fetchedN < min limit Q.submitted)) || Q.fetched.any holds || Q.cur.any (fun c => holds c.desc)
    || s.kernels.any fun e => e.2.queue = q && holds e.2.desc

/-- The doorbell word of a queue as host memory gives it: the bytes are the host's (log 16). -/
def Gk1.hostDoorbell (s : Gk1) (q : Nat) : Gk1 :=
  let a := fld (s.reg (0x100010 + 0x40 * q) 0) 3 61 * 8
  if !(s.linkOpen && Config.hostGood s.free a) then s.doorbell q none else
  { s with free := s.free + 1 }.doorbell q
    (some (BitVec.ofNat 64 (leNat ((List.range 8).map fun k => Config.hostByte s.free (a + k)))))

/-- The queues of a context that are not DISABLED. -/
def Gk1.queuesOf (s : Gk1) (c : Nat) : List Nat :=
  (s.queues.filter fun e => e.2.state ≠ 0 && s.qctx e.1 = c).map Prod.fst

/-- An object or fence enters RELEASING: the doorbells of its context are read, and the release waits for every descriptor
that they cover (R481). -/
def Gk1.startRelease (s : Gk1) (c : Nat) (isFence : Bool) (n : Nat) : Gk1 :=
  let s := s.setEntryState c isFence n 2
  let qs := s.queuesOf c
  let s := qs.foldl (fun s q => s.hostDoorbell q) s
  s.modCtx c fun C => { C with releases := C.releases.filter (fun r => r.1 ≠ (isFence, n)) ++
    [((isFence, n), qs.map fun q => (q, (s.queue q).submitted))] }

/-- HCOUNT of an object or fence is written (R480, R486); true when a new life begins. -/
def Gk1.writeCount (s : Gk1) (c : Nat) (isFence : Bool) (n : Nat) (zero : Bool) : Gk1 × Bool :=
  let st := s.entryState c isFence n
  if zero then (if st = 1 then s.startRelease c isFence n else s, false)
  else if st = 0 || st = 3 then (s.setEntryState c isFence n 1, true)
  else if st = 2 then
    ((s.setEntryState c isFence n 1).modCtx c fun C => { C with releases := C.releases.filter fun r => r.1 ≠ (isFence, n) }, false)
  else (s, false)

/-- A release's last holder has gone: no descriptor it waits for is left and no peer watches the fence (R481, R486). -/
def Gk1.mayRelease (s : Gk1) (c : Nat) (isFence : Bool) (n : Nat) (l : List (Nat × Nat)) : Bool :=
  l.all (fun e => !s.outstanding isFence e.1 e.2) && !(isFence && s.ownerWatches.any fun w => w.2.ctx = c && w.2.fence = n)

/-- Write the next entry of a context's release log (R484). -/
def Gk1.releaseLog (s : Gk1) (c : Nat) (isFence : Bool) (n : Nat) : Gk1 :=
  let C := s.ctx c
  let seq := (C.rlSeq + 1) % 2 ^ 32
  (s.modCtx c fun C => { C with rlSeq := seq }).post (C.rlAddr + 8 * (C.rlSeq % 2 ^ C.rlog))
    (leBytes 8 (n + b2n isFence * 2 ^ 16 + seq * 2 ^ 32))

/-- An entry becomes RELEASED. -/
def Gk1.release (s : Gk1) (c : Nat) (isFence : Bool) (n : Nat) : Gk1 :=
  ((s.modCtx c fun C => { C with releases := C.releases.filter fun r => r.1 ≠ (isFence, n) }).setEntryState c isFence n 3).releaseLog
    c isFence n

/-- A releasing object or fence becomes RELEASED, and a release log entry is written (R481, R484). -/
def execObjectReleased (context : Nat) (isFence : Bool) (index : Nat) (s : State) : Answer := s.act fun s =>
  if 64 ≤ context then .fault .noSuchUnit else
  match (s.ctx context).releases.find? fun r => r.1 = (isFence, index) with
  | some r => if s.mayRelease context isFence index r.2 then .next (s.release context isFence index) else .next s
  | none => .next s

/-! ## Fences -/

/-- What a fence number names (R489, R491). -/
inductive FenceRef where
  /-- a fence of this part, by context and number -/
  | local_ (c n : Nat)
  /-- a fence of a peer, by the halves of its handle -/
  | import_ (lo check : Nat)
  /-- an alias of a context that is gone, or an ALIAS or IMPORT entry that is itself abandoned: it reads as abandoned (R489, R490) -/
  | gone
  deriving DecidableEq, Repr

/-- KIND of a fence entry. -/
def Gk1.fenceKind (s : Gk1) (c n : Nat) : Nat := fld (s.fenceWord c n 2) 16 2

/-- ABANDONED of a fence entry (R485, R490). -/
def Gk1.fenceAbandoned (s : Gk1) (c n : Nat) : Bool := (s.fenceWord c n 1).testBit 2

/-- The fence that an entry names itself. -/
def Gk1.ownFence (s : Gk1) (c n : Nat) : FenceRef :=
  if s.fenceKind c n ≠ 3 then .local_ c n
  else if s.fenceAbandoned c n then .gone
  else .import_ (s.fenceWord c n 4) (s.fenceWord c n 5)

/-- The fence that a number of a context names; none when R487 refuses it. -/
def Gk1.fenceRef (s : Gk1) (c n : Nat) : Option FenceRef :=
  if c = 0 || decide (16384 ≤ n) then none else
  match s.fenceKind c n with
  | 0 => none
  | 2 =>
    let f2 := s.fenceWord c n 2
    let a := fld f2 20 6
    if !s.fenceAbandoned c n && (s.ctx a).state = 1 && decide ((s.ctx a).gen.toNat = fld f2 26 8) && decide (a ≠ 0) then some (s.ownFence a (fld f2 34 14))
    else some .gone
  | _ => some (s.ownFence c n)

/-- The watch of a handle. -/
def Gk1.watchOf (s : Gk1) (lo check : Nat) : Option (Nat × ImportWatch) :=
  s.importWatches.find? fun w => w.2.lo.toNat = lo && w.2.check.toNat = check

/-- Value of a fence, and whether it is abandoned (R489, R490, R494). -/
def Gk1.fenceNow (s : Gk1) : FenceRef → Nat × Bool
  | .local_ c n => (s.fenceWord c n 0, s.fenceAbandoned c n)
  | .gone => (2 ^ 64 - 1, true)
  | .import_ lo check => match s.watchOf lo check with
    | some w => if w.2.abandoned || w.2.unreachable then (2 ^ 64 - 1, true) else (w.2.value.toNat, false)
    | none => (0, false)

/-- The peers that watch a fence will be told. -/
def Gk1.markWatched (s : Gk1) (c n : Nat) : Gk1 :=
  { s with ownerWatches := NMap.mapVals s.ownerWatches fun (_ : Nat) (w : OwnerWatch) =>
      if w.ctx = c && w.fence = n then { w with dirty := true } else w }

/-- A signal of a fence (R488, R745). -/
def Gk1.signalFence (s : Gk1) (c n : Nat) (value : Nat) (queue : Nat) : Gk1 :=
  let s := s.trace 7 c queue n (leBytes 8 value)
  match s.fenceRef c n with
  | some (.local_ c n) =>
    let now := s.fenceNow (.local_ c n)
    if now.2 || decide (value ≤ now.1) then s else (s.putCb c (fenceOfs n 0) value).markWatched c n
  | _ => s

/-- Abandon a fence (R490). -/
def Gk1.abandonFence (s : Gk1) (c n : Nat) : Gk1 :=
  ((s.putCb c (fenceOfs n 0) (2 ^ 64 - 1)).putCb c (fenceOfs n 1) (s.fenceWord c n 1 ||| 4)).markWatched c n

/-- F2 of a fence entry is written by a table write: HCOUNT, EXPORTED and ABANDON take effect (R485, R486, R490, R492). -/
def Gk1.writeF2 (s : Gk1) (c n v : Nat) : Gk1 :=
  let old := s.fenceWord c n 2
  let s := s.putCb c (fenceOfs n 2) v
  let r := s.writeCount c true n (fld v 0 16 = 0)
  let s := if r.2 then (r.1.putCb c (fenceOfs n 0) 0).putCb c (fenceOfs n 1) 1 else r.1
  let s := if v.testBit 18 && (!old.testBit 18 || r.2) then
      let d := s.draw
      d.2.putCb c (fenceOfs n 3) d.1.toNat
    else if old.testBit 18 && !v.testBit 18 then s.markWatched c n else s
  if v.testBit 19 then s.abandonFence c n else s

/-! ## Watches -/

/-- The payload of a fence-watch packet (R533). -/
def watchPayload (lo check value wseq : Nat) (abandoned : Bool) : List Byte :=
  leBytes 8 lo ++ leBytes 8 check ++ leBytes 8 value ++ leBytes 4 wseq ++ leBytes 4 (b2n abandoned)

/-- A fence-watch packet. -/
def Gk1.watchPacket (s : Gk1) (type dst tag : Nat) (payload : List Byte) : Packet :=
  ({ type := type, dst := dst, src := s.self, tag := tag } : Hdr).packet payload

/-- The low half of a fence handle (R491). -/
def handleLo (part c gen n : Nat) : Nat := part + c * 2 ^ 32 + gen * 2 ^ 38 + n * 2 ^ 46

/-- A watch stands: the context and the fence are as the handle says (R492, R493). A context in TEARDOWN keeps its watches until its
fences are abandoned (R500). -/
def Gk1.watchHolds (s : Gk1) (c gen n check : Nat) : Bool :=
  decide (c ≠ 0) && (s.ctx c).state ≠ 0 && decide ((s.ctx c).gen.toNat = gen) && s.fenceKind c n = 1
    && (s.entryState c true n = 1 || s.entryState c true n = 2) && (s.fenceWord c n 2).testBit 18
    && decide (s.fenceWord c n 3 = check)

/-- The owner accepts a watch: the context is LIVE (R493). -/
def Gk1.watchGood (s : Gk1) (c gen n check : Nat) : Bool := (s.ctx c).state = 1 && s.watchHolds c gen n check

/-- An owner sends the current value of a watched fence; reporting it abandoned ends the watch (R493, R494, R534). -/
def Gk1.sendValue (s : Gk1) (id : Nat) (w : OwnerWatch) (tag : Nat) : Gk1 :=
  let good := s.watchHolds w.ctx w.gen w.fence w.check.toNat
  let now := s.fenceNow (.local_ w.ctx w.fence)
  let dead := !good || now.2
  let w' : OwnerWatch := { w with wseq := (w.wseq + 1) % 2 ^ 32, lastSent := s.dtime, dirty := false }
  let p := s.watchPacket 9 w.part tag (watchPayload (handleLo s.self w.ctx w.gen w.fence) w.check.toNat
    (if dead then 2 ^ 64 - 1 else now.1) w'.wseq dead)
  let s := s.sendKept p
  { s with ownerWatches := if dead then NMap.erase s.ownerWatches id else NMap.set s.ownerWatches id w' }

/-- An owner sends a WATCH_VALUE after a change, at most one a microsecond (R493, R534). -/
def execWatchUpdate (watch : Nat) (s : State) : Answer := s.act fun s =>
  match NMap.get? s.ownerWatches watch with
  | some w => if w.dirty && decide (w.lastSent + 1000 ≤ s.dtime) then .next (s.sendValue watch w 0) else .next s
  | none => .next s

/-- An owner resends the current value every 1 ms (R534). -/
def execWatchRefresh (watch : Nat) (s : State) : Answer := s.act fun s =>
  match NMap.get? s.ownerWatches watch with
  | some w => if w.lastSent + 1000000 ≤ s.dtime then .next (s.sendValue watch w 0) else .next s
  | none => .next s

/-- Send the WATCH_REQ of a watch; its TAG is the watch's number (R493). Without a usable port, or to an unreachable part, it is
sent again as after NO_ROUTE (R538). -/
def Gk1.requestWatch (s : Gk1) (id : Nat) (w : ImportWatch) : Gk1 :=
  let r := s.sendPacket (s.watchPacket 8 (fld w.lo.toNat 0 32) (id % 2 ^ 32) (watchPayload w.lo.toNat w.check.toNat 0 0 false))
  { r.1 with importWatches := NMap.set r.1.importWatches id { w with
      retryAt := none, asked := some (w.asked.getD s.dtime)
      noRouteAt := if r.2 && !s.unreachable.contains (fld w.lo.toNat 0 32) then none else some s.dtime } }

/-- A watch's request is due again: 1 ms after RETRY, FAB_CTL.RETRY after NO_ROUTE (R535, R538). -/
def Gk1.watchDue (s : Gk1) (w : ImportWatch) : Bool :=
  (match w.retryAt with
    | some t => decide (t + 1000000 ≤ s.dtime)
    | none => false)
  || (match w.noRouteAt with
    | some t => s.retryDue t
    | none => false)

/-- A watcher that was answered RETRY resends its request every 1 ms, one without a route every FAB_CTL.RETRY (R535, R538). -/
def execWatchReqResend (watch : Nat) (s : State) : Answer := s.act fun s =>
  match NMap.get? s.importWatches watch with
  | some w => .next (if s.watchDue w then s.requestWatch watch w else s)
  | none => .next s

/-- The fence that a pending FENCE_WAIT of a queue waits for. -/
def Gk1.waitRef (s : Gk1) (q : Nat) : Option FenceRef :=
  match (s.queue q).cur with
  | some c => if c.desc.type = 4 then s.fenceRef (s.qctx q) (fld (c.desc.w 0) 32 24) else none
  | none => none

/-- A pending wait needs the watch of a handle. -/
def Gk1.watchNeeded (s : Gk1) (lo check : Nat) : Bool :=
  s.queues.any fun e => s.waitRef e.1 = some (.import_ lo check)

/-- End the watches that no pending wait needs, by a WATCH_END unless the owner has ended them (R494, R535). -/
def Gk1.pruneWatches (s : Gk1) : Gk1 :=
  (s.importWatches.filter fun w => !s.watchNeeded w.2.lo.toNat w.2.check.toNat).foldl (fun s w =>
    let s := { s with importWatches := NMap.erase s.importWatches w.1 }
    if w.2.abandoned then s else
    s.sendKept (s.watchPacket 0xA (fld w.2.lo.toNat 0 32) 0 (watchPayload w.2.lo.toNat w.2.check.toNat 0 0 false))) s

/-- A FENCE_WAIT starts and waits; for a fence of a peer that the part does not watch, it asks for a watch (R445, R487,
R493). -/
def Gk1.startWait (s : Gk1) (q : Nat) (d : Desc) : Gk1 :=
  match s.fenceRef (s.qctx q) (fld (d.w 0) 32 24) with
  | none => s.finishWith q d 1
  | some r =>
    if s.descBad q d [span 32 24, span 0 64] then s.finishWith q d 1 else
    match r with
    | .import_ lo check =>
      if (s.watchOf lo check).isSome then s else
      { s with nextId := s.nextId + 1 }.requestWatch s.nextId { lo := BitVec.ofNat 64 lo, check := BitVec.ofNat 64 check }
    | .local_ _ _ => s
    | .gone => s

/-- A FENCE_WAIT descriptor starts (R445). -/
def execFenceWait (queue : Nat) (s : State) : Answer := s.act fun s =>
  onStart queue (fun d => d.type = 4) (fun d s => s.startWait queue d) s

/-- A pending FENCE_WAIT completes: its fence has reached VALUE, or is abandoned (R445, R490, R494). -/
def execFenceWaitSatisfied (queue : Nat) (s : State) : Answer := s.act fun s =>
  if queueCount ≤ queue then .fault .noSuchUnit else
  match (s.queue queue).cur, s.waitRef queue with
  | some c, some r =>
    let now := s.fenceNow r
    if now.2 then .next (s.finish queue c.desc { status := 4, data := now.1 }).pruneWatches
    else if c.desc.w 1 ≤ now.1 then .next (s.finish queue c.desc { data := now.1 }).pruneWatches
    else .next s
  | _, _ => .next s

/-- A FENCE_SIGNAL may start: with WAITDEF, once the deferred kernels submitted before it have completed (R445). -/
def Gk1.mySignal (s : Gk1) (q : Nat) (d : Desc) : Bool :=
  d.type = 5 && !((d.w 0).testBit 56 && s.deferredBefore q d.seq)

/-- What a FENCE_SIGNAL does as it starts (R445, R487, R488). -/
def Gk1.startSignal (s : Gk1) (q : Nat) (d : Desc) : Gk1 :=
  let n := fld (d.w 0) 32 24
  let bad := s.descBad q d [span 32 25, span 0 64] || decide (d.w 1 = 2 ^ 64 - 1) || (match s.fenceRef (s.qctx q) n with
    | none => true
    | some (.import_ _ _) => true
    | some (.local_ _ _) => false
    | some .gone => false)
  if bad then s.finishWith q d 1 else (s.signalFence (s.qctx q) n (d.w 1) q).finishWith q d 0

/-- A FENCE_SIGNAL raises its fence to VALUE (R445, R488). -/
def execFenceSignal (queue : Nat) (s : State) : Answer := s.act fun s =>
  onStart queue (fun d => s.mySignal queue d) (fun d s => s.startSignal queue d) s

/-! ## COPY (R444) -/

/-- SRCH and DSTH. -/
def Desc.srcHost (d : Desc) : Bool := (d.w 0).testBit 32
/-- DSTH. -/
def Desc.dstHost (d : Desc) : Bool := (d.w 0).testBit 33
/-- LEN of a COPY. -/
def Desc.copyLen (d : Desc) : Nat := fld (d.w 3) 0 40

/-- A COPY breaks a field rule: both sides in host memory, or a device address of more than 52 bits. -/
def Desc.copyBad (d : Desc) : Bool :=
  (d.srcHost && d.dstHost) || (!d.srcHost && decide (2 ^ 52 ≤ d.w 1)) || (!d.dstHost && decide (2 ^ 52 ≤ d.w 2))

/-- The HOST leaves below a table: host bus address and bytes of each (R462, R464). -/
def Gk1.hostLeaves (s : Gk1) (c : Nat) : List (Nat × Nat) → Nat → Nat → List (Nat × Nat)
  | [], _, _ => []
  | (sh, len) :: rest, frame, base =>
    (List.range (2 ^ len)).flatMap fun i =>
      match s.frameWord frame (base + 8 * i) with
      | .error _ => []
      | .ok e =>
        if !e.testBit 0 then []
        else if e.testBit 1 then (if e.testBit 3 && decide (rest.length < 2) then [(fld e sh (64 - sh) * 2 ^ sh, 2 ^ sh)] else [])
        else if s.tableFrame c (fld e 32 32) then s.hostLeaves c rest (fld e 32 32) (fld e 16 13 * 256)
        else []

/-- A range of host bus addresses lies in HOST leaves of a context (R475); context 0 has none (R458). -/
def Gk1.inHostLeaf (s : Gk1) (c a n : Nat) : Bool :=
  let ls := if c = 0 then [] else s.hostLeaves c levels (s.ctx c).cbFrame.toNat 0
  (List.range ((a + max n 1 - 1) / 65536 + 1 - a / 65536)).all fun i =>
    let p := (a / 65536 + i) * 65536
    ls.any fun l => decide (l.1 ≤ p) && decide (p < l.1 + l.2)

/-- The status with which a COPY is refused as it starts, 0 for none (R444, R475). -/
def Gk1.copyRefusal (s : Gk1) (q : Nat) (d : Desc) : Nat :=
  if s.descBad q d [span 32 2, span 0 64, span 0 64, span 0 40] || d.copyBad then 1
  else if s.qEnforced q && ((d.srcHost && !s.inHostLeaf (s.qctx q) (d.w 1) d.copyLen)
      || (d.dstHost && !s.inHostLeaf (s.qctx q) (d.w 2) d.copyLen)) then 2
  else 0

/-- A COPY starts; with LEN 0 it completes at once (R444). -/
def execCopyStart (queue : Nat) (s : State) : Answer := s.act fun s =>
  onStart queue (fun d => d.type = 2) (fun d s =>
    let e := s.copyRefusal queue d
    if e ≠ 0 || d.copyLen = 0 then s.finishWith queue d e else s) s

/-- The context whose table frame a frame is: the frames of LIVE and TEARDOWN contexts (R459). -/
def Gk1.tableOwner (s : Gk1) (frame : Nat) : Option Nat :=
  (s.ctxs.find? fun e => decide (e.1 ≠ 0) && (e.2.state = 1 || e.2.state = 2) && s.tableFrame e.1 frame).map Prod.fst

/-- A table write of one word at an offset of a table frame: words that the context block table assigns to the GK1 are
dropped, HCOUNT words and F2 act (R457, R460, R480, R485). -/
def Gk1.tableWrite (s : Gk1) (c frame ofs v : Nat) : Gk1 :=
  if frame ≠ (s.ctx c).cbFrame.toNat || decide (ofs < 0x10000) || decide (0x120000 ≤ ofs) then s.putFrameWord c frame ofs v
  else if ofs < 0x20000 then
    (if ofs % 16 = 0 then ((s.putFrameWord c frame ofs v).writeCount c false ((ofs - 0x10000) / 16) (fld v 0 16 = 0)).1 else s)
  else
    let n := (ofs - 0x20000) / 64
    match ofs % 64 / 8 with
    | 0 => s
    | 1 => s
    | 2 => s.writeF2 c n v
    | 3 => s
    | _ => s.putFrameWord c frame ofs v

/-- The words that a piece of bytes inside a frame touches, merged with what stands there (log 27). -/
def Gk1.tableWords (s : Gk1) (c frame ofs : Nat) (bs : List Byte) : Gk1 :=
  (List.range ((ofs + bs.length - 1) / 8 + 1 - ofs / 8)).foldl (fun s i =>
    let w := ofs / 8 * 8 + 8 * i
    let old := match s.frameWord frame w with
      | .ok v => v
      | .error _ => 0
    let new := leNat ((List.range 8).map fun k =>
      if w + k < ofs then BitVec.ofNat 8 (old / 256 ^ k) else (bs[w + k - ofs]?).getD (BitVec.ofNat 8 (old / 256 ^ k)))
    s.tableWrite c frame w new) s

/-- Read pieces of device memory in ascending order up to the first fault. -/
def Gk1.readUpTo (s : Gk1) (c : Nat) (enforced : Bool) : List (Nat × Nat) → List Byte × Option (Nat × Nat)
  | [] => ([], none)
  | (a, k) :: rest =>
    match s.readVA c enforced a k with
    | .error e => ([], some (e, a))
    | .ok bs => let r := s.readUpTo c enforced rest; (bs ++ r.1, r.2)

/-- The fault of a table write at its home: the frame's placement, its stack, or a BAD sector that the piece writes only in part
(R385, R404, R720). -/
def Gk1.tableFault (s : Gk1) (frame ofs n : Nat) : Option Nat := match s.locate frame ofs with
  | .error e => some e
  | .ok (gid, _) =>
    if (s.region (gStack gid)).stackLost then some 0x42
    else match s.peek gid (ofs % 256) 1 with
      | .error e => if n = 32 then none else some e
      | .ok _ => none

/-- A piece of a table write: a BAD sector that it writes whole is good again, and holds zero where the words are the GK1's (R404,
R459, R460). -/
def Gk1.tablePiece (s : Gk1) (c frame ofs : Nat) (bs : List Byte) : Gk1 :=
  let s := match s.locate frame ofs with
    | .ok (gid, stream) => match s.peek gid (ofs % 256) 1 with
      | .error _ => match s.poke gid (ofs % 256) (List.replicate 32 0) c stream with
        | .ok s => s
        | .error _ => s
      | .ok _ => s
    | .error _ => s
  s.tableWords c frame ofs bs

/-- Write pieces of device memory in ascending order up to the first fault, counting bytes; a copy of queue 0 into a table
frame is a table write (R444, R458, R459). -/
def Gk1.writeUpTo (s : Gk1) (q : Nat) : List (Nat × Nat) → List Byte → Nat → Gk1 × Nat × Option (Nat × Nat)
  | [], _, n => (s, n, none)
  | (a, k) :: rest, bs, n =>
    match if q = 0 && decide (a < 2 ^ 50) then s.tableOwner (a >>> 21) else none with
    | some c => match s.tableFault (a >>> 21) (a % 2 ^ 21) k with
      | some e => (s, n, some (e, a))
      | none => (s.tablePiece c (a >>> 21) (a % 2 ^ 21) (bs.take k)).writeUpTo q rest (bs.drop k) (n + k)
    | none =>
      match s.writeVA (s.qctx q) (s.qEnforced q) a (bs.take k) with
      | .error e => (s, n, some (e, a))
      | .ok s => s.writeUpTo q rest (bs.drop k) (n + k)

/-- Pieces of at most 512 bytes of a host write. -/
def hostPieces : Nat → Nat → List Byte → List (Nat × List Byte)
  | 0, _, _ => []
  | fuel + 1, a, bs => if bs.isEmpty then [] else (a, bs.take 512) :: hostPieces fuel (a + 512) (bs.drop 512)

/-- Bytes where source and destination overlap: nothing is guaranteed of them (R444). -/
def Gk1.overlap (s : Gk1) (d : Desc) (bs : List Byte) : Gk1 × List Byte :=
  if d.srcHost || d.dstHost || decide (d.w 1 + d.copyLen ≤ d.w 2) || decide (d.w 2 + d.copyLen ≤ d.w 1) then (s, bs) else
  ({ s with free := s.free + bs.length }, (List.range bs.length).zip bs |>.map fun e =>
    let a := d.w 2 + e.1
    if d.w 1 ≤ a && decide (a < d.w 1 + d.copyLen) then Config.freeByte (s.free + e.1) else e.2)

/-- Finish a COPY that has moved n bytes, with the first fault and its address (R444, R694, R696). -/
def Gk1.endCopy (s : Gk1) (q : Nat) (d : Desc) (n : Nat) (f : Option (Nat × Nat)) : Gk1 :=
  match f with
  | none => s.finish q d { data := n }
  | some (e, a) => (s.bulkFault q e a).finish q d { status := e, data := n }

/-- A piece of device memory that a COPY writes is a host page. -/
def Gk1.onHostPage (s : Gk1) (q a : Nat) : Bool := match s.translate (s.qctx q) true (s.qEnforced q) a with
  | .ok (.host _) => true
  | .ok (.dev _ _) => false
  | .error _ => false

/-- A COPY finishes, or ends at its first fault: `data` are the bytes that host memory gave, `hostOk` whether the reads all
succeeded (R417, R444, R459, R580). A copy onto a block that a snapshot has yet to read waits, and so does one that writes host
memory while the link does not take its writes (R320, R345). -/
def execCopyComplete (queue : Nat) (data : List Byte) (hostOk : Bool) (s : State) : Answer := s.act fun s =>
  if queueCount ≤ queue then .fault .noSuchUnit else
  match (s.queue queue).cur with
  | none => .next s
  | some c =>
    let d := c.desc
    if d.type ≠ 2 || (d.srcHost && (!s.linkOpen || (if hostOk then data.length ≠ d.copyLen else decide (d.copyLen ≤ data.length))))
    then .next s else
    let ctx := s.qctx queue
    if !(s.linkOpen && s.postHeld.isEmpty)
        && (d.dstHost || (sectors (d.w 2) d.copyLen).any fun p => s.onHostPage queue p.1) then .next s else
    let r := if d.srcHost then (data, if hostOk then none else some (0x44, d.w 1 + data.length))
      else s.readUpTo ctx (s.qEnforced queue) (sectors (d.w 1) d.copyLen)
    let done := fun (t : Gk1) => if d.srcHost then t else t.hasRead ctx (d.w 1) r.1.length
    let s := { s with free := s.free + 1 }
    let o := s.overlap d r.1
    let s := o.1
    let bs := o.2
    if d.dstHost then
      .next ((done ((hostPieces (bs.length + 1) (d.w 2) bs).foldl (fun s p => s.post p.1 p.2) s)).endCopy queue d bs.length r.2)
    else
      let pieces := sectors (d.w 2) bs.length
      match pieces.findSome? fun p => s.snapOf ctx p.1 with
      | some (i, b) => .next (s.wantBlock i b)
      | none =>
        let w := s.writeUpTo queue pieces bs 0
        .next (((done w.1).hasWritten ctx (d.w 2) w.2.1).endCopy queue d w.2.1 (w.2.2.orElse fun _ => r.2))

end Sys2Proof.Machine
end

