-- ==== Sys2Proof/Machine/QueueCmd.lean ====
section
/-! DEFINITION. The queue commands ENABLE, STOP and ABORT, what teardown does to a queue (R426, R472-R474), and the frame
of MGMT descriptors (R446, R447). -/

namespace Sys2Proof.Machine

/-- The context of a queue is LIVE. -/
def Gk1.ctxLive (s : Gk1) (c : Nat) : Bool := c = 0 || (s.ctx c).state = 1

/-- ENABLE of a DISABLED queue: its rings start from index 0 and the doorbell word is read once (R426, R472). What is left
of its former life is dropped. -/
def Gk1.enable (s : Gk1) (q : Nat) : Gk1 :=
  s.modQueue q fun Q => { Q with
    state := 1, sqHead := 0, cqTail := 0, cqPh := true, sqTail := 0, cqHead := 0, fetchedN := Q.submitted, fetched := []
    cur := none, recs := [] }

/-- QE_Q_CMD ENABLE (R426, R472, R658); that of queue 0 lets the reports of OUT regions be written
(R674). -/
def doQueueEnable (queue : Nat) (word : Option (BitVec 64)) (s : Gk1) : Out :=
  if queueCount ≤ queue then .fault .noSuchUnit else
  if !s.queuesRun || (s.queue queue).state ≠ 0 then .next s
  else if !s.ctxLive (s.qctx queue) then .next (s.setErr hlErr 1)
  else
    let s := (s.enable queue).doorbell queue word
    .next (if queue = 0 then { s.held.outReports.foldl (fun s r => s.report { kind := 4, unit := r }) s with
      held := { s.held with outReports := [] } } else s)

/-- The row QUEUE_ENABLE: doQueueEnable on the part. -/
def execQueueEnable (queue : Nat) (word : Option (BitVec 64)) (s : State) : Answer := s.act fun s => doQueueEnable queue word s

/-- Complete descriptors with CANCELLED, in order. -/
def Gk1.cancelAll (s : Gk1) (q : Nat) (ds : List Desc) : Gk1 := ds.foldl (fun s d => s.finishWith q d 5) s

/-- QE_Q_CMD STOP: fetch stops, what has started runs on, and the other fetched descriptors complete CANCELLED (R472). -/
def doQueueStop (queue : Nat) (s : Gk1) : Out :=
  if queueCount ≤ queue then .fault .noSuchUnit else
  if !s.queuesRun || (s.queue queue).state ≠ 1 then .next s else
  let ds := (s.queue queue).fetched
  .next (((s.modQueue queue fun Q => { Q with state := 2, fetched := [] }).cancelAll queue ds).settle queue)

/-- The row QUEUE_STOP: doQueueStop on the part. -/
def execQueueStop (queue : Nat) (s : State) : Answer := s.act fun s => doQueueStop queue s

/-- A kernel has begun to run: it has launched, or handed out grains. -/
def Kernel.running (K : Kernel) : Bool := K.phase ≠ 0

/-- Stop the kernels of a queue (R443, R474); one that has not begun to run completes at once. -/
def Gk1.stopKernels (s : Gk1) (q : Nat) : Gk1 :=
  (s.kernels.filter fun e => e.2.queue = q && !e.2.stopped).foldl (fun s e =>
    if e.2.running then s.stopKernel e.1 5 true else s.failKernel e.1 5) s

/-- Management work that queue 0 holds ends with it (R471, R728, R731). -/
def Gk1.dropHeld (s : Gk1) : Gk1 :=
  { s with
    held := { s.held with maintEntering := false, releasing := [], margin := none }
    regions := NMap.mapVals s.regions fun (_ : Nat) (r : Region) => { r with margining := false } }

/-- Stop a queue as ABORT does (R472, R474), or without records as a teardown does. -/
def Gk1.closeQueue (s : Gk1) (q : Nat) (silent : Bool) : Gk1 :=
  let Q := s.queue q
  let cur := (Q.cur.map fun c => c.desc).toList
  let margin := if q = 0 then s.held.margin.toList else []
  let s := s.modQueue q fun Q => { Q with state := 0, recomp := none, plan := if silent then none else Q.plan }
  let s := if silent then { s with kernels := NMap.mapVals s.kernels fun (_ : Nat) (K : Kernel) =>
      if K.queue = q then { K with desc := { K.desc with replayed := true } } else K } else s
  let owns := fun (d : Desc) => s.kernels.any fun e => e.2.queue = q && !e.2.desc.replayed && decide (e.2.desc.seq = d.seq)
  let rest := (cur.filter fun d => !owns d) ++ margin ++ Q.fetched
  let s := s.stopKernels q
  let s := s.modQueue q fun Q => { Q with cur := none, fetched := [], deferred := [] }
  let s := if silent then s else s.cancelAll q rest
  let s := if silent then s.modQueue q fun Q => { Q with recs := [] } else s
  (if q = 0 then s.dropHeld else s).pruneWatches

/-- QE_Q_CMD ABORT (R472, R474). -/
def doQueueAbort (queue : Nat) (s : Gk1) : Out :=
  if queueCount ≤ queue then .fault .noSuchUnit else
  if !s.queuesRun || (s.queue queue).state = 0 then .next s else .next (s.closeQueue queue false)

/-- The row QUEUE_ABORT: doQueueAbort on the part. -/
def execQueueAbort (queue : Nat) (s : State) : Answer := s.act fun s => doQueueAbort queue s

/-! ## MGMT -/

/-- Complete a MGMT descriptor with its result, posted to RESULTVA in writes of at most 512 bytes before the record (R446,
R447, R449, R451). -/
def Gk1.finishMgmt (s : Gk1) (d : Desc) (result : List Byte) : Gk1 :=
  let s := (hostPieces (result.length + 1) (d.w 1) result).foldl (fun s p => s.post p.1 p.2) s
  s.finish 0 d { data := result.length }

/-- Refuse a MGMT descriptor with a status. -/
def Gk1.refuseMgmt (s : Gk1) (d : Desc) (status : Nat) : Gk1 := s.finishWith 0 d status

/-- Start the next descriptor of queue 0 if it is a MGMT of a subtype. A reserved PHASE completes with DESC_INVALID
(R437). -/
def onMgmt (sub : Nat) (run : Desc → Gk1 → Gk1) (s : Gk1) : Out :=
  onStart 0 (fun d => d.type = 0x10 && d.sub = sub) (fun d s =>
    if d.phase = 6 then s.refuseMgmt d 1 else run d s) s

/-- As onMgmt, for a subtype with a result of a known length: one that does not fit RESULTLEN completes with DESC_INVALID and
does nothing (R447). -/
def onMgmtResult (sub : Nat) (len : Desc → Nat) (run : Desc → Gk1 → Gk1) (s : Gk1) : Out :=
  onMgmt sub (fun d s => if d.w 2 < len d then s.refuseMgmt d 1 else run d s) s

/-- The held MGMT descriptor of a subtype, with the time it started. -/
def Gk1.heldMgmt (s : Gk1) (sub : Nat) : Option Cur :=
  (s.queue 0).cur.filter fun c => c.desc.type = 0x10 && c.desc.sub = sub

end Sys2Proof.Machine
end

