-- ==== Sys2Proof/Machine/Context.lean ====
section
/-! DEFINITION. Contexts: creation and teardown (R466-R468, R500, R501), the assignment and release of regions (R469-R471,
R611), and the queue-engine reset (R418). -/

namespace Sys2Proof.Machine

/-- The bits of a mask of regions. -/
def regionMask (w : Nat) : List Nat := bitsOf 64 w

/-- Set a flag of the open ledger record (R631). -/
def Gk1.ledgerFlag (s : Gk1) (bit : Nat) : Gk1 :=
  { s with ledger := { s.ledger with period := { s.ledger.period with flags := s.ledger.period.flags ||| BitVec.ofNat 32 (2 ^ bit) } } }

/-! ## Held draw (R603, R611) -/

/-- Logical clusters of a region. -/
def clustersOf (r : Nat) : List Nat := (List.range 4000).map (4000 * r + ·)

/-- Held clusters of a region. -/
def Gk1.heldIn (s : Gk1) (r : Nat) : List Nat :=
  (s.clusters.filter fun e => regionOf e.1 = r && e.2.held).map Prod.fst

/-- Parked clusters of the owned regions outside a list, in ascending logical number (log 28). -/
def Gk1.parkedElsewhere (s : Gk1) (rs : List Nat) : List Nat :=
  ((List.range 64).filter fun r => !rs.contains r && (s.region r).owner.isSome && (s.region r).service = 0).flatMap fun r =>
    (clustersOf r).filter fun c => !(s.cluster c).held

/-- Held draw ends at once, with no cluster to take it over (R611). -/
def Gk1.unheld (s : Gk1) : Gk1 :=
  { s with power := { s.power with excused := some s.dtime } }.ledgerFlag 8

/-- Before regions become unowned, as many parked clusters of other owned regions as they have held clusters are made held, through
the departure slots of their regions; a remainder that finds none is dropped. The second part says that all of them are held: the
regions may become unowned (R611). -/
def Gk1.handOver (s : Gk1) (key : Nat) (rs : List Nat) : Gk1 × Bool :=
  match NMap.get? s.power.handing key with
  | some l => (s, l.isEmpty)
  | none =>
    let n := (rs.flatMap s.heldIn).length
    let more := if n = 0 then [] else (s.parkedElsewhere rs).take n
    let s := if more.length < n then s.unheld else s
    ({ s with power := { s.power with handing := NMap.set s.power.handing key more } }, more.isEmpty)

/-- A hand-over is over. -/
def Gk1.handed (s : Gk1) (key : Nat) : Gk1 := { s with power := { s.power with handing := NMap.erase s.power.handing key } }

/-- The held draw of a region ends at once, without a hand-over (R611, R714). -/
def Gk1.dropHeldDraw (s : Gk1) (cs : List Nat) : Gk1 :=
  let l := cs.filter fun c => (s.cluster c).held
  let s := l.foldl (fun s c => s.modCluster c fun c => { c with held := false }) s
  if l.isEmpty then s else s.unheld

/-- Regions become unowned: their held draw ends, and their clusters go off, which loses their WGS groups (R44, R471, R500). -/
def Gk1.unown (s : Gk1) (rs : List Nat) : Gk1 :=
  let s := (rs.flatMap s.heldIn).foldl (fun s c => s.modCluster c fun c => { c with held := false }) s
  rs.foldl (fun s r => (s.wipeRegion r).modRegion r fun R => { R with owner := none, needsClear := true }) s

/-! ## Region assignment -/

/-- The named context. -/
def Desc.raCtx (d : Desc) : Nat := fld (d.w 4) 0 6
/-- RELEASE. -/
def Desc.raRelease (d : Desc) : Bool := (d.w 4).testBit 6

/-- A REGION_ASSIGN is refused: a region is not the context's to take or to give, is in reset or OUT, or the context is not
LIVE (R469, R470, R717). -/
def Gk1.assignRefused (s : Gk1) (d : Desc) : Bool :=
  !s.ctxLive d.raCtx || (regionMask (d.w 3)).any fun r =>
    (s.region r).service ≠ 0 || (match (s.region r).owner with
      | some o => decide (o ≠ d.raCtx)
      | none => d.raRelease)

/-- Start a REGION_ASSIGN with RELEASE as given. -/
def onAssign (rel : Bool) (run : Desc → Gk1 → Gk1) (s : Gk1) : Out :=
  onStart 0 (fun d => d.type = 0x10 && d.sub = 0xE && d.raRelease = rel) (fun d s =>
    if d.phase = 6 then s.refuseMgmt d 1 else if s.assignRefused d then s.refuseMgmt d 6 else run d s) s

/-- A region goes to a context; a new owner's first kernel finds it cleared (R26, R27, R469). -/
def Gk1.giveRegion (s : Gk1) (c r : Nat) : Gk1 :=
  s.modRegion r fun R => if R.owner = some c then R else { R with owner := some c, needsClear := true }

/-- REGION_ASSIGN: the named regions go to the context (R469, R470). -/
def execRegionAssign (s : State) : Answer := s.act fun s =>
  onAssign false (fun d s => ((regionMask (d.w 3)).foldl (fun s r => s.giveRegion d.raCtx r) s).finishMgmt d []) s

/-- REGION_ASSIGN with RELEASE starts and is held; no kernel of the owner launches in the regions meanwhile (R471). -/
def execRegionRelease (s : State) : Answer := s.act fun s =>
  onAssign true (fun d s => { s with held := { s.held with releasing := regionMask (d.w 3) } }) s

/-- The held release. -/
def Gk1.heldRelease (s : Gk1) : Option Cur := (s.heldMgmt 0xE).filter fun c => c.desc.raRelease

/-- The held release takes effect once no kernel or grain has clusters admitted in the regions, and clusters elsewhere have taken over
the held draw (R471, R611). -/
def execRegionReleaseEffect (s : State) : Answer := s.act fun s =>
  match s.heldRelease with
  | none => .next s
  | some c =>
    let rs := regionMask (c.desc.w 3)
    if s.clusters.any fun e => rs.contains (regionOf e.1) && !e.2.free then .next s
    else
      let h := s.handOver 64 rs
      if !h.2 then .next h.1
      else .next (({ h.1.handed 64 with held := { s.held with releasing := [] } } : Gk1).unown rs |>.finishMgmt c.desc [])

/-- A release still held after 10 ms completes MGMT_TIMEOUT and changes nothing (R471). -/
def execRegionReleaseTimeout (s : State) : Answer := s.act fun s =>
  match s.heldRelease with
  | none => .next s
  | some c =>
    if s.dtime < c.at_ + 10000000 then .next s
    else .next (({ s.handed 64 with held := { s.held with releasing := [] } } : Gk1).refuseMgmt c.desc 7)

/-! ## Creation -/

/-- A CTX_CREATE breaks a field rule (R467, R468). -/
def Desc.createBad (d : Desc) : Bool :=
  fld (d.w 3) 0 6 = 0 || (fld (d.w 5) 0 52 = 0 && fld (d.w 6) 0 17 ≠ 0) || fld (d.w 4) 29 3 ≠ 0
    || fld (d.w 5) 0 16 ≠ 0 || decide (65536 < fld (d.w 6) 0 17) || decide (fld (d.w 7) 0 4 < 4)

/-- CTX_CREATE: a FREE context becomes LIVE with the next generation, which is the result (R466-R468, R484, R743). -/
def execCtxCreate (s : State) : Answer := s.act fun s =>
  onMgmtResult 0xC (fun _ => 8) (fun d s =>
    let c := fld (d.w 3) 0 6
    if d.createBad then s.refuseMgmt d 1
    else if (s.ctx c).state ≠ 0 then s.refuseMgmt d 6
    else
      let gen := (s.ctx c).gen + 1
      let C : Ctx := {
        state := 1, gen := gen, cbFrame := BitVec.ofNat 32 (d.w 4), heapVA := fld (d.w 5) 0 52, heapCh := fld (d.w 6) 0 17
        rlog := fld (d.w 7) 0 4, rlAddr := fld (d.w 7) 12 52 * 4096 }
      ({ s with ctxs := NMap.set s.ctxs c C }).finishMgmt d (leBytes 8 gen.toNat)) s

/-! ## Teardown -/

/-- Queues of a context that are not DISABLED, or hold anything. -/
def Gk1.allQueuesOf (s : Gk1) (c : Nat) : List Nat := (s.queues.filter fun e => s.qctx e.1 = c).map Prod.fst

/-- A message of an engine of the part itself, for a context. -/
def Msg.ofEngine (m : Msg) (c : Nat) : Bool := m.ctx = c && m.pkt.isNone && (m.core = coreCount || m.out.isSome)

/-- A snapshot copier's write to a peer that is on its way and awaits its acknowledgement (R500 step 2). -/
def Msg.copying (m : Msg) (c : Nat) : Bool :=
  m.ofEngine c && m.out.isNone && !m.unsent && m.returned.isNone && m.noRoute.isNone

/-- A context goes to TEARDOWN: its queues are stopped without records, its jobs are removed and its snapshots end
(R466, R500 step 1, R555). -/
def Gk1.beginTeardown (s : Gk1) (c : Nat) : Gk1 :=
  let s := (s.allQueuesOf c).foldl (fun s q => s.closeQueue q true) s
  let s := (s.kernels.filter fun e => e.2.ctx = c && !e.2.stopped).foldl (fun s e => s.stopKernel e.1 5 true) s
  { s.modCtx c fun C => { C with state := 2 } with
    msgs := s.msgs.filter fun e => !e.2.ofEngine c || e.2.copying c
    jobs := s.jobs.filter fun e => e.2.ctx ≠ c
    buckets := s.buckets.filter fun e => e.2.ctx ≠ c
    snaps := s.snaps.filter fun e => e.2.ctx ≠ c }

/-- CTX_DESTROY starts the teardown of a context (R500, R501). -/
def execCtxDestroy (s : State) : Answer := s.act fun s =>
  onMgmt 0xD (fun d s =>
    let c := fld (d.w 3) 0 6
    if c = 0 || (s.ctx c).state ≠ 1 then s.refuseMgmt d 6 else s.beginTeardown c) s

/-- The fences of a context of KIND LOCAL. -/
def Gk1.localFences (s : Gk1) (c : Nat) : List Nat := (List.range 16384).filter fun n => s.fenceKind c n = 1

/-- Objects or fences of a context that are LIVE or RELEASING. -/
def Gk1.liveEntries (s : Gk1) (c : Nat) (isFence : Bool) : List Nat :=
  (List.range (if isFence then 16384 else 4096)).filter fun n =>
    s.entryState c isFence n = 1 || s.entryState c isFence n = 2

/-- Requests of peers that still wait to land in a context that is gone are refused (log 29). -/
def Gk1.refuseWaiting (s : Gk1) (c : Nat) : Gk1 :=
  (s.msgs.filter fun e => e.2.ctx = c && e.2.pkt.isSome).foldl (fun s e => match e.2.pkt with
    | some p => (s.delMsg e.1).ack p 2 0
    | none => s) s

/-- Regions of a context. -/
def Gk1.regionsOf (s : Gk1) (c : Nat) : List Nat := (List.range 64).filter fun r => (s.region r).owner = some c

/-- Steps 3 to 7 of teardown (R490, R494, R500, R611). -/
def Gk1.endTeardown (s : Gk1) (c : Nat) : Gk1 :=
  let s := s.refuseWaiting c
  let s := { s with msgs := s.msgs.filter fun e => !e.2.ofEngine c }
  let s := (s.localFences c).foldl (fun s n => s.abandonFence c n) s
  let s := (s.ownerWatches.filter fun w => w.2.ctx = c).foldl (fun s w => s.sendValue w.1 w.2 0) s
  let s := { s with ownerWatches := s.ownerWatches.filter fun w => w.2.ctx ≠ c }.pruneWatches
  let s := s.modCtx c fun C => { C with blocks := [], chunks := [] }
  let s := s.unown (s.regionsOf c)
  let s := (s.liveEntries c false).foldl (fun s n => s.release c false n) s
  let s := (s.liveEntries c true).foldl (fun s n => s.release c true n) s
  let s := s.setReg (0x402000 + 8 * c) 0 (setFld (s.reg (0x402000 + 8 * c) 0) 49 1 0)
  s.modCtx c fun C => { C with state := 0, releases := [] }

/-- A teardown completes once every write of the context's kernels and copies has landed or been discarded, those to peers
acknowledged, and the held draw of its regions has been taken over; a CTX_DESTROY of it then completes (R500, R611). -/
def execTeardownComplete (context : Nat) (s : State) : Answer := s.act fun s =>
  if 64 ≤ context then .fault .noSuchUnit else
  if (s.ctx context).state ≠ 2 || s.kernels.any (fun e => e.2.ctx = context) || s.msgs.any (fun e => e.2.copying context) then
    .next s
  else
  let h := s.handOver context (s.regionsOf context)
  if !h.2 then .next h.1 else
  let s := (h.1.handed context).endTeardown context
  match s.heldMgmt 0xD with
  | some c => if fld (c.desc.w 3) 0 6 = context then .next (s.finishMgmt c.desc []) else .next s
  | none => .next s

/-! ## The queue-engine reset (R418) -/

/-- Registers of the HL_ and QE_ blocks. -/
def isHlQe (off : Nat) : Bool := decide (off < 0x10000) || (decide (0x100000 ≤ off) && decide (off < 0x140000))

/-- A queue-engine reset (R418). -/
def Gk1.queueEngineReset (s : Gk1) : Gk1 :=
  let s := s.queues.foldl (fun s e => s.closeQueue e.1 true) s
  let live := (s.ctxs.filter fun e => decide (e.1 ≠ 0) && e.2.state = 1).map Prod.fst
  let s := live.foldl (fun s c => s.beginTeardown c) s
  let s := (s.kernels.filter fun e => !e.2.stopped).foldl (fun s e => s.stopKernel e.1 5 true) s
  let rs := s.regionsOf 0
  let s := (s.dropHeldDraw (rs.flatMap s.heldIn)).unown rs
  { s with
    regs := s.regs.filter fun e => !isHlQe e.1
    queues := NMap.mapVals s.queues fun (_ : Nat) (Q : Queue) => { submitted := Q.submitted, fetchedN := Q.submitted }
    edge := { s.edge with ptmReset := true, polledAt := none, rr := 0 } }

/-- The function answers: the part is neither OFF nor in POWER_RAMP. -/
def Gk1.powered (s : Gk1) : Bool := s.part ≠ .off && s.part ≠ .powerRamp

/-- The HL_, SB_, CK_ and SEC_ registers work: from LINK_UP onward (R658). -/
def Gk1.regsWork (s : Gk1) : Bool := s.powered && s.part ≠ .rom

/-- A Function Level Reset (R418). -/
def execFunctionLevelReset (s : State) : Answer := s.act fun s => .next (if s.powered then s.queueEngineReset else s)

/-- A Hot Reset (R418). -/
def execHotReset (s : State) : Answer := s.act fun s => .next (if s.powered then s.queueEngineReset else s)

/-- PERST# as the optical host adapter carries it (R418). -/
def execPerst (s : State) : Answer := s.act fun s => .next (if s.powered then s.queueEngineReset else s)

/-- HL_RESET.QUEUES (R418). -/
def doHlResetQueues (s : Gk1) : Out := .next (if s.regsWork then s.queueEngineReset else s)

/-- The row HL_RESET_QUEUES: doHlResetQueues on the part. -/
def execHlResetQueues (s : State) : Answer := s.act fun s => doHlResetQueues s

end Sys2Proof.Machine
end

