-- ==== Sys2Proof/Machine/Power.lean ====
section
/-! DEFINITION. The line clock (R582-R588), budgets (R589-R597), measurement, estimate and calibration (R598-R602), the
tick that parks clusters (R605-R607), operating points (R613-R616, R640), droop (R617), disturbances (R619-R622) and thermal
limits (R623). The ledger's record is in Ledger.lean. -/

namespace Sys2Proof.Machine

/-- The power controller's rules are in force (R582). -/
def Gk1.powerOn (s : Gk1) : Bool := s.part = .ready || s.part = .maintenance

/-- A time given by a period has come round again. -/
def Gk1.due (s : Gk1) (last : Option Nat) (period : Nat) : Bool := match last with
  | some t => decide (t + period ≤ s.dtime)
  | none => true

/-! ## Budgets -/

/-- The budget of a preset, W (R590). -/
def presetBudget : Nat → Nat
  | 0 => 40000
  | 1 => 34000
  | 2 => 30000
  | 3 => 26000
  | 4 => 22000
  | 5 => 18000
  | 6 => 13000
  | _ => 8000

/-- START. -/
def Entry.start (e : Entry) : Nat := fld e.t0.toNat 0 48
/-- DURATION. -/
def Entry.duration (e : Entry) : Nat := fld e.t1.toNat 0 32
/-- BUDGET. -/
def Entry.budget (e : Entry) : Nat := fld e.t1.toNat 32 16
/-- UP as coded. -/
def Entry.upCode (e : Entry) : Nat := fld e.t2.toNat 0 16
/-- DOWN as coded. -/
def Entry.downCode (e : Entry) : Nat := fld e.t2.toNat 16 16
/-- The up-slope; 0 codes 2,000. -/
def Entry.up (e : Entry) : Nat := if e.upCode = 0 then 2000 else e.upCode
/-- The down-slope; 0 codes 4,000. -/
def Entry.down (e : Entry) : Nat := if e.downCode = 0 then 4000 else e.downCode
/-- MAINT. -/
def Entry.maint (e : Entry) : Bool := e.t3.getLsbD 24
/-- The preferred point of a phase tag. -/
def Entry.point (e : Entry) (tag : Nat) : Nat := fld e.t3.toNat (4 * tag) 4

/-- A number in a range. -/
def inRange (lo hi v : Nat) : Bool := decide (lo ≤ v) && decide (v ≤ hi)

/-- A slope code of R592. -/
def slopeOk (v : Nat) : Bool := v = 0 || inRange 200 20000 v

/-- An entry's fields lie in their ranges and its reserved ones are zero (R592, R593). -/
def Entry.ok (e : Entry) : Bool :=
  decide (1 ≤ e.duration) && inRange 8000 40000 e.budget && slopeOk e.upCode && slopeOk e.downCode
    && within e.t0.toNat (span 0 48) && within e.t1.toNat (span 0 48) && within e.t2.toNat (span 0 32)
    && within e.t3.toNat (span 0 25)

/-- Entries rise and do not overlap (R593). -/
def entriesOk : List Entry → Bool
  | [] => true
  | [e] => e.ok
  | e :: f :: l => e.ok && decide (e.start < f.start) && decide (e.start + e.duration ≤ f.start) && entriesOk (f :: l)

/-- The entry in which a line cycle lies. -/
def Table.entryAt (t : Table) (c : Nat) : Option Nat :=
  ((t.entries.zip (List.range t.entries.length)).find? fun e =>
    decide (e.1.start ≤ c) && decide (c < e.1.start + e.1.duration)).map Prod.snd

/-- The index of the entry in force (R595). -/
def Gk1.entryNow (s : Gk1) : Option Nat :=
  if s.power.timetable && s.line.state = 1 then s.power.table.bind fun t => t.entryAt s.line.cycle else none

/-- The entry in force. -/
def Gk1.theEntry (s : Gk1) : Option Entry := s.entryNow.bind fun i => s.power.table.bind fun t => t.entries[i]?

/-- The preset or scheduled budget, W (R590, R595). -/
def Gk1.schedule (s : Gk1) : Nat :=
  match s.power.timetable, s.power.table, s.theEntry with
  | true, some _, some e => e.budget
  | true, some t, none => if s.line.state = 1 then t.gap else t.hold
  | _, _, _ => presetBudget s.power.preset

/-- The slopes in force, W/ms (R590, R595). -/
def Gk1.slopes (s : Gk1) : Nat × Nat := match s.theEntry with
  | some e => (e.up, e.down)
  | none => (2000, 4000)

/-- A cap of 0 is none. -/
def capped (cap v : Nat) : Nat := if cap = 0 then v else min cap v

/-- The target budget, mW (R597). -/
def Gk1.target (s : Gk1) : Nat :=
  let b := capped s.power.rackCap (capped s.power.coolCap s.schedule)
  1000 * (match s.power.disturb with
    | some d => min d.budget b
    | none => b)

/-- Nanoseconds until the line clock reaches a cycle. -/
def Gk1.until (s : Gk1) (c : Nat) : Nat := ((c - s.line.cycle) * s.line.period * 8 - s.line.frac) / 8000

/-- Scheduled budgets that start ahead: the cycle and W (R595, R597). -/
def Gk1.ahead (s : Gk1) : List (Nat × Nat) :=
  if !(s.power.timetable && s.line.state = 1) then [] else
  match s.power.table with
  | none => []
  | some t =>
    (t.entries.map (fun e => (e.start, e.budget))
      ++ (t.entries.filter fun e => !t.entries.any fun f => f.start = e.start + e.duration).map fun e => (e.start + e.duration, t.gap)).filter
      fun x => decide (s.line.cycle < x.1)

/-- What a scheduled budget ahead lets b be now, mW (R597). -/
def Gk1.aheadLimit (s : Gk1) (b : Nat) : Nat :=
  s.ahead.foldl (fun b x => min b (1000 * x.2 + s.power.down * s.until x.1 / 1000)) b

/-! ## Operating points (R613-R615, R624-R626, R652) -/

/-- The point is full-load: the calibrated draw at a point of every cluster that is held or asks for admission, mW (R615). -/
def Gk1.fullLoad (s : Gk1) (k : Nat) : Nat :=
  Config.staticDraw + (s.clusters.map fun e => if e.2.held || e.2.asking.isSome then s.drawAt (regionOf e.1) k else 0).sum

/-- The first point of 0-14 that a test passes, else 15. -/
def firstPoint (ok : Nat → Bool) : Nat := ((List.range 15).find? ok).getD 15

/-- Recompute Lp (R615). -/
def Gk1.relimit (s : Gk1) : Gk1 :=
  { s with power := { s.power with limit := firstPoint fun k => decide (s.fullLoad k ≤ s.power.eff) } }

/-- The lowest budget that the mode in force can give, W (R624). -/
def Gk1.lowestBudget (s : Gk1) : Nat :=
  match s.power.timetable, s.power.table with
  | true, some t => t.entries.foldl (fun b e => min b e.budget) (min t.hold t.gap)
  | _, _ => presetBudget s.power.preset

/-- PT_EVEN. -/
def Gk1.evenReg (s : Gk1) : Nat := s.reg 0x200030 (15 * 16)
/-- Even running is in force. -/
def Gk1.even (s : Gk1) : Bool := s.evenReg.testBit 0
/-- PT_EVEN.POINT. -/
def Gk1.evenPoint (s : Gk1) : Nat := fld s.evenReg 4 4
/-- CK_RGN_CTL[r].CAP. -/
def Gk1.capOf (s : Gk1) (r : Nat) : Nat := fld (s.reg (0x500100 + 4 * r) 0) 0 4

/-- Even running no longer holds (R626). -/
def Gk1.evenBroken (s : Gk1) : Gk1 := if s.even then s.ledgerFlag 9 else s

/-- Recompute GUARD (R624, R626). -/
def Gk1.reguard (s : Gk1) : Gk1 :=
  let full := fun (k : Nat) => Config.staticDraw + ((List.range 64).map fun r => 4000 * s.drawAt r k).sum
  let g := firstPoint fun k => decide (102 * full k ≤ 100 * (1000 * s.lowestBudget))
  let s := { s with power := { s.power with guard := g } }
  if s.even && decide (s.evenPoint ≤ g) then s.ledgerFlag 9 else s

/-- The phase tags of the work that has admitted clusters in a region (R614). -/
def Gk1.tagsIn (s : Gk1) (r : Nat) : List Nat :=
  (s.kernels.filter fun e => s.clusters.any fun c => regionOf c.1 = r && c.2.admitted = some e.1).map fun e => e.2.desc.tag

/-- The preferred point of a region: the fastest that the entry in force gives for its work, or that of IDLE (R614). -/
def Gk1.preferred (s : Gk1) (r : Nat) : Nat :=
  match s.theEntry with
  | none => 0
  | some e => match (s.tagsIn r).map e.point with
    | [] => e.point 5
    | p :: ps => ps.foldl min p

/-- The point that a region is to run at (R615, R626, R652). -/
def Gk1.pointFor (s : Gk1) (r : Nat) : Nat :=
  if s.even then max (s.capOf r) s.evenPoint else max (s.capOf r) (max (s.preferred r) s.power.limit)

/-! ## The effective budget -/

/-- Bring the entry in force, the slopes and b up to date; b falls by at most `fall` mW (R595, R597). -/
def Gk1.regulate (s : Gk1) (fall : Nat) : Gk1 :=
  let i := s.entryNow
  let s := if i ≠ s.power.entry then
      match i with
      | some n => { s with ledger := { s.ledger with period := { s.ledger.period with
          efirst := s.ledger.period.efirst.orElse fun _ => some n
          elast := some n } } }
      | none => s
    else s
  let s := if (s.theEntry.map Entry.maint).getD false then s.ledgerFlag 11 else s
  let s := { s with power := { s.power with entry := i, up := s.slopes.1, down := s.slopes.2 } }
  let t := s.target
  let b := if s.power.eff ≤ t then t else max t (s.power.eff - fall)
  let b := match s.power.disturb with
    | some d => min b (1000 * d.budget)
    | none => b
  let b := s.aheadLimit b
  if b = s.power.eff then s else
  { s with
    power := { s.power with eff := b }
    ledger := { s.ledger with period := { s.ledger.period with
      bmax := max s.ledger.period.bmax b
      bmin := min s.ledger.period.bmin b } } }.relimit

/-- A mode, table or preset takes effect (R589, R594, R624, R631). -/
def Gk1.budgetChanged (s : Gk1) : Gk1 := ((s.ledgerFlag 13).reguard).regulate 0

/-- CAP_PRESET: PRESET mode, any timetable discarded (R589, R590). -/
def execCapPreset (s : State) : Answer := s.act fun s =>
  onMgmt 2 (fun d s =>
    ({ s with power := { s.power with
        timetable := false, table := none, pendingTable := none, preset := fld (d.w 3) 0 3 } }.budgetChanged).finishMgmt d []) s

/-- A pending table may take effect: the line clock runs from a notice and has reached ACTIVATE, or ACTIVATE is 0 (R594). -/
def Gk1.tableDue (s : Gk1) (t : Table) : Bool := t.activate = 0 || (s.line.state ≠ 0 && decide (t.activate ≤ s.line.cycle))

/-- The pending table takes effect if its time has come (R589, R594). -/
def Gk1.activate (s : Gk1) : Gk1 :=
  match s.power.pendingTable with
  | none => s
  | some t =>
    if !s.tableDue t then s else
    { s with power := { s.power with timetable := true, table := some t, pendingTable := none } }.budgetChanged

/-- The 32 bytes of an entry. -/
def entryOf (bs : List Byte) : Entry :=
  let w := fun (i : Nat) => BitVec.ofNat 64 (leNat ((bs.drop (8 * i)).take 8))
  { t0 := w 0, t1 := w 1, t2 := w 2, t3 := w 3 }

/-- The entries of a table. -/
def entriesOf (n : Nat) (bs : List Byte) : List Entry := (List.range n).map fun i => entryOf (bs.drop (32 * i))

/-- TIMETABLE_LOAD: the entries as host memory gives them, none when the read faults (R417, R591-R594). -/
def execTimetableLoad (table : Option (List Byte)) (s : State) : Answer := s.act fun s =>
  onMgmtResult 1 (fun _ => 64) (fun d s =>
    let n := fld (d.w 4) 0 11
    let gap := fld (d.w 5) 0 16
    let hold := fld (d.w 5) 16 16
    if !(inRange 1 1024 n && inRange 8000 40000 gap && inRange 8000 40000 hold && d.w 3 % 64 = 0) then s.refuseMgmt d 1 else
    match table with
    | none => s.refuseMgmt d 0x44
    | some bs =>
      let es := entriesOf n bs
      if bs.length ≠ 32 * n || !entriesOk es then s.refuseMgmt d 1 else
      let dig := Config.sha3 (leBytes 8 (d.w 5) ++ leBytes 8 (d.w 6) ++ bs)
      let t : Table := { gap := gap, hold := hold, activate := fld (d.w 6) 0 48, entries := es, digest := dig }
      (({ s with power := { s.power with pendingTable := some t } }.reguard).finishMgmt d (leBytes 64 dig.toNat)).activate) s

/-- The line clock reaches ACTIVATE: the pending table takes effect (R594). -/
def execTimetableActivate (s : State) : Answer := s.act fun s => .next s.activate

/-- The line clock passes an entry's START or end: the scheduled budget, slopes and points change (R595). -/
def execTimetableEntryBoundary (s : State) : Answer := s.act fun s => .next (if s.entryNow ≠ s.power.entry then s.regulate 0 else s)

/-- ENV_NOTICE: the caps are replaced, and the coolant state is shown (R596). -/
def execEnvNotice (s : State) : Answer := s.act fun s =>
  onMgmt 5 (fun d s =>
    let rack := fld (d.w 3) 0 16
    let cool := fld (d.w 3) 16 16
    let ok := fun (v : Nat) => v = 0 || inRange 8000 40000 v
    if !(ok rack && ok cool) then s.refuseMgmt d 1 else
    ({ s with power := { s.power with
        rackCap := rack, coolCap := cool, inlet := BitVec.ofNat 16 (fld (d.w 3) 32 16), flow := BitVec.ofNat 16 (fld (d.w 3) 48 16) } }.regulate
      0).finishMgmt d []) s

/-! ## Disturbances -/

/-- KIND of a LINE_DISTURBANCE. -/
def Desc.distKind (d : Desc) : Nat := fld (d.w 3) 0 3

/-- Count an accepted disturbance notice (R629). -/
def Gk1.countDist (s : Gk1) : Gk1 :=
  { s with ledger := { s.ledger with period := { s.ledger.period with ndist := s.ledger.period.ndist + 1 } } }

/-- Units of 1/8 ps in a line cycle. -/
def LineClock.span (l : LineClock) : Nat := 8 * l.period

/-- The line clock has reached the moment at which the response ends (R621). -/
def Disturb.over (D : Disturb) (l : LineClock) : Bool :=
  decide (D.endCycle < l.cycle) || (decide (D.endCycle = l.cycle) && decide (D.endFrac * l.span ≤ l.frac * D.endSpan))

/-- The response's end on a line clock that a first setting moves from l to m: what was left of HOLDCYC is left, for a
setting passes no line cycle (R587, R621). -/
def Disturb.reset (D : Disturb) (l m : LineClock) : Disturb :=
  let w := D.endSpan * l.span * m.span
  let left : Int := ((D.endCycle : Int) - l.cycle) * w + D.endFrac * l.span * m.span - l.frac * D.endSpan * m.span
  let e := (m.cycle * w + m.frac * D.endSpan * l.span + left).toNat
  { D with endCycle := e / w, endFrac := e % w, endSpan := w }

/-- LINE_DISTURBANCE other than CLEAR: a response starts, or replaces the one in progress; it lowers b at once (R597,
R619-R622, R626, R631). -/
def execLineDisturbance (s : State) : Answer := s.act fun s =>
  onStart 0 (fun d => d.type = 0x10 && d.sub = 4 && d.distKind ≠ 7) (fun d s =>
    let b := fld (d.w 3) 16 16
    if d.phase = 6 || decide (3 < d.distKind) || decide (40000 < b) then s.refuseMgmt d 1 else
    let s := { s with power := { s.power with disturb := some {
      budget := b, holdCyc := fld (d.w 4) 0 32, endCycle := s.line.cycle + fld (d.w 4) 0 32
      endFrac := s.line.frac, endSpan := s.line.span, startAt := s.dtime } } }
    let s := ((s.countDist.ledgerFlag 3).evenBroken)
    let s := if 1000 * b < s.power.floor then s.ledgerFlag 12 else s
    (s.regulate 0).finishMgmt d []) s

/-- A response ends: b returns to the target without it (R621). -/
def Gk1.endDisturb (s : Gk1) : Gk1 := { s with power := { s.power with disturb := none } }.regulate 0

/-- CLEAR ends a response in progress (R621). -/
def execDisturbanceClear (s : State) : Answer := s.act fun s =>
  onStart 0 (fun d => d.type = 0x10 && d.sub = 4 && d.distKind = 7) (fun d s =>
    if d.phase = 6 || decide (40000 < fld (d.w 3) 16 16) then s.refuseMgmt d 1
    else (s.countDist.endDisturb).finishMgmt d []) s

/-- HOLDCYC line cycles have passed since the response started (R621). -/
def execDisturbanceEnd (s : State) : Answer := s.act fun s =>
  match s.power.disturb with
  | some d => if d.holdCyc ≠ 0 && d.over s.line then .next s.endDisturb else .next s
  | none => .next s

/-! ## Parking (R605-R607, R756) -/

/-- Put an element into a list before the first one it goes ahead of. -/
def insertBy {α : Type} (before : α → α → Bool) (x : α) : List α → List α
  | [] => [x]
  | y :: l => if before x y then x :: y :: l else y :: insertBy before x l

/-- A list in order. -/
def sortBy {α : Type} (before : α → α → Bool) (l : List α) : List α := l.foldl (fun a x => insertBy before x a) []

/-- Held clusters that have started no K step for 2 us: idle longest first, and then the higher number (R606). -/
def Gk1.candidates (s : Gk1) : List Nat :=
  (sortBy (fun (a b : Nat × Cluster) => decide (a.2.lastWork < b.2.lastWork) || (a.2.lastWork = b.2.lastWork && decide (b.1 < a.1)))
    (s.clusters.filter fun e => e.2.held && decide (e.2.lastWork + 2000 ≤ s.dtime))).map Prod.fst

/-- The place of a phase tag in the parking order: IDLE, WGRAD, OPTIMISE, REDUCE, BACKWARD, FORWARD (R606). -/
def tagOrder (tag : Nat) : Nat := [5, 4, 1, 3, 2, 0].getD tag 0

/-- The place of a cluster's work in the parking order; a cluster without work goes as IDLE. -/
def Gk1.workOrder (s : Gk1) (c : Cluster) : Nat :=
  match c.admitted.bind fun k => NMap.get? s.kernels k with
  | some K => tagOrder K.desc.tag
  | none => 0

/-- The parking order: the candidates, then working clusters by tag, the highest number first (R606). -/
def Gk1.parkingOrder (s : Gk1) : List Nat :=
  s.candidates ++ (sortBy (fun (a b : Nat × Cluster) =>
      decide (s.workOrder a.2 < s.workOrder b.2) || (s.workOrder a.2 = s.workOrder b.2 && decide (b.1 < a.1)))
    (s.clusters.filter fun e => e.2.held && !decide (e.2.lastWork + 2000 ≤ s.dtime))).map Prod.fst

/-- Clusters of a region parked in the present 128 ns (R607). -/
def Gk1.parkedNow (s : Gk1) (r : Nat) : Nat := match NMap.get? s.power.parked r with
  | some p => if p.1 = s.dtime / 128 then p.2 else 0
  | none => 0

/-- Park a cluster: in the present 128 ns if its region's number for it is not used up, else in a later one; while no dispatcher runs
nothing is parked (R607, R700). -/
def Gk1.park (s : Gk1) (cl : Nat) : Gk1 :=
  let r := regionOf cl
  let n := s.parkedNow r
  if !s.dispatcherRuns || decide (s.slotClusters ≤ n) then { s with power := { s.power with parkDue := s.power.parkDue ++ [cl] } } else
  let s := s.modCluster cl fun c => { c with held := false }
  { s with power := { s.power with parked := NMap.set s.power.parked r (s.dtime / 128, n + 1) } }

/-- Park the held ones among some clusters that are not to be parked already (R607). -/
def Gk1.parkAll (s : Gk1) (cs : List Nat) : Gk1 :=
  (cs.filter fun c => (s.cluster c).held && !s.power.parkDue.contains c).foldl (fun s c => s.park c) s

/-- The clusters that wait to be parked are parked as far as the present 128 ns allows (R607). -/
def Gk1.parkMore (s : Gk1) : Gk1 :=
  if s.power.parkDue.isEmpty || !s.dispatcherRuns then s else
  { s with power := { s.power with parkDue := [] } }.parkAll s.power.parkDue

/-- Where a round of parking stands: the state, the estimate, clusters parked by region, and whether it is over. -/
structure Parking where
  s : Gk1
  e : Int
  n : NMap Nat := []
  stop : Bool := false

/-- Clusters of a region that one tick may park: those of the seven whole windows of 128 ns in a microsecond (R607). -/
def Gk1.tickParks (s : Gk1) : Nat := 7 * s.slotClusters

/-- Park a cluster while a test of the estimate holds; one whose region has parked its number waits. -/
def Parking.one (go : Int → Int → Bool) (p : Parking) (cl : Nat) : Parking :=
  let r := regionOf cl
  let pc : Int := p.s.drawOf r
  if p.stop || !(p.s.cluster cl).held || p.s.power.parkDue.contains cl then p
  else if !go p.e pc then { p with stop := true }
  else if p.s.tickParks ≤ NMap.getD p.n r 0 then p
  else { p with
    s := p.s.park cl
    e := p.e - pc
    n := NMap.set p.n r (NMap.getD p.n r 0 + 1) }

/-- The tick of R605: e, the floor, the ceiling and the clusters parked. -/
def Gk1.parkTick (s : Gk1) (fl cl e : Int) : Gk1 × Int :=
  let p := s.candidates.foldl (Parking.one fun e pc => decide (fl ≤ e - pc)) { s := s, e := e }
  let q := p.s.parkingOrder.foldl (Parking.one fun e _ => decide (cl < e)) { p with stop := false }
  (q.s, q.e)

/-- The estimate of the part, mW (R599). -/
def Gk1.estimateNow (s : Gk1) : Nat :=
  let sum := (s.regions.map fun e => e.2.estimate).sum
  sum + Config.carrierLoss sum

/-- Add mW x us to an account, whose whole millijoules go to a counter. -/
def account (m : NMap Nat) (k n : Nat) : NMap Nat × Nat :=
  let t := NMap.getD m k 0 + n
  (NMap.put m k (t % 1000000) 0, t / 1000000)

/-- ACLK of a region in a time, ns: at point k an ACLK lasts 10000 / (40 - 2 k) ps, and (STRETCH + 1) / 8 longer while it is
stretched (R613, R617). -/
def Gk1.aclkIn (s : Gk1) (r ns : Nat) : Nat := ns * (8 * (20 - (s.region r).point)) / (5 * s.eighths r)

/-- What the holding loads of a region's held clusters draw in a microsecond, mW: each of their cores draws its array's full-load
current in every ACLK in which its array does not run (R603). -/
def Gk1.holding (s : Gk1) (r : Nat) : Nat :=
  let n := 4 * s.aclkIn r 1000
  ((s.clusters.filter fun e => regionOf e.1 = r && e.2.held).map fun e => s.drawOf r * (n - min n e.2.ran) / max n 1).sum

/-- Held and parked clusters of a region (R603, R745). -/
def Gk1.heldParked (s : Gk1) (r : Nat) : Nat × Nat :=
  let h := (s.heldIn r).length
  (h, if (s.region r).owner.isSome then 4000 - h else 0)

/-- A PARK record of a region, at most once per 10 us and only for a change (R746). -/
def Gk1.tracePark (s : Gk1) (r : Nat) : Gk1 :=
  let n := s.heldParked r
  if n = (s.region r).parkShown || !s.due (s.region r).parkAt 10000 then s else
  (s.modRegion r fun R => { R with parkShown := n, parkAt := some s.dtime }).trace 10 ((s.region r).owner.getD 0xFF) 0xFFFF r
    (leBytes 2 n.1 ++ leBytes 2 n.2)

/-- Count a microsecond of one region: parked cluster-us, holding-load energy, estimated energy (R600, R743). -/
def Gk1.countRegion (s : Gk1) (r : Nat) : Gk1 :=
  let R := s.region r
  let s := if R.owner.isSome then s.countRgn r 1 (s.heldParked r).2 else s
  let mw := s.holding r
  let b := account s.power.burn r mw
  let s := (if b.2 = 0 then s else s.countRgn r 2 b.2).modRegion r fun R => { R with holdMw := mw }
  let s := { s with power := { s.power with
    burn := b.1
    estQ := NMap.put s.power.estQ (quadrantOf r) (NMap.getD s.power.estQ (quadrantOf r) 0 + R.estimate) 0 } }
  match R.owner with
  | none => s
  | some c =>
    let a := account s.power.estC c R.estimate
    ({ s with power := { s.power with estC := a.1 } }.countCtx c 13 a.2)

/-- The microsecond of the holding loads is over: the arrays' ACLK are counted afresh (R603). -/
def Gk1.ranOver (s : Gk1) : Gk1 :=
  ((s.clusters.filter fun e => e.2.ran ≠ 0).map Prod.fst).foldl (fun s c => s.modCluster c fun c => { c with ran := 0 }) s

/-- Every 1 us while a dispatcher runs: the microsecond that ends is counted with the clusters held in it, b follows its
target, clusters are parked to the floor and the ceiling, and the allowance is set (R597, R605-R607, R700). -/
def execPowerTick (s : State) : Answer := s.act fun s =>
  if !(s.powerOn && s.dispatcherRuns && s.due s.power.tickAt 1000) then .next s else
  let s := (List.range 64).foldl (fun s r => s.countRegion r) (s.regulate s.power.down)
  let e : Int := s.estimateNow
  let cl := min (s.power.eff : Int) (s.power.ePrev + s.power.up)
  let fl := if s.power.disturb.isSome then 0 else s.power.ePrev - s.power.down
  let p := s.parkTick fl cl e
  let s := { p.1 with power := { p.1.power with
    tickAt := some s.dtime, est := s.estimateNow, ceil := cl.toNat, allowance := cl - p.2, ePrev := p.2 } }
  .next ((List.range 64).foldl (fun s r => s.tracePark r) s.ranOver)

/-- A region's activity estimate, mW: its static term, its held clusters at its point, and its vector, mover and DRAM activity,
scaled by its quadrant's calibration (R599, R600). -/
def Gk1.formEstimate (s : Gk1) (r activity : Nat) : Nat :=
  s.scaled r (Config.regionStatic r) + (s.heldIn r).length * s.drawOf r + s.scaled r activity

/-- Every 1 us a signal box forms its region's estimate; the operand is the vector, mover and DRAM activity, mW (R599). -/
def execRegionEstimate (region milliwatts : Nat) (s : State) : Answer := s.act fun s =>
  if 64 ≤ region then .fault .noSuchUnit else
  if !((s.region region).sbUp && s.due (s.region region).estimatedAt 1000) then .next s else
  let e := s.formEstimate region milliwatts
  .next (s.modRegion region fun R => { R with estimate := e, estimatedAt := some s.dtime })

/-! ## Measurement and calibration -/

/-- The estimate of a quadrant, mW. -/
def Gk1.quadrantEst (s : Gk1) (q : Nat) : Nat :=
  (s.regions.map fun e => if quadrantOf e.1 = q then e.2.estimate else 0).sum

/-- The average of a list of averages. -/
def avg (l : List Nat) : Nat := l.sum / max l.length 1

/-- Note a disturbance response or a thermal emergency: for it the bounds on the slopes do not hold (R612). -/
def Gk1.excuse (s : Gk1) : Gk1 := { s with power := { s.power with excused := some s.dtime } }

/-- Neither of the last two 100 us windows saw what R612 excepts. -/
def Gk1.bound (s : Gk1) : Bool := s.power.disturb.isNone && s.due s.power.excused 200000

/-- Judge a 1 ms average against b, and a 100 us average against the one before (R612, R631). -/
def Gk1.judge (s : Gk1) : Gk1 :=
  let h := s.power.hist
  let b := s.power.eff
  let s := if s.power.measN % 100 = 0 && decide (102 * b < 100 * avg h) then s.ledgerFlag 0 else s
  if s.power.measN % 10 ≠ 0 || h.length < 20 then s else
  let now := avg (h.take 10)
  let old := avg ((h.drop 10).take 10)
  if !s.bound then s else
  let s := if 100 * (old + s.power.up * 100) + 2 * old < 100 * now then s.ledgerFlag 1 else s
  if 100 * (now + s.power.down * 100) + 2 * old < 100 * old then s.ledgerFlag 2 else s

/-- The average draw of an entry over the last 1 ms, mW (R756). -/
def Gk1.entryAvg (s : Gk1) (q : Nat) : Nat := avg (s.power.entryHist.map fun l => l.getD q 0)

/-- Park clusters of a quadrant whose entry is over its limit, a 1 ms average of 12,000 W, until what it draws is within the limit
(R602, R756). -/
def Gk1.parkQuadrant (s : Gk1) (q mw : Nat) : Gk1 :=
  if s.entryAvg q ≤ 12000000 then s else
  ((s.parkingOrder.filter fun c => quadrantOf (regionOf c) = q).foldl (Parking.one fun e _ => decide (12000000 < e)) {
    s := s, e := (mw : Int) }).s

/-- Close a 10 ms window, and the one-second window that ends with it (R630). -/
def Gk1.closeTen (s : Gk1) : Gk1 :=
  if s.power.measN % 1000 ≠ 0 then s else
  let tens := (s.power.tenAcc / 1000 :: s.power.tens).take 100
  let peak := if tens.length = 100 then avg tens / 1000 else 0
  { s with
    power := { s.power with tenAcc := 0, tens := tens }
    ledger := { s.ledger with period := { s.ledger.period with peak1s := max s.ledger.period.peak1s peak } } }

/-- A 10 us average of the four entries; a failed measurement is replaced by its quadrant's estimate (R598, R601, R602,
R612, R629-R631). -/
def execRailMeasurement (entries : List (Option Nat)) (s : State) : Answer := s.act fun s =>
  if entries.length ≠ 4 || !s.due s.power.railAt 10000 then .next s else
  let vals := (entries.zip (List.range 4)).map fun e => e.1.getD (s.quadrantEst e.2)
  let sum := vals.sum
  let s := if entries.any Option.isNone then s.ledgerFlag 7 else s
  let s := { s with
    power := { s.power with
      railAt := some s.dtime, entryMeas := vals, meas := sum, measN := s.power.measN + 1
      hist := (sum :: s.power.hist).take 100, tenAcc := s.power.tenAcc + sum
      entryHist := (vals :: s.power.entryHist).take 100
      measQ := (vals.zip (List.range 4)).foldl (fun (m : NMap Nat) (e : Nat × Nat) => NMap.put m e.2 (NMap.getD m e.2 0 + 10 * e.1) 0)
        s.power.measQ }
    ledger := { s.ledger with period := { s.ledger.period with energy := s.ledger.period.energy + 10 * sum } } }
  let s := s.closeTen
  if !s.powerOn then .next s else
  let s := if s.power.disturb.isSome then s.excuse else s
  .next ((vals.zip (List.range 4)).foldl (fun s e => s.parkQuadrant e.2 e.1) s.judge)

/-- A fraction in lowest terms. -/
def lowest (a b : Nat) : Nat × Nat := let g := max (Nat.gcd a b) 1; (a / g, b / g)

/-- Scale one quadrant's coefficients so that its estimated energy equals the measured one; an error above 2 % is noted
(R600, R631). -/
def Gk1.calibrateQuadrant (s : Gk1) (q measured : Nat) : Gk1 :=
  let est := NMap.getD s.power.estQ q 0
  if est = 0 || measured = 0 then s else
  let c := NMap.getD s.power.scale q (1, 1)
  let s := { s with power := { s.power with scale := NMap.set s.power.scale q (lowest (c.1 * measured) (c.2 * est)) } }
  if 2 * measured < 100 * ((est - measured) + (measured - est)) then s.ledgerFlag 6 else s

/-- The energy of each quadrant that the measurements since the last calibration found, mW x us (R598, R600, R601). -/
def Gk1.measured (s : Gk1) : List Nat := (List.range 4).map fun q => NMap.getD s.power.measQ q 0

/-- Every 10 ms the coefficients are scaled to the measured energy of each quadrant, mW x us, and Lp and GUARD are
recomputed (R600, R615, R624). The operand says that energy, and no other can stand there. -/
def execCalibration (energy : List Nat) (s : State) : Answer := s.act fun s =>
  if energy ≠ s.measured || !s.powerOn || !s.due s.power.calAt 10000000 then .next s else
  let s := (energy.zip (List.range 4)).foldl (fun s e => s.calibrateQuadrant e.2 e.1) s
  .next { s with power := { s.power with
    calAt := some s.dtime, estQ := [], measQ := [], calibrated := true, floor := Config.staticDraw } }.relimit.reguard

/-! ## Moves, droop, heat -/

/-- A region starts to move to a neighbouring point (R616, R640, R743, R745). -/
def Gk1.move (s : Gk1) (r k : Nat) : Gk1 :=
  let old := (s.region r).point
  ((s.modRegion r fun R => { R with point := k, moving := true, moveAt := s.dtime }).countRgn r 3 1).trace 4
    ((s.region r).owner.getD 0xFF) 0xFFFF r (leBytes 1 old ++ leBytes 1 k)

/-- A move may start: none is in progress, and 10 us have passed since the last one started (R616). -/
def Gk1.moveDue (s : Gk1) (r : Nat) : Bool :=
  !(s.region r).moving && (s.region r).aLock && decide ((s.region r).moveAt + 10000 ≤ s.dtime)

/-- A region moves one point toward the one it is to run at; a faster point waits for allowance (R616). A region that is
throttled takes no faster point (R623). -/
def execPointMove (region : Nat) (s : State) : Answer := s.act fun s =>
  if 64 ≤ region then .fault .noSuchUnit else
  let k := (s.region region).point
  let t := s.pointFor region
  if !(s.powerOn && s.moveDue region) || t = k then .next s
  else if k < t then .next (s.move region (k + 1))
  else
    let cost : Int := (s.heldIn region).length * (s.drawAt region (k - 1) - s.drawAt region k)
    if !s.due (s.region region).throttledAt 10000 || decide (s.power.allowance < cost) then .next s
    else .next ({ s with power := { s.power with allowance := s.power.allowance - cost } }.move region (k - 1))

/-- The 8 us glide of a move ends (R640). -/
def execMoveComplete (region : Nat) (s : State) : Answer := s.act fun s =>
  if 64 ≤ region then .fault .noSuchUnit else
  if (s.region region).moving && decide ((s.region region).moveAt + 8000 ≤ s.dtime) then
    .next (s.modRegion region fun R => { R with moving := false })
  else .next s

/-- VCORE falls below the threshold at a detector: the region's ACLK is stretched (R617, R618, R641). -/
def execDroopStretch (region : Nat) (s : State) : Answer := s.act fun s =>
  if 64 ≤ region then .fault .noSuchUnit else
  if (s.region region).aLock then .next (s.modRegion region fun R => { R with stretch := true }) else .next s

/-- Every detector has stayed above the threshold for 64 ACLK: the stretch ends (R617, R743, R745). -/
def execDroopStretchEnd (region cycles : Nat) (s : State) : Answer := s.act fun s =>
  if 64 ≤ region then .fault .noSuchUnit else
  if !(s.region region).stretch || decide (cycles < 64) then .next s else
  .next (((s.modRegion region fun R => { R with stretch := false }).countRgn region 0 cycles).trace 5
    ((s.region region).owner.getD 0xFF) 0xFFFF region (leBytes 4 cycles))

/-- What a region's held clusters draw less at the next slower point, mW. -/
def Gk1.stepFall (s : Gk1) (r : Nat) : Nat :=
  (s.heldIn r).length * (s.drawOf r - s.drawAt r ((s.region r).point + 1))

/-- A sensor exceeds TJ_THROTTLE: the region slows by one point per 10 us, once the down-slope has made room for the fall of the last
such step (R623, R626). -/
def execThermalThrottle (region : Nat) (s : State) : Answer := s.act fun s =>
  if 64 ≤ region then .fault .noSuchUnit else
  let s := (s.modRegion region fun R => { R with throttledAt := some s.dtime }).evenBroken
  if !(s.moveDue region && decide ((s.region region).point < 15) && decide (s.power.fallFrom ≤ s.dtime)) then .next s else
  let until_ := s.dtime + s.stepFall region * 1000 / max s.power.down 1
  .next ({ s with power := { s.power with fallFrom := until_ } }.move region ((s.region region).point + 1))

/-- A sensor exceeds TJ_CRIT: the region's clusters are parked at the rate of R607 (R612, R623, R626). -/
def execThermalCrit (region : Nat) (s : State) : Answer := s.act fun s =>
  if 64 ≤ region then .fault .noSuchUnit else
  .next (((s.ledgerFlag 10).evenBroken.excuse).parkAll (s.heldIn region))

/-! ## The line clock -/

/-- The line clock after a nanosecond of device time: 7/8, 9/8 or the whole of its rate (R582, R587). -/
def LineClock.tick (l : LineClock) : LineClock :=
  let d := min l.slew 1000
  let f := ((l.frac : Int) + (if l.fast then 8000 + d else 8000 - d) - l.debt).toNat
  let l := { l with slew := l.slew - d, fast := l.fast && decide (1000 < l.slew), debt := 0 }
  if f < l.span then { l with frac := f } else { l with frac := f - l.span, cycle := (l.cycle + 1) % 2 ^ 48 }

/-- The error that remains is less than what a nanosecond removes: the next nanosecond removes it, and the clock returns to its rate
(R587). -/
def execLineClockSlewEnd (s : State) : Answer := s.act fun s =>
  let l := s.line
  if l.slew = 0 || decide (1000 < l.slew) then .next s else
  .next { s with line := { l with slew := 0, fast := false, debt := if l.fast then -(l.slew : Int) else l.slew } }

/-- 3 s without an accepted notice: HOLDOVER (R588, R595, R631). -/
def execLineClockHoldover (s : State) : Answer := s.act fun s =>
  match s.line.notice with
  | some n =>
    if s.line.state = 1 && decide (n.2.2 + 3000000000 ≤ s.dtime) then
      .next (({ s with line := { s.line with state := 2 } }.ledgerFlag 4).regulate 0)
    else .next s
  | none => .next s

/-- Device time that a PTM master time names, in ns (R586). -/
def Gk1.deviceTime (s : Gk1) (ts : Nat) : Int :=
  match s.edge.ptm with
  | [] => ts
  | [a] => (a.2 : Int) + ((ts : Int) - a.1)
  | a :: b :: _ =>
    let dm : Int := (a.1 : Int) - b.1
    if dm = 0 then (a.2 : Int) + ((ts : Int) - a.1) else (a.2 : Int) + ((ts : Int) - a.1) * ((a.2 : Int) - b.2) / dm

/-- Set the line clock's position, in 1/8 ps of line time from cycle 0 with its new period. -/
def LineClock.at_ (l : LineClock) (x : Int) : LineClock :=
  let n := x.toNat
  { l with cycle := n / l.span % 2 ^ 48, frac := n % l.span }

/-- The position of the line clock, in 1/8 ps of line time from cycle 0. -/
def LineClock.pos (l : LineClock) : Int := l.cycle * l.span + l.frac

/-- Where the clock that a mark describes stands n ns after it, in 1/8 ps of line time from cycle 0: it loses or gains an eighth until
its error is removed (R587). Before it, the clock ran at its rate. -/
def LineMark.pos (m : LineMark) (n : Int) : Int :=
  let moved : Int := min (m.slew : Int) (max (1000 * n) 0)
  m.cycle * (8 * m.period) + m.frac + 8000 * n + if m.fast then moved else -moved

/-- The mark by which the clock ran at a device time: the newest one not after it. -/
def LineClock.markAt (l : LineClock) (d : Int) : Option LineMark :=
  (l.past.find? fun m => decide ((m.at_ : Int) ≤ d)).or l.past.getLast?

/-- What the clock reads at device time d beyond a cycle, in 1/8 ps of its new line time (R587). -/
def LineClock.errorAt (l : LineClock) (cycle period : Nat) (d : Int) : Int := match l.markAt d with
  | some m => (m.pos (d - m.at_) - cycle * (8 * m.period)) * period / m.period
  | none => 0

/-- The clock is kept as it stands now. -/
def LineClock.mark (l : LineClock) (now : Nat) : LineClock :=
  { l with past := ({ at_ := now, cycle := l.cycle, frac := l.frac, period := l.period, slew := l.slew, fast := l.fast } :: l.past).take 4 }

/-- Take an accepted notice: the first sets the clock; a later one makes it run slow or fast until the error is removed, or
step forward. The second part says whether the clock was set or stepped (R587). -/
def LineClock.take (l : LineClock) (cycle period ts now : Nat) (d : Int) : LineClock × Bool :=
  let new : LineClock := { l with state := 1, period := period, notice := some (cycle, ts, now), slew := 0, fast := false, debt := 0 }
  if l.state = 0 then ((({ new with past := [] } : LineClock).at_ (cycle * new.span + (now - d) * 8000)).mark now, true) else
  let err := l.errorAt cycle period d
  let kept := new.at_ (l.pos * period / l.period)
  if err * 16 < -(new.span : Int) then ((kept.at_ (kept.pos - err)).mark now, true)
  else (({ kept with slew := err.natAbs, fast := decide (err < 0) } : LineClock).mark now, false)

end Sys2Proof.Machine
end

