-- ==== Sys2Proof/Machine/Ledger.lean ====
section
/-! DEFINITION. The keys of the security engine (R735-R737), the energy ledger (R628-R633), and LINE_NOTICE, whose steps end
a ledger period (R583, R585, R587). -/

namespace Sys2Proof.Machine

/-! ## Keys -/

/-- The first 32 bytes of a digest. -/
def seedOf (d : BitVec 512) : BitVec 256 := d.setWidth 256

/-- Seed of the identity key (R735). -/
def ikSeed : BitVec 256 := seedOf (Config.sha3 (leBytes 32 Config.idSeed.toNat ++ [0x49]))

/-- Seed of the ledger key (R735). -/
def Gk1.lkSeed (s : Gk1) : BitVec 256 :=
  seedOf (Config.sha3 (leBytes 32 Config.idSeed.toNat ++ [0x4C] ++ leBytes 64 s.boot.bhdig.toNat))

/-- The identity public key; zero until it is ready (R737). -/
def Gk1.ikPub (s : Gk1) : List Byte := if s.boot.ikReady then Config.publicKey ikSeed else List.replicate 2592 0

/-- The ledger public key; zero until it is ready (R737). -/
def Gk1.lkPub (s : Gk1) : List Byte := if s.boot.lkReady then Config.publicKey s.lkSeed else List.replicate 2592 0

/-- HL_ID of the GK1. -/
def hlId : Nat := 0x0C000121

/-! ## Records -/

/-- TTDIGEST of the timetable in force; zero in PRESET mode (R591, R629). -/
def Gk1.ttDigest (s : Gk1) : Nat := if s.power.timetable then (s.power.table.map fun t => t.digest.toNat).getD 0 else 0

/-- An entry number of a record; 0xFFFF none. -/
def entryNo (e : Option Nat) : Nat := e.getD 0xFFFF

/-- The body of the record of the open period, its LKID left zero until the key exists (R629, log 30). -/
def Gk1.recordBody (s : Gk1) (seq : Nat) : List Byte :=
  let P := s.ledger.period
  leBytes 4 1 ++ leBytes 4 seq ++ leBytes 8 s.ledger.boot.toNat ++ leBytes 8 P.cstart ++ leBytes 8 s.line.cycle
    ++ leBytes 8 P.dstart ++ leBytes 8 s.dtime ++ leBytes 8 (P.energy / 1000000) ++ leBytes 8 (P.benergy / 1000000000)
    ++ leBytes 4 P.peak1s ++ leBytes 4 (P.bmax / 1000) ++ leBytes 4 (P.bmin / 1000) ++ leBytes 4 P.flags.toNat
    ++ leBytes 2 (entryNo P.efirst) ++ leBytes 2 (entryNo P.elast) ++ leBytes 4 P.ndist ++ leBytes 4 (P.holdNs / 1000000)
    ++ leBytes 4 (b2n s.power.timetable + 2 * s.power.preset) ++ leBytes 64 s.ttDigest ++ leBytes 32 0 ++ leBytes 8 hlId
    ++ List.replicate 56 0

/-- Put the ledger key's digest into a body: bytes 160-191 (R629). -/
def withLkid (body : List Byte) (pub : List Byte) : List Byte :=
  body.take 160 ++ leBytes 32 (seedOf (Config.sha3 pub)).toNat ++ body.drop 192

/-- Sign a record once the ledger key is ready (R629, R632, R736). -/
def Gk1.signRecord (s : Gk1) (r : LedgerRec) : LedgerRec :=
  if !s.boot.lkReady || r.sig.isSome then r else
  let body := withLkid r.body s.lkPub
  { r with body := body, sig := some (Config.sign s.lkSeed (Config.sha3 body)) }

/-- Sign every record that waits for the ledger key. -/
def Gk1.signAll (s : Gk1) : Gk1 := { s with ledger := { s.ledger with held := s.ledger.held.map s.signRecord } }

/-- The 5,120 bytes of a record (R629). -/
def LedgerRec.bytes (r : LedgerRec) : List Byte :=
  (r.body ++ (r.sig.getD []) ++ List.replicate 5120 0).take 5120

/-- The flags that hold when a period begins (R631). -/
def Gk1.standingFlags (s : Gk1) : Nat :=
  b2n s.power.disturb.isSome * 8 + b2n (s.line.state = 2) * 16 + b2n (s.line.state = 0) * 32
    + b2n ((s.theEntry.map Entry.maint).getD false) * 2048

/-- A period begins (R628). -/
def Gk1.openPeriod (s : Gk1) : Gk1 :=
  { s with ledger := { s.ledger with period := {
      cstart := s.line.cycle, dstart := s.dtime, bmax := s.power.eff, bmin := s.power.eff
      flags := BitVec.ofNat 32 s.standingFlags, efirst := s.entryNow, elast := s.entryNow } } }

/-- Seal the record of the open period; the last 1,024 are kept (R629, R632). -/
def Gk1.sealPeriod (s : Gk1) : Gk1 :=
  let seq := s.ledger.seq + 1
  let rec_ := s.signRecord { seq := seq, body := s.recordBody seq, sig := none }
  let held := s.ledger.held ++ [rec_]
  { s with ledger := { s.ledger with seq := seq, held := held.drop (held.length - 1024) } }

/-- PT_LEDGER.PERIOD: 300-60,000 line cycles (R628). -/
def Gk1.ledgerCycles (s : Gk1) : Nat := max (s.reg 0x20003C 3000) 1

/-- At a line cycle that is a multiple of PT_LEDGER.PERIOD the open period is sealed and the next begins (R628, R629). -/
def execLedgerPeriodEnd (s : State) : Answer := s.act fun s =>
  if s.powered && decide (s.ledger.period.cstart / s.ledgerCycles < s.line.cycle / s.ledgerCycles) then
    .next s.sealPeriod.openPeriod
  else .next s

/-- Records sealed before the ledger key was available are signed (R632, R737). -/
def execLedgerSign (s : State) : Answer := s.act fun s => .next s.signAll

/-- LEDGER_GET: every record held with SEQ from FIRST to FIRST + COUNT - 1, in ascending SEQ (R446, R633). -/
def execLedgerGet (s : State) : Answer := s.act fun s =>
  onMgmtResult 6 (fun d => 5120 * fld (d.w 4) 0 11) (fun d s =>
    let first := fld (d.w 3) 0 32
    let count := fld (d.w 4) 0 11
    if !inRange 1 1024 count then s.refuseMgmt d 1 else
    let s := s.signAll
    let rs := s.ledger.held.filter fun r => decide (first ≤ r.seq) && decide (r.seq < first + count)
    s.finishMgmt d (rs.flatMap LedgerRec.bytes)) s

/-! ## Line notices -/

/-- A notice breaks a rule of R585. -/
def Gk1.noticeBad (s : Gk1) (cycle period ts : Nat) : Bool :=
  !inRange 15000000000 22500000000 period || (match s.line.notice with
    | some n => decide (cycle ≤ n.1) || decide (ts ≤ n.2.1)
    | none => false)

/-- Take an accepted notice. The line clock's first setting and a forward step end the open ledger period (R587, R594, R595,
R621, R628). -/
def Gk1.takeNotice (s : Gk1) (cycle period ts : Nat) : Gk1 :=
  let r := s.line.take cycle period ts s.dtime (s.deviceTime ts)
  let s := if r.2 then s.sealPeriod else s
  let moved := if s.line.state = 0 then s.power.disturb.map fun D => D.reset s.line r.1 else s.power.disturb
  let s := { s with line := r.1, power := { s.power with disturb := moved } }
  let s := if r.2 then s.openPeriod else s
  (s.regulate 0).activate

/-- LINE_NOTICE (R583, R585, R587). -/
def execLineNotice (s : State) : Answer := s.act fun s =>
  onMgmt 3 (fun d s =>
    let cycle := fld (d.w 3) 0 48
    let period := fld (d.w 4) 0 40
    let ts := d.w 5
    if s.noticeBad cycle period ts then s.refuseMgmt d 1
    else if !s.ptmValid then s.refuseMgmt d 6
    else (s.takeNotice cycle period ts).finishMgmt d []) s

end Sys2Proof.Machine
end

