-- ==== Sys2Proof/Machine/Clocks.lean ====
section
/-! DEFINITION. The reference sources and their switches (R634-R636, R642-R646), the divided-clock output (R648-R651) and the
manual point cap (R652). The loss of a PLL's lock is in Faults.lean. -/

namespace Sys2Proof.Machine

/-- A source is READY: false LINK, true PIN. -/
def Gk1.srcReady (s : Gk1) (pin : Bool) : Bool := if pin then s.clocks.pinReady else s.clocks.linkReady

/-- Reset value of CK_REF_CTL. -/
def Gk1.refReset (s : Gk1) : Nat := 1 + 2 * b2n s.clocks.refsel

/-- CK_REF_CTL.AUTO. -/
def Gk1.refAuto (s : Gk1) : Bool := (s.reg 0x500000 s.refReset).testBit 0

/-- CK_REF_CTL.SEL. -/
def Gk1.refSel (s : Gk1) : Bool := (s.reg 0x500000 s.refReset).testBit 1

/-- Write CK_REF_CTL's bits. -/
def Gk1.setRef (s : Gk1) (auto sel : Bool) : Gk1 := s.setReg 0x500000 s.refReset (b2n auto + 2 * b2n sel)

/-- CK_ERR. -/
def ckErr : Nat := 0x500008

/-- A switch of the reference starts (R644). -/
def Gk1.startSwitch (s : Gk1) (pin : Bool) : Gk1 := { s with clocks := { s.clocks with switching := some pin } }

/-- Holdover is entered (R645). -/
def Gk1.enterHoldover (s : Gk1) : Gk1 :=
  if s.clocks.holdover then s else ({ s with clocks := { s.clocks with holdover := true } }).setErr ckErr 2

/-- AUTO takes up the reference: it leaves a source that is not READY for one that is, and it ends holdover (R642, R645). -/
def Gk1.autoRef (s : Gk1) : Gk1 :=
  if s.clocks.switching.isSome then s
  else if !s.srcReady s.clocks.cur && s.srcReady (!s.clocks.cur) then s.startSwitch (!s.clocks.cur)
  else if s.clocks.holdover && s.srcReady s.clocks.cur then s.startSwitch s.clocks.cur
  else s

/-- Judge a SEL write with AUTO clear: a source that is not READY is refused, and the source in use changes nothing
(R643, R645). -/
def Gk1.judgeSel (s : Gk1) (sel : Bool) : Gk1 :=
  let ok := s.srcReady sel
  let s := if ok then s.setRef false sel else s.setErr ckErr 0
  let sel := if ok then sel else s.refSel
  if s.srcReady sel && (sel ≠ s.clocks.cur || s.clocks.holdover) then s.startSwitch sel else s

/-- Judge a SEL write that waited for the end of a switch (R646). -/
def Gk1.judgeLater (s : Gk1) : Gk1 :=
  match s.clocks.selAfter with
  | some sel => ({ s with clocks := { s.clocks with selAfter := none } }).judgeSel sel
  | none => s

/-- What follows when the source in use is not READY: an automatic switch to the other source, or holdover (R642, R645,
R646, log 31). -/
def Gk1.refLost (s : Gk1) : Gk1 :=
  if s.refAuto && s.srcReady (!s.clocks.cur) then s.startSwitch (!s.clocks.cur) else s.enterHoldover

/-- A source becomes READY after 1 ms in range; holdover ends by a switch to it, in manual mode if SEL names it (R635,
R645). -/
def execRefclkSourceReady (pin : Bool) (s : State) : Answer := s.act fun s =>
  if !s.powered then .next s else
  let s := { s with clocks := { s.clocks with
    linkReady := if pin then s.clocks.linkReady else true
    pinReady := if pin then true else s.clocks.pinReady } }
  if s.clocks.holdover && s.clocks.switching.isNone && (s.refAuto || s.refSel = pin) then .next (s.startSwitch pin) else .next s

/-- A source loses READY: its switch is abandoned, or an automatic switch or holdover follows (R635, R642, R645, R646). -/
def execRefclkSourceLoss (pin : Bool) (s : State) : Answer := s.act fun s =>
  if !s.powered || !s.srcReady pin then .next s else
  let s := { s with clocks := { s.clocks with
    linkReady := if pin then s.clocks.linkReady else false
    pinReady := if pin then false else s.clocks.pinReady } }
  match s.clocks.switching with
  | some t =>
    if t ≠ pin then .next s else
    let s := ({ s with clocks := { s.clocks with switching := none } }).setErr ckErr 1
    .next (if s.srcReady s.clocks.cur && !s.clocks.holdover then s.judgeLater else s.refLost.judgeLater)
  | none => if s.clocks.cur = pin then .next s.refLost else .next s

/-- 20 ms after POWER_RAMP without the strapped source READY, the other source is taken if it is READY (R636). -/
def execRefclkFallback (s : State) : Answer := s.act fun s =>
  let c := s.clocks
  if s.powered && decide (c.since + 20000000 ≤ s.dtime) && c.cur = c.refsel && !s.srcReady c.cur && !c.holdover
      && c.switching.isNone && s.srcReady (!c.cur) then
    .next { s with clocks := { c with cur := !c.cur } }
  else .next s

/-- A switch completes (R644, R646). -/
def execRefclkSwitchDone (s : State) : Answer := s.act fun s =>
  match s.clocks.switching with
  | none => .next s
  | some t =>
    .next ({ s with clocks := { s.clocks with
      cur := t, holdover := false, switching := none, switches := min (s.clocks.switches + 1) 0xFF } }).judgeLater

/-- A write to CK_REF_CTL (R642, R643, R645, R646). -/
def doCkRefCtlWrite (value : BitVec 32) (s : Gk1) : Out :=
  if !s.regsWork then .next s else
  let sel := value.getLsbD 1
  if value.getLsbD 0 then
    .next (s.setRef true sel).autoRef
  else
    let s := s.setRef false s.refSel
    if s.clocks.switching.isSome then .next { s with clocks := { s.clocks with selAfter := some sel } }
    else .next (s.judgeSel sel)

/-- The row CK_REF_CTL_WRITE: doCkRefCtlWrite on the part. -/
def execCkRefCtlWrite (value : BitVec 32) (s : State) : Answer := s.act fun s => doCkRefCtlWrite value s

/-- FAB_PORT_CTL[p]. -/
def Gk1.portCtl (s : Gk1) (p : Nat) : Nat := s.reg (0x404000 + 0x10 * p) (1 + 64 * 256)

/-- A port PLL is locked: 100 us after its start, while its port is enabled (R637, R638). -/
def Gk1.portLock (s : Gk1) (p : Nat) : Bool :=
  (s.port p).lock || ((s.portCtl p).testBit 0 && ((s.port p).pllAt.or s.clocks.portsAt).any fun t => decide (t + 100000 ≤ s.dtime))

/-- The host PLL is locked: 20 us after its start in ROM (R637). -/
def Gk1.hostLock (s : Gk1) : Bool := s.clocks.hLock || (s.powered && decide (s.clocks.hAt + 20000 ≤ s.dtime))

/-- A PLL is READY, by KIND and UNIT of CK_OBS_CTL; REFCLK is not a PLL (R638, R649). -/
def Gk1.pllReady (s : Gk1) (kind unit : Nat) : Bool :=
  match kind with
  | 0 => true
  | 1 => (s.region unit).aLock
  | 2 => (s.region unit).fLock
  | 3 => (s.region unit).dLock
  | 4 => s.portLock unit
  | _ => s.hostLock

/-- The divided clock that the observation port carries, which follows its source: the source's KIND and UNIT, and K (R648, R763). -/
def Gk1.clockOut (s : Gk1) : Option (Nat × Nat × Nat) :=
  let v := s.reg 0x500400 (3 * 2 ^ 10)
  if v.testBit 0 then some (fld v 1 3, fld v 4 6, fld v 10 5) else none

/-- A write to CK_OBS_CTL (R649-R651). -/
def doCkObsCtlWrite (value : BitVec 32) (s : Gk1) : Out :=
  let v := value.toNat
  let kind := fld v 1 3
  let unit := fld v 4 6
  if !s.regsWork || s.boot.locked || decide (6 ≤ kind) || (kind = 4 && decide (48 ≤ unit)) then .next s
  else if v.testBit 0 && !s.pllReady kind unit then .next (s.setErr ckErr 0)
  else .next (s.setReg 0x500400 (3 * 2 ^ 10) (setFld (fld v 0 15) 10 5 (min (max (fld v 10 5) 3) 24)))

/-- The row CK_OBS_CTL_WRITE: doCkObsCtlWrite on the part. -/
def execCkObsCtlWrite (value : BitVec 32) (s : State) : Answer := s.act fun s => doCkObsCtlWrite value s

/-- A write to CK_RGN_CTL: the fastest point of a region; one slower than the even point breaks even running (R626, R652). -/
def doCkRgnCtlWrite (region : Nat) (value : BitVec 32) (s : Gk1) : Out :=
  if 64 ≤ region then .fault .noSuchUnit else
  if !s.regsWork then .next s else
  let s := s.setReg (0x500100 + 4 * region) 0 (fld value.toNat 0 4)
  .next (if s.evenPoint < s.capOf region then s.evenBroken else s)

/-- The row CK_RGN_CTL_WRITE: doCkRgnCtlWrite on the part. -/
def execCkRgnCtlWrite (region : Nat) (value : BitVec 32) (s : State) : Answer := s.act fun s => doCkRgnCtlWrite region value s

end Sys2Proof.Machine
end

