-- ==== Sys2Proof/Machine/Dram.lean ====
section
/-! DEFINITION. The events of the DRAM stacks: fills with the guard code (R394-R397, R403, R406), refresh and retraining
(R408, R409), scrubbing and lane sparing (R399-R402, R410). -/

namespace Sys2Proof.Machine

/-- A channel of a region's stack. -/
def Region.channel (r : Region) (c : Nat) : Channel := NMap.getD r.channels c {}

/-- Change a channel. -/
def Gk1.modChannel (s : Gk1) (r c : Nat) (f : Channel → Channel) : Gk1 :=
  s.modRegion r fun R => { R with channels := NMap.set R.channels c (f (R.channel c)) }

/-- Lanes out of use or on their way out: erased lanes, and the lane being rebuilt (R399, R400). -/
def Channel.erasures (c : Channel) : List Nat :=
  c.erased ++ (match c.rebuild with | some (l, _) => if c.erased.contains l then [] else [l] | none => [])

/-- Lanes whose symbols a read of a slot treats as erasures: the lane being rebuilt only from the sweep's pointer up, since a slot
below it is read with the spare lane (R399, R400). -/
def Channel.erasuresAt (c : Channel) (slot : Nat) : List Nat := match c.rebuild with
  | some (l, p) => if slot < p then c.erased.filter (· ≠ l) else c.erasures
  | none => c.erasures

/-- Lanes lost: spared and erased (R402). -/
def Channel.lost (c : Channel) : Nat := c.erasures.length + c.spared.length

/-- A stack suffers a STACK fault and is LOST (R402, R720, R723). -/
def Gk1.loseStack (s : Gk1) (r : Nat) : Gk1 :=
  if (s.region r).stackLost then s else
  (s.modRegion r fun R => { R with stackLost := true }).report { kind := 5, status := 0x42, ctx := ((s.region r).owner).getD 0xFF, unit := r }

/-- A counter that stops at 0xFFFF. -/
def upTo16 (n : Nat) : Nat := min n 0xFFFF

/-- A word joins the bad-word list while the list has room (R406). -/
def Gk1.listBad (s : Gk1) (gid sec : Nat) : Gk1 :=
  let r := gStack gid
  if 1024 ≤ (s.region r).badWords.length then
    s.report { kind := 5, status := 0x42, ctx := ((s.region r).owner).getD 0xFF, unit := r }
  else s.modRegion r fun R => { R with badWords := insertNat (wordNo gid sec) R.badWords }

/-- A read of the stack found a word uncorrectable: it is counted, and listed (R403, R406). -/
def Gk1.uncorrectable (s : Gk1) (gid sec : Nat) : Gk1 :=
  (s.modRegion (gStack gid) fun R => { R with uncorr := upTo16 (R.uncorr + 1) }).listBad gid sec

/-- A rebuild sweep of a channel has gone on since it was last looked at: its pointer has risen by what the manual leaves open
(R400, R401, log 19). -/
def Gk1.sweepOn (s : Gk1) (r c : Nat) : Gk1 :=
  match ((s.region r).channel c).rebuild with
  | none => s
  | some (l, p) =>
    let w := (Config.freeWord s.free).toNat % (granulesPerChannel - p + 1)
    { s with free := s.free + 1 }.modChannel r c fun C => { C with rebuild := some (l, p + w) }

/-- The address value of word `sec` of a granule: slot x 8 + word. -/
def wordAddr (gid sec : Nat) : Nat := gSlot gid * 8 + sec

/-- Read a word that holds some data under an error pattern: its symbols are checked against its own address (R395, R397). -/
def readWord (gid sec : Nat) (data : List Byte) (err : List (Nat × Nat)) (erased : List Nat) :
    Option (List (Nat × Nat) × List Nat) :=
  let sent := wordSymbols data (wordAddr gid sec)
  guardFixBy (wordSyn ((List.range 36).map fun l => symErr err l (sent.getD l 0)) (wordAddr gid sec)) err erased

/-- Apply what stays wrong after decoding to the 32 bytes of a word. -/
def xorBytes (bs : List Byte) (wrong : List (Nat × Nat)) : List Byte :=
  (List.range bs.length).zip bs |>.map fun e => wrong.foldl (fun b w => if w.1 = e.1 then b ^^^ BitVec.ofNat 8 w.2 else b) e.2

/-- An error pattern as numbers. -/
def noiseOf (n : List (Nat × Byte)) : List (Nat × Nat) := n.map fun e => (e.1, e.2.toNat)

/-- Data of a requested sector return from the stack with an error pattern over symbols d0-d31, c0-c3 (R389-R391, R397,
R403, R406): a listed word sets BAD unread. -/
def execRegionCacheFill (granule sector : Nat) (noise : List (Nat × Byte)) (s : State) : Answer := s.act fun s =>
  if !(decide (granule < 2048 * granulesPerChannel) && decide (sector < 8)) then .fault .noSuchUnit else
  match NMap.get? s.fills (wordNo granule sector) with
  | none => .next s
  | some (ctx, stream) =>
    let r := gStack granule
    let C := (s.region r).channel (gChannel granule)
    if (match C.retrained with | some t => decide (s.dtime < t + 2000) | none => false) then .next s else
    let s := { s with fills := NMap.erase s.fills (wordNo granule sector) }.sweepOn r (gChannel granule)
    if (s.region r).stackLost then .next s else
    let s := s.allocLine granule ctx stream
    let put := fun (s : Gk1) (bad : Bool) (bs : List Byte) =>
      { s with cache := NMap.upd s.cache granule (Line.fill sector bad stream bs) }
    let stored := sectorBytes s.dram (granule * 256) sector
    if s.listed granule sector then .next (put s true stored) else
    match readWord granule sector stored (noiseOf noise) (((s.region r).channel (gChannel granule)).erasuresAt (gSlot granule)) with
    | none =>
      -- a write that took the whole sector meanwhile has made its word good (R406)
      if (NMap.get? s.cache granule).any fun L => L.valid.getLsbD sector then
        .next (s.modRegion r fun R => { R with uncorr := upTo16 (R.uncorr + 1) })
      else .next (put (s.uncorrectable granule sector) true stored)
    | some (wrong, fixed) =>
      let s := if fixed.isEmpty then s else s.modRegion r fun R => { R with corr := upTo16 (R.corr + 1) }
      .next (put s false (xorBytes stored wrong))

/-- A bank is refreshed, every 3.9 us or 1.95 us when hot; it holds back no access (R408, R409). -/
def execDramRefresh (region channel bank : Nat) (s : State) : Answer := s.act fun s =>
  if !(decide (region < 64) && decide (channel < 32) && decide (bank < 64)) then .fault .noSuchUnit else
  let gap := if (s.region region).hot then 1950 else 3900
  let due := match NMap.get? ((s.region region).channel channel).refreshed bank with
    | some t => decide (t + gap ≤ s.dtime)
    | none => true
  if due then .next (s.modChannel region channel fun C => { C with refreshed := NMap.set C.refreshed bank s.dtime }) else .next s

/-- A channel retrains its read timing, every 100 ms for 2 us; the region cache holds its requests meanwhile (R409). -/
def execDramRetrain (region channel : Nat) (s : State) : Answer := s.act fun s =>
  if !(decide (region < 64) && decide (channel < 32)) then .fault .noSuchUnit else
  match ((s.region region).channel channel).retrained with
  | some t => if s.dtime < t + 100000000 then .next s
    else .next (s.modChannel region channel fun C => { C with retrained := some s.dtime })
  | none => .next (s.modChannel region channel fun C => { C with retrained := some s.dtime })

/-- MEM_SCRUB_CTL (R399, R410): ENABLE 1, PERIOD 24, SPARE_THR 16 at reset. -/
def Gk1.scrubCtl (s : Gk1) : Nat := s.reg 0x300C04 (1 + 24 * 2 + 16 * 2 ^ 16)

/-- The next free spare lane (R396, R399). -/
def Channel.hasSpare (c : Channel) : Option Nat :=
  [36, 37].find? fun l => !(c.spared.any fun e => e.2 = l)

/-- The lane that carries a symbol reaches SPARE_THR: it is erased at once and rebuilt onto the next free spare, once no other sweep
runs; the carrier may be spare 36. More than four lanes lost is a STACK fault (R399-R402). -/
def Gk1.eraseLane (s : Gk1) (r c lane : Nat) : Gk1 :=
  let C := (s.region r).channel c
  let s := s.modChannel r c fun C0 =>
    if C.erasures.contains lane then C0
    else if C.rebuild.isSome || C.hasSpare.isNone then { C0 with erased := C.erased ++ [lane] }
    else { C0 with rebuild := some (lane, 0) }
  if 4 < ((s.region r).channel c).lost then s.loseStack r else s

/-- The scrub of one word (R397, R399, R410). -/
def Gk1.scrubWord (s : Gk1) (gid sec : Nat) (err : List (Nat × Nat)) : Gk1 :=
  if s.listed gid sec then s else
  let r := gStack gid
  let c := gChannel gid
  let stored := sectorBytes s.dram (gid * 256) sec
  match readWord gid sec stored err (((s.region r).channel c).erasuresAt (gSlot gid)) with
  | none => s.uncorrectable gid sec
  | some (wrong, fixed) =>
    if fixed.isEmpty && wrong.isEmpty then s else
    let s := s.modRegion r fun R => { R with corr := upTo16 (R.corr + 1) }
    let s := { s with dram := Mem.writeAll s.dram (gid * 256 + 32 * sec) (xorBytes stored wrong) }
    fixed.foldl (fun s l =>
      let n := NMap.getD ((s.region r).channel c).laneCorr l 0 + 1
      let s := s.modChannel r c fun C => { C with laneCorr := NMap.set C.laneCorr l n }
      let thr := fld s.scrubCtl 16 8
      if thr ≠ 0 && decide (thr ≤ n) then s.eraseLane r c l else s) s

/-- MEM_SCRUB_CTL.PERIOD in ns. -/
def Gk1.scrubPeriod (s : Gk1) : Nat := fld s.scrubCtl 1 8 * 3600000000000

/-- A scrub pass begins PERIOD hours after the start of the one before: its lane counts start at zero (R399, R410). -/
def Gk1.scrubPass (s : Gk1) (r : Nat) : Gk1 :=
  let due := match (s.region r).scrubAt with
    | some t => decide (t + s.scrubPeriod ≤ s.dtime)
    | none => true
  if due then
    s.modRegion r fun R => { R with
      scrubbed := [], scrubAt := some s.dtime, channels := NMap.mapVals R.channels fun (_ : Nat) (C : Channel) => { C with laneCorr := [] } }
  else s

/-- Patrol scrubbing of one granule, which a pass reads once, in an order that is left open; it is paused while the stack is margined
(R410, R731, log 19). The error pattern's symbols are numbered word * 36 + symbol. A granule whose line is in the region cache is
skipped. -/
def execScrub (granule : Nat) (noise : List (Nat × Byte)) (s : State) : Answer := s.act fun s =>
  if !(decide (granule < 2048 * granulesPerChannel)) then .fault .noSuchUnit else
  let r := gStack granule
  if !s.scrubCtl.testBit 0 || (s.region r).stackLost || (s.region r).margining then .next s else
  let s := s.scrubPass r
  if (s.region r).scrubbed.contains granule then .next s else
  let s := s.modRegion r fun R => { R with scrubbed := granule :: R.scrubbed }
  if NMap.has s.cache granule then .next s else
  let s := s.sweepOn r (gChannel granule)
  .next ((List.range 8).foldl (fun s sec =>
    s.scrubWord granule sec (((noiseOf noise).filter fun e => e.1 / 36 = sec).map fun e => (e.1 % 36, e.2))) s)

/-- A rebuild sweep ends: the old lane leaves use and the spare carries its symbol. A lane that was erased while it ran has the next
sweep, while a spare is free (R399, R400). -/
def execRebuildSweepEnd (region channel : Nat) (s : State) : Answer := s.act fun s =>
  if !(decide (region < 64) && decide (channel < 32)) then .fault .noSuchUnit else
  let C := (s.region region).channel channel
  if (s.region region).margining then .next s else
  match C.rebuild, C.hasSpare with
  | some (lane, _), some spare => .next (s.modChannel region channel fun C =>
      let C := { C with spared := C.spared ++ [(lane, spare)], rebuild := none }
      match C.erased, C.hasSpare with
      | l :: rest, some _ => { C with rebuild := some (l, 0), erased := rest }
      | _, _ => C)
  | _, _ => .next s

end Sys2Proof.Machine
end

