-- ==== Sys2Proof/Machine/Faults.lean ====
section
/-! DEFINITION. The points table and sidings (R678-R683), lost clusters and regions, replay (R702-R718), the dispatcher
(R688, R697-R701), part faults and the host interface (R721), and the management work of chapter 18: supplements (R684,
R685), self-test (R724-R727), MAINTENANCE (R728-R731). -/

namespace Sys2Proof.Machine

/-! ## Sidings -/

/-- The logical index that a rank holds, none for a skipped rank or a siding in no use (R680). -/
def Region.indexOf (R : Region) (rank : Nat) : Option Nat :=
  if R.skips.contains rank || decide (4096 ≤ rank) then none else
  match R.subs.find? fun e => e.rank = rank with
  | some e => some e.index
  | none =>
    let i := rank - (R.skips.filter fun k => decide (k < rank)).length
    if decide (i < 4000) && !R.subs.any (fun e => e.index = i) then some i else none

/-- Free sidings by rank: cores of no logical index that have not failed (R681, R704). -/
def Region.freeSidings (R : Region) : List Nat :=
  (List.range 4096).filter fun k => !R.skips.contains k && !R.failed.contains k && (R.indexOf k).isNone

/-- Move a logical index to the free siding of lowest rank; none when there is none, or a 33rd entry would be needed
(R681, R683). -/
def Region.substitute (R : Region) (i : Nat) : Option (Region × Nat) :=
  match R.freeSidings with
  | [] => none
  | k :: _ =>
    if R.subs.any fun e => e.index = i then
      some ({ R with subs := R.subs.map fun e => if e.index = i then { e with rank := k } else e }, k)
    else if 32 ≤ R.subs.length then none
    else some ({ R with subs := R.subs ++ [{ index := i, rank := k }] }, k)

/-- A cluster entry or a failed test of a rank: a logical cluster is moved, a siding is marked failed; none when the region
can no longer map its clusters (R682, R683). -/
def Region.failRank (R : Region) (rank : Nat) : Option Region :=
  if R.skips.contains rank || R.failed.contains rank || decide (4096 ≤ rank) then some R else
  let R' := { R with failed := insertNat rank R.failed }
  match R.indexOf rank with
  | none => some R'
  | some i => (R'.substitute i).map Prod.fst

/-- VCORE and VSRAM at a physical rank of a region: off where no logical cluster sits, in a skipped cluster and an unused
siding (R44). -/
def Gk1.rankRails (s : Gk1) (r rank : Nat) : Bool := match (s.region r).indexOf rank with
  | some i => s.coreRails (4000 * r + i)
  | none => false

/-! ## What a loss leaves -/

/-- Power of a cluster goes: its cores, its WGS and its gang (R202, R702, R714). -/
def Gk1.wipeCluster (s : Gk1) (cl : Nat) : Gk1 :=
  let s := (coresOf cl).foldl (fun s c => if NMap.has s.cores c then s.modCore c Core.wiped else s) s
  s.modCluster cl fun c => { c with ganged := false, hold := false, apartFirst := [], apartWait := 0, wgs := [], wops := [] }

/-- Work that goes with the engines of some cores: what is not on its way to a target as a write or an atomic. -/
def Msg.goes (m : Msg) : Bool :=
  m.unsent || m.isLocal || m.returned.isSome || m.noRoute.isSome || (match m.kind with
    | .write | .atom | .ack | .epochEnd | .exch => false
    | .read | .readReply | .atomReply | .heapReply | .arrival | .hostRead => true)

/-- Drop the requests of a kernel from some cores, and the messages that go with them. -/
def Gk1.dropWork (s : Gk1) (kid : Nat) (here : Nat → Bool) : Gk1 :=
  { s with
    reqs := s.reqs.filter fun e => !(e.2.kid = kid && here e.2.core)
    msgs := s.msgs.filter fun e => !(e.2.kid = kid && here e.2.core && e.2.pkt.isNone && e.2.goes) }

/-- Why a share is lost. -/
inductive Cause where
  /-- a CLUSTER fault -/
  | cluster
  /-- a region reset -/
  | reset
  /-- a partition reset (R718) -/
  | partition
  /-- its region goes OUT -/
  | out
  deriving DecidableEq, Repr

/-- What becomes of a lost share (R708). -/
inductive Verdict where
  | drop (code : Nat)
  | rerun
  | whole
  deriving DecidableEq, Repr

/-- The replay attributes of a kernel (R706). -/
def Gk1.attr (s : Gk1) (K : Kernel) : Nat :=
  let b := fld (K.desc.w 5) 0 8
  if b ≠ 0 then b else fld (s.reg (0x100030 + 0x40 * K.queue) 0) 0 8

/-- TRIES: replays allowed per share (R706). -/
def triesOf (attr : Nat) : Nat := if fld attr 2 4 = 0 then 2 else fld attr 2 4

/-- The share table, with the limit of tries and a region that is OUT (R708, R710, R718). -/
def verdict (c : Cause) (attr tries : Nat) (accumulates safe : Bool) : Verdict :=
  let mode := fld attr 0 2
  if c = .partition then .drop 0x62
  else if accumulates then .drop 0x60
  else if mode = 3 || (mode = 0 && !safe) then .drop (if c = .cluster then 0x61 else 0x62)
  else if c = .out || decide (triesOf attr ≤ tries) then .drop 0x61
  else if mode = 2 then .whole
  else .rerun

/-- Key of a share's tries: its cluster, or its grain (R710, R711). -/
def triesKey (cl : Nat) (grain : Option Nat) : Nat := match grain with
  | some g => clusterCount + g
  | none => cl

/-- The share does not run again: the kernel's status says why, a grain counts as over (R708, R711). -/
def Gk1.dropShare (s : Gk1) (kid cl code : Nat) : Gk1 :=
  let s := s.modKernel kid fun K => { K with
    final := K.final.orElse fun _ => some (BitVec.ofNat 8 code)
    shares := NMap.set K.shares cl { NMap.getD K.shares cl {} with lost := none, dropped := true } }
  if (s.cluster cl).grain.isSome then
    (s.leaveCluster kid cl).modKernel kid fun K => { K with
      doneGrains := K.doneGrains + 1, admitted := K.admitted.filter (· ≠ cl), shares := NMap.erase K.shares cl }
  else s.modCluster cl fun c => { c with asking := none }

/-- The whole kernel is stopped as by a time limit, to run again (R708). -/
def Gk1.stopForRerun (s : Gk1) (kid : Nat) : Gk1 :=
  (s.stopWork kid).modKernel kid fun K => { K with
    rerun := true, gfaults := [], efaults := [], diverged := false, barOvf := false }

/-- Take the last fault of a group out of a list. -/
def dropFault (l : List (Nat × Nat × Nat × BitVec 8)) (core slot : Nat) : List (Nat × Nat × Nat × BitVec 8) :=
  (l.reverse.eraseP fun f => f.1 = core && f.2.1 = slot).reverse

/-- A share that is to be rerun leaves no fault behind: neither its halted groups' nor its engines' (R269, R695, R708). -/
def Gk1.forgetShare (s : Gk1) (kid cl : Nat) : Gk1 :=
  let halted := (coresOf cl).flatMap fun c => ((s.core c).groups.filter fun e => e.2.status = .halted).map fun e => (c, e.1)
  let first := (s.cluster cl).shareFrom
  if (s.cluster cl).admitted ≠ some kid then s else
  s.modKernel kid fun K => { K with
    gfaults := halted.foldl (fun l g => dropFault l g.1 g.2) K.gfaults
    efaults := K.efaults.filter fun f => !(clusterOf f.2.1 = cl && decide (first ≤ f.1)) }

/-- A kernel loses its share on a cluster: the status that this gives it, 0 for none (R707, R708, R710, R711, R718). A share
that waits to run again is lost for good only by a partition reset or a region that goes OUT. -/
def Gk1.loseShare (s : Gk1) (kid cl : Nat) (c : Cause) : Gk1 × Nat :=
  match NMap.get? s.kernels kid with
  | none => (s, 0)
  | some K =>
    let C := s.cluster cl
    let h := NMap.getD K.shares cl {}
    let key := triesKey cl C.grain
    let tries := (NMap.getD K.shares key {}).tries
    let v := verdict c (s.attr K) tries (h.mmaWg || C.wgs.any fun g => g.2.ctx = K.ctx) (!h.unsafe_)
    let s := s.dropWork kid fun n => clusterOf n = cl
    let s := s.modCluster cl fun x => { x with asking := none }
    if K.stopped || h.dropped || (K.rerun && c ≠ .out && c ≠ .partition)
        || (h.lost.isSome && c ≠ .out && c ≠ .partition) then (s, 0) else
    match v with
    | .drop code => (s.dropShare kid cl code, code)
    | .rerun => ((s.forgetShare kid cl).modKernel kid fun K =>
        let K := { K with shares := NMap.set K.shares key { NMap.getD K.shares key {} with tries := tries + 1 } }
        { K with shares := NMap.set K.shares cl { NMap.getD K.shares cl {} with lost := some (c ≠ .cluster) } }, 0)
    | .whole => ((s.modKernel kid fun K =>
        { K with shares := NMap.set K.shares key { NMap.getD K.shares key {} with tries := tries + 1 } }).stopForRerun kid, 0)

/-! ## Clusters -/

/-- A cluster that holds an open WGS group is lost: a report names its context (R713). -/
def Gk1.reportWgs (s : Gk1) (cl rank : Nat) : Gk1 :=
  match (s.cluster cl).wgs with
  | [] => s
  | g :: _ =>
    let s := { s with held := { s.held with lostAcc := upTo16 (s.held.lostAcc + 1) } }
    s.report { kind := 13, status := 0x60, ctx := g.2.ctx, unit := cl, place := rank }

/-- A counter that stops at 0xFF. -/
def upTo8 (n : Nat) : Nat := min n 0xFF

/-- Regions run: the part is past its waves. -/
def Gk1.regionsRun (s : Gk1) : Bool := s.part = .ready || s.part = .maintenance

/-- A CLUSTER fault: the cluster is switched off, its share is lost, and packets to its index are held (R611, R686, R702,
R707, R713). One in a region that is in reset or OUT finds no power and changes nothing. -/
def execClusterFault (region rank : Nat) (sram : Bool) (s : State) : Answer := s.act fun s =>
  if !(decide (region < 64) && decide (rank < 4096)) then .fault .noSuchUnit else
  let R := s.region region
  if !s.regionsRun || R.service ≠ 0 || R.failed.contains rank then .next s else
  match R.indexOf rank with
  | none => .next (if R.skips.contains rank then s else
      s.modRegion region fun R => { R with failed := insertNat rank R.failed })
  | some i =>
    let cl := 4000 * region + i
    if (s.cluster cl).lost then .next s else
    let kid := (s.cluster cl).admitted
    let K := kid.bind fun k => NMap.get? s.kernels k
    let s := (s.modRegion region fun R => { R with clfaults := upTo8 (R.clfaults + 1), failed := insertNat rank R.failed }).dropHeldDraw [cl]
    let s := s.reportWgs cl rank
    let r := match kid with
      | some k => s.loseShare k cl .cluster
      | none => (s, 0)
    let s := (r.1.wipeCluster cl).modCluster cl fun c => { c with lost := true }
    let f : Failing := {
      region := region, index := i, rank := rank, status := r.2
      ctx := (K.map Kernel.ctx).getD (R.owner.getD 0xFF), queue := (K.map Kernel.queue).getD 0xFFFF }
    .next { s with held := { s.held with
      failing := s.held.failing ++ [f], background := if sram then s.held.background ++ [(region, rank)] else s.held.background } }

/-! ## The dispatcher -/

/-- The takeover ring (R670, R697). -/
def ring : List Nat :=
  [2, 3, 4, 5, 0, 1, 6, 7, 34, 35, 36, 37, 32, 33, 38, 39, 10, 11, 12, 13, 8, 9, 14, 15, 42, 43, 44, 45, 40, 41, 46, 47]
    ++ [18, 19, 20, 21, 16, 17, 22, 23, 50, 51, 52, 53, 48, 49, 54, 55, 26, 27, 28, 29, 24, 25, 30, 31, 58, 59, 60, 61, 56, 57, 62, 63]

/-- A region's signal box is in service. -/
def Gk1.boxUp (s : Gk1) (r : Nat) : Bool := (s.region r).sbUp && decide ((s.region r).service = 0)

/-- Signal boxes after a region in the ring that are in service and outside a list (R697, R718). -/
def Gk1.ringAfter (s : Gk1) (r : Nat) (excl : List Nat) : List Nat :=
  let rest := ring.dropWhile (· ≠ r)
  (rest.drop 1 ++ ring.takeWhile (· ≠ r)).filter fun x => s.boxUp x && !excl.contains x

/-- The dispatcher names the next two signal boxes in service as its followers (R697, R718). -/
def Gk1.refollow (s : Gk1) (excl : List Nat) : Gk1 :=
  { s with boot := { s.boot with follow := (s.ringAfter s.boot.disp excl).take 2 } }

/-- The dispatcher role moves to a region (R701). -/
def Gk1.moveRole (s : Gk1) (r : Nat) (excl : List Nat) : Gk1 :=
  (({ s with boot := { s.boot with disp := r } }).refollow excl).report { kind := 6, unit := r }

/-- A PART fault: the part enters FAULTED and kernels stop (R686, R721). -/
def Gk1.partDead (s : Gk1) : Gk1 :=
  if s.part = .faulted then s else
  let s := s.kernels.foldl (fun s e => (s.stopWork e.1).modKernel e.1 fun K => { K with stopped := true, rerun := false }) s
  { s with
    part := .faulted
    held := { s.held with margin := none }
    regions := NMap.mapVals s.regions fun (_ : Nat) (r : Region) => { r with margining := false } }

/-- A fault with no spare left (R686, R721). -/
def execPartFault (s : State) : Answer := s.act fun s => .next (if s.powered then s.partDead else s)

/-- 6 us without a signal box's heartbeat: a REGION fault of its region, which a region reset follows (R38, R688). Without the
dispatcher's own, its ticks end until a follower takes the role (R699, R700). -/
def execHeartbeatTimeout (region : Nat) (s : State) : Answer := s.act fun s =>
  if 64 ≤ region then .fault .noSuchUnit else
  if s.boot.dvalid && s.boxUp region then
    .next (s.modRegion region fun R => { R with sbUp := false })
  else .next s

/-- A takeover or an interface switch that the model shows at one moment counts as an unavailable interval of no length
(R732, log 48). -/
def Gk1.countInterval (s : Gk1) : Gk1 :=
  if (s.theEntry.map Entry.maint).getD false then s else
  { s with held := { s.held with unavailEvents := s.held.unavailEvents + b2n (!s.held.unavail), unavail := true } }

/-- A follower takes the dispatcher role 8 us after the last heartbeat; the former dispatcher's region has a REGION fault
(R699-R701). Without a follower it is a PART fault. -/
def execDispatcherTakeover (s : State) : Answer := s.act fun s =>
  if !(s.boot.dvalid && s.regionsRun) then .next s else
  let old := s.boot.disp
  let s := s.modRegion old fun R => { R with sbUp := false }
  match s.boot.follow.find? s.boxUp with
  | none => .next s.partDead
  | some n => .next (({ s with boot := { s.boot with takeovers := upTo8 (s.boot.takeovers + 1) } }).moveRole n []).countInterval

/-! ## Regions -/

/-- The clusters of a region that the part has an entry for. -/
def Gk1.knownIn (s : Gk1) (r : Nat) : List Nat :=
  ((s.clusters.filter fun e => regionOf e.1 = r).map Prod.fst)

/-- Clusters of a region that only have cores with entries. -/
def Gk1.coredIn (s : Gk1) (r : Nat) : List Nat :=
  ((s.cores.filter fun e => regionOf (clusterOf e.1) = r).map fun e => clusterOf e.1).eraseDups

/-- Every share of a region is lost, its held draw ends and its clusters lose their power: the first status that this gives
to work (R611, R714, R716). -/
def Gk1.loseRegion (s : Gk1) (r : Nat) (c : Cause) : Gk1 × Nat :=
  let a := (s.knownIn r).foldl (fun (a : Gk1 × Nat) cl =>
    match (a.1.cluster cl).admitted with
    | some k =>
      let b := a.1.loseShare k cl c
      (b.1, if a.2 = 0 then b.2 else a.2)
    | none => a) (s.dropHeldDraw (s.heldIn r), 0)
  (((a.1.knownIn r) ++ (a.1.coredIn r)).eraseDups.foldl (fun s cl => s.wipeCluster cl) a.1, a.2)

/-- A region reset with through-running: its stack, cache, routers and edge interfaces stay in service (R714-R716). -/
def Gk1.resetRegion (s : Gk1) (r : Nat) (c : Cause) : Gk1 :=
  let a := s.loseRegion r c
  let s := a.1.modRegion r fun R => { R with
    service := 1, sbUp := false, resets := upTo8 (R.resets + 1), moving := false, stretch := false }
  (s.report { kind := 3, status := a.2, ctx := ((s.region r).owner).getD 0xFF, unit := r }).refollow []

/-- A kernel's shares in a region that are still to be admitted cannot run there (R710, R717). -/
def Gk1.dropAsking (s : Gk1) (r : Nat) : Gk1 :=
  (s.clusters.filter fun e => regionOf e.1 = r && e.2.asking.isSome).foldl (fun s e => match e.2.asking with
    | some k => s.dropShare k e.1 0x61
    | none => s) s

/-- A region goes OUT: it becomes unowned, and what ran there does not run again (R674, R683, R705, R710, R717). The role of
a dispatcher in it moves on. -/
def Gk1.goOut (s : Gk1) (r : Nat) : Gk1 :=
  let a := s.loseRegion r .out
  let s := a.1.dropAsking r
  let s := (s.kernels.filter fun e => e.2.rerun && e.2.desc.regions.contains r).foldl (fun s e => s.stopKernel e.1 0x61 false) s
  let s := s.modRegion r fun R => { R with service := 2, owner := none, needsClear := true, sbUp := false }
  let s := (s.knownIn r).foldl (fun s cl => s.modCluster cl fun c => { c with lost := false }) s
  let s := { s with held := { s.held with
    failing := s.held.failing.filter fun f => f.region ≠ r
    background := s.held.background.filter fun f => f.1 ≠ r } }
  let s := s.report { kind := 4, status := a.2, unit := r }
  if s.boot.dvalid && s.boot.disp = r then
    match s.ringAfter r [] with
    | n :: _ => s.moveRole n []
    | [] => s.partDead
  else s.refollow []

/-- A region has a REGION fault: its signal box is down, or its ACLK or FCLK has lost lock (R639, R686). -/
def Gk1.regionFaulty (s : Gk1) (r : Nat) : Bool :=
  let R := s.region r
  R.bootDone && R.service = 0 && (!R.sbUp || !R.aLock || !R.fLock)

/-- A region with a REGION fault is reset (R714-R716): the dispatcher's own once the role has moved, which a signal box that still runs
moves first (R700, R701). -/
def execRegionReset (region : Nat) (s : State) : Answer := s.act fun s =>
  if 64 ≤ region then .fault .noSuchUnit else
  if !(s.regionsRun && s.regionFaulty region) then .next s
  else if s.boot.disp = region then
    if !s.boxUp region then .next s else
    match s.ringAfter region [] with
    | [] => .next s.partDead
    | n :: _ => .next (({ s with boot := { s.boot with takeovers := upTo8 (s.boot.takeovers + 1) } }.moveRole n []).resetRegion
        region .reset)
  else .next (s.resetRegion region .reset)

/-- A region in reset returns to service with its PLLs locked, or goes OUT (R693, R714). -/
def execRegionResetDone (region : Nat) (restarted : Bool) (s : State) : Answer := s.act fun s =>
  if 64 ≤ region then .fault .noSuchUnit else
  if (s.region region).service ≠ 1 then .next s
  else if !restarted then .next (s.goOut region)
  else .next ((s.modRegion region fun R => { R with
    service := 0, sbUp := true, aLock := true, fLock := true, fclkBorrowed := false }).refollow [])

/-- SB_RESET_CTL.GO: the dispatcher and its followers move outside SB_RESET_MASK, and every region of the mask in service is
reset, its kernels not rerun (R718). -/
def doPartitionResetGo (key : BitVec 16) (s : Gk1) : Out :=
  if key ≠ 0x6D2E || s.part ≠ .ready then .next s else
  let mask := bitsOf 64 (s.reg 0x780308 0)
  match s.ringAfter s.boot.disp mask with
  | [] => if mask.contains s.boot.disp || !s.boxUp s.boot.disp then .next s else
      .next ((mask.filter fun r => (s.region r).service = 0).foldl (fun s r => s.resetRegion r .partition) s)
  | n :: _ =>
    let s := if mask.contains s.boot.disp then s.moveRole n mask else s.refollow mask
    .next ((mask.filter fun r => (s.region r).service = 0).foldl (fun s r => s.resetRegion r .partition) s)

/-- The row PARTITION_RESET_GO: doPartitionResetGo on the part. -/
def execPartitionResetGo (key : BitVec 16) (s : State) : Answer := s.act fun s => doPartitionResetGo key s

/-! ## Sidings and replays -/

/-- A cleared siding is mapped in every copy of the points table; the packets held for the index go to it (R703). Without
one the region goes OUT (R705). -/
def execSidingSubstitution (region index : Nat) (s : State) : Answer := s.act fun s =>
  if !(decide (region < 64) && decide (index < 4000)) then .fault .noSuchUnit else
  match s.held.failing.find? fun f => f.region = region && f.index = index with
  | none => .next s
  | some f =>
    let s := { s with held := { s.held with failing := s.held.failing.filter fun g => g ≠ f } }
    let rep : Report := { kind := 2, status := f.status, ctx := f.ctx, queue := f.queue, unit := 4000 * region + index, place := f.rank }
    match (s.region region).substitute index with
    | none => .next ((s.report rep).goOut region)
    | some (R, k) =>
      let s := (s.modRegion region fun _ => R).modCluster (4000 * region + index) fun c => { c with lost := false }
      .next (s.report { rep with siding := k })

/-- The failed cluster's start image passes, which makes it a free siding, or it stays failed (R704). -/
def execBackgroundStartImage (region rank : Nat) (pass : Bool) (s : State) : Answer := s.act fun s =>
  if !(decide (region < 64) && decide (rank < 4096)) then .fault .noSuchUnit else
  if !s.held.background.contains (region, rank) || s.held.failing.any (fun f => f.region = region && f.rank = rank) then .next s
  else
    let s := { s with held := { s.held with background := s.held.background.filter fun f => f ≠ (region, rank) } }
    .next (if pass then s.modRegion region fun R => { R with failed := R.failed.filter (· ≠ rank) } else s)

/-- A cluster takes work again: it is not lost, and its region is in service. -/
def Gk1.serves (s : Gk1) (cl : Nat) : Bool := !(s.cluster cl).lost && s.boxUp (regionOf cl)

/-- A lost share is rerun once every write of it has landed or been discarded: its code is loaded and it asks for its place;
a lost grain goes back to be handed out (R709, R711). -/
def execReplayShare (kid cluster : Nat) (s : State) : Answer := s.act fun s =>
  if clusterCount ≤ cluster then .fault .noSuchUnit else
  match NMap.get? s.kernels kid with
  | none => .next s
  | some K =>
    let h := NMap.getD K.shares cluster {}
    if h.lost.isNone || K.stopped || K.rerun || !s.serves cluster || !s.enginesDone kid (fun c => clusterOf c = cluster)
    then .next s else
    let s := { s with held := { s.held with shares := upTo16 (s.held.shares + 1) } }
    match (s.cluster cluster).grain with
    | some g => .next ((s.leaveCluster kid cluster).modKernel kid fun K => { K with
        lostGrains := insertNat g K.lostGrains, admitted := K.admitted.filter (· ≠ cluster), shares := NMap.erase K.shares cluster })
    | none =>
      let s := (coresOf cluster).foldl (fun s c => s.closeEpochs c K.ctx kid) s
      let one : Kernel := { K with desc := { K.desc with q := K.desc.q.set 3 (BitVec.ofNat 64 (cluster + 2 ^ 18)) } }
      match s.loadCode one with
      | .error e => .next ((s.bulkFault K.queue e K.desc.codeVA).stopKernel kid e false)
      | .ok s =>
        .next ((s.modCluster cluster fun c => { c with admitted := none, asking := some kid }).modKernel kid fun K => { K with
          admitted := K.admitted.filter (· ≠ cluster), shares := NMap.set K.shares cluster { h with lost := none } })

/-- Under WHOLE the stopped kernel is rerun on all its clusters (R708, R709, R712). -/
def execReplayWhole (kid : Nat) (s : State) : Answer := s.act fun s =>
  match NMap.get? s.kernels kid with
  | none => .next s
  | some K =>
    if !K.rerun || K.stopped || !s.enginesDone kid (fun _ => true) || !s.stoppedDone kid K
        || !(s.kernelClusters K).all (fun cl => s.serves cl) || !K.desc.regions.all s.boxUp then .next s else
    let s := { s with held := { s.held with wholes := upTo16 (s.held.wholes + 1) } }
    let mine := (s.clusters.filter fun e => e.2.admitted = some kid).map Prod.fst
    let s := mine.foldl (fun s cl => s.leaveCluster kid cl) s
    let s := s.modKernel kid fun K => { K with
      rerun := false, admitted := [], barOvf := false, nextGrain := 0, lostGrains := [], doneGrains := 0
      shares := NMap.mapVals K.shares fun (_ : Nat) (h : Share) => { h with lost := none, dropped := false } }
    if K.desc.deferred then .next s else
    match s.loadCode K with
    | .error e => .next ((s.bulkFault K.queue e K.desc.codeVA).stopKernel kid e false)
    | .ok s => .next (K.desc.clusters.foldl (fun s n => s.modCluster n fun c => { c with asking := some kid }) s)

/-! ## Routers, stacks, the host interface -/

/-- A router's check fails: it switches to its other plane; a second failure of one router is a PART fault (R686, R692). -/
def execRouterPlaneSwitch (x y : Nat) (s : State) : Answer := s.act fun s =>
  if !(decide (x < 512) && decide (y < 512)) then .fault .noSuchUnit else
  if s.held.planes.contains (x, y) then .next s.partDead else
  let r := y / 64 * 8 + x / 64
  let s := { s with held := { s.held with planes := s.held.planes ++ [(x, y)] } }
  .next ((s.modRegion r fun R => { R with routers := upTo8 (R.routers + 1) }).report { kind := 15, unit := r, place := x + y * 512 })

/-- A router resends a flit that failed its guard code: nothing is lost (R36). -/
def execFlitRetransmit (x y : Nat) (s : State) : Answer := s.act fun s =>
  if !(decide (x < 512) && decide (y < 512)) then .fault .noSuchUnit else
  let k := y * 512 + x
  .next { s with held := { s.held with resent := NMap.set s.held.resent k (NMap.getD s.held.resent k 0 + 1) } }

/-- An uncorrectable row of a region cache slice: its sector is BAD, what it held dirty is lost, so that its word is bad from now on,
and the way is left unused until the part is reset (R398, R690). No read of the stack found it: UNCORR does not count it. -/
def execCacheRowUncorrectable (granule sector : Nat) (s : State) : Answer := s.act fun s =>
  if !(decide (granule < 2048 * granulesPerChannel) && decide (sector < 8)) then .fault .noSuchUnit else
  match NMap.get? s.cache granule with
  | none => .next s
  | some L =>
    let s := if L.dirty.getLsbD sector && !s.listed granule sector then s.listBad granule sector else s
    .next { s with
      cache := NMap.set s.cache granule { L with
        bad := L.bad ||| bit8 sector, valid := L.valid ||| bit8 sector, dirty := L.dirty &&& ~~~ (bit8 sector) }
      held := { s.held with deadWays := s.held.deadWays ++ [(gStack granule, gSlice granule, gSet granule, L.way)] } }

/-- A stack fault makes the stack LOST (R720). -/
def execStackFault (region : Nat) (s : State) : Answer := s.act fun s =>
  if 64 ≤ region then .fault .noSuchUnit else .next (if s.powered then s.loseStack region else s)

/-- A stack crosses 85 degrees (R408). -/
def execStackHotChange (region : Nat) (hot : Bool) (s : State) : Answer := s.act fun s =>
  if 64 ≤ region then .fault .noSuchUnit else .next (s.modRegion region fun R => { R with hot := hot })

/-- The standby host interface instance takes over: outstanding reads are issued again (R420, R721). Without a standby it is a
PART fault. -/
def Gk1.switchHia (s : Gk1) : Gk1 :=
  if s.edge.standbyFailed then s.partDead else
  let s := { s with
    edge := { s.edge with hia := !s.edge.hia, standbyFailed := true }
    msgs := NMap.mapVals s.msgs fun (_ : Nat) (m : Msg) => if decide (m.kind = MsgKind.hostRead) then { m with sentAt := s.dtime } else m }
  (s.countInterval.setErr hlErr 5).report { kind := 7, unit := b2n s.edge.hia }

/-- The active host interface instance fails (R721). -/
def execHiaSwitch (s : State) : Answer := s.act fun s => .next (if s.powered then s.switchHia else s)

/-- The standby instance fails: a report (R721). -/
def execStandbyHiaFault (s : State) : Answer := s.act fun s =>
  if !s.powered || s.edge.standbyFailed then .next s else
  .next ({ s with edge := { s.edge with standbyFailed := true } }.report { kind := 7, unit := b2n (!s.edge.hia) })

/-! ## Supplements -/

/-- A supplement entry (R684). -/
inductive Supp where
  | cluster (region rank : Nat)
  | lane (region channel lane : Nat)
  deriving DecidableEq, Repr

/-- Decode a supplement entry; none when it breaks R684. -/
def suppEntry (w : Nat) : Option Supp :=
  match fld w 18 2 with
  | 0 =>
    let x := fld w 0 9
    let y := fld w 9 9
    if w >>> 20 = 0 then some (.cluster (y / 64 * 8 + x / 64) (y % 64 * 64 + x % 64)) else none
  | 1 =>
    if fld w 6 3 = 0 && fld w 14 4 = 0 && decide (fld w 20 6 ≤ 35) && w >>> 26 = 0 then
      some (.lane (fld w 0 6) (fld w 9 5) (fld w 20 6))
    else none
  | _ => none

/-- Decode a whole supplement; none when it breaks R684. -/
def suppOf (bs : List Byte) : Option (List Supp) :=
  let word := fun (i : Nat) => leNat ((bs.drop (8 * i)).take 8)
  let n := fld (word 0) 0 16
  if word 0 >>> 16 ≠ 0 || decide (2048 < n) || bs.length ≠ 8 + 8 * n then none
  else (List.range n).mapM fun i => suppEntry (word (i + 1))

/-- The region of an entry. -/
def Supp.region : Supp → Nat
  | .cluster r _ => r
  | .lane r _ _ => r

/-- Apply an entry in the field (R682, R685). -/
def Gk1.applySupp (s : Gk1) (e : Supp) : Gk1 :=
  if (s.region e.region).service ≠ 0 then s else
  match e with
  | .cluster r k => match (s.region r).failRank k with
    | some R =>
      let s := match (s.region r).indexOf k with
        | some i => if (s.region r).failed.contains k then s else s.wipeCluster (4000 * r + i)
        | none => s
      s.modRegion r fun _ => R
    | none => s.goOut r
  | .lane r c l => s.eraseLane r c l

/-- DEFECT_SUPPLEMENT: the supplement as host memory gives it, none when the read faults; an entry of an owned region, or one
in reset, refuses the whole (R684, R685). -/
def execDefectSupplement (supplement : Option (List Byte)) (s : State) : Answer := s.act fun s =>
  onMgmt 7 (fun d s =>
    match supplement with
    | none => s.refuseMgmt d 0x44
    | some bs => match suppOf bs with
      | none => s.refuseMgmt d 1
      | some es =>
        if es.any fun e => (s.region e.region).owner.isSome || (s.region e.region).service ≠ 0 then s.refuseMgmt d 6
        else (es.foldl Gk1.applySupp s).finishMgmt d []) s

/-! ## Self-test -/

/-- KIND: 0 CLUSTERS, 1 SIDINGS, 2 PORTS, 3 CACHE (R724). -/
def Desc.testKind (d : Desc) : Nat := fld (d.w 3) 0 2

/-- The named units. -/
def Desc.testUnits (d : Desc) : List Nat := bitsOf (if d.testKind = 2 then 48 else 64) (d.w 4)

/-- TIMEOUT fields in ms; 0 means 1,000. -/
def timeoutNs (ms : Nat) : Nat := (if ms = 0 then 1000 else ms) * 1000000

/-- SELFTEST starts and is held; CACHE outside MAINTENANCE is refused (R725, R726, R727). -/
def execSelftest (s : State) : Answer := s.act fun s =>
  onMgmtResult 8 (fun d => 16 * d.testUnits.length) (fun d s =>
    if d.testKind = 3 && s.part ≠ .maintenance then s.refuseMgmt d 6 else s) s

/-- A named unit is free (R725). -/
def Gk1.testFree (s : Gk1) (kind u : Nat) : Bool :=
  match kind with
  | 0 => (s.region u).owner.isNone && (s.region u).service = 0
  | 1 => true
  | 2 => !(s.reg (0x404000 + 0x10 * u) (1 + 64 * 256)).testBit 0
  | _ => s.part = .maintenance

/-- A result record (R727). -/
def testRecord (unit kind tested failed first lmask sidings : Nat) (out : Bool) : List Byte :=
  leBytes 1 unit ++ leBytes 1 kind ++ leBytes 2 tested ++ leBytes 2 failed ++ leBytes 2 first ++ leBytes 4 lmask
    ++ leBytes 1 sidings ++ leBytes 1 (b2n out) ++ leBytes 2 0

/-- Write back and invalidate the lines of a stack's region cache. -/
def Gk1.flushCache (s : Gk1) (r : Nat) : Gk1 :=
  (s.cache.filter fun e => gStack e.1 = r).foldl (fun s e => s.evict e.1) s

/-- Test one unit: the state and its record. `bad` are the ranks or wavelengths that fail (R682, R725, R727). -/
def Gk1.testUnit (s : Gk1) (kind u : Nat) (bad : List Nat) : Gk1 × List Byte :=
  let R := s.region u
  match kind with
  | 0 =>
    let bad := (List.range 4096).filter fun k => bad.contains k && !R.skips.contains k && !R.failed.contains k
    let tested := 4096 - R.skips.length - R.failed.length
    let s := bad.foldl (fun s k => s.applySupp (.cluster u k)) s
    (s, testRecord u kind tested bad.length (bad.headD 0xFFFF) 0 (s.region u).freeSidings.length ((s.region u).service = 2))
  | 1 =>
    let free := R.freeSidings
    let bad := free.filter fun k => bad.contains k
    let s := s.modRegion u fun R => { R with failed := bad.foldl (fun l k => insertNat k l) R.failed }
    (s, testRecord u kind free.length bad.length (bad.headD 0xFFFF) 0 (s.region u).freeSidings.length (R.service = 2))
  | 2 =>
    let bad := (List.range 17).filter fun k => bad.contains k
    (s, testRecord u kind 17 bad.length 0xFFFF (maskOf bad) 0 false)
  | _ => (s.flushCache u, testRecord u kind 0 0 0xFFFF 0 R.freeSidings.length (R.service = 2))

/-- The held SELFTEST runs once every named unit is free: `failed` are (unit, rank or wavelength) (R725, R727). -/
def execSelftestRun (failed : List (Nat × Nat)) (s : State) : Answer := s.act fun s =>
  match s.heldMgmt 8 with
  | none => .next s
  | some c =>
    let d := c.desc
    if !d.testUnits.all (s.testFree d.testKind) then .next s else
    let r := d.testUnits.foldl (fun (a : Gk1 × List Byte) u =>
      let b := a.1.testUnit d.testKind u ((failed.filter fun f => f.1 = u).map Prod.snd)
      (b.1, a.2 ++ b.2)) (s, [])
    .next (r.1.finishMgmt d r.2)

/-- A SELFTEST still held after TIMEOUT completes MGMT_TIMEOUT (R725). -/
def execSelftestTimeout (s : State) : Answer := s.act fun s =>
  match s.heldMgmt 8 with
  | none => .next s
  | some c => if s.dtime < c.at_ + timeoutNs (fld (c.desc.w 5) 0 16) then .next s else .next (s.refuseMgmt c.desc 7)

/-! ## MAINTENANCE -/

/-- MAINT_ENTER starts: only queue 0 starts descriptors, and it is held (R728). -/
def execMaintEnter (s : State) : Answer := s.act fun s =>
  onMgmt 10 (fun _ s => { s with held := { s.held with maintEntering := true } }) s

/-- No kernel, grain, copy, bucket or snapshot runs on the part (R728). -/
def Gk1.workless (s : Gk1) : Bool :=
  s.kernels.isEmpty && s.buckets.isEmpty && s.snaps.isEmpty
    && s.queues.all fun e => e.2.recomp.isNone && !e.2.cur.any fun c => c.desc.type = 2

/-- With no work running the part enters MAINTENANCE and the held MAINT_ENTER completes (R728). -/
def execMaintenanceEntry (s : State) : Answer := s.act fun s =>
  match s.heldMgmt 10 with
  | none => .next s
  | some c =>
    if !s.workless then .next s else
    .next (({ s with part := .maintenance, held := { s.held with maintEntering := false } }).finishMgmt c.desc [])

/-- A MAINT_ENTER still held after TIMEOUT: the other queues resume (R728). -/
def execMaintEnterTimeout (s : State) : Answer := s.act fun s =>
  match s.heldMgmt 10 with
  | none => .next s
  | some c =>
    if s.dtime < c.at_ + timeoutNs (fld (c.desc.w 3) 0 16) then .next s else
    .next ({ s with held := { s.held with maintEntering := false } }.refuseMgmt c.desc 7)

/-- MAINT_EXIT: the part returns to READY; it is held while a DRAM_MARGIN runs (R730, R731). -/
def execMaintExit (s : State) : Answer := s.act fun s =>
  onMgmt 11 (fun d s =>
    if s.part ≠ .maintenance then s.refuseMgmt d 6
    else if s.held.margin.isSome then s
    else { s with part := .ready }.finishMgmt d []) s

/-- Bytes of a region's margin records (R448). -/
def marginBytes : Nat := 19456

/-- DRAM_MARGIN starts, and the next descriptor of queue 0 may start, or is refused (R411, R435, R448, R726, R731). -/
def execDramMargin (s : State) : Answer := s.act fun s =>
  onMgmtResult 9 (fun d => marginBytes * (regionMask (d.w 3)).length) (fun d s =>
    let rs := regionMask (d.w 3)
    if s.part ≠ .maintenance || s.held.margin.isSome || rs.any (fun r => (s.region r).service ≠ 0 || (s.region r).stackLost) then
      s.refuseMgmt d 6
    else
      let s := rs.foldl (fun s r => s.modRegion r fun R => { R with margining := true }) s
      { s with held := { s.held with margin := some d } }.modQueue 0 fun Q => { Q with cur := none }) s

/-- A signed byte held within -5 to +5: the steps of the VMEM sweep (R448). -/
def withinFive (b : Byte) : Byte := BitVec.ofInt 8 (max (-5) (min 5 b.toInt))

/-- The margin record of a lane from the 12 bytes that were measured (R396, R413, R448): a lane erased or spared out is not measured,
and the lane that a spare now carries for it is the spare's. -/
def Gk1.marginRecord (s : Gk1) (r c l : Nat) (m : List Byte) : List Byte :=
  let C := (s.region r).channel c
  let out := C.erasures.contains l || C.spared.any fun e => e.1 = l || (e.2 = l && (C.spared.any fun f => f.1 = e.1 && decide (e.2 < f.2)))
  let spare := !out && C.spared.any fun e => e.2 = l
  (if out then List.replicate 12 0 else m.take 6 ++ (m.drop 6 |>.take 2).map withinFive ++ (m.drop 8).take 4)
    ++ leBytes 1 l ++ leBytes 1 c ++ leBytes 1 r ++ leBytes 1 (b2n out + 2 * b2n spare)

/-- The margin records of lanes in order, each from its 16 bytes of the measurement (R448). -/
def Gk1.marginRecords (s : Gk1) : List (Nat × Nat × Nat) → List Byte → List Byte
  | [], _ => []
  | (r, c, l) :: rest, m => s.marginRecord r c l (m.take 16) ++ s.marginRecords rest (m.drop 16)

/-- The lanes of a margin result, in order: named regions, channels 0-31, lanes 0-37 (R448). -/
def marginLanes (rs : List Nat) : List (Nat × Nat × Nat) :=
  rs.flatMap fun r => (List.range 32).flatMap fun c => (List.range 38).map fun l => (r, c, l)

/-- Margining ends, as it must in MAINTENANCE: its result, whose measured steps and counts the command brings in bytes 0-11 of each
record, is written and the DRAM_MARGIN completes; a held MAINT_EXIT then returns the part to READY (R411-R413, R448, R731). -/
def execDramMarginDone (result : List Byte) (s : State) : Answer := s.act fun s =>
  match s.held.margin with
  | none => .next s
  | some d =>
    if s.part ≠ .maintenance || result.length ≠ marginBytes * (regionMask (d.w 3)).length then .next s else
    let out := s.marginRecords (marginLanes (regionMask (d.w 3))) result
    let s := { s with
      held := { s.held with margin := none }
      regions := NMap.mapVals s.regions fun (_ : Nat) (r : Region) => { r with margining := false } }
    let s := s.finishMgmt d out
    match s.heldMgmt 11 with
    | some c => .next ({ s with part := .ready }.finishMgmt c.desc [])
    | none => .next s

end Sys2Proof.Machine
end

