-- ==== Sys2Proof/Machine/Plan.lean ====
section
/-! DEFINITION. Checkpoint plans (R543-R546), recomputation (R547-R550) and snapshots (R578-R581). -/

namespace Sys2Proof.Machine

/-! ## Plans -/

/-- OP of a PLAN: 0 OPEN, 1 MARK, 2 CLOSE. -/
def Desc.planOp (d : Desc) : Nat := fld (d.w 0) 32 2

/-- KEEP of a PLAN. -/
def Desc.planKeep (d : Desc) : Bool := (d.w 0).testBit 34

/-- Start a PLAN of an OP other than CLOSE. -/
def onPlan (op queue : Nat) (run : Desc → Gk1 → Gk1) (s : Gk1) : Out :=
  onStart queue (fun d => d.type = 0xA && d.planOp = op) (fun d s =>
    if s.descBad queue d (if op = 0 then [span 32 3, span 0 52, span 0 16] else [span 32 3]) then s.finishWith queue d 1
    else run d s) s

/-- PLAN OPEN: segment 0 starts (R543, R544, R546). -/
def execPlanOpen (queue : Nat) (s : State) : Answer := s.act fun s =>
  onPlan 0 queue (fun d s =>
    let va := fld (d.w 1) 0 52
    let cap := fld (d.w 2) 0 16
    if va % 64 ≠ 0 || cap = 0 || (s.queue queue).plan.isSome then s.finishWith queue d 1 else
    (s.modQueue queue fun Q => { Q with plan := some { va := va, capacity := cap, keep := d.planKeep } }).finishWith queue d 0) s

/-- PLAN MARK: the next segment starts (R544, R546). -/
def execPlanMark (queue : Nat) (s : State) : Answer := s.act fun s =>
  onPlan 1 queue (fun d s =>
    match (s.queue queue).plan with
    | none => s.finishWith queue d 1
    | some P =>
      if 65535 ≤ P.segment + 1 then s.finishWith queue d 1 else
      (s.modQueue queue fun Q => { Q with
        plan := some { P with segment := P.segment + 1, keep := d.planKeep } }).finishWith queue d 0) s

/-- The 64 bytes of a plan header (R545). -/
def Plan.header (P : Plan) : List Byte :=
  leBytes 4 P.count ++ leBytes 2 (P.segment + 1) ++ leBytes 1 (b2n P.overflow + 2) ++ List.replicate 57 0

/-- The block of a snapshot that keeps a plan header from being written (R545, R580). -/
def Gk1.closeWait (s : Gk1) (q : Nat) (d : Desc) : Option (Nat × Nat) :=
  match (s.queue q).plan with
  | none => none
  | some P => if s.descBad q d [span 32 3] then none else (sectors P.va 64).findSome? fun p => s.snapOf (s.qctx q) p.1

/-- PLAN CLOSE: the header is written (R545, R546); a write that faults gives the status (R694, R696). -/
def execPlanClose (queue : Nat) (s : State) : Answer := s.act fun s =>
  onStartAfter queue (fun d => d.type = 0xA && d.planOp = 2) (fun d => s.closeWait queue d) (fun d s =>
    if s.descBad queue d [span 32 3] then s.finishWith queue d 1 else
    match (s.queue queue).plan with
    | none => s.finishWith queue d 1
    | some P =>
      let s := s.modQueue queue fun Q => { Q with plan := none }
      match s.writeRange (s.qctx queue) (s.qEnforced queue) (sectors P.va 64) P.header with
      | (s, none) => (s.hasWritten (s.qctx queue) P.va 64).finishWith queue d 0
      | (s, some e) => (s.bulkFault queue e P.va).finishWith queue d e) s

/-! ## Recomputation -/

/-- The 64-bit words of bytes. -/
def wordsOf (bs : List Byte) : List (BitVec 64) :=
  (List.range (bs.length / 8)).map fun i => BitVec.ofNat 64 (leNat ((bs.drop (8 * i)).take 8))

/-- An entry is to be replayed (R548). -/
def chosen (d : Desc) (e : List (BitVec 64)) : Bool :=
  let m := (e.getD 6 0).toNat
  decide (fld (d.w 2) 0 16 ≤ fld m 0 16) && decide (fld m 0 16 ≤ fld (d.w 2) 16 16) && ((d.w 0).testBit 32 || !m.testBit 16)

/-- The entries that a RECOMPUTE replays, or the status that refuses it and the address of a fault (R548, R550). -/
def Gk1.planEntries (s : Gk1) (q : Nat) (d : Desc) : Except (Nat × Option Nat) (List (List (BitVec 64))) :=
  let va := fld (d.w 1) 0 52
  let get := fun (a n : Nat) => s.readRange (s.qctx q) (s.qEnforced q) (sectors a n)
  if va % 64 ≠ 0 then .error (1, none) else
  match get va 64 with
  | .error e => .error (e, some va)
  | .ok h =>
    let flags := ((h.getD 6 0).toNat)
    if flags.testBit 0 || !flags.testBit 1 then .error (1, none) else
    let n := leNat (h.take 4)
    match get (va + 64) (64 * n) with
    | .error e => .error (e, some (va + 64))
    | .ok bs => .ok (((List.range n).map fun i => wordsOf ((bs.drop (64 * i)).take 64)).filter (chosen d))

/-- Bytes of a plan that a RECOMPUTE has read: its header and its entries. -/
def Gk1.planBytes (s : Gk1) (q : Nat) (d : Desc) : Nat :=
  match s.readRange (s.qctx q) (s.qEnforced q) (sectors (fld (d.w 1) 0 52) 64) with
  | .ok h => 64 + 64 * leNat (h.take 4)
  | .error _ => 0

/-- A RECOMPUTE reads its plan; with no entry to replay it completes (R547-R550). -/
def execRecompute (queue : Nat) (s : State) : Answer := s.act fun s =>
  onStart queue (fun d => d.type = 0xB) (fun d s =>
    if s.descBad queue d [span 32 1, span 0 52, span 0 32, span 0 64] then s.finishWith queue d 1 else
    let r := s.planEntries queue d
    let s := { s with free := s.free + 1 }
    let s := if r.isOk then s.hasRead (s.qctx queue) (fld (d.w 1) 0 52) (s.planBytes queue d) else s
    match r with
    | .error (e, none) => s.finishWith queue d e
    | .error (e, some a) => (s.bulkFault queue e a).finishWith queue d e
    | .ok [] => s.finishWith queue d 0
    | .ok es => s.modQueue queue fun Q => { Q with
        recomp := some { entries := es, pdelta := d.q.getD 3 0, phase := BitVec.ofNat 3 d.phase } }) s

/-- The KERNEL that a recorded entry runs as (R548, R549). -/
def replayDesc (d : Desc) (R : Recomp) (e : List (BitVec 64)) : Desc :=
  let q0 := (e.getD 0 0).toNat
  let q0 := if R.phase = 7 then q0 else setFld q0 10 3 R.phase.toNat
  let q2 := (e.getD 2 0).toNat
  let q2 := setFld q2 0 52 (fld q2 0 52 + fld R.pdelta.toNat 0 52)
  { ring := d.ring, seq := d.seq, replayed := true
    q := (((e.set 0 (BitVec.ofNat 64 q0)).set 2 (BitVec.ofNat 64 q2)).set 6 0) }

/-- The next recorded kernel of a RECOMPUTE runs in its place; one that is refused fails the RECOMPUTE (R548, R549). -/
def execRecomputeEntry (queue : Nat) (s : State) : Answer := s.act fun s =>
  if queueCount ≤ queue then .fault .noSuchUnit else
  match (s.queue queue).recomp, (s.queue queue).cur with
  | some R, some c =>
    match R.kid, R.entries with
    | none, e :: es =>
      let d := replayDesc c.desc R e
      let code := if !d.normalKernel then 1 else s.kernelRefusal queue d
      if code ≠ 0 then .next ((s.modQueue queue fun Q => { Q with
        recomp := some { R with entries := es } }).recompDone queue { status := code })
      else
        let kid := s.nextId
        .next ((s.addKernel queue d).modQueue queue fun Q => { Q with recomp := some { R with entries := es, kid := some kid } })
    | _, _ => .next s
  | _, _ => .next s

/-! ## Snapshots -/

/-- A word of a snapshot's descriptor. -/
def Snap.w (S : Snap) (n : Nat) : Nat := (S.q.getD n 0).toNat
/-- SRCVA. -/
def Snap.src (S : Snap) : Nat := S.srcVA
/-- LEN in blocks of 64 KiB. -/
def Snap.blocks (S : Snap) : Nat := S.len / 65536
/-- DKIND: 0 host, 1 device, 2 peer. -/
def Snap.kind (S : Snap) : Nat := fld (S.w 0) 32 2
/-- FENCE. -/
def Snap.fence (S : Snap) : Nat := fld (S.w 4) 32 24

/-- Bits of a SNAPSHOT that are no reserved field (R578). -/
def snapMasks (kind : Nat) : List Nat :=
  [span 32 2, span 0 52, span 0 41, span 0 64, (if kind = 2 then span 0 56 else span 32 24), span 0 64]

/-- A SNAPSHOT starts and completes, its copying to follow; a fifth waits (R578, R579, R581). -/
def execSnapshot (queue : Nat) (s : State) : Answer := s.act fun s =>
  onStart queue (fun d => d.type = 0xD && decide (s.snaps.length < 4)) (fun d s =>
    let kind := fld (d.w 0) 32 2
    let len := fld (d.w 2) 0 41
    if s.descBad queue d (snapMasks kind) || kind = 3 || len % 65536 ≠ 0 || decide (2 ^ 40 < len) then s.finishWith queue d 1 else
    ({ s with
      snaps := NMap.set s.snaps s.nextId { queue := queue, ctx := s.qctx queue, q := d.q, enforced := s.qEnforced queue }
      nextId := s.nextId + 1 }).finishWith queue d 0) s

/-- A fault ends a snapshot, abandons its fence and is reported (R579, R696). -/
def Gk1.failSnap (s : Gk1) (id : Nat) (S : Snap) (code addr : Nat) : Gk1 :=
  let s := { s with snaps := NMap.erase s.snaps id }.bulkFault S.queue code addr
  match s.fenceRef S.ctx S.fence with
  | some (.local_ c n) => s.abandonFence c n
  | _ => s

/-- Read source bytes; a page of host memory faults with PAGE_FAULT (R581). -/
def Gk1.snapRead (s : Gk1) (S : Snap) : List (Nat × Nat) → Except (Nat × Nat) (List Byte)
  | [] => .ok []
  | (a, k) :: rest =>
    match s.translate S.ctx false S.enforced a with
    | .ok (.host _) => .error (0x40, a)
    | _ => match s.readVA S.ctx S.enforced a k, s.snapRead S rest with
      | .ok b, .ok bs => .ok (b ++ bs)
      | .error e, _ => .error (e, a)
      | _, .error e => .error e

/-- The pieces of at most 512 bytes of a write to a peer, none across a 512-byte boundary of the target (R523): address and
bytes. -/
def peerParts : Nat → Nat → List Byte → List (Nat × List Byte)
  | 0, _, _ => []
  | fuel + 1, a, bs =>
    if bs.isEmpty then [] else
    let k := 512 - a % 512
    (a, bs.take k) :: peerParts fuel (a + k) (bs.drop k)

/-- A core number that no core has: messages of the part's own engines. -/
def noCore : Nat := coreCount

/-- Send bytes to a peer for an engine that the queue engine runs, as WRITE packets of a request (R516, R523, log 33). -/
def Gk1.writePeer (s : Gk1) (rid ctx part : Nat) (enforced : Bool) (a : Nat) (bs : List Byte) : Gk1 :=
  (peerParts (bs.length + 1) a bs).foldl (fun s p =>
    let m : Msg := {
      kind := .write, rid := rid, core := noCore, ctx := ctx, enforced := enforced, place := .peer part p.1
      data := (List.range p.2.length).zip p.2, len := p.2.length, sentAt := s.dtime }
    ({ s with nextId := s.nextId + 1 }.countCtx ctx 9 p.2.length).sendPeer s.nextId m) s

/-- Deliver a block to a snapshot's destination: the state, and the first fault with its address (R578, R579). -/
def Gk1.snapWrite (s : Gk1) (id : Nat) (S : Snap) (b : Nat) (bs : List Byte) : Gk1 × Option (Nat × Nat) :=
  let a := S.w 3 + 65536 * b
  match S.kind with
  | 0 => ((hostPieces (bs.length + 1) a bs).foldl (fun s p => s.post p.1 p.2) s, none)
  | 1 => match s.writeRange S.ctx S.enforced (sectors a bs.length) bs with
    | (s, some e) => (s, some (e, a))
    | (s, none) => (s.hasWritten S.ctx a bs.length, none)
  | _ =>
    let part := fld (S.w 4) 0 32
    if !(s.ctxPart S.ctx).testBit 49 || (S.enforced && !inPart (s.ctxPart S.ctx) part) then (s, some (2, a))
    else (s.writePeer id S.ctx part S.enforced a bs, none)

/-- Blocks read ahead of the ascending order. -/
def earlyBlocks (n : Nat) (read : List Nat) : Nat :=
  match (List.range n).find? fun b => !read.contains b with
  | some p => (read.filter fun b => decide (p < b)).length
  | none => 0

/-- The copier reads one block and sends it on; what it writes on this part waits first for every other snapshot that has yet to read
those bytes, whose copier reads their block (R579, R580). -/
def copyBlock : Nat → Gk1 → Nat → Snap → Nat → Gk1
  | fuel, s, id, S, b => match s.snapRead S (sectors (S.src + 65536 * b) 65536) with
    | .error (e, a) => s.failSnap id S e a
    | .ok bs =>
      let read := insertNat b S.read
      let S' : Snap := { S with read := read, wanted := S.wanted.filter (· ≠ b), early := earlyBlocks S.blocks read }
      let s := { s with snaps := NMap.set s.snaps id S' }.hasRead S.ctx (S.src + 65536 * b) 65536
      let s := match fuel with
        | 0 => s
        | fuel + 1 => if S.kind ≠ 1 || s.snaps.length < 2 then s else
          (sectors (S.w 3 + 65536 * b) 65536).foldl (fun (s : Gk1) (p : Nat × Nat) => match s.snapOf S.ctx p.1 with
            | some (i, c) => match NMap.get? s.snaps i with
              | some T => copyBlock fuel s i T c
              | none => s
            | none => s) s
      match s.snapWrite id S b bs with
      | (s, none) => s
      | (s, some (e, a)) => s.failSnap id S' e a

/-- The copier of a snapshot reads one block. -/
def Gk1.copyBlock (s : Gk1) (id : Nat) (S : Snap) (b : Nat) : Gk1 :=
  Machine.copyBlock (s.snaps.map fun e => e.2.blocks).sum s id S b

/-- The copier reads a block that a write waits on, or the next in ascending order (R580). -/
def execSnapshotBlockRead (snap : Nat) (s : State) : Answer := s.act fun s =>
  match NMap.get? s.snaps snap with
  | none => .next s
  | some S =>
    match S.wanted.head?.orElse fun _ => (List.range S.blocks).find? fun b => !S.read.contains b with
    | some b => .next (s.copyBlock snap S b)
    | none => .next s

/-- Every write of a snapshot has landed: its fence is signalled (R579). -/
def execSnapshotDone (snap : Nat) (s : State) : Answer := s.act fun s =>
  match NMap.get? s.snaps snap with
  | none => .next s
  | some S =>
    if S.read.length < S.blocks || s.msgs.any (fun m => m.2.rid = snap && m.2.core = noCore) then .next s else
    .next ({ s with snaps := NMap.erase s.snaps snap }.signalFence S.ctx S.fence (S.w 5) S.queue)

/-- The copier reads a block that a write waits on next; while 1,024 have been read out of order it reads in ascending order until it
has reached the block (R580). -/
def Gk1.readUp (s : Gk1) (i b : Nat) : Gk1 :=
  match NMap.get? s.snaps i with
  | none => s
  | some S =>
    if S.early < 1024 then s.copyBlock i S b else
    ((List.range (b + 1)).filter fun k => !S.read.contains k).foldl (fun s k => match NMap.get? s.snaps i with
      | some S => s.copyBlock i S k
      | none => s) s

/-- Before an engine writes bytes of a context, the copier of each snapshot that has yet to read them reads their blocks:
the write waits for it (R580). -/
def Gk1.readAhead (s : Gk1) (ctx va n : Nat) : Gk1 :=
  (sectors va n).foldl (fun s p =>
    (List.range s.snaps.length).foldl (fun s _ => match s.snapOf ctx p.1 with
      | some (i, b) => s.readUp i b
      | none => s) s) s

end Sys2Proof.Machine
end

