-- ==== Sys2Proof/Machine/Fabric.lean ====
section
/-! DEFINITION. The Edzous fabric (R503-R541): ports and their link layer, packets that arrive, their answers at the source,
resending and reachability, watches between parts. -/

namespace Sys2Proof.Machine

/-- The FAB_, QE_, PT_, MEM_ and OBS_ registers work (R658). -/
def Gk1.blocksWork (s : Gk1) : Bool :=
  s.part = .ready || s.part = .maintenance || (s.part = .faulted && s.boot.waves = 16)

/-! ## Arrival and forwarding -/

/-- Answer a packet: a READ_REQ by a READ_REPLY, any other by an ACK (R515, R516). -/
def Gk1.reply (s : Gk1) (p : Packet) (result status : Nat) (payload : List Byte) : Gk1 :=
  s.sendKept (answerTo s p (if pType p = 4 then 5 else 6) result status payload)

/-- An answer names this message: TAG, and the source's core, stream and epoch, are copied (R514, R576, log 34). An answer
NO_ROUTE may come from a part on the way. -/
def Gk1.answers (s : Gk1) (a : Packet) (id : Nat) (m : Msg) : Bool :=
  let q := s.packetOf id m
  m.place.isPeer && m.pkt.isNone && !m.unsent && m.returned.isNone
    && (m.kind = .write || m.kind = .read || m.kind = .epochEnd || m.kind = .exch)
    && (m.kind = .read) == (pType a = 5) && (pResult a = 4 || pDst q = pSrc a)
    && pTag q = pTag a && pScore q = pScore a && pStream q = pStream a && pEpoch q = pEpoch a

/-- The oldest message that an answer names. -/
def Gk1.answeredMsg (s : Gk1) (a : Packet) : Option (Nat × Msg) := s.msgs.find? fun e => s.answers a e.1 e.2

/-- No port leads to the destination of a packet that the part routes: its source learns NO_ROUTE (R518, R538). The part's own
packet waits to be sent again. -/
def Gk1.noWay (s : Gk1) (p : Packet) : Gk1 :=
  if pSrc p ≠ s.self then s.reply p 4 0 [] else
  match s.msgs.find? fun e => s.packetOf e.1 e.2 = p with
  | some (id, m) => s.setMsg id { m with noRoute := some s.dtime }
  | none => { s with kept := NMap.set s.kept s.nextId (p, s.dtime), nextId := s.nextId + 1 }

/-- Send a packet on that has crossed fewer than 4 links (R512, R518). -/
def Gk1.forward (s : Gk1) (came : Option Nat) (p : Packet) : Gk1 :=
  let r := s.sendFrom came p
  if r.2 then r.1 else s.noWay p

/-- HOPS one higher (R512). -/
def hopped (p : Packet) : Packet := { p with h0 := BitVec.ofNat 64 (setFld p.h0.toNat 5 3 (min (pHops p + 1) 7)) }

/-- Ports of the part. -/
def portCount : Nat := 48

/-- The flits of a packet have been received: they are counted, acknowledged, and take room in the receive store (R508, R510).
A packet that the part sent to itself is taken from the pseudo-port. -/
def Gk1.counted (s : Gk1) (port : Nat) (p : Packet) : Gk1 :=
  if port = selfPort then s.modPort port fun P => { P with sent := P.sent.erase p } else
  ((s.modPort port fun P => { P with rxCount := (P.rxCount + pFlits p) % 2 ^ 32 }).notify port 0 0).modPort port fun P =>
    { P with room := (Shares.fill P.room (poolOf p) (pFlits p)).getD P.room }

/-- A packet can come in on a port: a port that is UP or DEGRADED, or one the part has sent to itself. -/
def Gk1.mayTake (s : Gk1) (port : Nat) (p : Packet) : Bool :=
  if port = selfPort then (s.port selfPort).sent.contains p else s.portUp port

/-- A packet arrives on a port: its flits are good, and it is delivered, sent on, or dropped (R508, R512, R517, R518); one behind
an uncorrectable flit is discarded (R507). A packet of another type than the row's, or on a port that is not UP, changes
nothing. -/
def onPacket (ok : Nat → Bool) (port : Nat) (p : Packet) (deliver : Packet → Gk1 → Gk1) (s : Gk1) : Out :=
  if portCount < port then .fault .noSuchUnit else
  if !ok (pType p) || !s.mayTake port p then .next s else
  if port ≠ selfPort && (s.port port).skip ≠ 0 then .next (s.modPort port fun P => { P with skip := P.skip - 1 }) else
  let p' := if port = selfPort then p else hopped p
  let s := s.counted port p
  match s.route p' with
  | .foreign => .next (s.countDrop 0)
  | .self => .next (deliver p' s)
  | .none => .next (if 4 ≤ pHops p' then (s.countDrop 1).reply p' 4 0 [] else s.noWay p')
  | .port _ => .next (if 4 ≤ pHops p' then (s.countDrop 1).reply p' 4 0 [] else s.forward (some port) p')

/-- The context in which a packet of a peer acts: a LIVE one whose VALID partition has the PID and the source (R521). -/
def Gk1.acceptCtx (s : Gk1) (p : Packet) : Option Nat :=
  (List.range 64).find? fun c => decide (c ≠ 0) && (s.ctx c).state = 1 && inPart (s.ctxPart c) (pSrc p)
    && fld (s.ctxPart c) 0 16 = pPid p

/-- Accept a packet by its partition, or answer REFUSED; in MAINTENANCE answer RETRY (R521, R729). -/
def Gk1.passed (s : Gk1) (p : Packet) (run : Nat → Gk1) : Gk1 :=
  if s.part = .maintenance && pType p ≠ 3 then s.reply p 1 0 [] else
  match s.acceptCtx p with
  | some c => run c
  | none => (s.countDrop 2).reply p 2 0 []

/-- A type that the packet type table does not name, or that is not sent (R515, R576). -/
def unknownType (type : Nat) : Bool := (classOf type).isNone && type ≠ 0x1F || type = 0x16 || type = 0x17

/-- A packet of an unknown type is dropped and counted (R515). -/
def execUnknownPacketType (port : Nat) (p : Packet) (s : State) : Answer := s.act fun s =>
  if portCount ≤ port then .fault .noSuchUnit else
  if !unknownType (pType p) || !s.portUp port then .next s else
  if (s.port port).skip ≠ 0 then .next (s.modPort port fun P => { P with skip := P.skip - 1 }) else
  .next ((s.counted port p).countDrop 0)

/-! ## Requests of peers -/

/-- The message of a peer's write (R524, R530). -/
def Gk1.peerMsg (s : Gk1) (p : Packet) (ctx : Nat) (closing : Bool) : Msg :=
  { kind := .write, core := pScore p, ctx := ctx, place := .dev (pAddr p)
    data := (List.range p.payload.length).zip p.payload, len := p.payload.length, stream := some (pStream p)
    epoch := pEpoch p, closing := closing, ecount := if closing then pEcount p else 0, sentAt := s.dtime, pkt := some p }

/-- Epochs of peers that the epoch table holds (R530). -/
def epochPlaces : Nat := 16384

/-- The epoch table has no place for a write's epoch (R530). -/
def Gk1.epochFull (s : Gk1) (m : Msg) : Bool :=
  (s.epochOf m).isNone && decide (epochPlaces ≤ (s.epochs.filter fun e => e.part ≠ 0).length)

/-- A peer's WRITE: its sectors land, then it is answered (R521, R524, R530, R729). -/
def execFabWrite (port : Nat) (p : Packet) (s : State) : Answer := s.act fun s =>
  onPacket (· = 1) port p (fun p s => s.passed p fun c =>
    let m := s.peerMsg p c false
    if s.epochFull m then s.reply p 1 0 [] else ((s.openEpoch m).addMsg m).arrive s.nextId m) s

/-- A peer's WRITE_CLOSE: performed, held or returned by the count of its epoch (R521, R531, R729). -/
def execWriteClose (port : Nat) (p : Packet) (s : State) : Answer := s.act fun s =>
  onPacket (· = 2) port p (fun p s => s.passed p fun c =>
    let m := s.peerMsg p c true
    (s.addMsg m).arrive s.nextId m) s

/-- A peer's EPOCH_END frees the epoch's entry (R521, R532). -/
def execEpochEnd (port : Nat) (p : Packet) (s : State) : Answer := s.act fun s =>
  onPacket (· = 3) port p (fun p s => s.passed p fun c => (s.dropEpoch (s.peerMsg p c false)).reply p 0 0 []) s

/-- A peer's READ_REQ is answered with LEN + 1 sectors, or with its fault (R521, R525, R729). -/
def execReadReq (port : Nat) (p : Packet) (s : State) : Answer := s.act fun s =>
  onPacket (· = 4) port p (fun p s => s.passed p fun c =>
    let n := 32 * (pLen p + 1)
    match s.readPeer c (sectors (pAddr p) n) with
    | .ok bs => ({ s.countCtx c 7 n with free := s.free + 1 }).reply p 0 0 bs
    | .error e => s.reply p 3 e []) s

/-! ## Answers at the source -/

/-- A bucket's access faults: counted, and its first one is reported (R694, R696). -/
def Gk1.faultBucket (s : Gk1) (key code addr : Nat) : Gk1 :=
  match NMap.get? s.buckets key with
  | none => s
  | some B =>
    let s := s.countCtx B.ctx 11 1
    if B.faulted then s else
    { s with buckets := NMap.set s.buckets key { B with faulted := true } }.report {
      kind := 1, status := code, ctx := B.ctx, queue := B.queue, detail := addr }

/-- A snapshot's write to a peer faults: the snapshot ends (R579). -/
def Gk1.faultSnap (s : Gk1) (id code addr : Nat) : Gk1 :=
  match NMap.get? s.snaps id with
  | some S => { s with msgs := s.msgs.filter fun e => !(e.2.rid = id && e.2.core = noCore) }.failSnap id S code addr
  | none => s

/-- A request to a peer has been carried out (R516, R532). -/
def Gk1.peerDone (s : Gk1) (id : Nat) (m : Msg) (a : Packet) : Gk1 :=
  match m.kind with
  | .read => (s.deliver id m a.payload).pump m.core
  | .epochEnd =>
    ((s.delMsg id).modCore m.core fun C => { C with
      epochs := C.epochs.filter fun r => !(r.ending && some r.stream = m.stream && r.target = m.place.target) }).pump m.core
  | .write => if m.core = noCore then s.delMsg id else s.answered id m
  | .exch | .atom | .ack | .readReply | .atomReply | .heapReply | .arrival | .hostRead => s.delMsg id

/-- A request to a peer has been refused or has faulted (R516, R569, R579, R694). -/
def Gk1.peerFault (s : Gk1) (id : Nat) (m : Msg) (a : Packet) (code : Nat) : Gk1 :=
  match m.kind with
  | .read => (s.readFault id m code).pump m.core
  | .write =>
    if m.core = noCore then (s.delMsg id).faultSnap m.rid code m.place.addr
    else (s.accessFault m.kid m.ctx m.rid m.core code m.place.addr).answered id m
  | .exch => (s.delMsg id).faultBucket m.rid code (pAddr (s.packetOf id m))
  | .epochEnd | .atom | .ack | .readReply | .atomReply | .heapReply | .arrival | .hostRead => s.peerDone id m a

/-- A WATCH_REQ was answered RETRY or NO_ROUTE: it is sent again after 1 ms, or after FAB_CTL.RETRY (R535, R538). -/
def Gk1.watchRetry (s : Gk1) (a : Packet) : Gk1 :=
  { s with importWatches := NMap.mapVals s.importWatches fun (i : Nat) (w : ImportWatch) =>
      if i % 2 ^ 32 = pTag a && (pResult a = 4 || fld w.lo.toNat 0 32 = pSrc a) then
        (if pResult a = 4 then { w with noRouteAt := some s.dtime } else { w with retryAt := some s.dtime, asked := none })
      else w }

/-- An answer arrives (R516). Any but NO_ROUTE shows that its source is reachable (R538). -/
def Gk1.takeAnswer (s : Gk1) (a : Packet) : Gk1 :=
  let s := if pResult a = 4 then s else { s with unreachable := s.unreachable.filter (· ≠ pSrc a) }
  match s.answeredMsg a with
  | some (id, m) => match pResult a with
    | 0 => s.peerDone id m a
    | 1 => s.setMsg id { m with returned := some s.dtime }
    | 2 => s.peerFault id m a 2
    | 3 => s.peerFault id m a (pStatus a)
    | 4 => s.setMsg id { m with noRoute := some s.dtime }
    | _ => s
  | none => if pResult a = 1 || pResult a = 4 then s.watchRetry a else s

/-- Read data, or what became of the read, from a peer (R516, R525). -/
def execReadReply (port : Nat) (p : Packet) (s : State) : Answer := s.act fun s => onPacket (· = 5) port p (fun p s => s.takeAnswer p) s

/-- An ACK (R516). -/
def execFabAck (port : Nat) (p : Packet) (s : State) : Answer := s.act fun s => onPacket (· = 6) port p (fun p s => s.takeAnswer p) s

/-- A packet answered RETRY is sent again after 1 us (R516). -/
def execRetryResend (id : Nat) (s : State) : Answer := s.act fun s =>
  match NMap.get? s.msgs id with
  | none => .next s
  | some m =>
    match m.returned with
    | some t => if m.place.isPeer && decide (t + 1000 ≤ s.dtime) then .next (s.sendPeer id { m with sentAt := s.dtime }) else .next s
    | none => .next s

/-- A packet answered NO_ROUTE, one that found no usable port, or a request to an unreachable part, is sent again every
FAB_CTL.RETRY (R538). -/
def execNoRouteResend (id : Nat) (s : State) : Answer := s.act fun s =>
  match NMap.get? s.msgs id with
  | some m =>
    match m.noRoute with
    | some t => if m.place.isPeer && s.retryDue t then .next (s.sendPeer id m) else .next s
    | none => .next s
  | none =>
    match NMap.get? s.kept id with
    | some e => if s.retryDue e.2 then .next ({ s with kept := NMap.erase s.kept id }.sendKept e.1) else .next s
    | none => .next s

/-- FAB_CTL.UNREACH, in ns. -/
def Gk1.unreachLimit (s : Gk1) : Nat := max (fld s.fabCtl 8 8) 1 * 1000000

/-- The route entry of a part of the installation names ports, and none of them has been usable for FAB_CTL.UNREACH (R538,
log 44). -/
def Gk1.routeDead (s : Gk1) (peer : Nat) : Bool :=
  let off := s.routeReg peer
  let mask := bitsOf 48 (s.reg off 0)
  decide (peer < 2 ^ 32) && decide (peer ≠ s.self) && fld peer 16 16 = fld s.self 16 16 && !mask.isEmpty
    && (mask.all fun p => !s.portUp p && decide ((s.port p).downAt + s.unreachLimit ≤ s.dtime))
    && decide (NMap.getD s.routedAt off 0 + s.unreachLimit ≤ s.dtime)

/-- A request to a peer has had no answer for FAB_CTL.UNREACH, or its route entry no usable port for as long (R538). -/
def Gk1.silent (s : Gk1) (peer : Nat) : Bool :=
  s.msgs.any (fun e => e.2.place.isPeer && e.2.place.part = peer && e.2.pkt.isNone && !e.2.unsent && e.2.returned.isNone
      && decide (e.2.sentAt + s.unreachLimit ≤ s.dtime))
    || (s.importWatches.any fun e => fld e.2.lo.toNat 0 32 = peer && (match e.2.asked with
      | some t => decide (t + s.unreachLimit ≤ s.dtime)
      | none => false))
    || s.routeDead peer

/-- What is pending for a part that has become unreachable: requests are sent again every FAB_CTL.RETRY, and the watches of its
fences read as abandoned (R494, R538). -/
def Gk1.loseDestination (s : Gk1) (peer : Nat) : Gk1 :=
  { s with
    unreachable := s.unreachable ++ [peer]
    msgs := NMap.mapVals s.msgs fun (_ : Nat) (m : Msg) =>
      if m.place.isPeer && m.place.part = peer && m.pkt.isNone && !m.unsent && m.returned.isNone && m.noRoute.isNone then
        { m with noRoute := some s.dtime } else m
    importWatches := NMap.mapVals s.importWatches fun (_ : Nat) (w : ImportWatch) =>
      if fld w.lo.toNat 0 32 = peer then
        { w with unreachable := true, noRouteAt := if w.asked.isSome then some s.dtime else w.noRouteAt } else w }

/-- A destination becomes unreachable: counted and reported, its watches read as abandoned, and what stopped kernels and contexts in
TEARDOWN still have pending for it is discarded (R494, R500, R538). -/
def execDestinationUnreachable (peer : Nat) (s : State) : Answer := s.act fun s =>
  if s.unreachable.contains peer || !s.silent peer then .next s else
  let s := ((s.loseDestination peer).countDrop 3).report { kind := 9, detail := peer }
  let s := (s.kernels.filter fun e => e.2.stopped).foldl (fun s e => s.dropMsgs e.1 fun _ => true) s
  .next { s with msgs := s.msgs.filter fun e =>
    !(e.2.place.isPeer && e.2.place.part = peer && e.2.ofEngine e.2.ctx && (s.ctx e.2.ctx).state = 2) }

/-! ## Watches between parts -/

/-- A 64-bit word of a packet's payload. -/
def pWord (p : Packet) (n : Nat) : Nat := leNat ((p.payload.drop (8 * n)).take 8)

/-- The watch that an owner holds for a peer on a handle. -/
def Gk1.heldWatch (s : Gk1) (p : Packet) : Option (Nat × OwnerWatch) :=
  let lo := pWord p 0
  s.ownerWatches.find? fun e =>
    e.2.part = pSrc p && e.2.ctx = fld lo 32 6 && e.2.gen = fld lo 38 8 && e.2.fence = fld lo 46 14 && e.2.check.toNat = pWord p 1

/-- Watches that a part holds as owner (R535). -/
def watchPlaces : Nat := 65536

/-- A WATCH_REQ: the owner answers with the value, as abandoned when it refuses, or RETRY when it can hold no more watches
(R493, R534, R535). -/
def execWatchReq (port : Nat) (p : Packet) (s : State) : Answer := s.act fun s =>
  onPacket (· = 8) port p (fun p s =>
    match s.heldWatch p with
    | some e => s.sendValue e.1 e.2 (pTag p)
    | none =>
      let lo := pWord p 0
      let w : OwnerWatch := { part := pSrc p, ctx := fld lo 32 6, gen := fld lo 38 8, fence := fld lo 46 14, check := BitVec.ofNat 64 (pWord p 1) }
      if decide (watchPlaces ≤ s.ownerWatches.length) && s.watchGood w.ctx w.gen w.fence w.check.toNat then s.reply p 1 0 [] else
      { s with nextId := s.nextId + 1 }.sendValue s.nextId w (pTag p)) s

/-- A WATCH_VALUE with a higher WSEQ than the last one used is taken (R493, R494, R534). -/
def execWatchValue (port : Nat) (p : Packet) (s : State) : Answer := s.act fun s =>
  onPacket (· = 9) port p (fun p s =>
    let s := { s with unreachable := s.unreachable.filter (· ≠ pSrc p) }
    let wseq := pWord p 3 % 2 ^ 32
    { s with importWatches := NMap.mapVals s.importWatches fun (_ : Nat) (w : ImportWatch) =>
        if w.lo.toNat = pWord p 0 && w.check.toNat = pWord p 1 && fld w.lo.toNat 0 32 = pSrc p
            && (match w.wseq with | some q => decide (q < wseq) | none => true) then
          { w with
            value := BitVec.ofNat 64 (pWord p 2), abandoned := (pWord p 3).testBit 32, wseq := some wseq
            retryAt := none, noRouteAt := none, asked := none }
        else w }) s

/-- A WATCH_END: the owner forgets the watch (R494, R535). -/
def execWatchEnd (port : Nat) (p : Packet) (s : State) : Answer := s.act fun s =>
  onPacket (· = 0xA) port p (fun p s => match s.heldWatch p with
    | some e => { s with ownerWatches := NMap.erase s.ownerWatches e.1 }
    | none => s) s

/-! ## Ports -/

/-- A port may train (R506). -/
def Gk1.mayTrain (s : Gk1) (p : Nat) : Bool := s.fabCtl.testBit 0 && (s.portCtl p).testBit 0

/-- Ports that may train leave DOWN for TRAINING, and a port that may no longer train leaves TRAINING (R506). -/
def Gk1.trainPorts (s : Gk1) : Gk1 :=
  (List.range portCount).foldl (fun s p =>
    if s.mayTrain p && (s.port p).state = 0 then s.modPort p fun P => { P with state := 1 }
    else if !s.mayTrain p && (s.port p).state = 1 then s.modPort p fun P => { P with state := 0 } else s) s

/-- A port goes DOWN or FAILED: nothing is routed to it, its partner's part is told what it received, its replay store awaits the
partner's RECOVER, and the packets that waited for credits take other ways (R536, R537). -/
def Gk1.loseLink (s : Gk1) (p st : Nat) : Gk1 :=
  let P := s.port p
  let was := decide (P.state = 2) || decide (P.state = 3)
  let s := s.modPort p fun P => { P with
    state := st, waiting := [], taken := [], room := [], erased := [], switching := [], laneCorr := [], noisy := [], skip := 0
    store := [], old := if was then P.old ++ [P.store] else P.old, downAt := if was then s.dtime else P.downAt }
  let s := if was then
    s.sendKept (({ type := 0xC, dst := P.partner, src := s.self, addr := p, tag := P.rxCount } : Hdr).packet []) else s
  P.waiting.foldl (fun s w => s.forward w.1 w.2) s

/-- A port fault: the port goes DOWN or FAILED and is reported (R509, R536, R537, R541, R722). -/
def Gk1.portFault (s : Gk1) (p st : Nat) : Gk1 := (s.loseLink p st).report { kind := 8, unit := p }

/-- 2 us without a frame that the port could decode (R536). -/
def execPortDown (port : Nat) (s : State) : Answer := s.act fun s =>
  if portCount ≤ port then .fault .noSuchUnit else
  .next (if s.portUp port then s.portFault port 0 else s)

/-- A port trains: with a GK1 port of the same INSTALL it becomes UP, lane k on wavelength k and wavelength 16 the spare; with
any other partner, or without one of the sixteen wavelengths, it stays in TRAINING (R503, R506, log 45). -/
def execPortTrainUp (port install : Nat) (lanes : BitVec 17) (s : State) : Answer := s.act fun s =>
  if portCount ≤ port then .fault .noSuchUnit else
  let st := (s.port port).state
  if !(s.mayTrain port && (st = 0 || st = 1)) then .next s else
  if install ≠ fld s.self 16 16 || lanes.toNat % 2 ^ 16 ≠ 0xFFFF then .next (s.modPort port fun P => { P with state := 1 }) else
  .next (s.modPort port fun P => {
    state := 2, lanes := 0xFFFF, lock := true, partner := P.partner, sent := P.sent, notices := P.notices, old := P.old, pllAt := P.pllAt
    trainedAt := s.dtime, downAt := P.downAt })

/-- The flits of a stored packet are all among the first `rx` received (R507, R508). -/
def received (rx start flits : Nat) : Bool := decide ((rx + 2 ^ 32 - (start + flits) % 2 ^ 32) % 2 ^ 32 < 2 ^ 31)

/-- Acknowledged packets leave the replay store (R507). -/
def Port.acked (P : Port) (rx : Nat) : Port := { P with store := P.store.filter fun e => !received rx e.1 (pFlits e.2.2) }

/-- Credits return, to the shares from which they were taken (R508, R511). -/
def Port.credit (P : Port) (h2 : Nat) : Port :=
  { P with taken := (List.range 16).foldl (fun S pool => Shares.leave S pool (64 * fld h2 (4 * pool) 4)) P.taken }

/-- A replay request names a packet of the store (R507, R509): the port with the packets from it on sent again, or none when
that one has been replayed 8 times. -/
def Port.replay (P : Port) (start : Nat) : Option Port :=
  let rest := P.store.dropWhile fun e => e.1 ≠ start
  match rest with
  | [] => some P
  | e :: _ =>
    if 8 ≤ e.2.1 then none else
    some { P with
      store := (P.store.takeWhile fun e => e.1 ≠ start) ++ rest.map fun e => (e.1, e.2.1 + 1, e.2.2)
      sent := P.sent ++ rest.map fun e => e.2.2 }

/-- Frames since a port trained: a frame lasts 360 ps (R504, R540). -/
def Gk1.frames (s : Gk1) (port : Nat) : Nat := (s.dtime - (s.port port).trainedAt) * 25 / 9

/-- The SFRAME of a SWITCH notice: at least 64 frames ahead, how far the manual leaves open (R540, log 45). -/
def Gk1.sframe (s : Gk1) (port : Nat) : Nat := (s.frames port + 64 + Config.freeTarget s.free % (2 ^ 15 - 64)) % 2 ^ 16

/-- The receiver has come to frame SFRAME, modulo 2^16 (R508, R540). -/
def Gk1.frameReached (s : Gk1) (port sf : Nat) : Bool := decide ((s.frames port + 2 ^ 16 - sf % 2 ^ 16) % 2 ^ 16 < 2 ^ 15)

/-- The lane notices of a LINK flit: an erased lane moves to a free spare of the transmit fibre, by a SWITCH notice with its
SFRAME; a SWITCH is noted with its SFRAME (R508, R540). -/
def Gk1.laneNotice (s : Gk1) (p h3 : Nat) : Gk1 :=
  let lane := fld h3 0 5
  let s := if h3.testBit 5 && decide (lane < 16) && (s.port p).txSpare.isNone then
      ({ s with free := s.free + 1 }.modPort p fun P => { P with txSpare := some lane }).notify p 0
        (lane + 2 ^ 6 + s.sframe p * 2 ^ 16)
    else s
  if h3.testBit 6 then s.modPort p fun P => { P with
    switching := (P.switching.filter fun e => e.1 ≠ lane) ++ [(lane, fld h3 16 16)] } else s

/-- A LINK flit arrives: acknowledgements, credits, a replay request, lane notices (R507-R511, R540). -/
def execFabLink (port : Nat) (flit : LinkFlit) (s : State) : Answer := s.act fun s =>
  if portCount ≤ port then .fault .noSuchUnit else
  if fld flit.h0.toNat 0 5 ≠ 0x1F || !s.portUp port then .next s else
  let s := (s.modPort port fun P =>
    { (P.acked (fld flit.h0.toNat 32 32)).credit flit.h2.toNat with partner := fld flit.h3.toNat 32 32 }).pumpPort port
  let s := s.laneNotice port flit.h3.toNat
  if !flit.h1.toNat.testBit 32 then .next s else
  match (s.port port).replay (fld flit.h1.toNat 0 32) with
  | some P => .next (s.modPort port fun _ => P)
  | none => .next (s.portFault port 4)

/-- A receiver corrects a flit: it counts the flit, and the corrected symbols of each lane in windows of 1 ms; a lane that corrects
more than SPARE_THR of them in one is noisy (R539). -/
def Port.corrected (P : Port) (thr now : Nat) (lanes : List Nat) : Port :=
  let w := now / 1000000
  let m := lanes.foldl (fun m l => NMap.set m l (NMap.getD m l 0 + 1)) (if w = P.window then P.laneCorr else [])
  { P with
    corr := min (P.corr + 1) 0xFFFF, window := w, laneCorr := m
    noisy := ((m.filter fun e => thr ≠ 0 && decide (thr < e.2)).map Prod.fst).foldl addNew P.noisy }

/-- A flit arrives with errors. A correctable one is corrected and used. At an uncorrectable one its packet and the packets behind it
that the partner has already sent are discarded, and a replay is requested from the header flit of its packet (R507, R539). -/
def execReplayRequest (a : FlitArrival) (s : State) : Answer := s.act fun s =>
  if portCount ≤ a.port then .fault .noSuchUnit else
  if !s.portUp a.port then .next s else
  match flitDecode (s.port a.port).erased a.flit a.err with
  | some [] => .next s
  | some lanes => .next (s.modPort a.port fun P => P.corrected (fld (s.portCtl a.port) 8 8) s.dtime lanes)
  | none =>
    let s := s.modPort a.port fun P => { P with replays := min (P.replays + 1) 0xFFFF, skip := a.behind }
    .next (s.notify a.port ((s.port a.port).rxCount + 2 ^ 32) 0)

/-- Erased lanes for which there is no free spare decide the state: UP, DEGRADED, or FAILED with a second (R541). -/
def Gk1.judgeLanes (s : Gk1) (p : Nat) : Gk1 :=
  let P := s.port p
  let n := P.erased.length - b2n P.rxSpare.isNone
  if 2 ≤ n then s.portFault p 4 else s.modPort p fun P => { P with state := if n = 1 then 3 else 2 }

/-- A receiver erases a lane that loses lock, or has corrected too many symbols in 1 ms, and says so to its partner (R539, R541). -/
def execLaneErase (port : Nat) (loss : LaneLoss) (s : State) : Answer := s.act fun s =>
  let lane := loss.lane
  if !(decide (port < portCount) && decide (lane < 16)) then .fault .noSuchUnit else
  let P := s.port port
  if !s.portUp port || P.erased.contains lane || !(loss.lockLost || P.noisy.contains lane) then .next s else
  .next (((s.modPort port fun P => { P with erased := P.erased ++ [lane], noisy := P.noisy.filter (· ≠ lane) }).notify port 0
    (lane + 2 ^ 5)).judgeLanes port)

/-- From frame SFRAME the receiver takes an erased lane from the spare, and its erasure ends; the sparing is reported (R540,
R723). -/
def execLaneSwitch (port lane : Nat) (s : State) : Answer := s.act fun s =>
  if !(decide (port < portCount) && decide (lane < 16)) then .fault .noSuchUnit else
  let P := s.port port
  match P.switching.find? fun e => e.1 = lane with
  | none => .next s
  | some e =>
    if !(s.portUp port && P.erased.contains lane && P.rxSpare.isNone && s.frameReached port e.2) then .next s else
    let P' : Port := { P with
      rxSpare := some lane, erased := P.erased.filter (· ≠ lane), switching := P.switching.filter fun e => e.1 ≠ lane
      lanes := (P.lanes &&& ~~~(BitVec.ofNat 17 (2 ^ lane))) ||| BitVec.ofNat 17 (2 ^ 16) }
    .next (((s.modPort port fun _ => P').judgeLanes port).report { kind := 8, unit := port })

/-- Ports of the links to a part of which one may have failed: those that lost a link whose packets still await recovery, else those
that are UP (R537). -/
def Gk1.portsToward (s : Gk1) (part : Nat) : List Nat :=
  let l := s.ports.filter fun e => decide (e.1 < portCount) && e.2.partner = part
  let d := l.filter fun e => !e.2.old.isEmpty
  (if d.isEmpty then l.filter fun e => s.portUp e.1 else d).map Prod.fst

/-- A RECOVER: the port of the failed link goes DOWN if it had not, and the packets of its replay store that the partner did
not receive are sent by other ways (R537). Which of several ports to one part it names is open (log 35). -/
def execFabRecover (port : Nat) (p : Packet) (s : State) : Answer := s.act fun s =>
  onPacket (· = 0xC) port p (fun p s =>
    match pick s.free (s.portsToward (pSrc p)) with
    | none => s
    | some q =>
      let s := { s with free := s.free + 1 }
      let s := if (s.port q).old.isEmpty then s.portFault q 0 else s
      match (s.port q).old with
      | [] => s
      | l :: rest =>
        let left := (({ store := l } : Port).acked (pTag p)).store
        left.foldl (fun s e => s.forward none e.2.2) (s.modPort q fun P => { P with old := rest })) s

/-- A write of FAB_PORT_CTL[p] (R506): clearing ENABLE takes the port DOWN, setting it lets it train. -/
def doFabPortCtlWrite (port : Nat) (value : BitVec 32) (s : Gk1) : Out :=
  if portCount ≤ port then .fault .noSuchUnit else
  if !s.blocksWork then .next s else
  let s := if (s.portCtl port).testBit 0 = value.getLsbD 0 then s
    else s.modPort port fun P => { P with lock := false, pllAt := some s.dtime }
  let s := s.setReg (0x404000 + 0x10 * port) (1 + 64 * 256) (value.toNat &&& 0xFF01)
  .next (if value.getLsbD 0 then s.trainPorts else if (s.port port).state = 0 then s else s.loseLink port 0)

/-- The row FAB_PORT_CTL_WRITE: doFabPortCtlWrite on the part. -/
def execFabPortCtlWrite (port : Nat) (value : BitVec 32) (s : State) : Answer := s.act fun s => doFabPortCtlWrite port value s

end Sys2Proof.Machine
end

