-- ==== Sys2Proof/Machine/Boot.lean ====
section
/-! DEFINITION. Bring-up (R653-R677, R684, R755, R766, R768): power, ROM, the bundle and its acceptance, the waves, the part
reset (R660), fuses that are blown (R669, R749) and the loss of a PLL's lock (R639). -/

namespace Sys2Proof.Machine

/-! ## Power -/

/-- What is left when power goes: fuses, pins, and what the part has sent (R653). -/
def Gk1.unpowered (s : Gk1) (p : PartState) : Gk1 :=
  { part := p, free := s.free, dtime := s.dtime, posted := s.posted
    edge := { pwrEn := s.edge.pwrEn, fellAt := s.edge.fellAt, riseDue := s.edge.riseDue, entriesOk := s.edge.entriesOk }
    boot := {
      arbBlown := s.boot.arbBlown, lockBlown := s.boot.lockBlown, locked := s.boot.lockBlown || Config.debugLockFuse }
    obs := { portOut := s.obs.portOut }
    ports := NMap.mapVals s.ports fun (_ : Nat) (P : Port) => { sent := P.sent, notices := P.notices } }

/-- Power goes: the part is OFF (R653, R659). -/
def Gk1.powerOff (s : Gk1) : Gk1 := s.unpowered .off

/-- The part leaves OFF when PWR_EN is high and the entries are in range (R655). -/
def Gk1.tryPower (s : Gk1) : Gk1 :=
  if s.part = .off && s.edge.pwrEn && s.edge.entriesOk then { s with part := .powerRamp } else s

/-- PWR_EN takes effect as high. -/
def Gk1.raiseEn (s : Gk1) : Gk1 := { s with edge := { s.edge with pwrEn := true, riseDue := false } }.tryPower

/-- A rise within 100 ms of a fall is due 100 ms after it (R766). -/
def Gk1.enDue (s : Gk1) : Bool := match s.edge.fellAt with
  | some t => decide (t + 100000000 ≤ s.dtime)
  | none => true

/-- PWR_EN rises (R655, R766). -/
def execPwrEnRise (s : State) : Answer := s.act fun s =>
  if s.edge.pwrEn then .next s
  else if s.enDue then .next s.raiseEn
  else .next { s with edge := { s.edge with riseDue := true } }

/-- A rise that came within 100 ms of a fall takes effect 100 ms after the fall (R766). -/
def execPwrEnDeferredRise (s : State) : Answer := s.act fun s => .next (if s.edge.riseDue && s.enDue then s.raiseEn else s)

/-- PWR_EN falls: the part goes to OFF, whatever its state (R659). -/
def execPwrEnFall (s : State) : Answer := s.act fun s =>
  .next { s with edge := { s.edge with pwrEn := false, fellAt := some s.dtime, riseDue := false } }.powerOff

/-- An entry stays outside 44-63 V for its time: conversion stops and the part goes to OFF (R755). -/
def execEntryVoltageFault (entry : Nat) (s : State) : Answer := s.act fun s =>
  if 4 ≤ entry then .fault .noSuchUnit else
  .next { s with edge := { s.edge with entriesOk := false } }.powerOff

/-- All four entries are within 48-60 V again (R655). -/
def execEntryVoltageRestored (s : State) : Answer := s.act fun s => .next { s with edge := { s.edge with entriesOk := true } }.tryPower

/-- Entering ROM draws BOOT, and the first ledger period begins (R628, R629, R660). -/
def Gk1.enterRom (s : Gk1) : Gk1 :=
  let d := s.draw
  ({ d.2 with part := .rom, ledger := { d.2.ledger with boot := d.1 } }).openPeriod

/-- POWER_RAMP ends: the part enters ROM, the straps are sampled, and DTIME begins (R422, R636, R655, R768). -/
def execPowerRampDone (refsel : Bool) (s : State) : Answer := s.act fun s =>
  if s.part ≠ .powerRamp then .next s else
  let s := s.unpowered .rom
  .next ({ s with dtime := 0, clocks := { refsel := refsel, cur := refsel } }.enterRom)

/-! ## The part reset -/

/-- A register that a part reset leaves: the HL_, SB_ and SEC_ registers, SB_RESET_MASK apart, and CK_ERR. The expert settings of
the other CK_ registers go back to their Reset values (R11, R658, R660, log 36). -/
def keptByReset (off : Nat) : Bool :=
  decide (off < 0x100000) || off = ckErr || (decide (0x600000 ≤ off) && decide (off < 0x700000))
    || (decide (0x780000 ≤ off) && off ≠ 0x780308)

/-- A part reset (R653, R660): everything that region power and the firmware hold goes; the link, DTIME, SEQ of the ledger and
the counts since POWER_RAMP stay. -/
def Gk1.partReset (s : Gk1) : Gk1 :=
  let t : Gk1 := {
    free := s.free, dtime := s.dtime, posted := s.posted, postHeld := s.postHeld, nextId := s.nextId
    edge := { s.edge with polledAt := none, rr := 0, msixWait := [] }
    boot := {
      err := s.boot.err, svn := s.boot.svn, arbBlown := s.boot.arbBlown, blowing := s.boot.blowing
      lockBlown := s.boot.lockBlown, lockBlowing := s.boot.lockBlowing, locked := s.boot.locked, takeovers := s.boot.takeovers }
    clocks := { s.clocks with selAfter := none }
    ledger := { seq := s.ledger.seq }
    regs := s.regs.filter fun e => keptByReset e.1
    regions := NMap.mapVals s.regions fun (_ : Nat) (R : Region) =>
      { resets := R.resets, clfaults := R.clfaults, routers := R.routers }
    ctxs := NMap.mapVals s.ctxs fun (c : Nat) (C : Ctx) =>
      { state := b2n (decide (c = 0)), gen := C.gen, counters := C.counters }
    held := {
      planes := s.held.planes, engines := s.held.engines, unavailNs := s.held.unavailNs, unavailEvents := s.held.unavailEvents
      unavail := s.held.unavail, shares := s.held.shares, wholes := s.held.wholes, failed := s.held.failed
      lostAcc := s.held.lostAcc, resent := s.held.resent }
    obs := { portOut := s.obs.portOut, coreCnt := s.obs.coreCnt, rgnCnt := s.obs.rgnCnt, repKind := s.obs.repKind }
    ports := NMap.mapVals s.ports fun (p : Nat) (P : Port) =>
      { sent := P.sent, notices := P.notices, lock := P.lock, pllAt := if (s.portCtl p).testBit 0 then P.pllAt else some s.dtime } }
  (t.enterRom.ledgerFlag 14).autoRef

/-- HL_RESET.PART with its key (R418, R660). -/
def doHlResetPart (key : BitVec 16) (s : Gk1) : Out :=
  .next (if key = 0x5A3C && s.regsWork then s.partReset else s)

/-- The row HL_RESET_PART: doHlResetPart on the part. -/
def execHlResetPart (key : BitVec 16) (s : State) : Answer := s.act fun s => doHlResetPart key s

/-! ## ROM and the bundle -/

/-- The part enters FAULTED with a boot error. -/
def Gk1.bootFault (s : Gk1) (err : Nat) : Gk1 :=
  { s with part := .faulted, boot := { s.boot with err := err } }

/-- The link has trained and the fuses have been read: LINK_UP, or FAULTED with FUSE (R655, R663, R737, R749). -/
def execLinkUp (fusesGood : Bool) (s : State) : Answer := s.act fun s =>
  if s.part ≠ .rom then .next s
  else if !fusesGood then .next (s.bootFault 9)
  else if !s.edge.linkUp then .next s
  else .next { s with
    part := .linkUp
    clocks := { s.clocks with hLock := true, portsAt := some (s.clocks.portsAt.getD s.dtime) }
    boot := { s.boot with ikReady := true, locked := s.boot.locked || s.boot.lockBlown || Config.debugLockFuse } }

/-- SB_BOOT_CTL.GO (R655, R667). -/
def doBootGo (s : Gk1) : Out :=
  .next (if s.part = .linkUp then { s with part := .loading, boot := { s.boot with err := 0 } } else s)

/-- The row GO: doBootGo on the part. -/
def execBootGo (s : State) : Answer := s.act fun s => doBootGo s

/-- The anti-rollback counter ARB (R662, R669). -/
def Gk1.arb (s : Gk1) : Nat := Config.arbFuses % 65 + s.boot.arbBlown

/-- n bytes of a bundle. -/
def bsub (b : List Byte) (a n : Nat) : List Byte := (b.drop a).take n

/-- A number in a bundle. -/
def bnum (b : List Byte) (a n : Nat) : Nat := leNat (bsub b a n)

/-- Every byte of a range is zero. -/
def bzero (b : List Byte) (a n : Nat) : Bool := (bsub b a n).all fun x => x = 0

/-- SLEN and SOFF of section entry i (R666). -/
def secLen (b : List Byte) (i : Nat) : Nat := bnum b (2624 + 80 * i + 4) 4
/-- SOFF. -/
def secOff (b : List Byte) (i : Nat) : Nat := bnum b (2624 + 80 * i + 8) 8

/-- Section entry i obeys R666, the others apart. -/
def secOk (b : List Byte) (i : Nat) : Bool :=
  let n := secLen b i
  bnum b (2624 + 80 * i) 4 = i + 1 && decide (8192 ≤ secOff b i) && secOff b i % 64 = 0 && decide (secOff b i + n ≤ bnum b 16 8)
    && (match i with
      | 0 => inRange 1 (4 * 2 ^ 20) n
      | 1 => inRange 1 (2 ^ 20) n
      | 2 => inRange 1 (192 * 1024) n
      | _ => inRange 8 8192 n && n % 8 = 0)

/-- Two sections overlap. -/
def secMeet (b : List Byte) (i j : Nat) : Bool :=
  decide (secOff b i < secOff b j + secLen b j) && decide (secOff b j < secOff b i + secLen b i)

/-- The header and the section entries obey R665 and R666. -/
def formatOk (b : List Byte) : Bool :=
  bnum b 0 4 = 0x0B1A4E31 && bnum b 4 4 = 1 && bnum b 8 1 = fld hlId 8 8 && bnum b 9 1 = fld hlId 0 8
    && decide (bnum b 10 1 ≤ 64) && bzero b 11 5 && inRange 8192 (64 * 2 ^ 20) (bnum b 16 8) && bzero b 2944 64 && bzero b 7635 557
    && [0, 1, 2, 3].all (secOk b)
    && [(0, 1), (0, 2), (0, 3), (1, 2), (1, 3), (2, 3)].all fun p => !secMeet b p.1 p.2

/-- A section matches its digest (R666). -/
def secDigest (b : List Byte) (i : Nat) : Bool :=
  (Config.sha3 (bsub b (secOff b i) (secLen b i))).toNat = bnum b (2624 + 80 * i + 16) 64

/-- BHDIG: the digest that the signature covers (R665, R735). -/
def bundleDigest (b : List Byte) : BitVec 512 := Config.sha3 (bsub b 0 3008)

/-- The supplement as it was read: none is named by SB_BOOT_SUPP 0 (R684). -/
def Gk1.suppRead (s : Gk1) (supp : Option (List Byte)) : Option (List Byte) :=
  if s.reg 0x780008 0 = 0 then some (List.replicate 8 0) else supp

/-- ERR of the first acceptance check that fails, 0 for none (R667). -/
def Gk1.bundleErr (s : Gk1) (bundle supp : Option (List Byte)) : Nat :=
  match bundle, s.suppRead supp with
  | some b, some sp =>
    if b.length < 8192 || (inRange 8192 (64 * 2 ^ 20) (bnum b 16 8) && decide (b.length < bnum b 16 8)) then 1
    else if !formatOk b then 2
    else if Config.sha3 (bsub b 32 2592) ≠ Config.fwKey then 3
    else if !Config.verify (bsub b 32 2592) (bundleDigest b) (bsub b 3008 4627) then 4
    else if bnum b 10 1 < s.arb then 5
    else if !(secDigest b 0 && secDigest b 1) then 6
    else if (suppOf sp).isNone then 7
    else 0
  | _, _ => 1

/-- LOADING ends: the bundle and the supplement as host memory gave them, none for a read that did not complete. WAVES, or
LINK_UP with the error (R655, R667, R735, R737). -/
def execLoadingDone (bundle supplement : Option (List Byte)) (s : State) : Answer := s.act fun s =>
  if s.part ≠ .loading then .next s else
  let e := s.bundleErr bundle supplement
  if e ≠ 0 then .next { s with part := .linkUp, boot := { s.boot with err := e } } else
  let b := bundle.getD []
  let sp := (s.suppRead supplement).getD []
  .next { s with
    part := .waves
    boot := { s.boot with
      svn := bnum b 10 1, bhdig := bundleDigest b, lkReady := true, waves := 0, supplement := (wordsOf sp).drop 1 } }

/-! ## Fuses -/

/-- COMMIT: ARB fuses are blown up to the running SVN (R669). -/
def doArbCommit (key : BitVec 16) (s : Gk1) : Out :=
  .next (if key = 0xC3A5 && s.part = .ready && decide (s.arb < s.boot.svn) && s.boot.blowing.isNone then
    { s with boot := { s.boot with blowing := some s.boot.svn } } else s)

/-- The row COMMIT: doArbCommit on the part. -/
def execArbCommit (key : BitVec 16) (s : State) : Answer := s.act fun s => doArbCommit key s

/-- LOCK: the debug lock applies at once, and DEBUG_LOCK is blown; the trace's EN and the clock output go off (R651, R749). -/
def doDebugLock (key : BitVec 16) (s : Gk1) : Out :=
  .next (if key = 0x9B17 && s.part = .ready then
    let s := s.setReg 0x700008 (12 * 8) (setFld s.traceCtl 0 1 0)
    let s := s.setReg 0x500400 (3 * 2 ^ 10) (setFld (s.reg 0x500400 (3 * 2 ^ 10)) 0 1 0)
    { s with boot := { s.boot with locked := true, lockBlowing := s.boot.lockBlowing || !s.boot.lockBlown } } else s)

/-- The row LOCK: doDebugLock on the part. -/
def execDebugLock (key : BitVec 16) (s : State) : Answer := s.act fun s => doDebugLock key s

/-- The blowing of fuses finishes (R669, R749). -/
def execFuseBlowComplete (s : State) : Answer := s.act fun s =>
  .next (if !s.powered then s else { s with boot := { s.boot with
    arbBlown := (s.boot.blowing.map fun t => s.boot.arbBlown + (t - s.arb)).getD s.boot.arbBlown
    blowing := none
    lockBlown := s.boot.lockBlown || s.boot.lockBlowing
    lockBlowing := false } })

/-! ## Waves -/

/-- The regions of a wave (R670): the takeover ring's order. -/
def waveRegions (w : Nat) : List Nat := (ring.drop (4 * w)).take 4

/-- A lane that fails training or that the supplement names: a free spare takes its place, or it is erased (R396, R671). -/
def Channel.badLane (c : Channel) (lane : Nat) : Channel :=
  if c.erased.contains lane || c.spared.any (fun e => e.1 = lane) then c else
  match c.hasSpare with
  | some sp => { c with spared := c.spared ++ [(lane, sp)] }
  | none => { c with erased := c.erased ++ [lane] }

/-- The entries of the accepted supplement. -/
def Gk1.suppEntries (s : Gk1) : List Supp := s.boot.supplement.filterMap fun w => suppEntry w.toNat

/-- The lanes of a region that the supplement names. -/
def Gk1.suppLanes (s : Gk1) (r : Nat) : List (Nat × Nat) := s.suppEntries.filterMap fun e => match e with
  | .lane x c l => if x = r then some (c, l) else none
  | .cluster _ _ => none

/-- The ranks of a region that the supplement names, in its order. -/
def Gk1.suppRanks (s : Gk1) (r : Nat) : List Nat := s.suppEntries.filterMap fun e => match e with
  | .cluster x k => if x = r then some k else none
  | .lane _ _ _ => none

/-- Steps 1-3 of a wave in a region (R671): its rails, its PLLs, its stack. -/
def Gk1.waveStack (s : Gk1) (f : RegionWave) : Gk1 :=
  let s := s.modRegion f.region fun R => { R with vfab := true, vmem := true, aLock := true, fLock := true, dLock := true }
  ((f.badLanes.filter fun b => decide (b.1 < 32) && decide (b.2 < 36)) ++ s.suppLanes f.region).foldl (fun s b =>
    s.modChannel f.region b.1 fun c => c.badLane b.2) s

/-- A stack has failed training, or a channel of it has lost more than four lanes (R673). -/
def Gk1.stackBad (s : Gk1) (f : RegionWave) : Bool :=
  !f.trained || (s.region f.region).channels.any fun c => decide (4 < c.2.lost)

/-- A region is OUT from its wave on; a report names it once queue 0 is enabled (R674). -/
def Gk1.outAtBoot (s : Gk1) (r : Nat) : Gk1 :=
  { s.modRegion r fun R => { R with service := 2, sbUp := false } with
    held := { s.held with outReports := s.held.outReports ++ [r] } }

/-- The skipped ranks of a region, ascending (R662, R664, R679). -/
def skipsOf (r : Nat) : List Nat := (((Config.defectMap r).filter (· < 4096)).foldl (fun l k => insertNat k l) []).take 64

/-- Steps 6 and 7 of a wave in a region whose signal box has started (R671, R674, R676-R682): the points table, the
supplement's clusters, and the clusters that fail the start image. -/
def Gk1.waveTable (s : Gk1) (w : Nat) (f : RegionWave) : Gk1 :=
  let R := { s.region f.region with skips := skipsOf f.region, subs := [], failed := [], wave := w }
  let step := fun (R : Option Region) (k : Nat) => R.bind fun R => R.failRank k
  let a := (s.suppRanks f.region).foldl step (some R)
  let run := (List.range 4096).filter fun k => f.failed.contains k && !(s.suppRanks f.region).contains k
  match run.foldl step a with
  | some R => s.modRegion f.region fun _ => { R with sbUp := true, bootDone := true }
  | none => (s.modRegion f.region fun _ => R).outAtBoot f.region

/-- After step 5 of wave 0 a signal box that has started takes the dispatcher role (R675). -/
def electDispatcher (fs : List RegionWave) : Option Nat :=
  ([3, 4, 5, 2].find? fun r => fs.any fun f => f.region = r && f.started)

/-- A bring-up wave: what its physical steps found in each of its four regions (R670-R677). -/
def execBootWave (regions : List RegionWave) (s : State) : Answer := s.act fun s =>
  let w := s.boot.waves
  if s.part ≠ .waves || (regions.map fun f => f.region) ≠ waveRegions w then .next s else
  let s := regions.foldl Gk1.waveStack s
  if regions.any s.stackBad then .next (s.bootFault 0x0B)
  else if regions.any fun f => !f.staged then .next (s.bootFault 0x08)
  else
    let d := if w = 0 then electDispatcher regions else some s.boot.disp
    match d with
    | none => .next (s.bootFault 0x0A)
    | some d =>
      let s := { s with boot := { s.boot with disp := d, dvalid := true } }
      let s := regions.foldl (fun s f => if f.started then s.waveTable w f else
        (s.modRegion f.region fun R => { R with wave := w }).outAtBoot f.region) s
      let s := ({ s with boot := { s.boot with waves := w + 1 } }).refollow []
      let s := if w + 1 = 16 then { s with part := .ready } else s
      if s.boxUp s.boot.disp then .next s else
      match s.ringAfter s.boot.disp [] with
      | n :: _ => .next (s.moveRole n [])
      | [] => .next s.partDead

/-! ## PLLs -/

/-- A PLL loses lock: a fault of the unit that it clocks (R639, R686, R693, R721). KIND as in CK_OBS_CTL. -/
def execPllLockLoss (kind unit : Nat) (s : State) : Answer := s.act fun s =>
  if !((inRange 1 3 kind && decide (unit < 64)) || (kind = 4 && decide (unit < portCount)) || (kind = 5 && unit = 0)) then
    .fault .noSuchUnit
  else if !s.pllReady kind unit then .next s
  else
    let s := s.setErr ckErr 3
    match kind with
    | 1 => .next (s.modRegion unit fun R => { R with aLock := false })
    | 2 => .next (s.modRegion unit fun R => { R with fLock := false, fclkBorrowed := true })
    | 3 => .next ((s.modRegion unit fun R => { R with dLock := false }).loseStack unit)
    | 4 =>
      let s := s.modPort unit fun P => { P with lock := false, pllAt := some s.dtime }
      .next (if s.portUp unit then s.portFault unit 0 else s)
    | _ => .next { s with clocks := { s.clocks with hLock := false, hAt := s.dtime } }.switchHia

end Sys2Proof.Machine
end

