-- ==== Sys2Proof/Machine/Control.lean ====
section
/-! DEFINITION. The major ctl: structured control, branches, exit and the group status word (R235-R238, R244, R265,
R276, R283, R290-R292). -/

namespace Sys2Proof.Machine

/-- Skip nested bodies from a word on and find the else or endif of an if (`forLoop` false), or the endloop of a loop. -/
def matchEnd (C : Core) (forLoop : Bool) : Nat → Nat → Nat → Option Nat
  | 0, _, _ => none
  | fuel + 1, pc, depth =>
    let w := C.word pc
    let op := if wMaj w = 0 && !w.testBit 6 then wOp w else 31
    let next := pc + if isLong (wMaj w) && w.testBit 6 then 2 else 1
    if op = 1 || op = 4 then matchEnd C forLoop fuel next (depth + 1)
    else if depth = 0 && ((forLoop && op = 6) || (!forLoop && (op = 2 || op = 3))) then some pc
    else if op = 3 || op = 6 then matchEnd C forLoop fuel next (depth - 1)
    else matchEnd C forLoop fuel next depth

/-- The instruction that a recorded target must name: endloop, or else and endif, or endif after else (R290-R292). -/
def kindOk (C : Core) (e : MaskEntry) : Bool :=
  let w := C.word e.target
  let op := if wMaj w = 0 && !w.testBit 6 && decide (e.target < 1024) then wOp w else 31
  if e.isLoop then op = 6 else if e.elseDone then op = 3 else op = 2 || op = 3

/-- After a change of A: with A zero the group continues at the target recorded in the top entry (R236, R291). A target
of another kind faults with DIV_STACK; one of the right kind that does not match the body leaves the control flow
undefined, and the group goes on at a word that nothing constrains (R292, log 5). -/
def settle (i : GI) (G : Group) : Iss :=
  let s := i.s.setGroup i.core i.grp G
  if G.active ≠ 0 then .jump s else
  match G.stack with
  | [] => .jump s
  | e :: _ =>
    let s := s.setGroup i.core i.grp { G with pc := e.target }
    if !kindOk i.C e then .jump (s.groupFault i.core i.grp 0x21)
    else if matchEnd i.C e.isLoop 1024 e.start 0 = some e.target then .jump s
    else .jump { s.setGroup i.core i.grp { G with pc := Config.freeTarget s.free } with free := s.free + 1 }

/-- The group with its program counter past a 64-bit instruction. -/
def Group.step (G : Group) : Group := { G with pc := G.pc + 1 }

/-- Issue a ctl instruction. -/
def ctl (op : Nat) (ok : Nat → Bool) (regs : Nat → List Nat) (run : GI → Iss) (core grp : Nat) (s : Gk1) : Out :=
  issue 0 (opIs op) (fun w _ => ok w) regs 0 run core grp s

/-- nop. -/
def execCtlNop (core grp : Nat) (s : State) : Answer := s.act fun s =>
  ctl 0 (cOk false false false false) (fun _ => []) (fun i => .ok i.s) core grp s

/-- if pX: push saved A and A and not pX; A becomes A and pX (R235, R237). -/
def execCtlIf (core grp : Nat) (s : State) : Answer := s.act fun s =>
  ctl 1 (cOk true false true false) (fun _ => []) (fun i =>
    let G := i.G
    let p := G.p (wPx i.w)
    if 16 ≤ G.stack.length then .fault 0x21 else
    let e : MaskEntry := { isLoop := false, saved := G.active, els := G.active &&& ~~~p, start := G.pc + 1, target := wTgt i.w }
    settle i { G.step with stack := e :: G.stack, active := G.active &&& p }) core grp s

/-- else: A becomes the top entry's else mask, and its own target replaces the recorded one (R235, R237, R291). -/
def execCtlElse (core grp : Nat) (s : State) : Answer := s.act fun s =>
  ctl 2 (cOk false false true false) (fun _ => []) (fun i =>
    let G := i.G
    match G.stack with
    | [] => .fault 0x21
    | e :: es =>
      if e.isLoop || e.elseDone then .fault 0x21 else
      let e' := { e with elseDone := true, start := G.pc + 1, target := wTgt i.w }
      settle i { G.step with stack := e' :: es, active := e.els }) core grp s

/-- endif: A becomes the top entry's saved mask; pop (R235, R237). -/
def execCtlEndif (core grp : Nat) (s : State) : Answer := s.act fun s =>
  ctl 3 (cOk false false false false) (fun _ => []) (fun i =>
    let G := i.G
    match G.stack with
    | [] => .fault 0x21
    | e :: es => if e.isLoop then .fault 0x21 else settle i { G.step with stack := es, active := e.saved }) core grp s

/-- loop: push saved A and the next instruction as start (R235, R237). -/
def execCtlLoop (core grp : Nat) (s : State) : Answer := s.act fun s =>
  ctl 4 (cOk false false true false) (fun _ => []) (fun i =>
    let G := i.G
    if 16 ≤ G.stack.length then .fault 0x21 else
    let e : MaskEntry := { isLoop := true, saved := G.active, els := 0, start := G.pc + 1, target := wTgt i.w }
    settle i { G.step with stack := e :: G.stack }) core grp s

/-- Clear leaving lanes from the entries above the innermost loop entry. -/
def leaveLoop (gone : BitVec 16) : List MaskEntry → List MaskEntry
  | [] => []
  | e :: es =>
    match e.isLoop with
    | true => e :: es
    | false => { e with saved := e.saved &&& ~~~gone, els := e.els &&& ~~~gone } :: leaveLoop gone es

/-- brk pX: the lanes of pX leave A and the masks above the innermost loop entry (R235, R237). -/
def execCtlBrk (core grp : Nat) (s : State) : Answer := s.act fun s =>
  ctl 5 (cOk true false false false) (fun _ => []) (fun i =>
    let G := i.G
    let p := G.p (wPx i.w)
    if !(G.stack.any MaskEntry.isLoop) then .fault 0x21 else
    settle i { G.step with stack := leaveLoop (G.active &&& p) G.stack, active := G.active &&& ~~~p }) core grp s

/-- endloop: back to the start while A is not zero, otherwise A becomes the saved mask; pop (R235, R237). -/
def execCtlEndloop (core grp : Nat) (s : State) : Answer := s.act fun s =>
  ctl 6 (cOk false false false false) (fun _ => []) (fun i =>
    let G := i.G
    match G.stack with
    | [] => .fault 0x21
    | e :: es =>
      if !e.isLoop then .fault 0x21
      else if G.active ≠ 0 then settle i { G with pc := e.start }
      else settle i { G.step with stack := es, active := e.saved }) core grp s

/-- The group after exit: the active lanes leave the live mask, A and every stacked mask. -/
def Group.exitLanes (G : Group) : Group :=
  { G.step with
    live := G.live &&& ~~~G.active
    active := 0
    stack := G.stack.map fun e => { e with saved := e.saved &&& ~~~G.active, els := e.els &&& ~~~G.active } }

/-- exit: without a live lane the group ends (R235, R238). -/
def execCtlExit (core grp : Nat) (s : State) : Answer := s.act fun s =>
  ctl 7 (cOk false false false false) (fun _ => []) (fun i =>
    if i.G.exitLanes.live = 0 then .jump ((i.s.setGroup i.core i.grp i.G.exitLanes).endGroup i.core i.grp)
    else settle i i.G.exitLanes) core grp s

/-- Jump for the whole group when a test holds. -/
def braIf (i : GI) (t : Bool) : Iss :=
  .jump (i.s.setGroup i.core i.grp (if t then { i.G with pc := wTgt i.w } else i.G.step))

/-- bra.any pX (R235). -/
def execCtlBraAny (core grp : Nat) (s : State) : Answer := s.act fun s =>
  ctl 8 (cOk true false true false) (fun _ => []) (fun i => braIf i (decide (i.G.p (wPx i.w) &&& i.G.active ≠ 0))) core grp s

/-- bra.all pX (R235). -/
def execCtlBraAll (core grp : Nat) (s : State) : Answer := s.act fun s =>
  ctl 9 (cOk true false true false) (fun _ => [])
    (fun i => braIf i (decide (i.G.p (wPx i.w) &&& i.G.active = i.G.active))) core grp s

/-- bra sX (R235). -/
def execCtlBra (core grp : Nat) (s : State) : Answer := s.act fun s =>
  ctl 10 (cOk false true true false) (fun w => [wCsx w]) (fun i => braIf i (decide (i.G.s (wCsx i.w) ≠ 0))) core grp s

/-- An even pair base (R229). -/
def evenCsx (w : Nat) : Bool := wCsx w % 2 = 0

/-- gs.rd: the status word into an s pair (R244). -/
def execGsRd (core grp : Nat) (s : State) : Answer := s.act fun s =>
  ctl 11 (fun w => cOk false true false false w && evenCsx w) (fun w => [wCsx w, wCsx w + 1])
    (fun i => i.done (i.G.setPair (wCsx i.w) i.G.gsw)) core grp s

/-- gs.clr: clear the sticky bits of the mask (R244, R283). -/
def execGsClr (core grp : Nat) (s : State) : Answer := s.act fun s =>
  ctl 12 (cOk false false false true) (fun _ => []) (fun i =>
    let m := wTgt i.w
    i.done { i.G with
      diverged := i.G.diverged && !m.testBit 0, invalid := i.G.invalid && !m.testBit 1, ovfl := i.G.ovfl && !m.testBit 2 })
    core grp s

/-- gs.rdt: the conversion safeguard word into an s pair (R265). -/
def execGsRdt (core grp : Nat) (s : State) : Answer := s.act fun s =>
  ctl 13 (fun w => cOk false true false false w && evenCsx w) (fun w => [wCsx w, wCsx w + 1])
    (fun i => i.done (i.G.setPair (wCsx i.w) i.G.csw.toNat)) core grp s

/-- gs.clrt: the conversion safeguard word becomes zero (R265). -/
def execGsClrt (core grp : Nat) (s : State) : Answer := s.act fun s =>
  ctl 14 (cOk false false false false) (fun _ => []) (fun i => i.done { i.G with csw := 0 }) core grp s

end Sys2Proof.Machine
end

