-- ==== Sys2Proof/Machine/Exchange.lean ====
section
/-! DEFINITION. The gradient exchange (R551-R577): jobs, buckets, contributions, exact reduction and re-dispatch, optimisers,
distribution, and the failure of a reduction engine (R719). -/

namespace Sys2Proof.Machine

/-! ## Jobs -/

/-- Word n of a job's descriptor. -/
def Job.w (J : Job) (n : Nat) : Nat := (J.q.getD n 0).toNat
/-- OPT: 0 NONE, 1 SGDM, 2 ADAMW, 3 SIGNM. -/
def Job.opt (J : Job) : Nat := fld (J.w 0) 45 3
/-- DFMT: 0 BF16, 1 OB8, 2 OB4. -/
def Job.dfmt (J : Job) : Nat := fld (J.w 0) 48 2
/-- THIN. -/
def Job.thin (J : Job) : Nat := fld (J.w 0) 50 4
/-- MEMBERVA. -/
def Job.memberVA (J : Job) : Nat := fld (J.w 1) 0 52
/-- GRADVA. -/
def Job.gradVA (J : Job) : Nat := fld (J.w 2) 0 52
/-- STATEVA. -/
def Job.stateVA (J : Job) : Nat := fld (J.w 3) 0 52
/-- DISTVA. -/
def Job.distVA (J : Job) : Nat := fld (J.w 4) 0 52
/-- EFVA. -/
def Job.efVA (J : Job) : Nat := fld (J.w 5) 0 52
/-- NCHUNK. -/
def Job.nchunk (J : Job) : Nat := fld (J.w 6) 0 26
/-- P. -/
def Job.p (J : Job) : Nat := fld (J.w 6) 32 16 + 1
/-- RANK. -/
def Job.rank (J : Job) : Nat := fld (J.w 6) 48 16
/-- Chunks of a bucket, automatic for BCHUNK 0 (R553). -/
def Job.bchunk (J : Job) : Nat := if fld (J.w 7) 0 13 = 0 then min 1024 (256 * J.p) else fld (J.w 7) 0 13
/-- BTIME in ns; 0 means 1,000 ms. -/
def Job.btime (J : Job) : Nat := (if fld (J.w 7) 16 16 = 0 then 1000 else fld (J.w 7) 16 16) * 1000000
/-- QCW. -/
def Job.qcw (J : Job) : Qcw := Qcw.ofNat (fld (J.w 7) 32 32)
/-- N, the elements of the gradient buffer. -/
def Job.n (J : Job) : Nat := 4096 * J.nchunk
/-- The chunks of a bucket (R553). -/
def Job.chunksOf (J : Job) (b : Nat) : List Nat :=
  (List.range (min ((b + 1) * J.bchunk) J.nchunk - b * J.bchunk)).map (b * J.bchunk + ·)
/-- The rank that owns a chunk (R552). -/
def Job.ownerOf (J : Job) (g : Nat) : Nat := g % J.p
/-- The chunks of a bucket that a rank owns (R552). -/
def Job.owned (J : Job) (b rank : Nat) : List Nat := (J.chunksOf b).filter fun g => J.ownerOf g = rank
/-- The owner's shard length L in bytes (R552). -/
def Job.shard (J : Job) : Nat := ceilDiv (J.nchunk - J.rank) J.p * 16384
/-- Address of the master values of an owned chunk (R552). -/
def Job.master (J : Job) (g : Nat) : Nat := J.stateVA + g / J.p * 16384
/-- The distribution format. -/
def Job.fmt (J : Job) : Fmt := if J.dfmt = 0 then .bf16 else if J.dfmt = 1 then .ob8 else .ob4
/-- The rank of a member by its address. -/
def Job.rankOf (J : Job) (addr : Nat) : Option Nat := J.members.findIdx? fun m => m = addr

/-- The job of a JOB descriptor. -/
def Desc.job (d : Desc) : Nat := fld (d.w 0) 32 12

/-- Bits of a JOB that are no reserved field (R551). -/
def jobMasks : List Nat :=
  [span 32 22, span 0 52, span 0 52, span 0 52, span 0 52, span 0 52, span 0 26 ||| span 32 32, span 0 13 ||| span 16 48]

/-- A CREATE holds a value that R551, R553 or R554 refuses, its member table apart. -/
def Job.bad (J : Job) : Bool :=
  J.p ≤ J.rank || decide (4 ≤ J.opt) || J.dfmt = 3 || !(J.thin = 0 || inRange 4 10 J.thin) || J.nchunk = 0
    || decide (4096 < fld (J.w 7) 0 13) || decide (256 * J.p < J.bchunk)
    || [J.memberVA, J.gradVA, J.stateVA, J.distVA, J.efVA].any (fun a => a % 64 ≠ 0) || (J.thin ≠ 0 && J.efVA = 0)

/-- The quantiser control word is refused (R75, R554). -/
def Job.qcwBad (J : Job) : Bool :=
  (J.dfmt = 1 || J.dfmt = 2) && !(J.qcw.ok && Fmt.ofCode J.qcw.fmt = some J.fmt && !J.qcw.geom)

/-- The 4-byte words of bytes. -/
def words4 (bs : List Byte) (n : Nat) : List Nat := (List.range n).map fun i => leNat ((bs.drop (4 * i)).take 4)

/-- JOB CREATE (R551-R555). -/
def execJobCreate (queue : Nat) (s : State) : Answer := s.act fun s =>
  onStart queue (fun d => d.type = 8 && !(d.w 0).testBit 44) (fun d s =>
    let J : Job := { ctx := s.qctx queue, q := d.q, members := [] }
    if s.descBad queue d jobMasks || NMap.has s.jobs d.job || J.bad then s.finishWith queue d 1 else
    let r := s.readRange J.ctx (s.qEnforced queue) (sectors J.memberVA (4 * J.p))
    let s := { s with free := s.free + 1 }
    match r with
    | .error e => (s.bulkFault queue e J.memberVA).finishWith queue d e
    | .ok bs =>
      let s := s.hasRead J.ctx J.memberVA (4 * J.p)
      let ms := words4 bs J.p
      if ms.getD J.rank 0 ≠ s.self || ms.eraseDups.length ≠ ms.length then s.finishWith queue d 1
      else if J.qcwBad then s.finishWith queue d 0x23
      else { s with jobs := NMap.set s.jobs d.job { J with members := ms } }.finishWith queue d 0) s

/-- Buckets of a job in flight on the part. -/
def Gk1.inFlight (s : Gk1) (job : Nat) : NMap Bucket := s.buckets.filter fun e => e.2.job = job

/-- JOB DESTROY: it starts once no bucket of its job is in flight (R555). -/
def execJobDestroy (queue : Nat) (s : State) : Answer := s.act fun s =>
  onStart queue (fun d => d.type = 8 && (d.w 0).testBit 44 && (s.inFlight d.job).isEmpty) (fun d s =>
    match NMap.get? s.jobs d.job with
    | some J =>
      if s.descBad queue d jobMasks || J.ctx ≠ s.qctx queue then s.finishWith queue d 1
      else { s with jobs := NMap.erase s.jobs d.job }.finishWith queue d 0
    | none => s.finishWith queue d 1) s

/-- Write a job's status block (R556). -/
def Gk1.statusBlock (s : Gk1) (J : Job) (key queue : Nat) : Gk1 :=
  let a := J.memberVA + ceilDiv (4 * J.p) 64 * 64
  let bs := leBytes 8 J.buckets ++ leBytes 4 J.redispatch ++ leBytes 4 J.nonfin ++ leBytes 4 J.timeouts ++ leBytes 12 0
  match (s.readAhead J.ctx a 32).writeRange J.ctx (s.qEnforced queue) (sectors a 32) bs with
  | (s, none) => s.hasWritten J.ctx a 32
  | (s, some e) => s.faultBucket key e a

/-! ## Exchange packets -/

/-- The phase tag of what the reduction engines do for a bucket: REDUCE while they form and sum contributions, OPTIMISE while they apply
the optimiser and distribute. It selects no operating point (R542, R614). -/
def Bucket.tag (B : Bucket) : Nat := if B.applied then 4 else 3

/-- Send an exchange packet of a bucket to a member (R576, R577). -/
def Gk1.sendExch (s : Gk1) (key : Nat) (B : Bucket) (type dst dispatch addr tag : Nat) (payload : List Byte) : Gk1 :=
  let p : Packet := ({
    type := type, len := payload.length / 32 - 1, pid := fld (s.ctxPart B.ctx) 0 16, dst := dst, src := s.self
    epoch := dispatch, addr := addr, job := B.job, tag := tag } : Hdr).packet payload
  let m : Msg := {
    kind := .exch, rid := key, core := noCore, ctx := B.ctx, place := .peer dst addr, len := payload.length
    sentAt := s.dtime, out := some p }
  ({ s with nextId := s.nextId + 1 }.setMsg s.nextId m).sendPeer s.nextId m

/-- Pieces of at most 512 bytes, numbered. -/
def pieces512 (bs : List Byte) : List (Nat × List Byte) :=
  (List.range (ceilDiv bs.length 512)).map fun i => (i, (bs.drop (512 * i)).take 512)

/-- TAG of an exchange packet (R576). -/
def exchTag (g i : Nat) : Nat := g % 2 ^ 26 + i % 32 * 2 ^ 26

/-! ## Contributions -/

/-- The exact image of an FP32 value: x times 2^149, 0 for a non-finite one (R562). -/
def imageOf (b : Nat) : BitVec 320 :=
  match (decodeF .fp32 b).num with
  | .fin m e => BitVec.ofInt 320 (m * 2 ^ (e + 149).toNat)
  | .inf _ => 0
  | .nan => 0

/-- The mark of a value: bit 0 +inf, bit 1 -inf, bit 2 NaN (R565). -/
def markOf (b : Nat) : BitVec 3 :=
  match (decodeF .fp32 b).num with
  | .fin _ _ => 0
  | .inf n => if n then 2 else 1
  | .nan => 4

/-- The order of |x| with the non-finite values first (R562). -/
def magKey (b : Nat) : Nat := min (b % 2 ^ 31) 0x7F800000

/-- The indices of the k largest values, ties to the lower index, ascending (R562). -/
def thinned (k : Nat) (x : List Nat) : List Nat :=
  let key := fun (i : Nat) => magKey (x.getD i 0)
  (List.range x.length).filter fun i =>
    decide (((List.range x.length).filter fun j =>
      decide (key i < key j) || (decide (key j = key i) && decide (j < i))).length < k)

/-- What a member sends for a chunk: x, the selected indices, and ef_new when thinned (R562). -/
structure Contribution where
  x : List Nat
  sel : List Nat
  deriving DecidableEq, Repr

/-- Form a contribution from the source and the old error feedback (R562). -/
def contribution (thin : Nat) (src ef : List Nat) : Contribution :=
  if thin = 0 then { x := src, sel := List.range src.length } else
  let x := (src.zip ef).map fun p => fAdd .fp32 p.1 p.2
  { x := x, sel := thinned (4096 >>> thin) x }

/-- CONTRIB_END of a contribution: checksum, entries, nonfin, rank, packets (R562, R576). -/
def Contribution.endFlit (c : Contribution) (rank packets : Nat) : List Byte :=
  let v := c.sel.map fun i => c.x.getD i 0
  let sum := (v.map imageOf).foldl (fun a b => a + b) 0
  leBytes 8 sum.toNat ++ leBytes 2 c.sel.length ++ leBytes 2 (v.filter fun b => markOf b ≠ 0).length ++ leBytes 2 rank
    ++ leBytes 2 packets ++ leBytes 16 0

/-- The payload bytes of a contribution: dense values, or sparse entries (R562, R563). -/
def Contribution.bytes (c : Contribution) (thin ofs : Nat) : List Byte :=
  if thin = 0 then c.x.flatMap (leBytes 4) else c.sel.flatMap fun i => leBytes 4 (ofs + i) ++ leBytes 4 (c.x.getD i 0)

/-- The half of EFVA read (true) or written at a step (R562). -/
def Job.efHalf (J : Job) (step : Nat) (old : Bool) : Nat := J.efVA + (step + b2n old) % 2 * (4 * J.n)

/-- Form and send the contribution of a chunk; a source that faults sends none (R562-R564, R569). -/
def Gk1.contribute (s : Gk1) (key : Nat) (B : Bucket) (J : Job) (dispatch g : Nat) : Gk1 :=
  let first := B.number * J.bchunk
  let enf := s.qEnforced B.queue
  let a := B.src + (g - first) * 16384
  let e := J.efHalf B.step true + g * 16384
  let x := s.readRange B.ctx enf (sectors a 16384)
  let ef := if J.thin = 0 then .ok [] else s.readRange B.ctx enf (sectors e 16384)
  let s := { s with free := s.free + 1 }
  match x, ef with
  | .error c, _ => s.faultBucket key c a
  | _, .error c => s.faultBucket key c e
  | .ok bx, .ok be =>
    let c := contribution J.thin (words4 bx 4096) (words4 be 4096)
    let s := s.countCtx B.ctx 7 (bx.length + be.length)
    let n := J.efHalf B.step false + g * 16384
    let w := if J.thin = 0 then (s, none) else
      (s.readAhead B.ctx n 16384).writeRange B.ctx enf (sectors n 16384)
        ((List.range 4096).flatMap fun i => leBytes 4 (if c.sel.contains i then 0 else c.x.getD i 0))
    let s := match w.2 with
      | some f => w.1.faultBucket key f n
      | none => w.1.countCtx B.ctx 8 (if J.thin = 0 then 0 else 16384)
    let dst := J.members.getD (J.ownerOf g) 0
    let ps := pieces512 (c.bytes J.thin ((g - first) * 4096))
    let s := ps.foldl (fun s p =>
      s.sendExch key B (if J.thin = 0 then 0x10 else 0x11) dst dispatch 0 (exchTag g p.1) p.2) s
    s.sendExch key B 0x12 dst dispatch 0 (exchTag g 0) (c.endFlit J.rank ps.length)

/-! ## Buckets -/

/-- BUCKET. -/
def Desc.bucket (d : Desc) : Nat := fld (d.w 1) 0 32

/-- The buckets of a job that may be in flight on a part (R559). -/
def bucketPlaces : Nat := 16

/-- A BUCKET_READY may start: with WAITDEF once the deferred kernels before it have completed, and while fewer than 16 buckets
of its job are in flight (R557, R559). -/
def Gk1.myBucket (s : Gk1) (q : Nat) (d : Desc) : Bool :=
  d.type = 9 && !((d.w 0).testBit 44 && s.deferredBefore q d.seq) && decide ((s.inFlight d.job).length < bucketPlaces)

/-- A bucket of a job is in flight (R558). -/
def Gk1.bucketOf (s : Gk1) (job b : Nat) : Option (Nat × Bucket) :=
  s.buckets.find? fun e => e.2.job = job && e.2.number = b

/-- A BUCKET_READY starts: the member's contributions are formed and sent, and it completes (R557-R562). -/
def Gk1.startBucket (s : Gk1) (q : Nat) (d : Desc) : Gk1 :=
  match NMap.get? s.jobs d.job with
  | none => s.finishWith q d 1
  | some J =>
    let src := fld (d.w 2) 0 52
    let hp := fld (d.w 3) 0 52
    if s.descBad q d [span 32 13, span 0 64, span 0 52, span 0 52, span 0 24, span 0 64] || J.ctx ≠ s.qctx q
        || (J.chunksOf d.bucket).isEmpty || (s.bucketOf d.job d.bucket).isSome || (src = 0 && J.gradVA = 0) || hp % 64 ≠ 0 then
      s.finishWith q d 1
    else
      let B : Bucket := {
        job := d.job, ctx := J.ctx, queue := q, number := d.bucket, step := fld (d.w 1) 32 32
        src := if src = 0 then J.gradVA + 16384 * (d.bucket * J.bchunk) else src
        hp := hp, fence := fld (d.w 4) 0 24, value := d.q.getD 5 0, started := s.dtime }
      let key := s.nextId
      let s := { s with buckets := NMap.set s.buckets key B, nextId := key + 1 }
      ((J.chunksOf d.bucket).foldl (fun s g => s.contribute key B J 0 g) s).finishWith q d 0

/-- BUCKET_READY (R557-R562). -/
def execBucketReady (queue : Nat) (s : State) : Answer := s.act fun s =>
  onStart queue (fun d => s.myBucket queue d) (fun d s => s.startBucket queue d) s

/-- The physical engine that serves a logical one: itself, or the next healthy engine of its edge (R552, R719). -/
def Gk1.engineFor (s : Gk1) (e : Nat) : Option Nat :=
  ((List.range 4).map fun k => e / 4 * 4 + (e % 4 + k) % 4).find? fun x => !s.held.engines.contains x

/-- Chunk slots of an engine in use (R565, R566). -/
def Gk1.slotsUsed (s : Gk1) (e : Nat) : Nat :=
  (s.buckets.map fun b => if b.2.applied then 0 else (b.2.chunks.filter fun c => c.engine = e).length).sum

/-- Chunk slots of an engine (R565). -/
def engineSlots : Nat := 16

/-- The chunks that a bucket needs slots for. -/
def Gk1.wantedSlots (s : Gk1) (B : Bucket) (J : Job) : List Chunk :=
  (J.owned B.number J.rank).map fun g => { chunk := g, engine := (s.engineFor (g / J.p % 16)).getD 16 }

/-- A bucket that started earlier still waits for its slots (R566). -/
def Gk1.slotsBefore (s : Gk1) (key : Nat) : Bool :=
  s.buckets.any fun e => decide (e.1 < key) && !e.2.reserved && (match NMap.get? s.jobs e.2.job with
    | some J => !(J.owned e.2.number J.rank).isEmpty
    | none => false)

/-- The owner reserves slots for all its chunks of a started bucket, in the order of the starts (R566). -/
def execSlotReserve (bucket : Nat) (s : State) : Answer := s.act fun s =>
  match NMap.get? s.buckets bucket with
  | none => .next s
  | some B =>
    match NMap.get? s.jobs B.job with
    | none => .next s
    | some J =>
      let cs := s.wantedSlots B J
      if B.reserved || s.slotsBefore bucket
          || cs.any (fun c => decide (engineSlots < s.slotsUsed c.engine + (cs.filter fun x => x.engine = c.engine).length)) then .next s
      else .next { s with buckets := NMap.set s.buckets bucket { B with reserved := true, chunks := cs } }

/-- A bucket leaves the part: what it still has to send is dropped. -/
def Gk1.dropBucket (s : Gk1) (key : Nat) : Gk1 :=
  { s with
    buckets := NMap.erase s.buckets key
    msgs := s.msgs.filter fun e => !(e.2.rid = key && e.2.core = noCore) }

/-- A bucket that has not completed BTIME ms after its start fails (R556, R569, R745). -/
def execBucketTimeout (bucket : Nat) (s : State) : Answer := s.act fun s =>
  match NMap.get? s.buckets bucket with
  | none => .next s
  | some B =>
    match NMap.get? s.jobs B.job with
    | none => .next s
    | some J =>
      if s.dtime < B.started + J.btime then .next s else
      let s := match s.fenceRef B.ctx B.fence with
        | some (.local_ c n) => s.abandonFence c n
        | _ => s
      let J := { J with timeouts := (J.timeouts + 1) % 2 ^ 32 }
      let s := ({ s with jobs := NMap.set s.jobs B.job J }.statusBlock J bucket B.queue).dropBucket bucket
      let s := s.report { kind := 10, status := 3, ctx := B.ctx, queue := B.queue, unit := B.job }
      .next (s.trace 8 B.ctx B.queue B.job (leBytes 4 B.number ++ leBytes 1 1))

/-! ## Reduction -/

/-- Put a value into an accumulator of a chunk (R565). -/
def Chunk.addTo (c : Chunk) (e b : Nat) : Chunk :=
  { c with
    acc := NMap.put c.acc e (NMap.getD c.acc e 0 + imageOf b) 0
    marks := NMap.put c.marks e (NMap.getD c.marks e 0 ||| markOf b) 0 }

/-- Change an owned chunk of a bucket. -/
def Bucket.modChunk (B : Bucket) (g : Nat) (f : Chunk → Chunk) : Bucket :=
  { B with chunks := B.chunks.map fun c => if c.chunk = g then f c else c }

/-- All P contributions of a chunk have arrived (R567). -/
def Chunk.full (c : Chunk) (p : Nat) : Bool :=
  c.ends.length = p && c.ends.all fun e => decide (e.2 ≤ NMap.getD c.got e.1 0)

/-- The accumulators and the checksums of a chunk agree (R567). -/
def Chunk.matched (c : Chunk) : Bool := (c.acc.foldl (fun a e => a + BitVec.setWidth 64 e.2) 0) = c.checks

/-- The owner discards a bucket's sums and asks every member for its contributions again (R568). -/
def Gk1.redispatch (s : Gk1) (key : Nat) (B : Bucket) (J : Job) : Gk1 :=
  let n := (B.dispatch + 1) % 256
  let B := { B with dispatch := n, chunks := B.chunks.map fun c => { chunk := c.chunk, engine := c.engine } }
  let s := { s with buckets := NMap.set s.buckets key B }
  J.members.foldl (fun s m => s.sendExch key B 0x15 m n 0 (exchTag (B.number * J.bchunk) 0) []) s

/-- The exact sum of an element as a number; a mark makes it an infinity or NaN (R565, R571, R573). -/
def Chunk.sum (c : Chunk) (e : Nat) : XNum :=
  let k := NMap.getD c.marks e 0
  if k = 0 then XNum.ofInt (NMap.getD c.acc e 0).toInt (-149)
  else if k = 1 then { neg := false, num := .inf false }
  else if k = 2 then { neg := true, num := .inf true }
  else { neg := false, num := .nan }

/-! ## Optimisers -/

/-- The hyperparameters of a block, FP32 (R570). -/
structure Hyper where
  lr : XNum
  wd : XNum
  b1 : XNum
  omb1 : XNum
  b2 : XNum
  omb2 : XNum
  eps : XNum
  bc1 : XNum
  bc2 : XNum
  gscale : XNum
  seed : Nat

/-- The hyperparameters of 64 bytes (R570). -/
def hyperOf (bs : List Byte) : Hyper :=
  let f := fun (i : Nat) => decodeF .fp32 (leNat ((bs.drop (4 * i)).take 4))
  { lr := f 0, wd := f 1, b1 := f 2, omb1 := f 3, b2 := f 4, omb2 := f 5, eps := f 6, bc1 := f 7, bc2 := f 8, gscale := f 9
    seed := leNat ((bs.drop 40).take 8) }

/-- The square root of a number rounded to FP32 (R571). -/
def sqrt32 (x : XNum) : XNum := decodeF .fp32 (special 4 (roundF .fp32 .nearest x))

/-- A quotient of FP32 values rounded once to FP32: enough bits of the exact quotient, the last one sticky (R571). -/
def div32 (a b : XNum) : XNum :=
  let n := a.neg != b.neg
  match a.num, b.num with
  | .nan, _ => { neg := false, num := .nan }
  | _, .nan => { neg := false, num := .nan }
  | .inf _, .inf _ => { neg := false, num := .nan }
  | .inf _, .fin _ _ => { neg := n, num := .inf n }
  | .fin _ _, .inf _ => { neg := n, num := .fin 0 0 }
  | .fin m e, .fin k f =>
    if k = 0 then (if m = 0 then { neg := false, num := .nan } else { neg := n, num := .inf n })
    else if m = 0 then { neg := n, num := .fin 0 0 }
    else
      let q := m.natAbs * 2 ^ 64 / k.natAbs
      let r := m.natAbs * 2 ^ 64 % k.natAbs
      decodeF .fp32 (roundFin .fp32 .nearest n (2 * q + b2n (decide (r ≠ 0))) (e - f - 65))

/-- The values of an element: master, first and second moment. -/
structure Wmv where
  w : XNum
  m : XNum
  v : XNum
  deriving DecidableEq, Repr

/-- The optimiser pseudocode on one element (R571): none when g is not finite. -/
def optimise (opt : Nat) (h : Hyper) (sum : XNum) (o : Wmv) : Option Wmv :=
  let g := to32 (sum.mul h.gscale)
  if !g.isFin then none else
  let m1 := to32 ((h.b1.mul o.m).add (h.omb1.mul g))
  let step := fun (d : XNum) => to32 (o.w.add (h.lr.mul d).negate)
  match opt with
  | 1 =>
    some { w := step (to32 (m1.add (h.wd.mul o.w))), m := m1, v := o.v }
  | 2 =>
    let v := to32 ((h.b2.mul o.v).add ((h.omb2.mul g).mul g))
    let mh := to32 (m1.mul h.bc1)
    let vh := to32 (v.mul h.bc2)
    let den := to32 ((sqrt32 vh).add h.eps)
    some { w := step (to32 ((div32 mh den).add (h.wd.mul o.w))), m := m1, v := v }
  | _ =>
    let zero := XNum.ofInt 0 0
    let u := if zero.lt m1 then XNum.ofInt 1 0 else if m1.lt zero then XNum.ofInt (-1) 0 else zero
    some { w := step (to32 (u.add (h.wd.mul o.w))), m := to32 ((h.b2.mul o.m).add (h.omb2.mul g)), v := o.v }

/-- FP32 bits of a number. -/
def bits32 (x : XNum) : Nat := roundF .fp32 .nearest x

/-- The new shard values of a chunk, with the number of elements that were skipped: master, first and second moment of each
element (R571, R573). -/
def Chunk.apply (c : Chunk) (opt : Nat) (h : Hyper) (w m v : List Nat) : List (Nat × Nat × Nat) × Nat :=
  (List.range 4096).foldr (fun e (a : List (Nat × Nat × Nat) × Nat) =>
    let o := (w.getD e 0, m.getD e 0, v.getD e 0)
    if opt = 0 then
      let s := c.sum e
      ((bits32 (if s.isFin then s.mul h.gscale else s), o.2) :: a.1, a.2)
    else match optimise opt h (c.sum e) { w := decodeF .fp32 o.1, m := decodeF .fp32 o.2.1, v := decodeF .fp32 o.2.2 } with
      | none => (o :: a.1, a.2 + 1)
      | some r => ((bits32 r.w, bits32 r.m, if opt = 2 then bits32 r.v else o.2.2) :: a.1, a.2)) ([], 0)

/-! ## Distribution -/

/-- Bytes of a job's element and scale planes (R574). -/
def Job.planes (J : Job) : Planes :=
  let eb := J.n / 32 * J.fmt.blockBytes
  { fmt := J.fmt, patch := false, cap := (capOf J.qcw.capCode).getD 0, nc := J.n
    ebase := J.distVA, sbase := J.distVA + eb, xbase := J.distVA + eb + J.n / 32 }

/-- The distributed bytes of a chunk as ranges of DISTVA: BF16 values, or its part of each Olpel plane (R574). -/
def Job.distributed (J : Job) (seed g : Nat) (w : List Nat) : List (Nat × List Byte) :=
  if J.dfmt = 0 then
    [(J.distVA + 8192 * g, w.flatMap fun b => leBytes 2 (roundF .bf16 .nearest (decodeF .fp32 b)))]
  else
    let t := J.planes
    let qs := (List.range 128).map fun k =>
      let e := (List.range 32).map fun i => 32 * k + i
      quantise J.fmt J.qcw seed (e.map fun i => decodeF .fp32 (w.getD i 0)) (e.map fun i => 4096 * g + i)
    [(t.ebase + 128 * g * J.fmt.blockBytes, qs.flatMap fun q => packCodes J.fmt q.codes),
     (t.sbase + 128 * g, qs.map fun q => BitVec.ofNat 8 q.scale)]
      ++ (if t.cap = 0 then [] else [(t.xbase + 128 * g * t.cap * 2, qs.flatMap fun q => q.slots.flatMap (leBytes 2))])

/-- Send a chunk's PARAM packets and its PARAM_END to every member (R573-R576). -/
def Gk1.distribute (s : Gk1) (key : Nat) (B : Bucket) (J : Job) (g : Nat) (parts : List (Nat × List Byte)) : Gk1 :=
  let ps := parts.flatMap fun r => (pieces512 r.2).map fun p => (r.1 + 512 * p.1, p.2)
  J.members.foldl (fun s m =>
    let s := (ps.zip (List.range ps.length)).foldl (fun s p => s.sendExch key B 0x13 m B.dispatch p.1.1 (exchTag g p.2) p.1.2) s
    s.sendExch key B 0x14 m B.dispatch 0 (exchTag g 0) (leBytes 32 ps.length)) s

/-- Write 4,096 values of the shard; an earlier fault, with its address, keeps its place. -/
def Gk1.putShard (s : Gk1 × Option (Nat × Nat)) (B : Bucket) (a : Nat) (xs : List Nat) : Gk1 × Option (Nat × Nat) :=
  if s.2.isSome then s else
  let r := (s.1.readAhead B.ctx a 16384).writeRange B.ctx (s.1.qEnforced B.queue) (sectors a 16384) (xs.flatMap (leBytes 4))
  (if r.2.isNone then r.1.countCtx B.ctx 8 16384 else r.1, r.2.map fun e => (e, a))

/-- Read 4,096 values of the shard, or none of them when the optimiser does not use them. -/
def Gk1.getShard (s : Gk1) (B : Bucket) (used : Bool) (a : Nat) : Except (Nat × Nat) (List Nat) :=
  if !used then .ok [] else
  match s.readRange B.ctx (s.qEnforced B.queue) (sectors a 16384) with
  | .ok bs => .ok (words4 bs 4096)
  | .error e => .error (e, a)

/-- Write the new values of a chunk and distribute it (R571-R574); the number of skipped elements. -/
def Gk1.applied (s : Gk1) (key : Nat) (B : Bucket) (J : Job) (seed g : Nat) (r : List (Nat × Nat × Nat) × Nat) : Gk1 × Nat :=
  let a := J.master g
  let w := r.1.map fun x => x.1
  let t := Gk1.putShard (s, none) B a w
  let t := if J.opt = 0 then t else Gk1.putShard t B (a + J.shard) (r.1.map fun x => x.2.1)
  let t := if J.opt = 2 then Gk1.putShard t B (a + 2 * J.shard) (r.1.map fun x => x.2.2) else t
  match t.2 with
  | some f => (t.1.faultBucket key f.1 f.2, 0)
  | none => (t.1.distribute key B J g (if J.opt = 0 then [] else J.distributed seed g w), r.2)

/-- Apply the optimiser to an owned chunk and distribute it (R570-R574): the number of skipped elements. -/
def Gk1.applyChunk (s : Gk1) (key : Nat) (B : Bucket) (J : Job) (h : Hyper) (c : Chunk) : Gk1 × Nat :=
  let a := J.master c.chunk
  match s.getShard B (J.opt ≠ 0) a, s.getShard B (J.opt ≠ 0) (a + J.shard), s.getShard B (J.opt = 2) (a + 2 * J.shard) with
  | .ok w, .ok m, .ok v =>
    (s.countCtx B.ctx 7 (4 * (w.length + m.length + v.length))).applied key B J h.seed c.chunk (c.apply J.opt h w m v)
  | .error e, _, _ => (s.faultBucket key e.1 e.2, 0)
  | _, .error e, _ => (s.faultBucket key e.1 e.2, 0)
  | _, _, .error e => (s.faultBucket key e.1 e.2, 0)

/-- Every owned chunk of the bucket has matched: the block is read once, the chunks are applied and distributed, and the
slots are free (R566, R567, R570). A fault stalls the bucket until it fails (R569). -/
def Gk1.applyBucket (s : Gk1) (key : Nat) (B : Bucket) (J : Job) : Gk1 :=
  let hp := s.readRange B.ctx (s.qEnforced B.queue) (sectors B.hp 64)
  let s := { s with free := s.free + 1 }
  match hp with
  | .error e => s.faultBucket key e B.hp
  | .ok bs =>
    let s := { s with buckets := NMap.set s.buckets key { B with applied := true, chunks := [] } }.hasRead B.ctx B.hp 64
    let r := B.chunks.foldl (fun (a : Gk1 × Nat) c =>
      let x := a.1.applyChunk key B J (hyperOf bs) c
      (x.1, a.2 + x.2)) (s, 0)
    { r.1 with jobs := NMap.upd r.1.jobs B.job fun J => { J with nonfin := (J.nonfin + r.2) % 2 ^ 32 } }

/-- A bucket's state after a contribution: a full chunk that does not match is re-dispatched, and the bucket is applied once
every owned chunk is full and matches (R567, R568). -/
def Gk1.judgeBucket (s : Gk1) (key : Nat) (B : Bucket) (J : Job) : Gk1 :=
  let s := { s with buckets := NMap.set s.buckets key B }
  if B.chunks.any fun c => c.full J.p && !c.matched then
    ({ s with jobs := NMap.upd s.jobs B.job fun J => { J with redispatch := (J.redispatch + 1) % 2 ^ 32 } }).redispatch key B J
  else if B.chunks.all fun c => c.full J.p then s.applyBucket key B J
  else s

/-- Accept an exchange packet for a job of the accepting context (R521, R577, R729); a member's own packets do not cross a
partition. -/
def Gk1.takeExch (s : Gk1) (port : Nat) (p : Packet) (run : Job → Nat → Gk1) : Gk1 :=
  if s.part = .maintenance then s.reply p 1 0 [] else
  let J := NMap.get? s.jobs (pJob p)
  let c := if port = selfPort then J.map Job.ctx else s.acceptCtx p
  match c, J with
  | none, _ => (if port = selfPort then s else s.countDrop 2).reply p 2 0 []
  | some _, none => s.reply p 2 0 []
  | some c, some J => match J.rankOf (pSrc p) with
    | some r => if J.ctx = c then run J r else s.reply p 2 0 []
    | none => s.reply p 2 0 []

/-- Global chunk of a TAG. -/
def tagChunk (p : Packet) : Nat := pTag p % 2 ^ 26
/-- Packet index of a TAG. -/
def tagIndex (p : Packet) : Nat := fld (pTag p) 26 5

/-- A contribution packet for an owned chunk: answered RETRY before the chunk has a slot, acknowledged and discarded when its
dispatch number is not the bucket's, else taken (R566, R568). -/
def Gk1.takeContrib (s : Gk1) (port : Nat) (p : Packet) (f : Job → Nat → Chunk → Chunk) : Gk1 :=
  s.takeExch port p fun J r =>
    let g := tagChunk p
    if J.ownerOf g ≠ J.rank then s.reply p 2 0 [] else
    match s.bucketOf (pJob p) (g / J.bchunk) with
    | none => s.reply p 1 0 []
    | some (key, B) =>
      if !B.reserved then s.reply p 1 0 [] else
      let s := s.reply p 0 0 []
      if B.dispatch ≠ pEpoch p || B.applied then s else s.judgeBucket key (B.modChunk g (f J r)) J

/-- Dense contribution sectors (R565). -/
def execXContrib (port : Nat) (p : Packet) (s : State) : Answer := s.act fun s =>
  onPacket (· = 0x10) port p (fun p s => s.takeContrib port p fun _ r c =>
    let v := words4 p.payload (p.payload.length / 4)
    let c := ((List.range v.length).zip v).foldl (fun c e => c.addTo (128 * tagIndex p + e.1) e.2) c
    { c with got := NMap.set c.got r (NMap.getD c.got r 0 + 1) }) s

/-- Sparse contribution entries (R563, R565). -/
def execXContribSparse (port : Nat) (p : Packet) (s : State) : Answer := s.act fun s =>
  onPacket (· = 0x11) port p (fun p s => s.takeContrib port p fun J r c =>
    let first := c.chunk / J.bchunk * J.bchunk
    let n := p.payload.length / 8
    let es := (List.range n).map fun i =>
      (leNat ((p.payload.drop (8 * i)).take 4), leNat ((p.payload.drop (8 * i + 4)).take 4))
    let c := es.foldl (fun c e =>
      let k := e.1 - (c.chunk - first) * 4096
      if (c.chunk - first) * 4096 ≤ e.1 && decide (k < 4096) then c.addTo k e.2 else c) c
    { c with got := NMap.set c.got r (NMap.getD c.got r 0 + 1) }) s

/-- A contribution's end record; once all P are in, the checksums are compared (R567, R568). -/
def execXContribEnd (port : Nat) (p : Packet) (s : State) : Answer := s.act fun s =>
  onPacket (· = 0x12) port p (fun p s => s.takeContrib port p fun _ r c =>
    { c with checks := c.checks + BitVec.ofNat 64 (pWord p 0), ends := c.ends ++ [(r, fld (pWord p 1) 48 16)] }) s

/-- A member forms and sends its contributions to the owner's chunks of a bucket again (R564, R568). One whose own
BUCKET_READY has not started answers RETRY. -/
def execXRedispatch (port : Nat) (p : Packet) (s : State) : Answer := s.act fun s =>
  onPacket (· = 0x15) port p (fun p s => s.takeExch port p fun J r =>
    match s.bucketOf (pJob p) (tagChunk p / J.bchunk) with
    | none => s.reply p 1 0 []
    | some (key, B) => (J.owned B.number r).foldl (fun s g => s.contribute key B J (pEpoch p) g) (s.reply p 0 0 [])) s

/-- Every chunk has landed, and the part's own have been applied: the fence is signalled and the status block written (R556,
R560, R745). -/
def Gk1.tryComplete (s : Gk1) (key : Nat) : Gk1 :=
  match NMap.get? s.buckets key with
  | none => s
  | some B =>
    match NMap.get? s.jobs B.job with
    | none => s
    | some J =>
      if !((J.chunksOf B.number).all fun g => B.landed.contains g) || !(B.applied || (J.owned B.number J.rank).isEmpty) then s else
      let s := s.signalFence B.ctx B.fence B.value.toNat B.queue
      let J := { J with buckets := (J.buckets + 1) % 2 ^ 64 }
      let s := { s with jobs := NMap.set s.jobs B.job J }.statusBlock J key B.queue
      let s := s.trace 8 B.ctx B.queue B.job (leBytes 4 B.number ++ leBytes 1 0)
      { s with buckets := NMap.erase s.buckets key }

/-- A chunk is landed when its PARAM_END and all its PARAM packets have (R575). -/
def Gk1.judgeLanded (s : Gk1) (key g : Nat) : Gk1 :=
  ({ s with buckets := NMap.upd s.buckets key fun B => match NMap.get? B.paramEnds g with
      | some n => if n ≤ NMap.getD B.params g 0 then { B with landed := addNew B.landed g } else B
      | none => B }).tryComplete key

/-- Land the sectors of a PARAM; those that fault change nothing, and the first fault is told (R574, R580). -/
def Gk1.landParam (s : Gk1) (c a : Nat) (bs : List Byte) : Gk1 × Option Nat :=
  ((sectors a bs.length).foldl (fun (x : (Gk1 × Option Nat) × List Byte) q =>
    match x.1.1.writeVA c false q.1 (x.2.take q.2) with
    | .ok t => ((t, x.1.2), x.2.drop q.2)
    | .error e => ((x.1.1, x.1.2.orElse fun _ => some e), x.2.drop q.2)) ((s.readAhead c a bs.length, none), bs)).1

/-- Distributed parameter sectors land in the member's DISTVA (R574, R575). -/
def execXParam (port : Nat) (p : Packet) (s : State) : Answer := s.act fun s =>
  onPacket (· = 0x13) port p (fun p s => s.takeExch port p fun J r =>
    let g := tagChunk p
    if J.ownerOf g ≠ r then s.reply p 2 0 [] else
    match s.landParam J.ctx (pAddr p) p.payload with
    | (s, some e) => s.reply p 3 e []
    | (s, none) =>
      let s := (s.countCtx J.ctx 8 p.payload.length).reply p 0 0 []
      match s.bucketOf (pJob p) (g / J.bchunk) with
      | none => s
      | some (key, _) => ({ s with buckets := NMap.upd s.buckets key fun B =>
          { B with params := NMap.set B.params g (NMap.getD B.params g 0 + 1) } }).judgeLanded key g) s

/-- A chunk's PARAM_END: the last chunk completes the bucket (R560, R573, R575). -/
def execXParamEnd (port : Nat) (p : Packet) (s : State) : Answer := s.act fun s =>
  onPacket (· = 0x14) port p (fun p s => s.takeExch port p fun J r =>
    let g := tagChunk p
    if J.ownerOf g ≠ r then s.reply p 2 0 [] else
    let s := s.reply p 0 0 []
    match s.bucketOf (pJob p) (g / J.bchunk) with
    | none => s
    | some (key, _) => ({ s with buckets := NMap.upd s.buckets key fun B =>
        { B with paramEnds := NMap.set B.paramEnds g (pWord p 0 % 2 ^ 16) } }).judgeLanded key g) s

/-! ## A failed engine -/

/-- A reduction engine fails: the next healthy engine of its edge serves it too, and every bucket with chunks in it is
re-dispatched without counting; with none left it is a PART fault (R686, R719). -/
def execEngineFault (engine : Nat) (s : State) : Answer := s.act fun s =>
  if 16 ≤ engine then .fault .noSuchUnit else
  if s.held.engines.contains engine then .next s else
  let s := ({ s with held := { s.held with engines := s.held.engines ++ [engine] } }).report { kind := 14, unit := engine }
  match s.engineFor engine with
  | none => .next s.partDead
  | some n =>
    let hit := s.buckets.filter fun e => e.2.chunks.any fun c => c.engine = engine
    .next (hit.foldl (fun s e => match NMap.get? s.jobs e.2.job with
      | some J => s.redispatch e.1 { e.2 with chunks := e.2.chunks.map fun c => if c.engine = engine then { c with engine := n } else c } J
      | none => s) s)

end Sys2Proof.Machine
end

