-- ==== Sys2Proof/Machine/Fence.lean ====
section
/-! DEFINITION. The major fence (R310, R327-R331). -/

namespace Sys2Proof.Machine

/-- SEM (R310). -/
def wSem (w : Nat) : Nat := fld w 13 2

/-- Accepted requests of a group that a fence at a scope waits for: those it covers that are not performed (R327, R329,
R330). GROUP and CORE cover the direct path only, which is performed in order (R324). -/
def fenceWaits (s : Gk1) (core grp scope : Nat) : List Nat :=
  if scope < 2 then [] else
  ((s.reqs.filter fun e => e.2.core = core && e.2.slot = grp && !reqDone s scope e.1).map Prod.fst)

/-- Issue a fence: it completes later, in program order, and holds the accesses that follow it meanwhile. -/
def fence (sem : Nat) (acq rel : Bool) (core grp : Nat) (s : Gk1) : Out :=
  issue 0x29 (fun w => wSem w = sem) (fun w _ => fld w 15 49 = 0) (fun _ => []) 0 (fun i =>
    if !i.G.issues i.w then .ok i.s else
    let scope := fld i.w 11 2
    let f : PFence := { acq := acq, rel := rel, scope := scope, waits := if rel then fenceWaits i.s i.core i.grp scope else [] }
    let before := pendingFences i.s i.G
    i.done { i.G with fences := if before.isEmpty && f.waits.isEmpty then [] else before ++ [f] }) core grp s

/-- fence.scope.rel (R327). -/
def execFenceRelease (core grp : Nat) (s : State) : Answer := s.act fun s => fence 2 false true core grp s

/-- fence.scope.acq (R328). -/
def execFenceAcquire (core grp : Nat) (s : State) : Answer := s.act fun s => fence 1 true false core grp s

/-- fence.scope: a release fence followed by an acquire fence (R328). -/
def execFenceFull (core grp : Nat) (s : State) : Answer := s.act fun s => fence 0 true true core grp s

end Sys2Proof.Machine
end

