-- ==== Sys2Proof/Machine/Gather.lean ====
section
/-! DEFINITION. The major vgather: the lane gathers (R239-R241, R254-R256, R284, R285). tile.pack is in Tile.lean. -/

namespace Sys2Proof.Machine

/-- A gather reads a lane that is not active as zero (R240). -/
def Group.src (G : Group) (n l : Nat) : Nat := if l < 16 && G.active.getLsbD l then G.vn n l else 0

/-- Issue a gather into register VD: lane l receives `f`, written where it is active and its guard is true (R241). -/
def gatherV (op : Nat) (u : VUse) (f : GI → Nat → Nat) (core grp : Nat) (s : Gk1) : Out :=
  issue 0x0D (opIs op) (fun w _ => vOk u w) (fun w => vRegs w false false false false) 2 (fun i =>
    i.done ((i.G.setV (wD i.w) (i.G.on i.w) (f i)).gather)) core grp s

/-- Issue a gather into s register VD; its guard must be p0 (R241). -/
def gatherS (op : Nat) (ok : Nat → Bool) (f : GI → Nat) (core grp : Nat) (s : Gk1) : Out :=
  issue 0x0D (opIs op) (fun w _ => ok w && fld w 7 4 = 0) (fun w => vRegs w true false false false) 2 (fun i =>
    i.done ((i.G.setS (wD i.w) (BitVec.ofNat 32 (f i))).gather)) core grp s

/-- v.shfl: lane l receives vs of lane (vi of lane l) mod 16 (R239); vi of an inactive lane is not used. -/
def execVShfl (core grp : Nat) (s : State) : Answer := s.act fun s =>
  gatherV 0 { bs := [0, 1, 2], types := [3] } (fun i l => i.G.src (wA i.w) (i.G.vb i.w 3 l % 16)) core grp s

/-- The immediate distance d (R284). -/
def wDist (w : Nat) : Nat := fld w 48 4

/-- v.shfl.xor (R239). -/
def execVShflXor (core grp : Nat) (s : State) : Answer := s.act fun s =>
  gatherV 1 { types := [3], imm := 15 } (fun i l => i.G.src (wA i.w) (l ^^^ wDist i.w)) core grp s

/-- v.shfl.up: from lane l - d; a source outside 0-15 reads as 0 (R239). -/
def execVShflUp (core grp : Nat) (s : State) : Answer := s.act fun s =>
  gatherV 2 { types := [3], imm := 15 } (fun i l =>
    if wDist i.w ≤ l then i.G.src (wA i.w) (l - wDist i.w) else 0) core grp s

/-- v.shfl.down: from lane l + d (R239). -/
def execVShflDown (core grp : Nat) (s : State) : Answer := s.act fun s =>
  gatherV 3 { types := [3], imm := 15 } (fun i l => i.G.src (wA i.w) (l + wDist i.w)) core grp s

/-- v.rdlane: vs of lane n mod 16, n from s[VB] or IMM16[3:0] (R239, R284). -/
def execVRdlane (core grp : Nat) (s : State) : Answer := s.act fun s =>
  gatherS 4 (fun w => vOk { bs := [1, 2], types := [3], imm := if wBsel w = 2 then 15 else 0 } w)
    (fun i => i.G.src (wA i.w) (if wBsel i.w = 1 then i.G.sn (wB i.w) % 16 else wDist i.w)) core grp s

/-- v.ballot: bit l is pX of lane l, an inactive lane as 0 (R239, R240). -/
def execVBallot (core grp : Nat) (s : State) : Answer := s.act fun s =>
  gatherS 5 (fun w => vOk { va := 7, types := [3] } w)
    (fun i => (i.G.p (wA i.w) &&& i.G.active).toNat) core grp s

/-- REDOP (R285). -/
def wRedop (w : Nat) : Nat := fld w 60 3

/-- A REDOP that R255 allows for a TYPE, and that R285 names. -/
def redOk (w : Nat) : Bool :=
  match wType w with
  | 0 | 1 | 2 => decide (wRedop w ≤ 2)
  | 3 => decide (3 ≤ wRedop w) && decide (wRedop w ≤ 5)
  | _ => false

/-- One step of a reduction: operator and TYPE (R231, R232, R255). -/
def redStep (op ty a b : Nat) : Nat :=
  match op with
  | 0 => if ty = 0 then fAdd .fp32 a b else (a + b) % 2 ^ 32
  | 1 => if ty = 0 then fMin .fp32 a b else if ty = 1 then (if sgn 32 a ≤ sgn 32 b then a else b) else min a b
  | 2 => if ty = 0 then fMax .fp32 a b else if ty = 1 then (if sgn 32 a ≤ sgn 32 b then b else a) else max a b
  | 3 => a &&& b
  | 4 => a ||| b
  | _ => a ^^^ b

/-- One level of the tree: x[i] op x[i + d] for i < d (R254). -/
def treeLevel (op ty d : Nat) (x : List Nat) : List Nat :=
  (List.range d).map fun i => redStep op ty (x.getD i 0) (x.getD (i + d) 0)

/-- The tree reduction of 16 values (R254). -/
def tree16 (op ty : Nat) (x : List Nat) : Nat :=
  ((treeLevel op ty 1 (treeLevel op ty 2 (treeLevel op ty 4 (treeLevel op ty 8 x)))).getD 0 0)

/-- The flags of an FP32 reduction (R244): each addition of the tree is an operation. -/
def treeFlags (op ty : Nat) (x : List Nat) : Flg :=
  if ty ≠ 0 then {} else
  let lv := fun (d : Nat) (x : List Nat) => (List.range d).foldl (fun (f : Flg) i =>
    let a := x.getD i 0
    let b := x.getD (i + d) 0
    f.or (flagsOf .fp32 [a, b] (redStep op ty a b))) {}
  let x4 := treeLevel op ty 8 x
  let x2 := treeLevel op ty 4 x4
  let x1 := treeLevel op ty 2 x2
  (((lv 8 x).or (lv 4 x4)).or (lv 2 x2)).or (lv 1 x1)

/-- red: the lane tree reduction into s register VD (R239, R254, R255). -/
def execLaneRed (core grp : Nat) (s : State) : Answer := s.act fun s =>
  issue 0x0D (opIs 6) (fun w _ => vOk { types := [0, 1, 2, 3], imm := 0x7000 } w && redOk w && fld w 7 4 = 0)
    (fun w => vRegs w true false false false) 2 (fun i =>
      let G := i.G
      let xs := lanes.map (G.src (wA i.w))
      let r := tree16 (wRedop i.w) (wType i.w) xs
      i.done (((G.setS (wD i.w) (BitVec.ofNat 32 r)).flag (treeFlags (wRedop i.w) (wType i.w) xs)).gather)) core grp s

/-- An FP32 result: a NaN is the canonical one (R73, R231). -/
def canonF32 (x : Nat) : Nat := if (decodeF .fp32 x).isNan then nanBits .fp32 else x

/-- The running sum over lanes 0-l in ascending order, one rounding per addition (R239); integers wrap (R284). A NaN of lane 0
is handed on as the canonical one (R73, R231). -/
def scanAdd (ty : Nat) : List Nat → List Nat
  | [] => []
  | x :: xs => xs.foldl (fun acc y => acc ++ [redStep 0 ty (acc.getLastD 0) y]) [if ty = 0 then canonF32 x else x]

/-- The flags of an FP32 scan. -/
def scanFlags (ty : Nat) (xs : List Nat) : Flg :=
  if ty ≠ 0 then {} else
  let r := scanAdd ty xs
  (List.range 15).foldl (fun (f : Flg) i =>
    f.or (flagsOf .fp32 [r.getD i 0, xs.getD (i + 1) 0] (r.getD (i + 1) 0))) {}

/-- v.scan.add (R239, R284). -/
def execVScanAdd (core grp : Nat) (s : State) : Answer := s.act fun s =>
  issue 0x0D (opIs 7) (fun w _ => vOk { types := [0, 1, 2] } w) (fun _ => []) 2 (fun i =>
    let G := i.G
    let xs := lanes.map (G.src (wA i.w))
    let r := scanAdd (wType i.w) xs
    i.done (((G.setV (wD i.w) (G.on i.w) fun l => r.getD l 0).flag (scanFlags (wType i.w) xs)).gather)) core grp s

end Sys2Proof.Machine
end

