-- ==== Sys2Proof/Machine/Obs.lean ====
section
/-! DEFINITION. Attestation (R739, R740), snapshots of core counters and barrier objects (R744, R749), and the trace's own
records (R745, R746, R748). -/

namespace Sys2Proof.Machine

/-! ## Attestation -/

/-- HL_STATE.STATE of a part state. -/
def PartState.code : PartState → Nat
  | .off => 0
  | .powerRamp => 1
  | .rom => 2
  | .linkUp => 3
  | .loading => 4
  | .waves => 5
  | .ready => 6
  | .maintenance => 7
  | .faulted => 8

/-- The regions with a property, one bit each. -/
def Gk1.rgnMask (s : Gk1) (p : Region → Bool) : Nat :=
  ((List.range 64).map fun r => b2n (p (s.region r)) * 2 ^ r).sum

/-- The ASCII bytes of a string. -/
def ascii (t : String) : List Byte := t.toList.map fun c => BitVec.ofNat 8 c.toNat

/-- The substitution entries of all regions (R678, R739). -/
def Gk1.allSubs (s : Gk1) : Nat := ((List.range 64).map fun r => (s.region r).subs.length).sum

/-- The body of the attestation report over a nonce (R739). -/
def Gk1.attestBody (s : Gk1) (nonce : List Byte) : List Byte :=
  leBytes 4 1 ++ leBytes 8 hlId ++ (ascii "GK1-3072-LQ" ++ List.replicate 5 0) ++ ascii "B1" ++ leBytes 2 0
    ++ leBytes 8 Config.serial.toNat ++ leBytes 64 (Config.sha3 s.ikPub).toNat ++ nonce ++ leBytes 8 s.dtime
    ++ leBytes 8 s.ledger.boot.toNat ++ leBytes 64 s.boot.bhdig.toNat ++ leBytes 1 s.boot.svn ++ leBytes 1 s.arb
    ++ leBytes 1 (b2n s.boot.locked + 2 * b2n (decide (s.part = .maintenance)) + 4 * b2n s.power.timetable + 8 * b2n s.even)
    ++ leBytes 1 s.part.code ++ leBytes 4 s.allSubs ++ leBytes 8 (s.rgnMask fun R => R.service = 2)
    ++ leBytes 8 (s.rgnMask Region.stackLost) ++ leBytes 64 s.ttDigest ++ leBytes 4 s.ledger.seq ++ leBytes 4 0 ++ s.lkPub
    ++ List.replicate 168 0

/-- The report: the body, its signature under the identity key, zeros (R736, R739). -/
def Gk1.attestReport (s : Gk1) (nonce : List Byte) : List Byte :=
  let body := s.attestBody nonce
  (body ++ Config.sign ikSeed (Config.sha3 body) ++ List.replicate 7744 0).take 7744

/-- ATTEST (R739, R740). -/
def execAttest (s : State) : Answer := s.act fun s =>
  onMgmtResult 0xF (fun _ => 7744) (fun d s =>
    s.finishMgmt d (s.attestReport (leBytes 8 (d.w 3) ++ leBytes 8 (d.w 4) ++ leBytes 8 (d.w 5) ++ leBytes 8 (d.w 6)))) s

/-! ## Snapshots -/

/-- The unit views of OBS_ may be written: the block works and the lock is not applied (R658, R749). -/
def Gk1.viewsOpen (s : Gk1) : Bool := s.blocksWork && !s.boot.locked

/-- A write to OBS_CORESEL (R744, R749). -/
def doObsCoreselWrite (value : BitVec 32) (s : Gk1) : Out :=
  .next (if s.viewsOpen then
    { s.setReg 0x700400 0 (fld value.toNat 0 20) with obs := { s.obs with corePending := true, coreReady := false } } else s)

/-- The row OBS_CORESEL_WRITE: doObsCoreselWrite on the part. -/
def execObsCoreselWrite (value : BitVec 32) (s : State) : Answer := s.act fun s => doObsCoreselWrite value s

/-- A write to OBS_BARSEL (R744, R749). -/
def doObsBarselWrite (value : BitVec 32) (s : Gk1) : Out :=
  .next (if s.viewsOpen then
    { s.setReg 0x700500 0 (fld value.toNat 0 26) with obs := { s.obs with barPending := true, barReady := false } } else s)

/-- The row OBS_BARSEL_WRITE: doObsBarselWrite on the part. -/
def execObsBarselWrite (value : BitVec 32) (s : State) : Answer := s.act fun s => doObsBarselWrite value s

/-- The core counters of a logical core (R743); those of a core that the part does not have are open (log 37). -/
def Gk1.coreCounters (s : Gk1) (core : Nat) : List (BitVec 64) :=
  (List.range 6).map fun i =>
    if core < coreCount then NMap.getD s.obs.coreCnt (s.physCore core * 8 + i) 0 else Config.freeWord (s.free + i)

/-- The snapshot of OBS_CORESEL or OBS_BARSEL is taken, and READY is set (R357, R377, R744). -/
def execObsSnapshotReady (barrier : Bool) (s : State) : Answer := s.act fun s =>
  if barrier then
    if !s.obs.barPending then .next s else
    let v := s.reg 0x700500 0
    let core := fld v 0 20
    let w := if core < coreCount then BitVec.ofNat 64 ((s.core core).bar (fld v 20 6)).view else Config.freeWord s.free
    .next { s with
      free := if core < coreCount then s.free else s.free + 1
      obs := { s.obs with barPending := false, barReady := true, barSnap := w } }
  else
    if !s.obs.corePending then .next s else
    let core := fld (s.reg 0x700400 0) 0 20
    .next { s with
      free := if core < coreCount then s.free else s.free + 6
      obs := { s.obs with corePending := false, coreReady := true, coreSnap := s.coreCounters core } }

/-! ## Trace -/

/-- Bits of a register that a write of `size` bytes reaches: all of it, or one half (R421). -/
def reach (size half : Nat) : Nat := if size = 8 then 2 ^ 64 - 1 else (2 ^ 32 - 1) * 2 ^ (32 * half)

/-- The value that a write of `size` bytes presents to a register: an upper half stands in bits [63:32] (R421). -/
def present (size half v : Nat) : Nat := if size = 8 then v else v % 2 ^ 32 * 2 ^ (32 * half)

/-- Bits outside `m` as they were, those in `m` as written. -/
def mergeBits (old m v : Nat) : Nat := (old &&& (2 ^ 64 - 1 - m % 2 ^ 64)) ||| (v &&& m)

/-- A write of OBS_TRACE_CTL (R745, R747-R749): LOG2N reads back within 8-24; setting EN starts SEQ and DROPS at 0. -/
def Gk1.writeTraceCtl (s : Gk1) (m v : Nat) : Gk1 :=
  if !s.viewsOpen then s else
  let n := mergeBits s.traceCtl (m &&& (2 ^ 43 - 1)) v
  let n := setFld n 3 5 (min (max (fld n 3 5) 8) 24)
  let on := n.testBit 0 && !s.traceCtl.testBit 0
  let s := s.setReg 0x700008 (12 * 8) n
  if on then { s with obs := { s.obs with traceSeq := 0, drops := 0 } } else s

/-- OBS_TRACE_CTL_WRITE (R748). An access of another size is refused (R421). -/
def execObsTraceCtlWrite (size half : Nat) (value : BitVec 64) (s : State) : Answer := s.act fun s =>
  if size = 8 || (size = 4 && decide (half < 2)) then .next (s.writeTraceCtl (reach size half) (present size half value.toNat))
  else .next (if s.regsWork then s.setErr hlErr 0 else s)

/-- Every 100 us a TICK record (R745). -/
def execTraceTick (s : State) : Answer := s.act fun s =>
  if !(s.blocksWork && s.traceCtl.testBit 0 && s.due s.obs.tickAt 100000) then .next s else
  .next ({ s with obs := { s.obs with tickAt := some s.dtime } }.trace 3 0xFF 0xFFFF 0
    (leBytes 2 (s.power.eff / 1000) ++ leBytes 2 (s.power.est / 1000) ++ leBytes 2 (s.power.meas / 1000)))

/-- OBS_TRACE_CTL.SCORE. -/
def Gk1.sampleCore (s : Gk1) : Nat := fld s.traceCtl 23 20

/-- 2^(SPOW + 10) ACLK of a core's region, ns: an ACLK at point k lasts 10 / (40 - 2 k) ns, longer while it is stretched (R613, R617,
R746). -/
def Gk1.samplePeriod (s : Gk1) : Nat :=
  let r := regionOf (clusterOf s.sampleCore)
  5 * 2 ^ (fld s.traceCtl 18 5 + 10) * s.eighths r / (8 * (20 - (s.region r).point))

/-- Every 2^(SPOW + 10) ACLK a SAMPLE record of the core SCORE (R745, R746). -/
def execTraceSample (s : State) : Answer := s.act fun s =>
  let core := s.sampleCore
  if !(s.blocksWork && s.traceCtl.testBit 0 && decide (core < coreCount) && s.due s.obs.sampleAt s.samplePeriod) then .next s else
  let slot := (s.core core).lastSlot
  let K := s.kernelOf core
  .next ({ s with obs := { s.obs with sampleAt := some s.dtime } }.trace 9 ((K.map Kernel.ctx).getD 0xFF)
    ((K.map Kernel.queue).getD 0xFFFF) core (leBytes 1 slot ++ leBytes 2 ((s.core core).group slot).pc))

end Sys2Proof.Machine
end

