-- ==== Sys2Proof/Machine/Regs.lean ====
section
/-! DEFINITION. The BAR0 registers (R7, R421, R422, R658): where each stands, how it is read, how a write acts on it. -/

namespace Sys2Proof.Machine

/-- The registers of the BAR0 map (R422). -/
inductive Reg where
  | hlId | hlState | hlLink | hlReset | hlPoll | hlSummary | hlReport | hlTime | hlPtmCtl | hlPtmMaster | hlPtmLocal | hlErr
  | sqBase (q : Nat) | cqBase (q : Nat) | dbell (q : Nat) | qCtl (q : Nat) | qIrq (q : Nat) | qCmd (q : Nat) | qStat (q : Nat)
  | qReplay (q : Nat)
  | ptStatus | ptLine | ptPeriod | ptPower | ptBudget | ptPoints | ptEven | ptSlot | ptDroop | ptLedger | ptLedgerSeq | ptEnv
  | placeMask (i : Nat) | placeAttr (i : Nat) | rcCtl | scrubCtl | memSel | memStat
  | fabId | fabCtl | fabDrop | routeG (i : Nat) | routeM (i : Nat) | ctxPart (c : Nat) | portCtl (p : Nat) | portStat (p : Nat)
  | refCtl | refStat | ckErr | rgnCtl (r : Nat) | rgnStat (r : Nat) | ckPort | ckObs
  | serial | secStat | secCtl | ikId (i : Nat) | ikPub (i : Nat) | lkPub (i : Nat)
  | traceAddr | traceCtl | traceCtx | traceStat | repKind (k : Nat) | ctxSel | ctxCnt (i : Nat) | coreSel | coreCnt (i : Nat)
  | barSel | barView | rgnCnt (r i : Nat)
  | bootAddr | bootSupp | bootCtl | bootStat | rgnBoot (r : Nat) | disp | resetMask | resetCtl | sbRgn (r : Nat) | avail | replay
  | msixTable (w : Nat) | msixPba (i : Nat)
  deriving DecidableEq, Repr

/-- The register of an array of n at base, a stride apart, that begins at an offset. -/
def arr (base stride n : Nat) (mk : Nat → Reg) (off : Nat) : Option Reg :=
  if base ≤ off && (off - base) % stride = 0 && (off - base) / stride < n then some (mk ((off - base) / stride)) else none

/-- The first register found. -/
def firstReg (fs : List (Nat → Option Reg)) (off : Nat) : Option Reg := fs.findSome? fun f => f off

/-- The register that begins at an offset of the HL_ or QE_ block. -/
def regHlQe (off : Nat) : Option Reg :=
  match off with
  | 0x00 => some .hlId
  | 0x08 => some .hlState
  | 0x10 => some .hlLink
  | 0x18 => some .hlReset
  | 0x20 => some .hlPoll
  | 0x28 => some .hlSummary
  | 0x30 => some .hlReport
  | 0x40 => some .hlTime
  | 0x48 => some .hlPtmCtl
  | 0x50 => some .hlPtmMaster
  | 0x58 => some .hlPtmLocal
  | 0x60 => some .hlErr
  | _ => firstReg [arr 0x100000 0x40 4096 .sqBase, arr 0x100008 0x40 4096 .cqBase, arr 0x100010 0x40 4096 .dbell,
      arr 0x100018 0x40 4096 .qCtl, arr 0x10001C 0x40 4096 .qIrq, arr 0x100020 0x40 4096 .qCmd, arr 0x100028 0x40 4096 .qStat,
      arr 0x100030 0x40 4096 .qReplay] off

/-- Of the PT_ block. -/
def regPt (ofs : Nat) : Option Reg :=
  match ofs with
  | 0x00 => some .ptStatus
  | 0x08 => some .ptLine
  | 0x10 => some .ptPeriod
  | 0x18 => some .ptPower
  | 0x20 => some .ptBudget
  | 0x28 => some .ptPoints
  | 0x30 => some .ptEven
  | 0x34 => some .ptSlot
  | 0x38 => some .ptDroop
  | 0x3C => some .ptLedger
  | 0x40 => some .ptLedgerSeq
  | 0x48 => some .ptEnv
  | _ => none

/-- Of the MEM_ block. -/
def regMem (ofs : Nat) : Option Reg :=
  match ofs with
  | 0xC00 => some .rcCtl
  | 0xC04 => some .scrubCtl
  | 0xC08 => some .memSel
  | 0xC10 => some .memStat
  | _ => firstReg [arr 0 8 256 .placeMask, arr 0x800 4 256 .placeAttr] ofs

/-- Of the FAB_ block. -/
def regFab (ofs : Nat) : Option Reg :=
  match ofs with
  | 0x00 => some .fabId
  | 0x08 => some .fabCtl
  | 0x10 => some .fabDrop
  | _ => firstReg [arr 0x1000 8 256 .routeG, arr 0x1800 8 256 .routeM, arr 0x2000 8 64 .ctxPart, arr 0x4000 0x10 48 .portCtl,
      arr 0x4008 0x10 48 .portStat] ofs

/-- Of the CK_ block. -/
def regCk (ofs : Nat) : Option Reg :=
  match ofs with
  | 0x000 => some .refCtl
  | 0x004 => some .refStat
  | 0x008 => some .ckErr
  | 0x300 => some .ckPort
  | 0x400 => some .ckObs
  | _ => firstReg [arr 0x100 4 64 .rgnCtl, arr 0x200 4 64 .rgnStat] ofs

/-- Of the SEC_ block. -/
def regSec (ofs : Nat) : Option Reg :=
  match ofs with
  | 0x00 => some .serial
  | 0x08 => some .secStat
  | 0x10 => some .secCtl
  | _ => firstReg [arr 0x100 8 8 .ikId, arr 0x1000 8 324 .ikPub, arr 0x2000 8 324 .lkPub] ofs

/-- A region counter register of the OBS_ block. -/
def regRgnCnt (ofs : Nat) : Option Reg :=
  if 0x1000 ≤ ofs && ofs < 0x2000 && ofs % 0x40 < 0x20 && ofs % 8 = 0 then some (.rgnCnt ((ofs - 0x1000) / 0x40) (ofs % 0x40 / 8))
  else none

/-- Of the OBS_ block. -/
def regObs (ofs : Nat) : Option Reg :=
  match ofs with
  | 0x000 => some .traceAddr
  | 0x008 => some .traceCtl
  | 0x010 => some .traceCtx
  | 0x018 => some .traceStat
  | 0x200 => some .ctxSel
  | 0x400 => some .coreSel
  | 0x500 => some .barSel
  | 0x508 => some .barView
  | _ => firstReg [arr 0x108 8 15 fun k => .repKind (k + 1), arr 0x208 8 14 .ctxCnt, arr 0x408 8 6 .coreCnt, regRgnCnt] ofs

/-- Of the SB_ block. -/
def regSb (ofs : Nat) : Option Reg :=
  match ofs with
  | 0x000 => some .bootAddr
  | 0x008 => some .bootSupp
  | 0x010 => some .bootCtl
  | 0x018 => some .bootStat
  | 0x300 => some .disp
  | 0x308 => some .resetMask
  | 0x310 => some .resetCtl
  | 0x600 => some .avail
  | 0x608 => some .replay
  | _ => firstReg [arr 0x100 8 64 .rgnBoot, arr 0x400 8 64 .sbRgn] ofs

/-- The register that begins at a BAR0 offset, by the BAR0 map; none where no register is laid down (R422). -/
def regBase (off : Nat) : Option Reg :=
  if off < 0x140000 then regHlQe off
  else match off / 0x10000 with
    | 0x20 => regPt (off % 0x10000)
    | 0x30 => regMem (off % 0x10000)
    | 0x40 => regFab (off % 0x10000)
    | 0x50 => regCk (off % 0x10000)
    | 0x60 => regSec (off % 0x10000)
    | 0x70 => regObs (off % 0x10000)
    | 0x78 => regSb (off % 0x10000)
    | 0x80 => firstReg [arr 0 4 8192 .msixTable, arr 0x8000 8 32 .msixPba] (off % 0x10000)
    | _ => none

/-- The register is 64 bits wide. -/
def Reg.wide : Reg → Bool
  | .hlState | .hlLink | .hlReset | .hlPoll | .hlPtmCtl | .hlErr | .qCtl _ | .qIrq _ | .qCmd _ | .qReplay _ => false
  | .ptStatus | .ptPoints | .ptEven | .ptSlot | .ptDroop | .ptLedger | .placeAttr _ | .rcCtl | .scrubCtl | .memSel => false
  | .fabId | .fabCtl | .portCtl _ | .refCtl | .refStat | .ckErr | .rgnCtl _ | .rgnStat _ | .ckObs => false
  | .secStat | .secCtl | .ctxSel | .coreSel | .barSel | .bootCtl | .resetCtl | .msixTable _ => false
  | _ => true

/-- A register reached by an access: the register, and the half (0, 1) that a 4-byte access reaches; 2 for the whole. -/
def regAt (off : Nat) : Option (Reg × Nat) :=
  match regBase off with
  | some r => some (r, 0)
  | none => if off % 8 = 4 then (regBase (off - 4)).bind fun r => if r.wide then some (r, 1) else none else none

/-! ## Reads -/

/-- The block of a register works (R658): QE_, PT_, MEM_, FAB_ and OBS_ from READY onward. -/
def Reg.gated : Reg → Bool
  | .sqBase _ | .cqBase _ | .dbell _ | .qCtl _ | .qIrq _ | .qCmd _ | .qStat _ | .qReplay _ => true
  | .ptStatus | .ptLine | .ptPeriod | .ptPower | .ptBudget | .ptPoints | .ptEven | .ptSlot | .ptDroop | .ptLedger => true
  | .ptLedgerSeq | .ptEnv | .placeMask _ | .placeAttr _ | .rcCtl | .scrubCtl | .memSel | .memStat => true
  | .fabId | .fabCtl | .fabDrop | .routeG _ | .routeM _ | .ctxPart _ | .portCtl _ | .portStat _ => true
  | .traceAddr | .traceCtl | .traceCtx | .traceStat | .repKind _ | .ctxSel | .ctxCnt _ | .coreSel | .coreCnt _ => true
  | .barSel | .barView | .rgnCnt _ _ => true
  | _ => false

/-- Bytes 8 i to 8 i + 7 of a key or digest. -/
def keyWord (bs : List Byte) (i : Nat) : Nat := leNat ((bs.drop (8 * i)).take 8)

/-- The channels' lanes spared or erased, and whether a rebuild runs (MEM_STAT). -/
def Region.lanesOut (R : Region) : Nat := (R.channels.map fun c => c.2.lost).sum

/-- MEM_STAT of a region. -/
def memStatOf (R : Region) : Nat :=
  R.corr + R.uncorr * 2 ^ 16 + R.badWords.length * 2 ^ 32 + min R.lanesOut 0xFF * 2 ^ 43 + b2n R.hot * 2 ^ 51
    + b2n (R.channels.any fun c => c.2.rebuild.isSome) * 2 ^ 52

/-- PT_STATUS. -/
def Gk1.ptStatus (s : Gk1) : Nat :=
  s.line.state + b2n s.power.timetable * 2 ^ 2 + s.power.preset * 2 ^ 3 + b2n s.power.disturb.isSome * 2 ^ 6 + b2n s.even * 2 ^ 7
    + s.entryNow.getD 0 * 2 ^ 8 + b2n s.entryNow.isSome * 2 ^ 18 + b2n ((s.theEntry.map Entry.maint).getD false) * 2 ^ 19
    + b2n s.power.pendingTable.isSome * 2 ^ 20

/-- The draw of the holding loads in use, mW (PT_POWER.HOLD). -/
def Gk1.holdDraw (s : Gk1) : Nat := ((List.range 64).map fun r => (s.region r).holdMw).sum

/-- PT_POWER. -/
def Gk1.ptPower (s : Gk1) : Nat :=
  let watts := fun x : Nat => min (x / 1000) 0xFFFF
  watts s.power.meas + watts s.power.est * 2 ^ 16 + watts s.power.ceil * 2 ^ 32 + watts s.holdDraw * 2 ^ 48

/-- QE_Q_STAT. -/
def Queue.stat (Q : Queue) : Nat :=
  Q.state + Q.lastErr.toNat * 2 ^ 8 + Q.sqHead * 2 ^ 16 + Q.cqTail * 2 ^ 32 + b2n Q.cqPh * 2 ^ 48

/-- FAB_PORT_STAT. -/
def Port.stat (P : Port) : Nat := P.state + P.lanes.toNat * 2 ^ 8 + P.corr * 2 ^ 32 + P.replays * 2 ^ 48

/-- CK_RGN_STAT. -/
def Region.ckStat (R : Region) : Nat :=
  R.point + b2n R.moving * 2 ^ 4 + b2n R.stretch * 2 ^ 5 + b2n R.aLock * 2 ^ 6 + b2n R.fLock * 2 ^ 7 + b2n R.dLock * 2 ^ 8

/-- SB_RGN_BOOT. -/
def Region.bootStat (R : Region) : Nat :=
  R.skips.length + R.subs.length * 2 ^ 7 + b2n R.bootDone * R.freeSidings.length * 2 ^ 13 + b2n (decide (R.service = 2)) * 2 ^ 20
    + R.wave * 2 ^ 24 + b2n R.bootDone * 2 ^ 28

/-- SB_RGN_STAT. -/
def Region.stat (R : Region) : Nat :=
  R.service + b2n R.stackLost * 2 ^ 2 + R.resets * 2 ^ 8 + R.clfaults * 2 ^ 16 + R.routers * 2 ^ 24

/-- The HL_ and QE_ registers. -/
def Gk1.readHlQe (s : Gk1) : Reg → Nat
  | .hlId => hlId
  | .hlState => s.part.code + b2n s.edge.hia * 2 ^ 4
  | .hlLink => s.edge.width + 2 ^ 5 + b2n s.ptmValid * 2 ^ 6 + s.edge.retrains * 2 ^ 8
  | .hlPoll => s.reg 0x20 (4 + 8 * 256)
  | .hlSummary => s.reg 0x28 0
  | .hlReport => s.reg 0x30 (8 * 2)
  | .hlTime => s.dtime
  | .hlPtmCtl => s.ptmCtl
  | .hlPtmMaster => if s.edge.ptmReset then 0 else ((s.edge.ptm.head?.map Prod.fst).getD 0)
  | .hlPtmLocal => if s.edge.ptmReset then 0 else ((s.edge.ptm.head?.map Prod.snd).getD 0)
  | .hlErr => s.reg hlErr 0
  | .sqBase q => s.reg (0x100000 + 0x40 * q) 0
  | .cqBase q => s.reg (0x100008 + 0x40 * q) 0
  | .dbell q => s.reg (0x100010 + 0x40 * q) 0
  | .qCtl q => s.qctl q
  | .qIrq q => s.reg (0x10001C + 0x40 * q) 0
  | .qStat q => (s.queue q).stat
  | .qReplay q => s.reg (0x100030 + 0x40 * q) 0
  | _ => 0

/-- The PT_ and MEM_ registers. -/
def Gk1.readPtMem (s : Gk1) : Reg → Nat
  | .ptStatus => s.ptStatus
  | .ptLine => s.line.cycle % 2 ^ 48 + s.line.frac * 4096 / s.line.span * 2 ^ 48
  | .ptPeriod => s.line.period
  | .ptPower => s.ptPower
  | .ptBudget => s.power.eff / 1000 + s.power.up * 2 ^ 16 + s.power.down * 2 ^ 32 + s.power.floor / 1000 * 2 ^ 48
  | .ptPoints => s.power.guard + s.power.limit * 2 ^ 4
  | .ptEven => s.evenReg
  | .ptSlot => s.reg 0x200034 64
  | .ptDroop => s.reg 0x200038 (40 + 256)
  | .ptLedger => s.reg 0x20003C 3000
  | .ptLedgerSeq => s.ledger.seq + s.ledger.held.length * 2 ^ 32
  | .ptEnv => s.power.rackCap + s.power.coolCap * 2 ^ 16 + s.power.inlet.toNat * 2 ^ 32 + s.power.flow.toNat * 2 ^ 48
  | .placeMask i => s.reg (0x300000 + 8 * i) (if i = 0 then 2 ^ 64 - 1 else 0)
  | .placeAttr i => s.reg (0x300800 + 4 * i) (b2n (decide (i = 0)))
  | .rcCtl => s.reg 0x300C00 12
  | .scrubCtl => s.reg 0x300C04 (1 + 24 * 2 + 16 * 2 ^ 16)
  | .memSel => s.reg 0x300C08 0
  | .memStat => memStatOf (s.region (s.reg 0x300C08 0))
  | _ => 0

/-- The FAB_, CK_ and SEC_ registers. -/
def Gk1.readFabCk (s : Gk1) : Reg → Nat
  | .fabId => s.reg 0x400000 0
  | .fabCtl => s.fabCtl
  | .fabDrop => ((List.range 4).map fun i => NMap.getD s.drops i 0 * 2 ^ (16 * i)).sum
  | .routeG i => s.reg (0x401000 + 8 * i) 0
  | .routeM i => s.reg (0x401800 + 8 * i) 0
  | .ctxPart c => s.ctxPart c
  | .portCtl p => s.portCtl p
  | .portStat p => (s.port p).stat
  | .refCtl => s.reg 0x500000 s.refReset
  | .refStat => b2n s.clocks.linkReady + b2n s.clocks.pinReady * 2 + b2n s.clocks.cur * 4 + b2n s.clocks.holdover * 8
      + s.clocks.switches * 2 ^ 8
  | .ckErr => s.reg ckErr 0
  | .rgnCtl r => s.reg (0x500100 + 4 * r) 0
  | .rgnStat r => (s.region r).ckStat
  | .ckPort => ((List.range 48).map fun p => b2n (s.portLock p) * 2 ^ p).sum + b2n s.hostLock * 2 ^ 48
  | .ckObs => s.reg 0x500400 (3 * 2 ^ 10)
  | .serial => Config.serial.toNat
  | .secStat => b2n s.boot.ikReady + b2n s.boot.lkReady * 2 + b2n s.boot.locked * 4
      + b2n (s.boot.lockBlowing || s.boot.blowing.isSome) * 8
  | .ikId i => if s.boot.ikReady then keyWord (leBytes 64 (Config.sha3 s.ikPub).toNat) i else 0
  | .ikPub i => keyWord s.ikPub i
  | .lkPub i => keyWord s.lkPub i
  | _ => 0

/-- The OBS_ and SB_ registers, and the MSI-X tables. While locked, core and region counters and barrier views read as zero
(R749). -/
def Gk1.readObsSb (s : Gk1) : Reg → Nat
  | .traceAddr => s.reg 0x700000 0
  | .traceCtl => s.traceCtl
  | .traceCtx => s.reg 0x700010 (2 ^ 64 - 1)
  | .traceStat => s.obs.traceSeq + s.obs.drops * 2 ^ 32
  | .repKind k => (NMap.getD s.obs.repKind k 0).toNat
  | .ctxSel => s.reg 0x700200 0
  | .ctxCnt i => (NMap.getD (s.ctx (s.reg 0x700200 0)).counters i 0).toNat
  | .coreSel => s.reg 0x700400 0 + b2n s.obs.coreReady * 2 ^ 31
  | .coreCnt i => if s.boot.locked then 0 else (s.obs.coreSnap.getD i 0).toNat
  | .barSel => s.reg 0x700500 0 + b2n s.obs.barReady * 2 ^ 31
  | .barView => if s.boot.locked then 0 else s.obs.barSnap.toNat
  | .rgnCnt r i => if s.boot.locked then 0 else (NMap.getD s.obs.rgnCnt (r * 4 + i) 0).toNat
  | .bootAddr => s.reg 0x780000 0
  | .bootSupp => s.reg 0x780008 0
  | .bootStat => s.boot.err + s.boot.waves * 2 ^ 8 + s.arb * 2 ^ 16 + s.boot.svn * 2 ^ 24 + s.boot.disp * b2n s.boot.dvalid * 2 ^ 32
      + b2n s.boot.dvalid * 2 ^ 38
  | .rgnBoot r => (s.region r).bootStat
  | .disp => s.boot.disp + s.boot.follow.getD 0 0 * 2 ^ 8 + s.boot.follow.getD 1 0 * 2 ^ 16 + s.boot.takeovers * 2 ^ 24
  | .resetMask => s.reg 0x780308 0
  | .sbRgn r => (s.region r).stat
  | .avail => s.held.unavailNs / 1000 % 2 ^ 48 + min s.held.unavailEvents 0xFFFF * 2 ^ 48
  | .replay => min s.held.shares 0xFFFF + min s.held.wholes 0xFFFF * 2 ^ 16 + min s.held.failed 0xFFFF * 2 ^ 32
      + min s.held.lostAcc 0xFFFF * 2 ^ 48
  | .msixTable w => (s.msixWord w).toNat
  | .msixPba i => ((List.range 64).map fun k => b2n (s.edge.msixPending.contains (64 * i + k)) * 2 ^ k).sum
  | _ => 0

/-- The value of a register that works; WO fields and action registers read as zero (R7). -/
def Gk1.readLive (s : Gk1) (r : Reg) : Nat := s.readHlQe r + s.readPtMem r + s.readFabCk r + s.readObsSb r

/-- The value of a register: before its block works, its Reset value (R658). -/
def Gk1.readReg (s : Gk1) (r : Reg) : Nat :=
  if (if r.gated then s.blocksWork else s.powered) then s.readLive r else ({} : Gk1).readLive r

/-- The 4 bytes at an offset that is a multiple of 4. -/
def Gk1.read4 (s : Gk1) (off : Nat) : Nat := match regAt off with
  | some (r, h) => s.readReg r / 2 ^ (32 * h) % 2 ^ 32
  | none => 0

/-- An access of R421: 4 bytes aligned to 4, or 8 bytes aligned to 8. -/
def accessOk (off size : Nat) : Bool := (size = 4 && off % 4 = 0) || (size = 8 && off % 8 = 0)

/-- A BAR0 access that R421 refuses sets HL_ERR.BADACC. -/
def Gk1.badAccess (s : Gk1) : Gk1 := if s.regsWork then s.setErr hlErr 0 else s

/-- A BAR0 read: its value, none for Unsupported Request, and the state after it (R421, R422). -/
def Gk1.barRead (s : Gk1) (off size : Nat) : Option Nat × Gk1 :=
  if !accessOk off size then (none, s.badAccess)
  else if size = 4 then (some (s.read4 off), s)
  else (some (s.read4 off + s.read4 (off + 4) * 2 ^ 32), s)

/-! ## Writes -/

/-- Store the RW bits `rw` of a register in the bits that a write reaches (R7, R421). -/
def Gk1.putRw (s : Gk1) (off reset rw m v : Nat) : Gk1 := s.setReg off reset (mergeBits (s.reg off reset) (m &&& rw) v)

/-- Clear the bits of a W1C register that are written 1 (R7). -/
def Gk1.clearW1c (s : Gk1) (off bits m v : Nat) : Gk1 :=
  s.setReg off 0 (mergeBits (s.reg off 0) (m &&& v &&& bits) 0)

/-- The state after an outcome. -/
def settled (o : Out) (s : Gk1) : Gk1 := match o with
  | .next t => t
  | .fault _ => s
  | .refused _ => s

/-- Clamp a field. -/
def clampFld (v pos width lo hi : Nat) : Nat := setFld v pos width (min (max (fld v pos width) lo) hi)

/-- A queue configuration register: ignored with CFGDROP unless the queue is DISABLED (R425). -/
def Gk1.putQe (s : Gk1) (q off reset rw m v : Nat) (fix : Nat → Nat) : Gk1 :=
  if (s.queue q).state ≠ 0 then s.setErr hlErr 1
  else s.setReg off reset (fix (mergeBits (s.reg off reset) (m &&& rw) v))

/-- QE_Q_CMD (R426, R472): the doorbell word that ENABLE reads is the host's (log 16). -/
def Gk1.queueCmd (s : Gk1) (q v : Nat) : Gk1 :=
  match v % 4 with
  | 1 =>
    if s.linkOpen then settled (doQueueEnable q (some (Config.freeWord s.free)) { s with free := s.free + 1 }) s
    else settled (doQueueEnable q none s) s
  | 2 => settled (doQueueStop q s) s
  | 3 => settled (doQueueAbort q s) s
  | _ => s

/-- HL_RESET (R418). -/
def Gk1.writeReset (s : Gk1) (v : Nat) : Gk1 :=
  let s := if v.testBit 0 then settled (doHlResetQueues s) s else s
  if v.testBit 1 then settled (doHlResetPart (BitVec.ofNat 16 (fld v 16 16)) s) s else s

/-- A write on an HL_ or QE_ register. -/
def Gk1.writeHlQe (s : Gk1) (m v : Nat) : Reg → Gk1
  | .hlReset => s.writeReset v
  | .hlPoll =>
    let n := mergeBits (s.reg 0x20 (4 + 8 * 256)) (m &&& 0xFFFF) v
    s.setReg 0x20 (4 + 8 * 256) (clampFld n 0 8 1 255)
  | .hlSummary => s.putRw 0x28 0 (2 ^ 64 - 63) m v
  | .hlReport =>
    let n := mergeBits (s.reg 0x30 (8 * 2)) (m &&& (2 ^ 64 - 4096 + 31)) v
    s.setReg 0x30 (8 * 2) (clampFld n 1 4 4 15)
  | .hlPtmCtl =>
    let n := mergeBits s.ptmCtl (m &&& 0xFF01) v
    s.setReg 0x48 (1 + 10 * 256) (clampFld n 8 8 1 255)
  | .hlErr => s.clearW1c hlErr 63 m v
  | .sqBase q => s.putQe q (0x100000 + 0x40 * q) 0 (2 ^ 64 - 4096) m v id
  | .cqBase q => s.putQe q (0x100008 + 0x40 * q) 0 (2 ^ 64 - 4096) m v id
  | .dbell q => s.putQe q (0x100010 + 0x40 * q) 0 (2 ^ 64 - 8) m v id
  | .qCtl q => s.putQe q (0x100018 + 0x40 * q) 0x88 (if q = 0 then 0x7FF00FF else 0x7FF7FFF) m v
      fun n => clampFld (clampFld n 0 4 4 15) 4 4 4 15
  | .qIrq q => s.putRw (0x10001C + 0x40 * q) 0 0xFF m v
  | .qCmd q => s.queueCmd q v
  | .qReplay q => s.putRw (0x100030 + 0x40 * q) 0 0xFFFFFFFF m v
  | _ => s

/-- A write of PT_EVEN: an EN with a POINT that is not greater than GUARD is left clear (R625); what already breaks even
running is recorded (R626). -/
def Gk1.writeEven (s : Gk1) (v : Nat) : Gk1 :=
  let v := v &&& 0xF1
  let on := v.testBit 0 && decide (s.power.guard < fld v 4 4)
  let s := s.setReg 0x200030 (15 * 16) (setFld v 0 1 (b2n on))
  if on && (s.power.disturb.isSome || (List.range 64).any fun r => decide (fld v 4 4 < s.capOf r)) then s.ledgerFlag 9 else s

/-- A write of PT_LEDGER: a change of PERIOD ends the open period at once (R628). -/
def Gk1.writeLedger (s : Gk1) (v : Nat) : Gk1 :=
  let n := min (max (fld v 0 16) 300) 60000
  if n = s.reg 0x20003C 3000 then s else (s.setReg 0x20003C 3000 n).sealPeriod.openPeriod

/-- A write of MEM_PLACE_ATTR: entry 0 stays VALID; VALID stays clear over a mask that names a bad number of stacks (R382,
R386). -/
def Gk1.writeAttr (s : Gk1) (i v : Nat) : Gk1 :=
  let ok := i = 0 || (v.testBit 0 && maskOk (s.reg (0x300000 + 8 * i) 0))
  s.setReg (0x300800 + 4 * i) (b2n (decide (i = 0))) (b2n ok + fld v 1 1 * 2)

/-- A write of MEM_SEL: CLR clears CORR and UNCORR of the region then selected (R406). -/
def Gk1.writeMemSel (s : Gk1) (v : Nat) : Gk1 :=
  let s := s.setReg 0x300C08 0 (fld v 0 6)
  if v.testBit 31 then s.modRegion (fld v 0 6) fun R => { R with corr := 0, uncorr := 0 } else s

/-- A write on a PT_ or MEM_ register. -/
def Gk1.writePtMem (s : Gk1) (m v : Nat) : Reg → Gk1
  | .ptEven => s.writeEven v
  | .ptSlot => s.setReg 0x200034 64 (min (max (fld v 0 7) 1) 64)
  | .ptDroop => s.setReg 0x200038 (40 + 256) (clampFld (v &&& 0x7FF) 0 8 1 255)
  | .ptLedger => s.writeLedger v
  | .placeMask i =>
    if i = 0 || (s.reg (0x300800 + 4 * i) 0).testBit 0 then s else s.putRw (0x300000 + 8 * i) 0 (2 ^ 64 - 1) m v
  | .placeAttr i => s.writeAttr i v
  | .rcCtl => s.setReg 0x300C00 12 (min (fld v 0 5) 16)
  | .scrubCtl =>
    let p := fld v 1 8
    s.setReg 0x300C04 (1 + 24 * 2 + 16 * 2 ^ 16) (setFld (v &&& 0xFF01FF) 1 8 (if p = 0 || 168 < p then 168 else p))
  | .memSel => s.writeMemSel v
  | _ => s

/-- A route table entry has been written: it has had no usable port for no longer than this (R538). -/
def Gk1.routed (s : Gk1) (off : Nat) : Gk1 := { s with routedAt := NMap.set s.routedAt off s.dtime }

/-- A write of FAB_CTL (R506, R538): ports leave DOWN, or TRAINING, as ENABLE says. -/
def Gk1.writeFabCtl (s : Gk1) (v : Nat) : Gk1 :=
  (s.setReg 0x400008 (10 * 256 + 10 * 65536) (clampFld (clampFld (v &&& 0xFFFF01) 8 8 1 255) 16 8 1 255)).trainPorts

/-- A write on a FAB_, CK_ or SEC_ register. -/
def Gk1.writeFabCk (s : Gk1) (m v : Nat) : Reg → Gk1
  | .fabId => if s.fabCtl.testBit 0 then s else s.setReg 0x400000 0 (v % 2 ^ 32)
  | .fabCtl => s.writeFabCtl v
  | .routeG i => (s.putRw (0x401000 + 8 * i) 0 (2 ^ 48 - 1) m v).routed (0x401000 + 8 * i)
  | .routeM i => (s.putRw (0x401800 + 8 * i) 0 (2 ^ 48 - 1) m v).routed (0x401800 + 8 * i)
  | .ctxPart c => if c = 0 then s else s.putRw (0x402000 + 8 * c) 0 (2 ^ 50 - 1) m v
  | .portCtl p => settled (doFabPortCtlWrite p (BitVec.ofNat 32 v) s) s
  | .refCtl => settled (doCkRefCtlWrite (BitVec.ofNat 32 v) s) s
  | .ckErr => s.clearW1c ckErr 15 m v
  | .rgnCtl r => settled (doCkRgnCtlWrite r (BitVec.ofNat 32 v) s) s
  | .ckObs => settled (doCkObsCtlWrite (BitVec.ofNat 32 v) s) s
  | .secCtl => if v.testBit 0 then settled (doDebugLock (BitVec.ofNat 16 (fld v 16 16)) s) s else s
  | _ => s

/-- A write of SB_BOOT_CTL (R667, R669). -/
def Gk1.writeBootCtl (s : Gk1) (v : Nat) : Gk1 :=
  let s := if v.testBit 0 then settled (doBootGo s) s else s
  if v.testBit 1 then settled (doArbCommit (BitVec.ofNat 16 (fld v 16 16)) s) s else s

/-- A write on a word of the MSI-X table: an unmasked vector whose pending bit is set sends its message (PCI Express,
log 24). -/
def Gk1.writeMsix (s : Gk1) (w v : Nat) : Gk1 :=
  let n := v &&& (if w % 4 = 0 then 2 ^ 32 - 4 else if w % 4 = 3 then 1 else 2 ^ 32 - 1)
  let s := { s with edge := { s.edge with
    msixTable := NMap.put s.edge.msixTable w (BitVec.ofNat 32 n) (if w % 4 = 3 then 1 else 0) } }
  if w % 4 = 3 && n = 0 && s.edge.msixPending.contains (w / 4) then s.msixSend (w / 4) else s

/-- A write on an OBS_ or SB_ register or the MSI-X table. -/
def Gk1.writeObsSb (s : Gk1) (m v : Nat) : Reg → Gk1
  | .traceAddr => if s.boot.locked then s else s.putRw 0x700000 0 (2 ^ 64 - 4096) m v
  | .traceCtl => s.writeTraceCtl m v
  | .traceCtx => if s.boot.locked then s else s.putRw 0x700010 (2 ^ 64 - 1) (2 ^ 64 - 1) m v
  | .ctxSel => s.setReg 0x700200 0 (fld v 0 6)
  | .coreSel => settled (doObsCoreselWrite (BitVec.ofNat 32 v) s) s
  | .barSel => settled (doObsBarselWrite (BitVec.ofNat 32 v) s) s
  | .bootAddr => if s.part = .linkUp then s.putRw 0x780000 0 (2 ^ 64 - 64) m v else s
  | .bootSupp => if s.part = .linkUp then s.putRw 0x780008 0 (2 ^ 64 - 8) m v else s
  | .bootCtl => s.writeBootCtl v
  | .resetMask => s.putRw 0x780308 0 (2 ^ 64 - 1) m v
  | .resetCtl => if v.testBit 0 then settled (doPartitionResetGo (BitVec.ofNat 16 (fld v 16 16)) s) s else s
  | .msixTable w => s.writeMsix w v
  | _ => s

/-- Act on the bits `m` of a register with the value v, by its fields' access codes (R7); a register whose block does not work
yet ignores the write (R658). -/
def Gk1.writeReg (s : Gk1) (r : Reg) (m v : Nat) : Gk1 :=
  if !(if r.gated then s.blocksWork else s.regsWork) then s else
  match r with
  | .hlReset | .hlPoll | .hlSummary | .hlReport | .hlPtmCtl | .hlErr | .sqBase _ | .cqBase _ | .dbell _ | .qCtl _ | .qIrq _
  | .qCmd _ | .qReplay _ => s.writeHlQe m v r
  | .ptEven | .ptSlot | .ptDroop | .ptLedger | .placeMask _ | .placeAttr _ | .rcCtl | .scrubCtl | .memSel => s.writePtMem m v r
  | .fabId | .fabCtl | .routeG _ | .routeM _ | .ctxPart _ | .portCtl _ | .refCtl | .ckErr | .rgnCtl _ | .ckObs | .secCtl =>
    s.writeFabCk m v r
  | _ => s.writeObsSb m v r

/-- A 4-byte write; nothing where no register is laid down (R421, R422). -/
def Gk1.write4 (s : Gk1) (off v : Nat) : Gk1 := match regAt off with
  | some (r, h) => s.writeReg r (reach 4 h) (present 4 h v)
  | none => s

/-- A BAR0 write (R421): one 64-bit register whole, or two 32-bit registers, the lower first. -/
def Gk1.barWrite (s : Gk1) (off size v : Nat) : Gk1 :=
  if !accessOk off size then s.badAccess
  else if size = 4 then s.write4 off v
  else match regBase off with
    | some r => if r.wide then s.writeReg r (reach 8 0) v else (s.write4 off (v % 2 ^ 32)).write4 (off + 4) (v / 2 ^ 32)
    | none => s.write4 (off + 4) (v / 2 ^ 32)

/-! ## The rows -/

/-- REGISTER_WRITE: a write of BAR0 (R7, R421, R422, R658). -/
def execRegisterWrite (offset size : Nat) (value : BitVec 64) (s : State) : Answer := s.act fun s => .next (s.barWrite offset size value.toNat)

/-- The register is one of a queue's configuration registers (R425). -/
def isQeConfig (off : Nat) : Bool := match regAt off with
  | some (.sqBase _, _) | some (.cqBase _, _) | some (.dbell _, _) | some (.qCtl _, _) => true
  | _ => false

/-- QE_CONFIG_WRITE (R425). -/
def execQeConfigWrite (offset size : Nat) (value : BitVec 64) (s : State) : Answer := s.act fun s =>
  .next (if isQeConfig offset then s.barWrite offset size value.toNat else s)

/-- MEM_PLACE_MASK_WRITE (R386). An access of another size is refused (R421). -/
def execMemPlaceMaskWrite (entry size half : Nat) (value : BitVec 64) (s : State) : Answer := s.act fun s =>
  if 256 ≤ entry then .fault .noSuchUnit
  else if size = 8 || (size = 4 && decide (half < 2)) then
    .next (s.writeReg (.placeMask entry) (reach size half) (present size half value.toNat))
  else .next s.badAccess

/-- MEM_PLACE_ATTR_WRITE (R386). -/
def execMemPlaceAttrWrite (entry : Nat) (value : BitVec 32) (s : State) : Answer := s.act fun s =>
  if 256 ≤ entry then .fault .noSuchUnit else .next (s.writeReg (.placeAttr entry) (reach 4 0) value.toNat)

/-- MEM_SEL_CLR (R406): a write of MEM_SEL. -/
def execMemSelClr (value : BitVec 32) (s : State) : Answer := s.act fun s => .next (s.writeReg .memSel (reach 4 0) value.toNat)

/-- PT_EVEN_WRITE (R625). -/
def execPtEvenWrite (value : BitVec 32) (s : State) : Answer := s.act fun s => .next (s.writeReg .ptEven (reach 4 0) value.toNat)

end Sys2Proof.Machine
end

