-- ==== Sys2Proof/Machine/Scalar.lean ====
section
/-! DEFINITION. The majors sint and sfp: scalar integer and FP32 instructions (R231, R232, R275, R282, R284). -/

namespace Sys2Proof.Machine

/-- s registers an S-form word reads or writes. -/
def sRegs (u : SUse) (w : Nat) : List Nat :=
  [wD w] ++ (if u.sa then [wA w] else []) ++ (if u.b && !wImmB w then [wB w] else []) ++ (if u.sc then [wSc w] else [])

/-- Issue a scalar instruction: the result is written when the guard holds in the issuing lane (R275). -/
def scalar (maj op : Nat) (u : SUse) (f : Nat → Nat → Nat → Nat × Flg) (core grp : Nat) (s : Gk1) : Out :=
  issue maj (opIs op) (fun w _ => sOk u w) (sRegs u) 0 (fun i =>
    let G := i.G
    if !G.issues i.w then .ok i.s else
    let r := f (G.sn (wA i.w)) (G.sb i.w) (G.sn (wSc i.w))
    i.done ((G.setS (wD i.w) (BitVec.ofNat 32 r.1)).flag r.2)) core grp s

/-- Issue a scalar integer instruction. -/
def sint (op : Nat) (u : SUse) (f : Nat → Nat → Nat → Nat) (core grp : Nat) (s : Gk1) : Out :=
  scalar 1 op u (fun a b c => (f a b c, {})) core grp s

/-- An FP32 result with its flags. -/
def fp32Res (ops : List Nat) (r : Nat) : Nat × Flg := (r, flagsOf .fp32 ops r)

/-- Issue a scalar FP32 instruction. -/
def sfp (op : Nat) (u : SUse) (f : Nat → Nat → Nat → Nat × Flg) (core grp : Nat) (s : Gk1) : Out :=
  scalar 2 op u f core grp s

/-- Issue add64 or sub64 on even s pairs; an immediate is sign-extended to 64 bits (R229, R282, R284). -/
def sint64 (op : Nat) (f : Nat → Nat → Nat) (core grp : Nat) (s : Gk1) : Out :=
  issue 1 (opIs op)
    (fun w _ => sOk {} w && wD w % 2 = 0 && wA w % 2 = 0 && (wImmB w || wB w % 2 = 0))
    (fun w => [wD w, wD w + 1, wA w, wA w + 1] ++ (if wImmB w then [] else [wB w, wB w + 1])) 0 (fun i =>
      let G := i.G
      if !G.issues i.w then .ok i.s else
      let b := if wImmB i.w then twos 64 (sgn 32 (wImm32 i.w)) else G.pair (wB i.w)
      i.done (G.setPair (wD i.w) (f (G.pair (wA i.w)) b % 2 ^ 64))) core grp s

/-- Signed value of a 32-bit word. -/
def sg (a : Nat) : Int := sgn 32 a

/-- sintAdd: addition wraps (R232). -/
def execSintAdd (core grp : Nat) (s : State) : Answer := s.act fun s =>
  sint 0 {} (fun a b _ => a + b) core grp s

/-- sintSub: subtraction wraps (R232). -/
def execSintSub (core grp : Nat) (s : State) : Answer := s.act fun s =>
  sint 1 {} (fun a b _ => a + (2 ^ 32 - b)) core grp s

/-- sintMulLo: the low 32 bits of a product (R232). -/
def execSintMulLo (core grp : Nat) (s : State) : Answer := s.act fun s =>
  sint 2 {} (fun a b _ => a * b) core grp s

/-- sintMadLo: SA x B + SC (R284). -/
def execSintMadLo (core grp : Nat) (s : State) : Answer := s.act fun s =>
  sint 3 { sc := true } (fun a b c => a * b + c) core grp s

/-- sintMinI32: signed minimum. -/
def execSintMinI32 (core grp : Nat) (s : State) : Answer := s.act fun s =>
  sint 4 {} (fun a b _ => if sg a ≤ sg b then a else b) core grp s

/-- sintMaxI32: signed maximum. -/
def execSintMaxI32 (core grp : Nat) (s : State) : Answer := s.act fun s =>
  sint 5 {} (fun a b _ => if sg a ≤ sg b then b else a) core grp s

/-- sintMinU32: unsigned minimum. -/
def execSintMinU32 (core grp : Nat) (s : State) : Answer := s.act fun s =>
  sint 6 {} (fun a b _ => min a b) core grp s

/-- sintMaxU32: unsigned maximum. -/
def execSintMaxU32 (core grp : Nat) (s : State) : Answer := s.act fun s =>
  sint 7 {} (fun a b _ => max a b) core grp s

/-- sintAnd: and. -/
def execSintAnd (core grp : Nat) (s : State) : Answer := s.act fun s =>
  sint 8 {} (fun a b _ => a &&& b) core grp s

/-- sintOr: or. -/
def execSintOr (core grp : Nat) (s : State) : Answer := s.act fun s =>
  sint 9 {} (fun a b _ => a ||| b) core grp s

/-- sintXor: exclusive or. -/
def execSintXor (core grp : Nat) (s : State) : Answer := s.act fun s =>
  sint 10 {} (fun a b _ => a ^^^ b) core grp s

/-- sintNot: complement of SA (R284). -/
def execSintNot (core grp : Nat) (s : State) : Answer := s.act fun s =>
  sint 11 { b := false } (fun a _ _ => a ^^^ 0xFFFFFFFF) core grp s

/-- sintShl: shift left, the count modulo 32 (R232). -/
def execSintShl (core grp : Nat) (s : State) : Answer := s.act fun s =>
  sint 12 {} (fun a b _ => a <<< (b % 32)) core grp s

/-- sintShr: logical shift right (R232). -/
def execSintShr (core grp : Nat) (s : State) : Answer := s.act fun s =>
  sint 13 {} (fun a b _ => a >>> (b % 32)) core grp s

/-- sintSra: arithmetic shift right (R232). -/
def execSintSra (core grp : Nat) (s : State) : Answer := s.act fun s =>
  sint 14 {} (fun a b _ => twos 32 (sg a / (2 ^ (b % 32) : Nat))) core grp s

/-- sintMov: the second source unchanged (R284). -/
def execSintMov (core grp : Nat) (s : State) : Answer := s.act fun s =>
  sint 15 { sa := false } (fun _ b _ => b) core grp s

/-- sintSeq: equal, 1 or 0 (R284). -/
def execSintSeq (core grp : Nat) (s : State) : Answer := s.act fun s =>
  sint 18 {} (fun a b _ => b2n (decide (a = b))) core grp s

/-- sintSne: not equal. -/
def execSintSne (core grp : Nat) (s : State) : Answer := s.act fun s =>
  sint 19 {} (fun a b _ => b2n (decide (a ≠ b))) core grp s

/-- sltI32: signed less-than. -/
def execSltI32 (core grp : Nat) (s : State) : Answer := s.act fun s =>
  sint 20 {} (fun a b _ => b2n (decide (sg a < sg b))) core grp s

/-- sleI32: signed less-or-equal. -/
def execSleI32 (core grp : Nat) (s : State) : Answer := s.act fun s =>
  sint 21 {} (fun a b _ => b2n (decide (sg a ≤ sg b))) core grp s

/-- sltU32: unsigned less-than. -/
def execSltU32 (core grp : Nat) (s : State) : Answer := s.act fun s =>
  sint 22 {} (fun a b _ => b2n (decide (a < b))) core grp s

/-- sleU32: unsigned less-or-equal. -/
def execSleU32 (core grp : Nat) (s : State) : Answer := s.act fun s =>
  sint 23 {} (fun a b _ => b2n (decide (a ≤ b))) core grp s

/-- add64 (R284). -/
def execAdd64 (core grp : Nat) (s : State) : Answer := s.act fun s => sint64 16 (fun a b => a + b) core grp s

/-- sub64 (R284). -/
def execSub64 (core grp : Nat) (s : State) : Answer := s.act fun s => sint64 17 (fun a b => a + (2 ^ 64 - b)) core grp s

/-- sfpAdd: addition, one rounding (R231). -/
def execSfpAdd (core grp : Nat) (s : State) : Answer := s.act fun s =>
  sfp 0 {} (fun a b _ => fp32Res [a, b] (fAdd .fp32 a b)) core grp s

/-- sfpSub: subtraction. -/
def execSfpSub (core grp : Nat) (s : State) : Answer := s.act fun s =>
  sfp 1 {} (fun a b _ => fp32Res [a, b] (fSub .fp32 a b)) core grp s

/-- sfpMul: multiplication. -/
def execSfpMul (core grp : Nat) (s : State) : Answer := s.act fun s =>
  sfp 2 {} (fun a b _ => fp32Res [a, b] (fMul .fp32 a b)) core grp s

/-- sfpFma: SA x B + SC rounded once (R231, R284). -/
def execSfpFma (core grp : Nat) (s : State) : Answer := s.act fun s =>
  sfp 3 { sc := true } (fun a b c => fp32Res [a, b, c] (fFma .fp32 a b c)) core grp s

/-- sfpMin: minimum (R231). -/
def execSfpMin (core grp : Nat) (s : State) : Answer := s.act fun s =>
  sfp 4 {} (fun a b _ => fp32Res [a, b] (fMin .fp32 a b)) core grp s

/-- sfpMax: maximum (R231). -/
def execSfpMax (core grp : Nat) (s : State) : Answer := s.act fun s =>
  sfp 5 {} (fun a b _ => fp32Res [a, b] (fMax .fp32 a b)) core grp s

/-- sfpSeq: equal, 1 or 0 (R284). -/
def execSfpSeq (core grp : Nat) (s : State) : Answer := s.act fun s =>
  sfp 6 {} (fun a b _ => (b2n ((decodeF .fp32 a).eq (decodeF .fp32 b)), {})) core grp s

/-- sfpSlt: less-than. -/
def execSfpSlt (core grp : Nat) (s : State) : Answer := s.act fun s =>
  sfp 7 {} (fun a b _ => (b2n ((decodeF .fp32 a).lt (decodeF .fp32 b)), {})) core grp s

/-- sfpSle: less-or-equal. -/
def execSfpSle (core grp : Nat) (s : State) : Answer := s.act fun s =>
  sfp 8 {} (fun a b _ => (b2n ((decodeF .fp32 a).lt (decodeF .fp32 b) || (decodeF .fp32 a).eq (decodeF .fp32 b)), {})) core grp s

/-- cvtI32F32: FP32 to a signed integer, toward zero, saturating, NaN to 0 (R284). -/
def execCvtI32F32 (core grp : Nat) (s : State) : Answer := s.act fun s =>
  sfp 9 { b := false } (fun a _ _ => (twos 32 (fToInt (-(2 ^ 31)) (2 ^ 31 - 1) false a), {})) core grp s

/-- cvtF32I32: signed integer to FP32, to nearest (R284). -/
def execCvtF32I32 (core grp : Nat) (s : State) : Answer := s.act fun s =>
  sfp 10 { b := false } (fun a _ _ => (fOfInt .fp32 .nearest (sg a), {})) core grp s

end Sys2Proof.Machine
end

