-- ==== Sys2Proof/Machine/Tile.lean ====
section
/-! DEFINITION. The major tile (R251-R255, R288). -/

namespace Sys2Proof.Machine

/-- Element (r, c) of a tile. -/
def Core.tile (C : Core) (t r c : Nat) : Nat := (NMap.getD C.tiles (256 * t + 16 * r + c) (0 : BitVec 32)).toNat

/-- Write element (r, c) of a tile. -/
def Core.setTile (C : Core) (t r c v : Nat) : Core :=
  { C with tiles := NMap.put C.tiles (256 * t + 16 * r + c) (BitVec.ofNat 32 v) 0 }

/-- The tile operated on: IMM16[2:0] (R288). -/
def wTile (w : Nat) : Nat := fld w 48 3

/-- The row or column index: s[VB] or IMM16[11:8], mod 16 (R252, R288). -/
def tileIdx (i : GI) : Nat := if wBsel i.w = 1 then i.G.sn (wB i.w) % 16 else fld i.w 56 4

/-- The field check of the row and column moves. -/
def tileMoveOk (u : VUse) (w : Nat) : Bool :=
  vOk { u with bs := [1, 2], imm := if wBsel w = 2 then 0xF07 else 0x7 } w

/-- Issue tile.ld or tile.st: address s[VA], pitch s[VB], both multiples of 64, the whole range in the core store
(R252, R253, R288). It executes when its guard holds in the issuing lane (log 14). -/
def tileMem (op : Nat) (writes : Bool) (f : Nat → Nat → Nat → Core → Core) (core grp : Nat) (s : Gk1) : Out :=
  issue 0x10 (opIs op) (fun w _ => vOk { vd := 0, bs := [1], imm := 7 } w) (fun w => vRegs w false true false false) 0 (fun i =>
    let a := i.G.sn (wA i.w)
    let p := i.G.sn (wB i.w)
    if !i.G.issues i.w then .ok i.s
    else if directHeld i writes then .hold
    else if !(a % 64 = 0 && p % 64 = 0 && decide (a + 15 * p + 64 ≤ storeSize)) then .fault 0x22
    else .ok (i.s.modCore i.core (f (wTile i.w) a p))) core grp s

/-- tile.ld: row i becomes 64 bytes at addr + i x pitch (R252). -/
def execTileLd (core grp : Nat) (s : State) : Answer := s.act fun s =>
  tileMem 0 false (fun t a p C =>
    lanes.foldl (fun C r => lanes.foldl (fun C c => C.setTile t r c (Mem.le C.store (a + r * p + 4 * c) 4)) C) C) core grp s

/-- tile.st: 64 bytes at addr + i x pitch become row i (R252). -/
def execTileSt (core grp : Nat) (s : State) : Answer := s.act fun s =>
  tileMem 1 true (fun t a p C => { C with
    store := lanes.foldl (fun m r => lanes.foldl (fun m c => Mem.writeLE m (a + r * p + 4 * c) 4 (C.tile t r c)) m) C.store })
    core grp s

/-- Issue a tile read into register VD. -/
def tileRead (op vport : Nat) (ok : Nat → Bool) (f : GI → Nat → Nat) (core grp : Nat) (s : Gk1) : Out :=
  issue 0x10 (opIs op) (fun w _ => ok w) (fun w => vRegs w false false false false) vport (fun i =>
    i.done (i.G.setV (wD i.w) (i.G.on i.w) (f i))) core grp s

/-- tile.rd.row: lane l receives element (r, l) (R252). -/
def execTileRdRow (core grp : Nat) (s : State) : Answer := s.act fun s =>
  tileRead 2 2 (tileMoveOk {}) (fun i l => i.C.tile (wTile i.w) (tileIdx i) l) core grp s

/-- tile.rd.col: lane l receives element (l, c) (R252). -/
def execTileRdCol (core grp : Nat) (s : State) : Answer := s.act fun s =>
  tileRead 3 2 (tileMoveOk {}) (fun i l => i.C.tile (wTile i.w) l (tileIdx i)) core grp s

/-- Issue a tile write from register VA, for active lanes whose guard is true (R252). -/
def tileWrite (op : Nat) (at_ : Nat → Nat → Nat × Nat) (core grp : Nat) (s : Gk1) : Out :=
  issue 0x10 (opIs op) (fun w _ => tileMoveOk { vd := 0 } w) (fun w => vRegs w false false false false) 2 (fun i =>
    let G := i.G
    .ok (i.s.modCore i.core fun C => (lanes.filter (G.on i.w)).foldl (fun C l =>
      C.setTile (wTile i.w) (at_ (tileIdx i) l).1 (at_ (tileIdx i) l).2 (G.vn (wA i.w) l)) C)) core grp s

/-- tile.wr.row: element (r, l) becomes lane l (R252). -/
def execTileWrRow (core grp : Nat) (s : State) : Answer := s.act fun s => tileWrite 4 (fun r l => (r, l)) core grp s

/-- tile.wr.col: element (l, c) becomes lane l (R252). -/
def execTileWrCol (core grp : Nat) (s : State) : Answer := s.act fun s => tileWrite 5 (fun c l => (l, c)) core grp s

/-- tile.tr: element (i, j) of td becomes element (j, i) of ts; td may be ts (R252). It executes when its guard holds in
the issuing lane (log 14). -/
def execTileTr (core grp : Nat) (s : State) : Answer := s.act fun s =>
  issue 0x10 (opIs 6) (fun w _ => vOk { vd := 0, imm := 0x3F } w) (fun _ => []) 16 (fun i =>
    if !i.G.issues i.w then .ok i.s else
    let C0 := i.C
    .ok (i.s.modCore i.core fun C => lanes.foldl (fun C r => lanes.foldl (fun C c =>
      C.setTile (wTile i.w) r c (C0.tile (fld i.w 51 3) c r)) C) C)) core grp s

/-- Issue an axis reduction: lane l receives the tree reduction of 16 elements (R252, R254). -/
def tileRed (op : Nat) (elem : Core → Nat → Nat → Nat → Nat) (core grp : Nat) (s : Gk1) : Out :=
  issue 0x10 (opIs op) (fun w _ => vOk { types := [0, 1, 2, 3], imm := 0x7007 } w && redOk w) (fun _ => []) 32 (fun i =>
    let G := i.G
    let xs := fun l => lanes.map fun k => elem i.C (wTile i.w) l k
    let r := fun l => tree16 (wRedop i.w) (wType i.w) (xs l)
    let fl := lanes.foldl (fun (f : Flg) l => if G.on i.w l then f.or (treeFlags (wRedop i.w) (wType i.w) (xs l)) else f) {}
    i.done ((G.setV (wD i.w) (G.on i.w) r).flag fl)) core grp s

/-- tile.red.row: lane l receives the reduction of row l (R252). -/
def execTileRedRow (core grp : Nat) (s : State) : Answer := s.act fun s => tileRed 7 (fun C t l k => C.tile t l k) core grp s

/-- tile.red.col: lane l receives the reduction of column l (R252). -/
def execTileRedCol (core grp : Nat) (s : State) : Answer := s.act fun s => tileRed 8 (fun C t l k => C.tile t k l) core grp s

/-- tile.pack: row l of the tile receives lane l's registers vbase to vbase + 15, a gather (R239-R241, R288). Only rows
whose lane is active and whose guard is true are written. -/
def execTilePack (core grp : Nat) (s : State) : Answer := s.act fun s =>
  issue 0x10 (opIs 9) (fun w _ => vOk { vd := 0, imm := 7 } w && decide (wA w ≤ 16)) (fun _ => []) 2 (fun i =>
    let G := i.G
    let s := i.s.modCore i.core fun C => (lanes.filter (G.on i.w)).foldl (fun C l =>
      lanes.foldl (fun C k => C.setTile (wTile i.w) l k (G.vn (wA i.w + k) l)) C) C
    .ok (s.modGroup i.core i.grp Group.gather)) core grp s

end Sys2Proof.Machine
end

