-- ==== Sys2Proof/Machine/Vector.lean ====
section
/-! DEFINITION. The vector majors vfp, vint, vcmp, vsf and vcvt (R228-R234, R257-R260, R279-R281, R284, R286). -/

namespace Sys2Proof.Machine

/-- Issue a V-form instruction whose lanes write register VD: `f` gives a lane's result and flags from its sources VA,
the second source and VC (R234). -/
def vec (maj op vport : Nat) (u : VUse) (f : GI → Nat → Nat → Nat → Nat → Nat × Flg) (core grp : Nat) (s : Gk1) : Out :=
  issue maj (opIs op) (fun w _ => vOk u w) (fun w => vRegs w false false u.sx false) vport (fun i =>
    let G := i.G
    let res := fun l => f i l (G.vn (wA i.w) l) (G.vb i.w (wType i.w) l) (G.vn (wC i.w) l)
    let G' := G.setV (wD i.w) (G.on i.w) (fun l => (res l).1)
    let fl := lanes.foldl (fun a l => if G.on i.w l then a.or (res l).2 else a) {}
    i.done (G'.flag fl)) core grp s

/-- The low and high halves of a word (R228). -/
def halves (x : Nat) : Nat × Nat := (x % 2 ^ 16, x / 2 ^ 16 % 2 ^ 16)

/-- The format of a floating-point TYPE (R280). -/
def fmtOf (ty : Nat) : Fmt := match ty with | 4 => .bf16 | 5 => .fp16 | _ => .fp32

/-- A floating-point operation on a lane by TYPE: once on FP32, on both halves of a packed word (R228, R231). -/
def fpLane (ty : Nat) (op : Fmt → List Nat → Nat) (xs : List Nat) : Nat × Flg :=
  let f := fmtOf ty
  if f = .fp32 then
    let r := op f xs
    (r, flagsOf f xs r)
  else
    let lo := xs.map fun x => (halves x).1
    let hi := xs.map fun x => (halves x).2
    let a := op f lo
    let b := op f hi
    (a + b * 2 ^ 16, (flagsOf f lo a).or (flagsOf f hi b))

/-- Issue a vfp arithmetic instruction of two sources. -/
def vfp2 (op : Nat) (f : Fmt → Nat → Nat → Nat) (core grp : Nat) (s : Gk1) : Out :=
  vec 8 op 2 { bs := [0, 1, 2], types := [0, 4, 5] } (fun i _ a b _ =>
    fpLane (wType i.w) (fun m xs => f m (xs.getD 0 0) (xs.getD 1 0)) [a, b]) core grp s

/-- Issue a vfp instruction of one source that only changes sign bits; no NaN is made canonical by a move of bits,
every NaN result is canonical (R73, R231). -/
def vfp1 (op : Nat) (f : Fmt → Nat → Nat) (core grp : Nat) (s : Gk1) : Out :=
  vec 8 op 2 { types := [0, 4, 5] } (fun i _ a _ _ =>
    fpLane (wType i.w) (fun m xs => let x := xs.getD 0 0
                                    if (decodeF m x).isNan then nanBits m else f m x) [a]) core grp s

/-- vfpAdd (R231). -/
def execVfpAdd (core grp : Nat) (s : State) : Answer := s.act fun s => vfp2 0 fAdd core grp s

/-- vfpSub (R231). -/
def execVfpSub (core grp : Nat) (s : State) : Answer := s.act fun s => vfp2 1 fSub core grp s

/-- vfpMul (R231). -/
def execVfpMul (core grp : Nat) (s : State) : Answer := s.act fun s => vfp2 2 fMul core grp s

/-- vfpFma: VA x B + VC, one rounding (R231, R284). -/
def execVfpFma (core grp : Nat) (s : State) : Answer := s.act fun s =>
  vec 8 3 2 { bs := [0, 1, 2], vc := 31, types := [0, 4, 5] } (fun i _ a b c =>
    fpLane (wType i.w) (fun m xs => fFma m (xs.getD 0 0) (xs.getD 1 0) (xs.getD 2 0)) [a, b, c]) core grp s

/-- vfpMin (R231). -/
def execVfpMin (core grp : Nat) (s : State) : Answer := s.act fun s => vfp2 4 fMin core grp s

/-- vfpMax (R231). -/
def execVfpMax (core grp : Nat) (s : State) : Answer := s.act fun s => vfp2 5 fMax core grp s

/-- vfpAbs: the sign bit clear (R284). -/
def execVfpAbs (core grp : Nat) (s : State) : Answer := s.act fun s => vfp1 6 (fun m x => x % 2 ^ m.signBit) core grp s

/-- vfpNeg: the sign bit inverted (R284). -/
def execVfpNeg (core grp : Nat) (s : State) : Answer := s.act fun s => vfp1 7 fNeg core grp s

/-- vfpMov: the bits of the second source unchanged (R284). -/
def execVfpMov (core grp : Nat) (s : State) : Answer := s.act fun s =>
  vec 8 8 2 { va := 0, bs := [0, 1, 2], types := [0, 4, 5] } (fun _ _ _ b _ => (b, {})) core grp s

/-- Issue a vint instruction of two sources; the result is taken modulo 2^32 (R232). -/
def vint2 (op : Nat) (types : List Nat) (f : Nat → Nat → Nat → Nat) (core grp : Nat) (s : Gk1) : Out :=
  vec 9 op 2 { bs := [0, 1, 2], types := types } (fun i _ a b _ => (f (wType i.w) a b, {})) core grp s

/-- The integer types of vint (R284). -/
def intTypes : List Nat := [1, 2, 3]

/-- Order of two words by TYPE: signed for .i32, else unsigned. -/
def intLe (ty a b : Nat) : Bool := if ty = 1 then decide (sgn 32 a ≤ sgn 32 b) else decide (a ≤ b)

/-- vintAdd: addition wraps (R232). -/
def execVintAdd (core grp : Nat) (s : State) : Answer := s.act fun s => vint2 0 intTypes (fun _ a b => a + b) core grp s

/-- vintSub: subtraction wraps (R232). -/
def execVintSub (core grp : Nat) (s : State) : Answer := s.act fun s => vint2 1 intTypes (fun _ a b => a + (2 ^ 32 - b)) core grp s

/-- vintMulLo: the low 32 bits of a product (R232). -/
def execVintMulLo (core grp : Nat) (s : State) : Answer := s.act fun s => vint2 2 intTypes (fun _ a b => a * b) core grp s

/-- vintMin: minimum by TYPE (R284). -/
def execVintMin (core grp : Nat) (s : State) : Answer := s.act fun s => vint2 4 [1, 2] (fun ty a b => if intLe ty a b then a else b) core grp s

/-- vintMax: maximum by TYPE (R284). -/
def execVintMax (core grp : Nat) (s : State) : Answer := s.act fun s => vint2 5 [1, 2] (fun ty a b => if intLe ty a b then b else a) core grp s

/-- vintAnd: and. -/
def execVintAnd (core grp : Nat) (s : State) : Answer := s.act fun s => vint2 6 intTypes (fun _ a b => a &&& b) core grp s

/-- vintOr: or. -/
def execVintOr (core grp : Nat) (s : State) : Answer := s.act fun s => vint2 7 intTypes (fun _ a b => a ||| b) core grp s

/-- vintXor: exclusive or. -/
def execVintXor (core grp : Nat) (s : State) : Answer := s.act fun s => vint2 8 intTypes (fun _ a b => a ^^^ b) core grp s

/-- vintShl: shift left (R232). -/
def execVintShl (core grp : Nat) (s : State) : Answer := s.act fun s => vint2 10 intTypes (fun _ a b => a <<< (b % 32)) core grp s

/-- vintShr: logical shift right (R232). -/
def execVintShr (core grp : Nat) (s : State) : Answer := s.act fun s => vint2 11 intTypes (fun _ a b => a >>> (b % 32)) core grp s

/-- vintSra: arithmetic shift right (R232). -/
def execVintSra (core grp : Nat) (s : State) : Answer := s.act fun s => vint2 12 intTypes (fun _ a b => twos 32 (sgn 32 a / (2 ^ (b % 32) : Nat))) core grp s

/-- vintMadLo: VA x B + VC (R232, R284). -/
def execVintMadLo (core grp : Nat) (s : State) : Answer := s.act fun s =>
  vec 9 3 2 { bs := [0, 1, 2], vc := 31, types := intTypes } (fun _ _ a b c => (a * b + c, {})) core grp s

/-- vintNot: complement of VA (R284). -/
def execVintNot (core grp : Nat) (s : State) : Answer := s.act fun s =>
  vec 9 9 2 { types := intTypes } (fun _ _ a _ _ => (a ^^^ 0xFFFFFFFF, {})) core grp s

/-- vintMov: the second source (R284). -/
def execVintMov (core grp : Nat) (s : State) : Answer := s.act fun s =>
  vec 9 13 2 { va := 0, bs := [0, 1, 2], types := intTypes } (fun _ _ _ b _ => (b, {})) core grp s

/-- vintSel: VA where predicate VC[2:0] holds and B elsewhere (R284). -/
def execVintSel (core grp : Nat) (s : State) : Answer := s.act fun s =>
  vec 9 14 2 { bs := [0, 1, 2], vc := 7, types := intTypes } (fun i l a b _ =>
    (if (i.G.p (wC i.w)).getLsbD l then a else b, {})) core grp s

/-- Write a predicate in the active lanes whose guard is true (R233). -/
def Group.setPon (G : Group) (n : Nat) (on : Nat → Bool) (f : Nat → Bool) : Group :=
  G.setP n (BitVec.ofNat 16 (maskOf (lanes.filter fun l => if on l then f l else (G.p n).getLsbD l)))

/-- A compare of one element pair: on FP32 by IEEE 754, on integers by TYPE. -/
structure Cmp where
  fp : XNum → XNum → Bool
  int : Nat → Nat → Nat → Bool

/-- A compare of a lane by TYPE; a packed compare is true when both its elements are (R284). -/
def cmpLane (c : Cmp) (ty a b : Nat) : Bool :=
  match ty with
  | 0 => c.fp (decodeF .fp32 a) (decodeF .fp32 b)
  | 4 | 5 =>
    let f := fmtOf ty
    c.fp (decodeF f (halves a).1) (decodeF f (halves b).1) && c.fp (decodeF f (halves a).2) (decodeF f (halves b).2)
  | _ => c.int ty a b

/-- Issue a compare: it writes predicate VD[2:0] (R233, R284). -/
def vcmp (op : Nat) (types : List Nat) (c : Cmp) (core grp : Nat) (s : Gk1) : Out :=
  issue 0x0A (opIs op) (fun w _ => vOk { vd := 7, bs := [0, 1, 2], types := types } w) (fun w => vRegs w false false false false) 2
    (fun i =>
      let G := i.G
      i.done (G.setPon (wD i.w) (G.on i.w) fun l => cmpLane c (wType i.w) (G.vn (wA i.w) l) (G.vb i.w (wType i.w) l)))
    core grp s

/-- vcmpEq. -/
def execVcmpEq (core grp : Nat) (s : State) : Answer := s.act fun s =>
  vcmp 0 [0, 1, 2, 3, 4, 5] { fp := XNum.eq, int := fun _ a b => a = b } core grp s

/-- vcmpNe: the complement of equal (unordered operands are not equal). -/
def execVcmpNe (core grp : Nat) (s : State) : Answer := s.act fun s =>
  vcmp 1 [0, 1, 2, 3, 4, 5] { fp := fun a b => !a.eq b, int := fun _ a b => a ≠ b } core grp s

/-- vcmpLt. -/
def execVcmpLt (core grp : Nat) (s : State) : Answer := s.act fun s =>
  vcmp 2 [0, 1, 2, 4, 5] { fp := XNum.lt, int := fun t a b => !intLe t b a } core grp s

/-- vcmpLe. -/
def execVcmpLe (core grp : Nat) (s : State) : Answer := s.act fun s =>
  vcmp 3 [0, 1, 2, 4, 5] { fp := fun a b => a.lt b || a.eq b, int := intLe } core grp s

/-- vcmpGt. -/
def execVcmpGt (core grp : Nat) (s : State) : Answer := s.act fun s =>
  vcmp 4 [0, 1, 2, 4, 5] { fp := fun a b => b.lt a, int := fun t a b => !intLe t a b } core grp s

/-- vcmpGe. -/
def execVcmpGe (core grp : Nat) (s : State) : Answer := s.act fun s =>
  vcmp 5 [0, 1, 2, 4, 5] { fp := fun a b => b.lt a || a.eq b, int := fun t a b => intLe t b a } core grp s

/-- Issue predicate logic on VA[2:0] and VB[2:0] into VD[2:0] (R284). -/
def predOp (op vb : Nat) (f : Bool → Bool → Bool) (core grp : Nat) (s : Gk1) : Out :=
  issue 0x0A (opIs op) (fun w _ => vOk { vd := 7, va := 7, bs := [0], vb := vb } w) (fun _ => []) 2 (fun i =>
    let G := i.G
    let a := G.p (wA i.w)
    let b := G.p (wB i.w)
    i.done (G.setPon (wD i.w) (G.on i.w) fun l => f (a.getLsbD l) (b.getLsbD l))) core grp s

/-- p.and. -/
def execPAnd (core grp : Nat) (s : State) : Answer := s.act fun s => predOp 8 7 (· && ·) core grp s

/-- p.or. -/
def execPOr (core grp : Nat) (s : State) : Answer := s.act fun s => predOp 9 7 (· || ·) core grp s

/-- p.xor. -/
def execPXor (core grp : Nat) (s : State) : Answer := s.act fun s => predOp 10 7 (· != ·) core grp s

/-- p.andn: VA and not VB (log 12). -/
def execPAndn (core grp : Nat) (s : State) : Answer := s.act fun s => predOp 11 7 (fun a b => a && !b) core grp s

/-- p.not: the complement of VA. -/
def execPNot (core grp : Nat) (s : State) : Answer := s.act fun s => predOp 12 0 (fun a _ => !a) core grp s

/-- Issue a special function of R259 by OP. -/
def vsf (op : Nat) (core grp : Nat) (s : Gk1) : Out :=
  vec 0x0B op 4 {} (fun _ _ a _ _ => (special op a, flagsOf .fp32 [a] (special op a))) core grp s

/-- vf.exp2 (R259). -/
def execVfExp2 (core grp : Nat) (s : State) : Answer := s.act fun s => vsf 0 core grp s

/-- vf.log2 (R259). -/
def execVfLog2 (core grp : Nat) (s : State) : Answer := s.act fun s => vsf 1 core grp s

/-- vf.rcp (R259). -/
def execVfRcp (core grp : Nat) (s : State) : Answer := s.act fun s => vsf 2 core grp s

/-- vf.rsqrt (R259). -/
def execVfRsqrt (core grp : Nat) (s : State) : Answer := s.act fun s => vsf 3 core grp s

/-- vf.sqrt, correctly rounded (R259). -/
def execVfSqrt (core grp : Nat) (s : State) : Answer := s.act fun s => vsf 4 core grp s

/-- vf.sin (R259). -/
def execVfSin (core grp : Nat) (s : State) : Answer := s.act fun s => vsf 5 core grp s

/-- vf.cos (R259). -/
def execVfCos (core grp : Nat) (s : State) : Answer := s.act fun s => vsf 6 core grp s

/-- The function code of vf.act and vf.dact (R284). -/
def wFn (w : Nat) : Nat := fld w 48 4

/-- The leaky slope is an operand of function code 2. -/
def slopes (fn slope : Nat) : List Nat := if fn = 2 then [slope] else []

/-- vf.act: the activation that IMM16[3:0] names, leaky slope in s[SX]; codes 11-15 are refused (R257). Code 0 is the
function none: the value unchanged. -/
def execVfAct (core grp : Nat) (s : State) : Answer := s.act fun s =>
  issue 0x0B (opIs 8) (fun w _ => vOk { sx := true, imm := 15 } w && decide (wFn w ≤ 10)) (fun w => [wSx w]) 4 (fun i =>
    let G := i.G
    let f := fun l =>
      let a := G.vn (wA i.w) l
      if wFn i.w = 0 then roundF .fp32 .nearest (decodeF .fp32 a)
      else activation (wFn i.w) (G.sn (wSx i.w)) (decodeF .fp32 a)
    let fl := lanes.foldl (fun c l => if G.on i.w l then c.or (flagsOf .fp32 (G.vn (wA i.w) l :: slopes (wFn i.w) (G.sn (wSx i.w))) (f l)) else c) {}
    i.done ((G.setV (wD i.w) (G.on i.w) f).flag fl)) core grp s

/-- VA times a derivative f', rounded once (R258). -/
def dact (op : Nat) (codes : Nat → Bool) (der : Nat → Nat → Nat → XNum) (core grp : Nat) (s : Gk1) : Out :=
  issue 0x0B (opIs op) (fun w _ => vOk { bs := [0, 1, 2], sx := true, imm := if wBsel w = 2 then 0xFFFF else 15 } w && codes (wFn w))
    (fun w => vRegs w false false true false) 4 (fun i =>
      let G := i.G
      let r := fun l => roundF .fp32 .nearest
        ((decodeF .fp32 (G.vn (wA i.w) l)).mul (der (wFn i.w) (G.sn (wSx i.w)) (G.vb i.w 0 l)))
      let fl := lanes.foldl (fun c l =>
        if G.on i.w l then
          c.or (flagsOf .fp32 (G.vn (wA i.w) l :: G.vb i.w 0 l :: slopes (wFn i.w) (G.sn (wSx i.w))) (r l)) else c) {}
      i.done ((G.setV (wD i.w) (G.on i.w) r).flag fl)) core grp s

/-- vf.dact: the PRE column of R217 (R258). Code 0, none, has f' = 1 (log 13). -/
def execVfDact (core grp : Nat) (s : State) : Answer := s.act fun s =>
  dact 9 (fun c => decide (c ≤ 10)) (fun c slope b =>
    if c = 0 then XNum.ofInt 1 0 else decodeF .fp32 (derivPre c slope (decodeF .fp32 b))) core grp s

/-- vf.dact.out: the OUT column of R217; a code without an OUT method is refused (R258). -/
def execVfDactOut (core grp : Nat) (s : State) : Answer := s.act fun s =>
  dact 10 (fun c => c = 0 || hasOut c) (fun c slope b =>
    if c = 0 then XNum.ofInt 1 0 else derivOut c slope (decodeF .fp32 b)) core grp s

/-- A conversion of one FP32 element to BF16 or FP16 under a rounding mode, with the overflow that R265 counts. -/
def cvtElem (f : Fmt) (rnd : Rnd) (a : Nat) : Nat × Bool :=
  let x := decodeF .fp32 a
  let r := roundF f rnd x
  (r, x.isFin && (decodeF f r).isInf)

/-- Count NONFIN events into the conversion safeguard word (R265). -/
def Group.countNonfin (G : Group) (n : Nat) : Group := { G with csw := tswSum G.csw (tswAdd 0 { nonfin := n }) }

/-- cvt from .f32: to packed 16-bit, VA the even and B the odd element, or to an integer (R260, R286). -/
def execCvtFromF32 (core grp : Nat) (s : State) : Answer := s.act fun s =>
  issue 0x0C (opIs 0)
    (fun w _ =>
      let packed := wType w = 4 || wType w = 5
      let st := wRnd w = 1
      if packed then vOk { bs := [0, 1, 2], types := [4, 5], rnd := [0, 1, 2], vc := if st then 31 else 0, sx := st } w
        && (!st || wSx w % 2 = 0)
      else vOk { types := [1, 2], rnd := [0, 2] } w)
    (fun w => vRegs w false false (wRnd w = 1) false) 2 (fun i =>
      let G := i.G
      let w := i.w
      let ty := wType w
      if ty = 4 || ty = 5 then
        let f := fmtOf ty
        let seed := G.pair (wSx w)
        let one := fun l (k a : Nat) => cvtElem f (Rnd.ofCode (wRnd w) seed (G.vn (wC w) l + k)) a
        let lo := fun l => one l 0 (G.vn (wA w) l)
        let hi := fun l => one l 1 (G.vb w 0 l)
        let on := lanes.filter (G.on w)
        let n := (on.filter fun l => (lo l).2).length + (on.filter fun l => (hi l).2).length
        i.done (((G.setV (wD w) (G.on w) fun l => (lo l).1 + (hi l).1 * 2 ^ 16).flag { ovfl := decide (n ≠ 0) }).countNonfin n)
      else
        let near := wRnd w = 0
        i.done (G.setV (wD w) (G.on w) fun l =>
          if ty = 1 then twos 32 (fToInt (-(2 ^ 31)) (2 ^ 31 - 1) near (G.vn (wA w) l))
          else (fToInt 0 (2 ^ 32 - 1) near (G.vn (wA w) l)).toNat)) core grp s

/-- The field check of cvt from packed 16-bit: RND is a field of every cvt, and with 0b01 VC and the pair SX are (R281, R286,
R773). -/
def unpackOk (w : Nat) : Bool :=
  let st := wRnd w = 1
  vOk { rnd := [0, 1, 2], vc := if st then 31 else 0, sx := st } w && wD w % 2 = 0 && (!st || wSx w % 2 = 0)

/-- cvt from packed 16-bit to the FP32 pair VD, VD + 1, exact whatever RND says (R286). -/
def cvtUnpack (op : Nat) (f : Fmt) (core grp : Nat) (s : Gk1) : Out :=
  issue 0x0C (opIs op) (fun w _ => unpackOk w) (fun _ => []) 2 (fun i =>
    let G := i.G
    let ext := fun x => roundF .fp32 .nearest (decodeF f x)
    let G1 := G.setV (wD i.w) (G.on i.w) fun l => ext (halves (G.vn (wA i.w) l)).1
    i.done (G1.setV (wD i.w + 1) (G.on i.w) fun l => ext (halves (G.vn (wA i.w) l)).2)) core grp s

/-- cvt from .bf16x2 (R286). -/
def execCvtFromBf16x2 (core grp : Nat) (s : State) : Answer := s.act fun s => cvtUnpack 1 .bf16 core grp s

/-- cvt from .f16x2 (R286). -/
def execCvtFromF16x2 (core grp : Nat) (s : State) : Answer := s.act fun s => cvtUnpack 2 .fp16 core grp s

/-- cvt from an integer to .f32, nearest or toward zero (R286). -/
def cvtInt (op : Nat) (val : Nat → Int) (core grp : Nat) (s : Gk1) : Out :=
  vec 0x0C op 2 { rnd := [0, 2] } (fun i _ a _ _ =>
    (fOfInt .fp32 (if wRnd i.w = 2 then .zero else .nearest) (val a), {})) core grp s

/-- cvt from .i32 (R286). -/
def execCvtFromI32 (core grp : Nat) (s : State) : Answer := s.act fun s => cvtInt 3 (sgn 32) core grp s

/-- cvt from .u32 (R286). -/
def execCvtFromU32 (core grp : Nat) (s : State) : Answer := s.act fun s => cvtInt 4 (fun a => a) core grp s

end Sys2Proof.Machine
end

