-- ==== Sys2Proof/Machine/Dispatch.lean ====
section
/-! DEFINITION. One arm per command: the meaning it calls (R3, the table of operations and events). -/

namespace Sys2Proof.Machine

def exec (i : Instr) (s : State) : Host.Outcome State Fault Refusal :=
  match i with
  | .ctlNop core grp => Sys2Proof.Machine.execCtlNop core grp s
  | .ctlIf core grp => Sys2Proof.Machine.execCtlIf core grp s
  | .ctlElse core grp => Sys2Proof.Machine.execCtlElse core grp s
  | .ctlEndif core grp => Sys2Proof.Machine.execCtlEndif core grp s
  | .ctlLoop core grp => Sys2Proof.Machine.execCtlLoop core grp s
  | .ctlBrk core grp => Sys2Proof.Machine.execCtlBrk core grp s
  | .ctlEndloop core grp => Sys2Proof.Machine.execCtlEndloop core grp s
  | .ctlExit core grp => Sys2Proof.Machine.execCtlExit core grp s
  | .ctlBraAny core grp => Sys2Proof.Machine.execCtlBraAny core grp s
  | .ctlBraAll core grp => Sys2Proof.Machine.execCtlBraAll core grp s
  | .ctlBra core grp => Sys2Proof.Machine.execCtlBra core grp s
  | .gsRd core grp => Sys2Proof.Machine.execGsRd core grp s
  | .gsClr core grp => Sys2Proof.Machine.execGsClr core grp s
  | .gsRdt core grp => Sys2Proof.Machine.execGsRdt core grp s
  | .gsClrt core grp => Sys2Proof.Machine.execGsClrt core grp s
  | .sintAdd core grp => Sys2Proof.Machine.execSintAdd core grp s
  | .sintSub core grp => Sys2Proof.Machine.execSintSub core grp s
  | .sintMulLo core grp => Sys2Proof.Machine.execSintMulLo core grp s
  | .sintMadLo core grp => Sys2Proof.Machine.execSintMadLo core grp s
  | .sintMinI32 core grp => Sys2Proof.Machine.execSintMinI32 core grp s
  | .sintMaxI32 core grp => Sys2Proof.Machine.execSintMaxI32 core grp s
  | .sintMinU32 core grp => Sys2Proof.Machine.execSintMinU32 core grp s
  | .sintMaxU32 core grp => Sys2Proof.Machine.execSintMaxU32 core grp s
  | .sintAnd core grp => Sys2Proof.Machine.execSintAnd core grp s
  | .sintOr core grp => Sys2Proof.Machine.execSintOr core grp s
  | .sintXor core grp => Sys2Proof.Machine.execSintXor core grp s
  | .sintNot core grp => Sys2Proof.Machine.execSintNot core grp s
  | .sintShl core grp => Sys2Proof.Machine.execSintShl core grp s
  | .sintShr core grp => Sys2Proof.Machine.execSintShr core grp s
  | .sintSra core grp => Sys2Proof.Machine.execSintSra core grp s
  | .sintMov core grp => Sys2Proof.Machine.execSintMov core grp s
  | .add64 core grp => Sys2Proof.Machine.execAdd64 core grp s
  | .sub64 core grp => Sys2Proof.Machine.execSub64 core grp s
  | .sintSeq core grp => Sys2Proof.Machine.execSintSeq core grp s
  | .sintSne core grp => Sys2Proof.Machine.execSintSne core grp s
  | .sltI32 core grp => Sys2Proof.Machine.execSltI32 core grp s
  | .sleI32 core grp => Sys2Proof.Machine.execSleI32 core grp s
  | .sltU32 core grp => Sys2Proof.Machine.execSltU32 core grp s
  | .sleU32 core grp => Sys2Proof.Machine.execSleU32 core grp s
  | .sfpAdd core grp => Sys2Proof.Machine.execSfpAdd core grp s
  | .sfpSub core grp => Sys2Proof.Machine.execSfpSub core grp s
  | .sfpMul core grp => Sys2Proof.Machine.execSfpMul core grp s
  | .sfpFma core grp => Sys2Proof.Machine.execSfpFma core grp s
  | .sfpMin core grp => Sys2Proof.Machine.execSfpMin core grp s
  | .sfpMax core grp => Sys2Proof.Machine.execSfpMax core grp s
  | .sfpSeq core grp => Sys2Proof.Machine.execSfpSeq core grp s
  | .sfpSlt core grp => Sys2Proof.Machine.execSfpSlt core grp s
  | .sfpSle core grp => Sys2Proof.Machine.execSfpSle core grp s
  | .cvtI32F32 core grp => Sys2Proof.Machine.execCvtI32F32 core grp s
  | .cvtF32I32 core grp => Sys2Proof.Machine.execCvtF32I32 core grp s
  | .vfpAdd core grp => Sys2Proof.Machine.execVfpAdd core grp s
  | .vfpSub core grp => Sys2Proof.Machine.execVfpSub core grp s
  | .vfpMul core grp => Sys2Proof.Machine.execVfpMul core grp s
  | .vfpFma core grp => Sys2Proof.Machine.execVfpFma core grp s
  | .vfpMin core grp => Sys2Proof.Machine.execVfpMin core grp s
  | .vfpMax core grp => Sys2Proof.Machine.execVfpMax core grp s
  | .vfpAbs core grp => Sys2Proof.Machine.execVfpAbs core grp s
  | .vfpNeg core grp => Sys2Proof.Machine.execVfpNeg core grp s
  | .vfpMov core grp => Sys2Proof.Machine.execVfpMov core grp s
  | .vintAdd core grp => Sys2Proof.Machine.execVintAdd core grp s
  | .vintSub core grp => Sys2Proof.Machine.execVintSub core grp s
  | .vintMulLo core grp => Sys2Proof.Machine.execVintMulLo core grp s
  | .vintMadLo core grp => Sys2Proof.Machine.execVintMadLo core grp s
  | .vintMin core grp => Sys2Proof.Machine.execVintMin core grp s
  | .vintMax core grp => Sys2Proof.Machine.execVintMax core grp s
  | .vintAnd core grp => Sys2Proof.Machine.execVintAnd core grp s
  | .vintOr core grp => Sys2Proof.Machine.execVintOr core grp s
  | .vintXor core grp => Sys2Proof.Machine.execVintXor core grp s
  | .vintNot core grp => Sys2Proof.Machine.execVintNot core grp s
  | .vintShl core grp => Sys2Proof.Machine.execVintShl core grp s
  | .vintShr core grp => Sys2Proof.Machine.execVintShr core grp s
  | .vintSra core grp => Sys2Proof.Machine.execVintSra core grp s
  | .vintMov core grp => Sys2Proof.Machine.execVintMov core grp s
  | .vintSel core grp => Sys2Proof.Machine.execVintSel core grp s
  | .vcmpEq core grp => Sys2Proof.Machine.execVcmpEq core grp s
  | .vcmpNe core grp => Sys2Proof.Machine.execVcmpNe core grp s
  | .vcmpLt core grp => Sys2Proof.Machine.execVcmpLt core grp s
  | .vcmpLe core grp => Sys2Proof.Machine.execVcmpLe core grp s
  | .vcmpGt core grp => Sys2Proof.Machine.execVcmpGt core grp s
  | .vcmpGe core grp => Sys2Proof.Machine.execVcmpGe core grp s
  | .pAnd core grp => Sys2Proof.Machine.execPAnd core grp s
  | .pOr core grp => Sys2Proof.Machine.execPOr core grp s
  | .pXor core grp => Sys2Proof.Machine.execPXor core grp s
  | .pAndn core grp => Sys2Proof.Machine.execPAndn core grp s
  | .pNot core grp => Sys2Proof.Machine.execPNot core grp s
  | .vfExp2 core grp => Sys2Proof.Machine.execVfExp2 core grp s
  | .vfLog2 core grp => Sys2Proof.Machine.execVfLog2 core grp s
  | .vfRcp core grp => Sys2Proof.Machine.execVfRcp core grp s
  | .vfRsqrt core grp => Sys2Proof.Machine.execVfRsqrt core grp s
  | .vfSqrt core grp => Sys2Proof.Machine.execVfSqrt core grp s
  | .vfSin core grp => Sys2Proof.Machine.execVfSin core grp s
  | .vfCos core grp => Sys2Proof.Machine.execVfCos core grp s
  | .vfAct core grp => Sys2Proof.Machine.execVfAct core grp s
  | .vfDact core grp => Sys2Proof.Machine.execVfDact core grp s
  | .vfDactOut core grp => Sys2Proof.Machine.execVfDactOut core grp s
  | .cvtFromF32 core grp => Sys2Proof.Machine.execCvtFromF32 core grp s
  | .cvtFromBf16x2 core grp => Sys2Proof.Machine.execCvtFromBf16x2 core grp s
  | .cvtFromF16x2 core grp => Sys2Proof.Machine.execCvtFromF16x2 core grp s
  | .cvtFromI32 core grp => Sys2Proof.Machine.execCvtFromI32 core grp s
  | .cvtFromU32 core grp => Sys2Proof.Machine.execCvtFromU32 core grp s
  | .vShfl core grp => Sys2Proof.Machine.execVShfl core grp s
  | .vShflXor core grp => Sys2Proof.Machine.execVShflXor core grp s
  | .vShflUp core grp => Sys2Proof.Machine.execVShflUp core grp s
  | .vShflDown core grp => Sys2Proof.Machine.execVShflDown core grp s
  | .vRdlane core grp => Sys2Proof.Machine.execVRdlane core grp s
  | .vBallot core grp => Sys2Proof.Machine.execVBallot core grp s
  | .laneRed core grp => Sys2Proof.Machine.execLaneRed core grp s
  | .vScanAdd core grp => Sys2Proof.Machine.execVScanAdd core grp s
  | .vLd core grp => Sys2Proof.Machine.execVLd core grp s
  | .vSt core grp => Sys2Proof.Machine.execVSt core grp s
  | .sLd core grp => Sys2Proof.Machine.execSLd core grp s
  | .sSt core grp => Sys2Proof.Machine.execSSt core grp s
  | .vatomAdd core grp => Sys2Proof.Machine.execVatomAdd core grp s
  | .vatomAddF32 core grp => Sys2Proof.Machine.execVatomAddF32 core grp s
  | .vatomMinI32 core grp => Sys2Proof.Machine.execVatomMinI32 core grp s
  | .vatomMaxI32 core grp => Sys2Proof.Machine.execVatomMaxI32 core grp s
  | .vatomMinU32 core grp => Sys2Proof.Machine.execVatomMinU32 core grp s
  | .vatomMaxU32 core grp => Sys2Proof.Machine.execVatomMaxU32 core grp s
  | .vatomMinF32 core grp => Sys2Proof.Machine.execVatomMinF32 core grp s
  | .vatomMaxF32 core grp => Sys2Proof.Machine.execVatomMaxF32 core grp s
  | .vatomAnd core grp => Sys2Proof.Machine.execVatomAnd core grp s
  | .vatomOr core grp => Sys2Proof.Machine.execVatomOr core grp s
  | .vatomXor core grp => Sys2Proof.Machine.execVatomXor core grp s
  | .vatomExch core grp => Sys2Proof.Machine.execVatomExch core grp s
  | .vatomCas core grp => Sys2Proof.Machine.execVatomCas core grp s
  | .tileLd core grp => Sys2Proof.Machine.execTileLd core grp s
  | .tileSt core grp => Sys2Proof.Machine.execTileSt core grp s
  | .tileRdRow core grp => Sys2Proof.Machine.execTileRdRow core grp s
  | .tileRdCol core grp => Sys2Proof.Machine.execTileRdCol core grp s
  | .tileWrRow core grp => Sys2Proof.Machine.execTileWrRow core grp s
  | .tileWrCol core grp => Sys2Proof.Machine.execTileWrCol core grp s
  | .tileTr core grp => Sys2Proof.Machine.execTileTr core grp s
  | .tileRedRow core grp => Sys2Proof.Machine.execTileRedRow core grp s
  | .tileRedCol core grp => Sys2Proof.Machine.execTileRedCol core grp s
  | .tilePack core grp => Sys2Proof.Machine.execTilePack core grp s
  | .vqLd core grp => Sys2Proof.Machine.execVqLd core grp s
  | .vqSt core grp => Sys2Proof.Machine.execVqSt core grp s
  | .mma core grp => Sys2Proof.Machine.execMma core grp s
  | .mmaWg core grp => Sys2Proof.Machine.execMmaWg core grp s
  | .accDrain core grp => Sys2Proof.Machine.execAccDrain core grp s
  | .wgsOpen core grp => Sys2Proof.Machine.execWgsOpen core grp s
  | .wgsCommit core grp => Sys2Proof.Machine.execWgsCommit core grp s
  | .wgsDiscard core grp => Sys2Proof.Machine.execWgsDiscard core grp s
  | .gangHold core grp => Sys2Proof.Machine.execGangHold core grp s
  | .gangFree core grp => Sys2Proof.Machine.execGangFree core grp s
  | .barInit core grp => Sys2Proof.Machine.execBarInit core grp s
  | .barArrive core grp => Sys2Proof.Machine.execBarArrive core grp s
  | .barWait core grp => Sys2Proof.Machine.execBarWait core grp s
  | .barArw core grp => Sys2Proof.Machine.execBarArw core grp s
  | .barGen core grp => Sys2Proof.Machine.execBarGen core grp s
  | .barInsp core grp => Sys2Proof.Machine.execBarInsp core grp s
  | .fenceRelease core grp => Sys2Proof.Machine.execFenceRelease core grp s
  | .fenceAcquire core grp => Sys2Proof.Machine.execFenceAcquire core grp s
  | .fenceFull core grp => Sys2Proof.Machine.execFenceFull core grp s
  | .mvGet core grp => Sys2Proof.Machine.execMvGet core grp s
  | .mvPut core grp => Sys2Proof.Machine.execMvPut core grp s
  | .nsPut core grp => Sys2Proof.Machine.execNsPut core grp s
  | .nsGet core grp => Sys2Proof.Machine.execNsGet core grp s
  | .mAtomAdd core grp => Sys2Proof.Machine.execMAtomAdd core grp s
  | .mAtomAddF32 core grp => Sys2Proof.Machine.execMAtomAddF32 core grp s
  | .mAtomMinI32 core grp => Sys2Proof.Machine.execMAtomMinI32 core grp s
  | .mAtomMaxI32 core grp => Sys2Proof.Machine.execMAtomMaxI32 core grp s
  | .mAtomMinU32 core grp => Sys2Proof.Machine.execMAtomMinU32 core grp s
  | .mAtomMaxU32 core grp => Sys2Proof.Machine.execMAtomMaxU32 core grp s
  | .mAtomMinF32 core grp => Sys2Proof.Machine.execMAtomMinF32 core grp s
  | .mAtomMaxF32 core grp => Sys2Proof.Machine.execMAtomMaxF32 core grp s
  | .mAtomAnd core grp => Sys2Proof.Machine.execMAtomAnd core grp s
  | .mAtomOr core grp => Sys2Proof.Machine.execMAtomOr core grp s
  | .mAtomXor core grp => Sys2Proof.Machine.execMAtomXor core grp s
  | .mAtomExch core grp => Sys2Proof.Machine.execMAtomExch core grp s
  | .mAtomCas core grp => Sys2Proof.Machine.execMAtomCas core grp s
  | .mAtomReply id => Sys2Proof.Machine.execMAtomReply id s
  | .hAlloc core grp => Sys2Proof.Machine.execHAlloc core grp s
  | .hFree core grp => Sys2Proof.Machine.execHFree core grp s
  | .heapReply id => Sys2Proof.Machine.execHeapReply id s
  | .matrixQueueAccept core grp => Sys2Proof.Machine.execMatrixQueueAccept core grp s
  | .bankSpaceAccept core grp => Sys2Proof.Machine.execBankSpaceAccept core grp s
  | .engpendResume core grp => Sys2Proof.Machine.execEngpendResume core grp s
  | .feederFill core => Sys2Proof.Machine.execFeederFill core s
  | .oprelArrival core rid => Sys2Proof.Machine.execOprelArrival core rid s
  | .kStep core => Sys2Proof.Machine.execKStep core s
  | .mmaComplete core rid => Sys2Proof.Machine.execMmaComplete core rid s
  | .mmaWgComplete core rid => Sys2Proof.Machine.execMmaWgComplete core rid s
  | .drainStart core => Sys2Proof.Machine.execDrainStart core s
  | .drainComplete core => Sys2Proof.Machine.execDrainComplete core s
  | .gangForm cluster => Sys2Proof.Machine.execGangForm cluster s
  | .gangLeave cluster => Sys2Proof.Machine.execGangLeave cluster s
  | .gangReleaseCountExpiry cluster => Sys2Proof.Machine.execGangReleaseCountExpiry cluster s
  | .wgsCommitComplete cluster => Sys2Proof.Machine.execWgsCommitComplete cluster s
  | .engineArrival id => Sys2Proof.Machine.execEngineArrival id s
  | .meshWriteArrival id => Sys2Proof.Machine.execMeshWriteArrival id s
  | .closingWriteResend id => Sys2Proof.Machine.execClosingWriteResend id s
  | .meshAck id => Sys2Proof.Machine.execMeshAck id s
  | .meshReadReply id => Sys2Proof.Machine.execMeshReadReply id s
  | .moverComplete rid => Sys2Proof.Machine.execMoverComplete rid s
  | .regionCacheAccess id => Sys2Proof.Machine.execRegionCacheAccess id s
  | .regionCacheFill granule sector noise => Sys2Proof.Machine.execRegionCacheFill granule sector noise s
  | .dramRefresh region channel bank => Sys2Proof.Machine.execDramRefresh region channel bank s
  | .dramRetrain region channel => Sys2Proof.Machine.execDramRetrain region channel s
  | .scrub granule noise => Sys2Proof.Machine.execScrub granule noise s
  | .rebuildSweepEnd region channel => Sys2Proof.Machine.execRebuildSweepEnd region channel s
  | .hostLinkTrain lanes => Sys2Proof.Machine.execHostLinkTrain lanes s
  | .hostLinkDown => Sys2Proof.Machine.execHostLinkDown s
  | .functionLevelReset => Sys2Proof.Machine.execFunctionLevelReset s
  | .hotReset => Sys2Proof.Machine.execHotReset s
  | .perst => Sys2Proof.Machine.execPerst s
  | .d3hotEntry => Sys2Proof.Machine.execD3hotEntry s
  | .d0Return => Sys2Proof.Machine.execD0Return s
  | .hostCompletion id good data => Sys2Proof.Machine.execHostCompletion id good data s
  | .hostCompletionTimeout id => Sys2Proof.Machine.execHostCompletionTimeout id s
  | .ptmDialogue mtime ltime => Sys2Proof.Machine.execPtmDialogue mtime ltime s
  | .summaryPoll summary words => Sys2Proof.Machine.execSummaryPoll summary words s
  | .descriptorFetch queue descs => Sys2Proof.Machine.execDescriptorFetch queue descs s
  | .kernelStart queue deferred => Sys2Proof.Machine.execKernelStart queue deferred s
  | .kernelLaunch kid => Sys2Proof.Machine.execKernelLaunch kid s
  | .departureSlot region => Sys2Proof.Machine.execDepartureSlot region s
  | .readmissionRequest cluster => Sys2Proof.Machine.execReadmissionRequest cluster s
  | .kernelComplete kid => Sys2Proof.Machine.execKernelComplete kid s
  | .kernelTimeout kid => Sys2Proof.Machine.execKernelTimeout kid s
  | .grainHandout kid cluster => Sys2Proof.Machine.execGrainHandout kid cluster s
  | .grainComplete kid cluster => Sys2Proof.Machine.execGrainComplete kid cluster s
  | .completionRecord queue => Sys2Proof.Machine.execCompletionRecord queue s
  | .msixMessage vector => Sys2Proof.Machine.execMsixMessage vector s
  | .nopDescriptor queue => Sys2Proof.Machine.execNopDescriptor queue s
  | .copyStart queue => Sys2Proof.Machine.execCopyStart queue s
  | .copyComplete queue data hostOk => Sys2Proof.Machine.execCopyComplete queue data hostOk s
  | .objectReleased context isFence index => Sys2Proof.Machine.execObjectReleased context isFence index s
  | .fenceWait queue => Sys2Proof.Machine.execFenceWait queue s
  | .fenceWaitSatisfied queue => Sys2Proof.Machine.execFenceWaitSatisfied queue s
  | .fenceSignal queue => Sys2Proof.Machine.execFenceSignal queue s
  | .watchUpdate watch => Sys2Proof.Machine.execWatchUpdate watch s
  | .jobCreate queue => Sys2Proof.Machine.execJobCreate queue s
  | .jobDestroy queue => Sys2Proof.Machine.execJobDestroy queue s
  | .bucketReady queue => Sys2Proof.Machine.execBucketReady queue s
  | .slotReserve bucket => Sys2Proof.Machine.execSlotReserve bucket s
  | .bucketTimeout bucket => Sys2Proof.Machine.execBucketTimeout bucket s
  | .planOpen queue => Sys2Proof.Machine.execPlanOpen queue s
  | .planMark queue => Sys2Proof.Machine.execPlanMark queue s
  | .planClose queue => Sys2Proof.Machine.execPlanClose queue s
  | .recompute queue => Sys2Proof.Machine.execRecompute queue s
  | .recomputeEntry queue => Sys2Proof.Machine.execRecomputeEntry queue s
  | .snapshot queue => Sys2Proof.Machine.execSnapshot queue s
  | .snapshotBlockRead snap => Sys2Proof.Machine.execSnapshotBlockRead snap s
  | .snapshotDone snap => Sys2Proof.Machine.execSnapshotDone snap s
  | .timetableLoad table => Sys2Proof.Machine.execTimetableLoad table s
  | .capPreset => Sys2Proof.Machine.execCapPreset s
  | .lineNotice => Sys2Proof.Machine.execLineNotice s
  | .lineDisturbance => Sys2Proof.Machine.execLineDisturbance s
  | .disturbanceClear => Sys2Proof.Machine.execDisturbanceClear s
  | .envNotice => Sys2Proof.Machine.execEnvNotice s
  | .ledgerGet => Sys2Proof.Machine.execLedgerGet s
  | .defectSupplement supplement => Sys2Proof.Machine.execDefectSupplement supplement s
  | .selftest => Sys2Proof.Machine.execSelftest s
  | .selftestRun failed => Sys2Proof.Machine.execSelftestRun failed s
  | .selftestTimeout => Sys2Proof.Machine.execSelftestTimeout s
  | .dramMargin => Sys2Proof.Machine.execDramMargin s
  | .dramMarginDone result => Sys2Proof.Machine.execDramMarginDone result s
  | .maintEnter => Sys2Proof.Machine.execMaintEnter s
  | .maintenanceEntry => Sys2Proof.Machine.execMaintenanceEntry s
  | .maintEnterTimeout => Sys2Proof.Machine.execMaintEnterTimeout s
  | .maintExit => Sys2Proof.Machine.execMaintExit s
  | .ctxCreate => Sys2Proof.Machine.execCtxCreate s
  | .ctxDestroy => Sys2Proof.Machine.execCtxDestroy s
  | .teardownComplete context => Sys2Proof.Machine.execTeardownComplete context s
  | .regionAssign => Sys2Proof.Machine.execRegionAssign s
  | .regionRelease => Sys2Proof.Machine.execRegionRelease s
  | .regionReleaseEffect => Sys2Proof.Machine.execRegionReleaseEffect s
  | .regionReleaseTimeout => Sys2Proof.Machine.execRegionReleaseTimeout s
  | .attest => Sys2Proof.Machine.execAttest s
  | .hlResetQueues => Sys2Proof.Machine.execHlResetQueues s
  | .hlResetPart key => Sys2Proof.Machine.execHlResetPart key s
  | .queueEnable queue word => Sys2Proof.Machine.execQueueEnable queue word s
  | .queueStop queue => Sys2Proof.Machine.execQueueStop queue s
  | .queueAbort queue => Sys2Proof.Machine.execQueueAbort queue s
  | .qeConfigWrite offset size value => Sys2Proof.Machine.execQeConfigWrite offset size value s
  | .memPlaceMaskWrite entry size half value => Sys2Proof.Machine.execMemPlaceMaskWrite entry size half value s
  | .memPlaceAttrWrite entry value => Sys2Proof.Machine.execMemPlaceAttrWrite entry value s
  | .memSelClr value => Sys2Proof.Machine.execMemSelClr value s
  | .bootGo => Sys2Proof.Machine.execBootGo s
  | .arbCommit key => Sys2Proof.Machine.execArbCommit key s
  | .partitionResetGo key => Sys2Proof.Machine.execPartitionResetGo key s
  | .debugLock key => Sys2Proof.Machine.execDebugLock key s
  | .ckRefCtlWrite value => Sys2Proof.Machine.execCkRefCtlWrite value s
  | .ckObsCtlWrite value => Sys2Proof.Machine.execCkObsCtlWrite value s
  | .ckRgnCtlWrite region value => Sys2Proof.Machine.execCkRgnCtlWrite region value s
  | .ptEvenWrite value => Sys2Proof.Machine.execPtEvenWrite value s
  | .obsCoreselWrite value => Sys2Proof.Machine.execObsCoreselWrite value s
  | .obsBarselWrite value => Sys2Proof.Machine.execObsBarselWrite value s
  | .obsSnapshotReady barrier => Sys2Proof.Machine.execObsSnapshotReady barrier s
  | .obsTraceCtlWrite size half value => Sys2Proof.Machine.execObsTraceCtlWrite size half value s
  | .fabPortCtlWrite port value => Sys2Proof.Machine.execFabPortCtlWrite port value s
  | .registerWrite offset size value => Sys2Proof.Machine.execRegisterWrite offset size value s
  | .powerTick => Sys2Proof.Machine.execPowerTick s
  | .regionEstimate region milliwatts => Sys2Proof.Machine.execRegionEstimate region milliwatts s
  | .railMeasurement entries => Sys2Proof.Machine.execRailMeasurement entries s
  | .calibration energy => Sys2Proof.Machine.execCalibration energy s
  | .lineClockHoldover => Sys2Proof.Machine.execLineClockHoldover s
  | .timetableActivate => Sys2Proof.Machine.execTimetableActivate s
  | .timetableEntryBoundary => Sys2Proof.Machine.execTimetableEntryBoundary s
  | .disturbanceEnd => Sys2Proof.Machine.execDisturbanceEnd s
  | .pointMove region => Sys2Proof.Machine.execPointMove region s
  | .droopStretch region => Sys2Proof.Machine.execDroopStretch region s
  | .droopStretchEnd region cycles => Sys2Proof.Machine.execDroopStretchEnd region cycles s
  | .thermalThrottle region => Sys2Proof.Machine.execThermalThrottle region s
  | .thermalCrit region => Sys2Proof.Machine.execThermalCrit region s
  | .ledgerPeriodEnd => Sys2Proof.Machine.execLedgerPeriodEnd s
  | .ledgerSign => Sys2Proof.Machine.execLedgerSign s
  | .refclkSourceReady pin => Sys2Proof.Machine.execRefclkSourceReady pin s
  | .refclkSourceLoss pin => Sys2Proof.Machine.execRefclkSourceLoss pin s
  | .refclkFallback => Sys2Proof.Machine.execRefclkFallback s
  | .refclkSwitchDone => Sys2Proof.Machine.execRefclkSwitchDone s
  | .pllLockLoss kind unit => Sys2Proof.Machine.execPllLockLoss kind unit s
  | .pwrEnRise => Sys2Proof.Machine.execPwrEnRise s
  | .pwrEnFall => Sys2Proof.Machine.execPwrEnFall s
  | .entryVoltageFault entry => Sys2Proof.Machine.execEntryVoltageFault entry s
  | .powerRampDone refsel => Sys2Proof.Machine.execPowerRampDone refsel s
  | .linkUp fusesGood => Sys2Proof.Machine.execLinkUp fusesGood s
  | .loadingDone bundle supplement => Sys2Proof.Machine.execLoadingDone bundle supplement s
  | .bootWave regions => Sys2Proof.Machine.execBootWave regions s
  | .clusterFault region rank sram => Sys2Proof.Machine.execClusterFault region rank sram s
  | .sidingSubstitution region index => Sys2Proof.Machine.execSidingSubstitution region index s
  | .replayShare kid cluster => Sys2Proof.Machine.execReplayShare kid cluster s
  | .replayWhole kid => Sys2Proof.Machine.execReplayWhole kid s
  | .backgroundStartImage region rank pass => Sys2Proof.Machine.execBackgroundStartImage region rank pass s
  | .heartbeatTimeout region => Sys2Proof.Machine.execHeartbeatTimeout region s
  | .dispatcherTakeover => Sys2Proof.Machine.execDispatcherTakeover s
  | .routerPlaneSwitch x y => Sys2Proof.Machine.execRouterPlaneSwitch x y s
  | .regionReset region => Sys2Proof.Machine.execRegionReset region s
  | .regionResetDone region restarted => Sys2Proof.Machine.execRegionResetDone region restarted s
  | .cacheRowUncorrectable granule sector => Sys2Proof.Machine.execCacheRowUncorrectable granule sector s
  | .engineFault engine => Sys2Proof.Machine.execEngineFault engine s
  | .stackFault region => Sys2Proof.Machine.execStackFault region s
  | .hiaSwitch => Sys2Proof.Machine.execHiaSwitch s
  | .partFault => Sys2Proof.Machine.execPartFault s
  | .portTrainUp port install lanes => Sys2Proof.Machine.execPortTrainUp port install lanes s
  | .fabLink port flit => Sys2Proof.Machine.execFabLink port flit s
  | .fabWrite port p => Sys2Proof.Machine.execFabWrite port p s
  | .writeClose port p => Sys2Proof.Machine.execWriteClose port p s
  | .epochEnd port p => Sys2Proof.Machine.execEpochEnd port p s
  | .readReq port p => Sys2Proof.Machine.execReadReq port p s
  | .readReply port p => Sys2Proof.Machine.execReadReply port p s
  | .fabAck port p => Sys2Proof.Machine.execFabAck port p s
  | .watchReq port p => Sys2Proof.Machine.execWatchReq port p s
  | .watchValue port p => Sys2Proof.Machine.execWatchValue port p s
  | .watchEnd port p => Sys2Proof.Machine.execWatchEnd port p s
  | .fabRecover port p => Sys2Proof.Machine.execFabRecover port p s
  | .xContrib port p => Sys2Proof.Machine.execXContrib port p s
  | .xContribSparse port p => Sys2Proof.Machine.execXContribSparse port p s
  | .xContribEnd port p => Sys2Proof.Machine.execXContribEnd port p s
  | .xRedispatch port p => Sys2Proof.Machine.execXRedispatch port p s
  | .xParam port p => Sys2Proof.Machine.execXParam port p s
  | .xParamEnd port p => Sys2Proof.Machine.execXParamEnd port p s
  | .retryResend id => Sys2Proof.Machine.execRetryResend id s
  | .noRouteResend id => Sys2Proof.Machine.execNoRouteResend id s
  | .destinationUnreachable peer => Sys2Proof.Machine.execDestinationUnreachable peer s
  | .portDown port => Sys2Proof.Machine.execPortDown port s
  | .laneErase port lane => Sys2Proof.Machine.execLaneErase port lane s
  | .laneSwitch port lane => Sys2Proof.Machine.execLaneSwitch port lane s
  | .watchRefresh watch => Sys2Proof.Machine.execWatchRefresh watch s
  | .watchReqResend watch => Sys2Proof.Machine.execWatchReqResend watch s
  | .traceTick => Sys2Proof.Machine.execTraceTick s
  | .traceSample => Sys2Proof.Machine.execTraceSample s
  | .undefinedInstruction core grp => Sys2Proof.Machine.execUndefinedInstruction core grp s
  | .flitRetransmit x y => Sys2Proof.Machine.execFlitRetransmit x y s
  | .replayRequest port => Sys2Proof.Machine.execReplayRequest port s
  | .unknownPacketType port p => Sys2Proof.Machine.execUnknownPacketType port p s
  | .entryVoltageRestored => Sys2Proof.Machine.execEntryVoltageRestored s
  | .pwrEnDeferredRise => Sys2Proof.Machine.execPwrEnDeferredRise s
  | .standbyHiaFault => Sys2Proof.Machine.execStandbyHiaFault s
  | .lineClockSlewEnd => Sys2Proof.Machine.execLineClockSlewEnd s
  | .moveComplete region => Sys2Proof.Machine.execMoveComplete region s
  | .fuseBlowComplete => Sys2Proof.Machine.execFuseBlowComplete s
  | .stackHotChange region hot => Sys2Proof.Machine.execStackHotChange region hot s

end Sys2Proof.Machine
end

