-- ==== Sys2Proof/Machine/Tick.lean ====
section
/-! DEFINITION. What a nanosecond of device time does when no command waits (log 38): DTIME, the line clock, the integrals of the
open ledger period, the availability count (R422, R582, R629, R732). -/

namespace Sys2Proof.Machine

/-- The part is unavailable (R732). -/
def Gk1.unavailable (s : Gk1) : Bool :=
  (s.part ≠ .ready || !s.dispatcherRuns || (List.range 64).any fun r => (s.region r).service ≠ 0 || (s.region r).stackLost)
    && !((s.theEntry.map Entry.maint).getD false)

/-- Count a nanosecond of availability (R732). -/
def Held.tickAvail (h : Held) (un : Bool) : Held :=
  { h with
    unavailNs := h.unavailNs + b2n un
    unavailEvents := h.unavailEvents + b2n (un && !h.unavail)
    unavail := un }

/-- The open ledger period after a nanosecond at budget b mW (R629). -/
def Period.tick (p : Period) (b : Nat) (holdover : Bool) : Period :=
  { p with benergy := p.benergy + b, holdNs := p.holdNs + b2n holdover }

/-- One nanosecond passes (log 38). -/
def Gk1.tick (s : Gk1) : Gk1 :=
  if !s.powered then { s with dtime := s.dtime + 1 } else
  let t : Gk1 := { s with
    dtime := s.dtime + 1
    line := s.line.tick
    held := s.held.tickAvail s.unavailable
    ledger := { s.ledger with period := s.ledger.period.tick s.power.eff (s.line.state = 2) } }
  if t.dtime % 128 = 0 then t.parkMore else t

end Sys2Proof.Machine
end

