-- ==== Sys2Proof/WellFormed.lean ====
section
/-! DEFINITION. When a command is well formed: every unit it names is one that the part has (R14, R19-R22, R424, R457, R500,
R503, R566, R634-R639). A command that is not makes the machine stop with noSuchUnit. -/

namespace Sys2Proof

/-- Logical cores (R14). -/
def nCores : Nat := 1024000
/-- Resident slots of a core (R221). -/
def nGroups : Nat := 8
/-- Logical clusters (R14). -/
def nClusters : Nat := 256000
/-- Granules of all stacks: 2,048 channels of 5,859,375 (R379, R380). -/
def nGranules : Nat := 12000000000
/-- Sectors of a granule (R388). -/
def nSectors : Nat := 8
/-- Regions, and stacks (R14). -/
def nRegions : Nat := 64
/-- Channels of a stack. -/
def nChannels : Nat := 32
/-- Banks of a channel. -/
def nBanks : Nat := 64
/-- Queues (R424). -/
def nQueues : Nat := 4096
/-- Contexts (R457). -/
def nContexts : Nat := 64
/-- Reduction engines. -/
def nEngines : Nat := 16
/-- Ranks of a region (R16). -/
def nRanks : Nat := 4096
/-- Logical indexes of a region (R19). -/
def nIndexes : Nat := 4000
/-- Lanes of a port (R503). -/
def nLanes : Nat := 16
/-- Ports (R503); one more number stands for packets that the part sends to itself (log 20). -/
def nPorts : Nat := 48
/-- Placement entries (R386). -/
def nPlacements : Nat := 256
/-- Clusters along a side of the wafer's grid. -/
def nWafer : Nat := 512

/-- Units whose PLLs have a KIND of CK_OBS_CTL (R649). -/
def pllUnits : Nat → Nat
  | 1 | 2 | 3 => 64
  | 4 => 48
  | 5 => 1
  | _ => 0

/-- The units that a command names, each with the number that the part has. -/
def Instr.units : Instr → List (Nat × Nat)
  | .ctlNop core grp => [(core, nCores), (grp, nGroups)]
  | .ctlIf core grp => [(core, nCores), (grp, nGroups)]
  | .ctlElse core grp => [(core, nCores), (grp, nGroups)]
  | .ctlEndif core grp => [(core, nCores), (grp, nGroups)]
  | .ctlLoop core grp => [(core, nCores), (grp, nGroups)]
  | .ctlBrk core grp => [(core, nCores), (grp, nGroups)]
  | .ctlEndloop core grp => [(core, nCores), (grp, nGroups)]
  | .ctlExit core grp => [(core, nCores), (grp, nGroups)]
  | .ctlBraAny core grp => [(core, nCores), (grp, nGroups)]
  | .ctlBraAll core grp => [(core, nCores), (grp, nGroups)]
  | .ctlBra core grp => [(core, nCores), (grp, nGroups)]
  | .gsRd core grp => [(core, nCores), (grp, nGroups)]
  | .gsClr core grp => [(core, nCores), (grp, nGroups)]
  | .gsRdt core grp => [(core, nCores), (grp, nGroups)]
  | .gsClrt core grp => [(core, nCores), (grp, nGroups)]
  | .sintAdd core grp => [(core, nCores), (grp, nGroups)]
  | .sintSub core grp => [(core, nCores), (grp, nGroups)]
  | .sintMulLo core grp => [(core, nCores), (grp, nGroups)]
  | .sintMadLo core grp => [(core, nCores), (grp, nGroups)]
  | .sintMinI32 core grp => [(core, nCores), (grp, nGroups)]
  | .sintMaxI32 core grp => [(core, nCores), (grp, nGroups)]
  | .sintMinU32 core grp => [(core, nCores), (grp, nGroups)]
  | .sintMaxU32 core grp => [(core, nCores), (grp, nGroups)]
  | .sintAnd core grp => [(core, nCores), (grp, nGroups)]
  | .sintOr core grp => [(core, nCores), (grp, nGroups)]
  | .sintXor core grp => [(core, nCores), (grp, nGroups)]
  | .sintNot core grp => [(core, nCores), (grp, nGroups)]
  | .sintShl core grp => [(core, nCores), (grp, nGroups)]
  | .sintShr core grp => [(core, nCores), (grp, nGroups)]
  | .sintSra core grp => [(core, nCores), (grp, nGroups)]
  | .sintMov core grp => [(core, nCores), (grp, nGroups)]
  | .add64 core grp => [(core, nCores), (grp, nGroups)]
  | .sub64 core grp => [(core, nCores), (grp, nGroups)]
  | .sintSeq core grp => [(core, nCores), (grp, nGroups)]
  | .sintSne core grp => [(core, nCores), (grp, nGroups)]
  | .sltI32 core grp => [(core, nCores), (grp, nGroups)]
  | .sleI32 core grp => [(core, nCores), (grp, nGroups)]
  | .sltU32 core grp => [(core, nCores), (grp, nGroups)]
  | .sleU32 core grp => [(core, nCores), (grp, nGroups)]
  | .sfpAdd core grp => [(core, nCores), (grp, nGroups)]
  | .sfpSub core grp => [(core, nCores), (grp, nGroups)]
  | .sfpMul core grp => [(core, nCores), (grp, nGroups)]
  | .sfpFma core grp => [(core, nCores), (grp, nGroups)]
  | .sfpMin core grp => [(core, nCores), (grp, nGroups)]
  | .sfpMax core grp => [(core, nCores), (grp, nGroups)]
  | .sfpSeq core grp => [(core, nCores), (grp, nGroups)]
  | .sfpSlt core grp => [(core, nCores), (grp, nGroups)]
  | .sfpSle core grp => [(core, nCores), (grp, nGroups)]
  | .cvtI32F32 core grp => [(core, nCores), (grp, nGroups)]
  | .cvtF32I32 core grp => [(core, nCores), (grp, nGroups)]
  | .vfpAdd core grp => [(core, nCores), (grp, nGroups)]
  | .vfpSub core grp => [(core, nCores), (grp, nGroups)]
  | .vfpMul core grp => [(core, nCores), (grp, nGroups)]
  | .vfpFma core grp => [(core, nCores), (grp, nGroups)]
  | .vfpMin core grp => [(core, nCores), (grp, nGroups)]
  | .vfpMax core grp => [(core, nCores), (grp, nGroups)]
  | .vfpAbs core grp => [(core, nCores), (grp, nGroups)]
  | .vfpNeg core grp => [(core, nCores), (grp, nGroups)]
  | .vfpMov core grp => [(core, nCores), (grp, nGroups)]
  | .vintAdd core grp => [(core, nCores), (grp, nGroups)]
  | .vintSub core grp => [(core, nCores), (grp, nGroups)]
  | .vintMulLo core grp => [(core, nCores), (grp, nGroups)]
  | .vintMadLo core grp => [(core, nCores), (grp, nGroups)]
  | .vintMin core grp => [(core, nCores), (grp, nGroups)]
  | .vintMax core grp => [(core, nCores), (grp, nGroups)]
  | .vintAnd core grp => [(core, nCores), (grp, nGroups)]
  | .vintOr core grp => [(core, nCores), (grp, nGroups)]
  | .vintXor core grp => [(core, nCores), (grp, nGroups)]
  | .vintNot core grp => [(core, nCores), (grp, nGroups)]
  | .vintShl core grp => [(core, nCores), (grp, nGroups)]
  | .vintShr core grp => [(core, nCores), (grp, nGroups)]
  | .vintSra core grp => [(core, nCores), (grp, nGroups)]
  | .vintMov core grp => [(core, nCores), (grp, nGroups)]
  | .vintSel core grp => [(core, nCores), (grp, nGroups)]
  | .vcmpEq core grp => [(core, nCores), (grp, nGroups)]
  | .vcmpNe core grp => [(core, nCores), (grp, nGroups)]
  | .vcmpLt core grp => [(core, nCores), (grp, nGroups)]
  | .vcmpLe core grp => [(core, nCores), (grp, nGroups)]
  | .vcmpGt core grp => [(core, nCores), (grp, nGroups)]
  | .vcmpGe core grp => [(core, nCores), (grp, nGroups)]
  | .pAnd core grp => [(core, nCores), (grp, nGroups)]
  | .pOr core grp => [(core, nCores), (grp, nGroups)]
  | .pXor core grp => [(core, nCores), (grp, nGroups)]
  | .pAndn core grp => [(core, nCores), (grp, nGroups)]
  | .pNot core grp => [(core, nCores), (grp, nGroups)]
  | .vfExp2 core grp => [(core, nCores), (grp, nGroups)]
  | .vfLog2 core grp => [(core, nCores), (grp, nGroups)]
  | .vfRcp core grp => [(core, nCores), (grp, nGroups)]
  | .vfRsqrt core grp => [(core, nCores), (grp, nGroups)]
  | .vfSqrt core grp => [(core, nCores), (grp, nGroups)]
  | .vfSin core grp => [(core, nCores), (grp, nGroups)]
  | .vfCos core grp => [(core, nCores), (grp, nGroups)]
  | .vfAct core grp => [(core, nCores), (grp, nGroups)]
  | .vfDact core grp => [(core, nCores), (grp, nGroups)]
  | .vfDactOut core grp => [(core, nCores), (grp, nGroups)]
  | .cvtFromF32 core grp => [(core, nCores), (grp, nGroups)]
  | .cvtFromBf16x2 core grp => [(core, nCores), (grp, nGroups)]
  | .cvtFromF16x2 core grp => [(core, nCores), (grp, nGroups)]
  | .cvtFromI32 core grp => [(core, nCores), (grp, nGroups)]
  | .cvtFromU32 core grp => [(core, nCores), (grp, nGroups)]
  | .vShfl core grp => [(core, nCores), (grp, nGroups)]
  | .vShflXor core grp => [(core, nCores), (grp, nGroups)]
  | .vShflUp core grp => [(core, nCores), (grp, nGroups)]
  | .vShflDown core grp => [(core, nCores), (grp, nGroups)]
  | .vRdlane core grp => [(core, nCores), (grp, nGroups)]
  | .vBallot core grp => [(core, nCores), (grp, nGroups)]
  | .laneRed core grp => [(core, nCores), (grp, nGroups)]
  | .vScanAdd core grp => [(core, nCores), (grp, nGroups)]
  | .vLd core grp => [(core, nCores), (grp, nGroups)]
  | .vSt core grp => [(core, nCores), (grp, nGroups)]
  | .sLd core grp => [(core, nCores), (grp, nGroups)]
  | .sSt core grp => [(core, nCores), (grp, nGroups)]
  | .vatomAdd core grp => [(core, nCores), (grp, nGroups)]
  | .vatomAddF32 core grp => [(core, nCores), (grp, nGroups)]
  | .vatomMinI32 core grp => [(core, nCores), (grp, nGroups)]
  | .vatomMaxI32 core grp => [(core, nCores), (grp, nGroups)]
  | .vatomMinU32 core grp => [(core, nCores), (grp, nGroups)]
  | .vatomMaxU32 core grp => [(core, nCores), (grp, nGroups)]
  | .vatomMinF32 core grp => [(core, nCores), (grp, nGroups)]
  | .vatomMaxF32 core grp => [(core, nCores), (grp, nGroups)]
  | .vatomAnd core grp => [(core, nCores), (grp, nGroups)]
  | .vatomOr core grp => [(core, nCores), (grp, nGroups)]
  | .vatomXor core grp => [(core, nCores), (grp, nGroups)]
  | .vatomExch core grp => [(core, nCores), (grp, nGroups)]
  | .vatomCas core grp => [(core, nCores), (grp, nGroups)]
  | .tileLd core grp => [(core, nCores), (grp, nGroups)]
  | .tileSt core grp => [(core, nCores), (grp, nGroups)]
  | .tileRdRow core grp => [(core, nCores), (grp, nGroups)]
  | .tileRdCol core grp => [(core, nCores), (grp, nGroups)]
  | .tileWrRow core grp => [(core, nCores), (grp, nGroups)]
  | .tileWrCol core grp => [(core, nCores), (grp, nGroups)]
  | .tileTr core grp => [(core, nCores), (grp, nGroups)]
  | .tileRedRow core grp => [(core, nCores), (grp, nGroups)]
  | .tileRedCol core grp => [(core, nCores), (grp, nGroups)]
  | .tilePack core grp => [(core, nCores), (grp, nGroups)]
  | .vqLd core grp => [(core, nCores), (grp, nGroups)]
  | .vqSt core grp => [(core, nCores), (grp, nGroups)]
  | .mma core grp => [(core, nCores), (grp, nGroups)]
  | .mmaWg core grp => [(core, nCores), (grp, nGroups)]
  | .accDrain core grp => [(core, nCores), (grp, nGroups)]
  | .wgsOpen core grp => [(core, nCores), (grp, nGroups)]
  | .wgsCommit core grp => [(core, nCores), (grp, nGroups)]
  | .wgsDiscard core grp => [(core, nCores), (grp, nGroups)]
  | .gangHold core grp => [(core, nCores), (grp, nGroups)]
  | .gangFree core grp => [(core, nCores), (grp, nGroups)]
  | .barInit core grp => [(core, nCores), (grp, nGroups)]
  | .barArrive core grp => [(core, nCores), (grp, nGroups)]
  | .barWait core grp => [(core, nCores), (grp, nGroups)]
  | .barArw core grp => [(core, nCores), (grp, nGroups)]
  | .barGen core grp => [(core, nCores), (grp, nGroups)]
  | .barInsp core grp => [(core, nCores), (grp, nGroups)]
  | .fenceRelease core grp => [(core, nCores), (grp, nGroups)]
  | .fenceAcquire core grp => [(core, nCores), (grp, nGroups)]
  | .fenceFull core grp => [(core, nCores), (grp, nGroups)]
  | .mvGet core grp => [(core, nCores), (grp, nGroups)]
  | .mvPut core grp => [(core, nCores), (grp, nGroups)]
  | .nsPut core grp => [(core, nCores), (grp, nGroups)]
  | .nsGet core grp => [(core, nCores), (grp, nGroups)]
  | .mAtomAdd core grp => [(core, nCores), (grp, nGroups)]
  | .mAtomAddF32 core grp => [(core, nCores), (grp, nGroups)]
  | .mAtomMinI32 core grp => [(core, nCores), (grp, nGroups)]
  | .mAtomMaxI32 core grp => [(core, nCores), (grp, nGroups)]
  | .mAtomMinU32 core grp => [(core, nCores), (grp, nGroups)]
  | .mAtomMaxU32 core grp => [(core, nCores), (grp, nGroups)]
  | .mAtomMinF32 core grp => [(core, nCores), (grp, nGroups)]
  | .mAtomMaxF32 core grp => [(core, nCores), (grp, nGroups)]
  | .mAtomAnd core grp => [(core, nCores), (grp, nGroups)]
  | .mAtomOr core grp => [(core, nCores), (grp, nGroups)]
  | .mAtomXor core grp => [(core, nCores), (grp, nGroups)]
  | .mAtomExch core grp => [(core, nCores), (grp, nGroups)]
  | .mAtomCas core grp => [(core, nCores), (grp, nGroups)]
  | .mAtomReply _ => []
  | .hAlloc core grp => [(core, nCores), (grp, nGroups)]
  | .hFree core grp => [(core, nCores), (grp, nGroups)]
  | .heapReply _ => []
  | .matrixQueueAccept core grp => [(core, nCores), (grp, nGroups)]
  | .bankSpaceAccept core grp => [(core, nCores), (grp, nGroups)]
  | .engpendResume core grp => [(core, nCores), (grp, nGroups)]
  | .feederFill core => [(core, nCores)]
  | .oprelArrival core _ => [(core, nCores)]
  | .kStep core => [(core, nCores)]
  | .mmaComplete core _ => [(core, nCores)]
  | .mmaWgComplete core _ => [(core, nCores)]
  | .drainStart core => [(core, nCores)]
  | .drainComplete core => [(core, nCores)]
  | .gangForm cluster => [(cluster, nClusters)]
  | .gangLeave cluster => [(cluster, nClusters)]
  | .gangReleaseCountExpiry cluster => [(cluster, nClusters)]
  | .wgsCommitComplete cluster => [(cluster, nClusters)]
  | .engineArrival _ => []
  | .meshWriteArrival _ => []
  | .closingWriteResend _ => []
  | .meshAck _ => []
  | .meshReadReply _ => []
  | .moverComplete _ => []
  | .regionCacheAccess _ => []
  | .regionCacheFill granule sector _ => [(granule, nGranules), (sector, nSectors)]
  | .dramRefresh region channel bank => [(region, nRegions), (channel, nChannels), (bank, nBanks)]
  | .dramRetrain region channel => [(region, nRegions), (channel, nChannels)]
  | .scrub granule _ => [(granule, nGranules)]
  | .rebuildSweepEnd region channel => [(region, nRegions), (channel, nChannels)]
  | .hostLinkTrain _ => []
  | .hostLinkDown => []
  | .functionLevelReset => []
  | .hotReset => []
  | .perst => []
  | .d3hotEntry => []
  | .d0Return => []
  | .hostCompletion _ _ _ => []
  | .hostCompletionTimeout _ => []
  | .ptmDialogue _ _ => []
  | .summaryPoll _ _ => []
  | .descriptorFetch queue _ => [(queue, nQueues)]
  | .kernelStart queue _ => [(queue, nQueues)]
  | .kernelLaunch _ => []
  | .departureSlot region => [(region, nRegions)]
  | .readmissionRequest cluster => [(cluster, nClusters)]
  | .kernelComplete _ => []
  | .kernelTimeout _ => []
  | .grainHandout _ cluster => [(cluster, nClusters)]
  | .grainComplete _ cluster => [(cluster, nClusters)]
  | .completionRecord queue => [(queue, nQueues)]
  | .msixMessage _ => []
  | .nopDescriptor queue => [(queue, nQueues)]
  | .copyStart queue => [(queue, nQueues)]
  | .copyComplete queue _ _ => [(queue, nQueues)]
  | .objectReleased context _ _ => [(context, nContexts)]
  | .fenceWait queue => [(queue, nQueues)]
  | .fenceWaitSatisfied queue => [(queue, nQueues)]
  | .fenceSignal queue => [(queue, nQueues)]
  | .watchUpdate _ => []
  | .jobCreate queue => [(queue, nQueues)]
  | .jobDestroy queue => [(queue, nQueues)]
  | .bucketReady queue => [(queue, nQueues)]
  | .slotReserve _ => []
  | .bucketTimeout _ => []
  | .planOpen queue => [(queue, nQueues)]
  | .planMark queue => [(queue, nQueues)]
  | .planClose queue => [(queue, nQueues)]
  | .recompute queue => [(queue, nQueues)]
  | .recomputeEntry queue => [(queue, nQueues)]
  | .snapshot queue => [(queue, nQueues)]
  | .snapshotBlockRead _ => []
  | .snapshotDone _ => []
  | .timetableLoad _ => []
  | .capPreset => []
  | .lineNotice => []
  | .lineDisturbance => []
  | .disturbanceClear => []
  | .envNotice => []
  | .ledgerGet => []
  | .defectSupplement _ => []
  | .selftest => []
  | .selftestRun _ => []
  | .selftestTimeout => []
  | .dramMargin => []
  | .dramMarginDone _ => []
  | .maintEnter => []
  | .maintenanceEntry => []
  | .maintEnterTimeout => []
  | .maintExit => []
  | .ctxCreate => []
  | .ctxDestroy => []
  | .teardownComplete context => [(context, nContexts)]
  | .regionAssign => []
  | .regionRelease => []
  | .regionReleaseEffect => []
  | .regionReleaseTimeout => []
  | .attest => []
  | .hlResetQueues => []
  | .hlResetPart _ => []
  | .queueEnable queue _ => [(queue, nQueues)]
  | .queueStop queue => [(queue, nQueues)]
  | .queueAbort queue => [(queue, nQueues)]
  | .qeConfigWrite _ _ _ => []
  | .memPlaceMaskWrite entry _ _ _ => [(entry, nPlacements)]
  | .memPlaceAttrWrite entry _ => [(entry, nPlacements)]
  | .memSelClr _ => []
  | .bootGo => []
  | .arbCommit _ => []
  | .partitionResetGo _ => []
  | .debugLock _ => []
  | .ckRefCtlWrite _ => []
  | .ckObsCtlWrite _ => []
  | .ckRgnCtlWrite region _ => [(region, nRegions)]
  | .ptEvenWrite _ => []
  | .obsCoreselWrite _ => []
  | .obsBarselWrite _ => []
  | .obsSnapshotReady _ => []
  | .obsTraceCtlWrite _ _ _ => []
  | .fabPortCtlWrite port _ => [(port, nPorts)]
  | .registerWrite _ _ _ => []
  | .powerTick => []
  | .regionEstimate region _ => [(region, nRegions)]
  | .railMeasurement _ => []
  | .calibration _ => []
  | .lineClockHoldover => []
  | .timetableActivate => []
  | .timetableEntryBoundary => []
  | .disturbanceEnd => []
  | .pointMove region => [(region, nRegions)]
  | .droopStretch region => [(region, nRegions)]
  | .droopStretchEnd region _ => [(region, nRegions)]
  | .thermalThrottle region => [(region, nRegions)]
  | .thermalCrit region => [(region, nRegions)]
  | .ledgerPeriodEnd => []
  | .ledgerSign => []
  | .refclkSourceReady _ => []
  | .refclkSourceLoss _ => []
  | .refclkFallback => []
  | .refclkSwitchDone => []
  | .pllLockLoss kind unit => [(kind, 6), (unit, pllUnits kind)]
  | .pwrEnRise => []
  | .pwrEnFall => []
  | .entryVoltageFault entry => [(entry, 4)]
  | .powerRampDone _ => []
  | .linkUp _ => []
  | .loadingDone _ _ => []
  | .bootWave _ => []
  | .clusterFault region rank _ => [(region, nRegions), (rank, nRanks)]
  | .sidingSubstitution region index => [(region, nRegions), (index, nIndexes)]
  | .replayShare _ cluster => [(cluster, nClusters)]
  | .replayWhole _ => []
  | .backgroundStartImage region rank _ => [(region, nRegions), (rank, nRanks)]
  | .heartbeatTimeout region => [(region, nRegions)]
  | .dispatcherTakeover => []
  | .routerPlaneSwitch x y => [(x, nWafer), (y, nWafer)]
  | .regionReset region => [(region, nRegions)]
  | .regionResetDone region _ => [(region, nRegions)]
  | .cacheRowUncorrectable granule sector => [(granule, nGranules), (sector, nSectors)]
  | .engineFault engine => [(engine, nEngines)]
  | .stackFault region => [(region, nRegions)]
  | .hiaSwitch => []
  | .partFault => []
  | .portTrainUp port _ _ => [(port, nPorts)]
  | .fabLink port _ => [(port, nPorts)]
  | .fabWrite port _ => [(port, nPorts + 1)]
  | .writeClose port _ => [(port, nPorts + 1)]
  | .epochEnd port _ => [(port, nPorts + 1)]
  | .readReq port _ => [(port, nPorts + 1)]
  | .readReply port _ => [(port, nPorts + 1)]
  | .fabAck port _ => [(port, nPorts + 1)]
  | .watchReq port _ => [(port, nPorts + 1)]
  | .watchValue port _ => [(port, nPorts + 1)]
  | .watchEnd port _ => [(port, nPorts + 1)]
  | .fabRecover port _ => [(port, nPorts + 1)]
  | .xContrib port _ => [(port, nPorts + 1)]
  | .xContribSparse port _ => [(port, nPorts + 1)]
  | .xContribEnd port _ => [(port, nPorts + 1)]
  | .xRedispatch port _ => [(port, nPorts + 1)]
  | .xParam port _ => [(port, nPorts + 1)]
  | .xParamEnd port _ => [(port, nPorts + 1)]
  | .retryResend _ => []
  | .noRouteResend _ => []
  | .destinationUnreachable _ => []
  | .portDown port => [(port, nPorts)]
  | .laneErase port lane => [(port, nPorts), (lane.lane, nLanes)]
  | .laneSwitch port lane => [(port, nPorts), (lane, nLanes)]
  | .watchRefresh _ => []
  | .watchReqResend _ => []
  | .traceTick => []
  | .traceSample => []
  | .undefinedInstruction core grp => [(core, nCores), (grp, nGroups)]
  | .flitRetransmit x y => [(x, nWafer), (y, nWafer)]
  | .replayRequest a => [(a.port, nPorts), (a.flit, 4)]
  | .unknownPacketType port _ => [(port, nPorts)]
  | .entryVoltageRestored => []
  | .pwrEnDeferredRise => []
  | .standbyHiaFault => []
  | .lineClockSlewEnd => []
  | .moveComplete region => [(region, nRegions)]
  | .fuseBlowComplete => []
  | .stackHotChange region _ => [(region, nRegions)]

/-- Every unit that the command names exists. -/
def Instr.wf (i : Instr) : Bool := i.units.all fun u => decide (u.1 < u.2)

end Sys2Proof
end

