-- ==== Sys2Proof/Safety.lean ====
section
/-! DEFINITION. The terms in which claims are made: what a safe run is, when a thread group issues an instruction, and what an
issued instruction leaves. -/

namespace Sys2Proof.Claims

open Sys2Proof.Machine

/-! ## Runs -/

/-- Every command that waits names units that the part has. -/
def unitsExist (s : State) : Bool := s.pending.all Instr.wf

/-- Device memory is in its canonical form. -/
def memoryOk (s : State) : Bool := Mem.wf s.dram

/-! ## Issue -/

/-- The instruction at a group's program counter, with its second word when it has one (R271, R272). -/
def fetched (s : Gk1) (core grp : Nat) (long : Bool) : GI :=
  let C := s.core core
  let pc := (s.group core grp).pc
  { s := s, core := core, grp := grp, w := C.word pc, w1 := if long then C.word (pc + 1) else 0 }

/-- The group issues an instruction of a row: the units exist, it runs and is not stalled, its cluster has power, the word at
its program counter is the row's and keeps its reserved fields zero, and no register it uses awaits a reply. -/
def issues (maj : Nat) (isOp : Nat → Bool) (ok : Nat → Nat → Bool) (regs : Nat → List Nat) (core grp : Nat) (s : Gk1) : Bool :=
  let i := fetched s core grp (isLong maj)
  decide (core < nCores) && decide (grp < nGroups) && s.ready core grp && (s.core core).wellPlaced (s.group core grp).pc
    && decide (wMaj i.w = maj) && isOp i.w && ok i.w i.w1 && !(regs i.w).any (s.group core grp).awaiting.contains

/-- The state after an issued instruction whose effect on the part is `p`: the program counter has passed its words, the core
remembers the slot, and the V port has been occupied. -/
def passed (s : State) (core grp words vport : Nat) (p : Gk1) : State :=
  { s with toGk1 := (p.passPc core grp ((s.group core grp).pc + words)).countCore core 4 vport }

/-- The state after an instruction that set the program counter itself. -/
def became (s : State) (p : Gk1) : State := { s with toGk1 := p }

/-- The group's registers, flags and masks become G; nothing else of the part changes. -/
def groupIs (s : State) (core grp : Nat) (G : Group) : Gk1 := s.toGk1.setGroup core grp G

/-! ## Rows of one shape -/

/-- A scalar row on 32-bit words: its result from SA, the second source and SC. -/
structure SRow where
  row : Nat → Nat → Instr
  op : Nat
  use : SUse
  f : BitVec 32 → BitVec 32 → BitVec 32 → BitVec 32

/-- Scalar integers (R232, R284). -/
def sintRows : List SRow :=
  [⟨.sintAdd, 0, {}, fun a b _ => a + b⟩, ⟨.sintSub, 1, {}, fun a b _ => a - b⟩, ⟨.sintMulLo, 2, {}, fun a b _ => a * b⟩,
   ⟨.sintMadLo, 3, { sc := true }, fun a b c => a * b + c⟩, ⟨.sintMinI32, 4, {}, fun a b _ => if a.sle b then a else b⟩,
   ⟨.sintMaxI32, 5, {}, fun a b _ => if a.sle b then b else a⟩, ⟨.sintMinU32, 6, {}, fun a b _ => if a ≤ b then a else b⟩,
   ⟨.sintMaxU32, 7, {}, fun a b _ => if a ≤ b then b else a⟩, ⟨.sintAnd, 8, {}, fun a b _ => a &&& b⟩,
   ⟨.sintOr, 9, {}, fun a b _ => a ||| b⟩, ⟨.sintXor, 10, {}, fun a b _ => a ^^^ b⟩,
   ⟨.sintNot, 11, { b := false }, fun a _ _ => ~~~a⟩] ++
  [⟨.sintShl, 12, {}, fun a b _ => a <<< (b.toNat % 32)⟩, ⟨.sintShr, 13, {}, fun a b _ => a >>> (b.toNat % 32)⟩,
   ⟨.sintSra, 14, {}, fun a b _ => a.sshiftRight (b.toNat % 32)⟩, ⟨.sintMov, 15, { sa := false }, fun _ b _ => b⟩,
   ⟨.sintSeq, 18, {}, fun a b _ => if a = b then 1 else 0⟩, ⟨.sintSne, 19, {}, fun a b _ => if a = b then 0 else 1⟩,
   ⟨.sltI32, 20, {}, fun a b _ => if a.slt b then 1 else 0⟩, ⟨.sleI32, 21, {}, fun a b _ => if a.sle b then 1 else 0⟩,
   ⟨.sltU32, 22, {}, fun a b _ => if a < b then 1 else 0⟩, ⟨.sleU32, 23, {}, fun a b _ => if a ≤ b then 1 else 0⟩]

/-- A scalar FP32 row: its result and sticky flags from SA, the second source and SC. -/
structure FRow where
  row : Nat → Nat → Instr
  op : Nat
  use : SUse
  f : Nat → Nat → Nat → Nat × Flg

/-- An FP32 result with the flags of its operands (R231, R244). -/
def flagged (ops : List Nat) (r : Nat) : Nat × Flg := (r, flagsOf .fp32 ops r)

/-- A truth value as a register value. -/
def truth (b : Bool) : Nat × Flg := (if b then 1 else 0, {})

/-- Scalar FP32 (R231, R284). -/
def sfpRows : List FRow :=
  [⟨.sfpAdd, 0, {}, fun a b _ => flagged [a, b] (fAdd .fp32 a b)⟩, ⟨.sfpSub, 1, {}, fun a b _ => flagged [a, b] (fSub .fp32 a b)⟩,
   ⟨.sfpMul, 2, {}, fun a b _ => flagged [a, b] (fMul .fp32 a b)⟩,
   ⟨.sfpFma, 3, { sc := true }, fun a b c => flagged [a, b, c] (fFma .fp32 a b c)⟩,
   ⟨.sfpMin, 4, {}, fun a b _ => flagged [a, b] (fMin .fp32 a b)⟩, ⟨.sfpMax, 5, {}, fun a b _ => flagged [a, b] (fMax .fp32 a b)⟩,
   ⟨.sfpSeq, 6, {}, fun a b _ => truth ((decodeF .fp32 a).eq (decodeF .fp32 b))⟩,
   ⟨.sfpSlt, 7, {}, fun a b _ => truth ((decodeF .fp32 a).lt (decodeF .fp32 b))⟩,
   ⟨.sfpSle, 8, {}, fun a b _ => truth ((decodeF .fp32 a).lt (decodeF .fp32 b) || (decodeF .fp32 a).eq (decodeF .fp32 b))⟩,
   ⟨.cvtI32F32, 9, { b := false }, fun a _ _ => (twos 32 (fToInt (-(2 ^ 31)) (2 ^ 31 - 1) false a), {})⟩,
   ⟨.cvtF32I32, 10, { b := false }, fun a _ _ => (fOfInt .fp32 .nearest (sgn 32 a), {})⟩]

/-- A vector row on 32-bit words: its result in a lane from the group and the word. -/
structure VRow where
  row : Nat → Nat → Instr
  op : Nat
  use : VUse
  f : Group → Nat → Nat → BitVec 32

/-- VA of a lane. -/
def va (G : Group) (w l : Nat) : BitVec 32 := G.v (wA w) l

/-- The second source of a lane as its TYPE reads it (R230). -/
def vb (G : Group) (w l : Nat) : BitVec 32 := BitVec.ofNat 32 (G.vb w (wType w) l)

/-- VC of a lane. -/
def vc (G : Group) (w l : Nat) : BitVec 32 := G.v (wC w) l

/-- The order of a lane's two sources by TYPE: signed for .i32. -/
def leBy (w : Nat) (a b : BitVec 32) : Bool := if wType w = 1 then a.sle b else decide (a ≤ b)

/-- The field use of a two-source row on integers. -/
def two : VUse := { bs := [0, 1, 2], types := [1, 2, 3] }

/-- Vector integers (R232, R284). -/
def vintRows : List VRow :=
  [⟨.vintAdd, 0, two, fun G w l => va G w l + vb G w l⟩, ⟨.vintSub, 1, two, fun G w l => va G w l - vb G w l⟩,
   ⟨.vintMulLo, 2, two, fun G w l => va G w l * vb G w l⟩,
   ⟨.vintMadLo, 3, { two with vc := 31 }, fun G w l => va G w l * vb G w l + vc G w l⟩,
   ⟨.vintMin, 4, { two with types := [1, 2] }, fun G w l => if leBy w (va G w l) (vb G w l) then va G w l else vb G w l⟩,
   ⟨.vintMax, 5, { two with types := [1, 2] }, fun G w l => if leBy w (va G w l) (vb G w l) then vb G w l else va G w l⟩,
   ⟨.vintAnd, 6, two, fun G w l => va G w l &&& vb G w l⟩, ⟨.vintOr, 7, two, fun G w l => va G w l ||| vb G w l⟩] ++
  [⟨.vintXor, 8, two, fun G w l => va G w l ^^^ vb G w l⟩, ⟨.vintNot, 9, { types := [1, 2, 3] }, fun G w l => ~~~(va G w l)⟩,
   ⟨.vintShl, 10, two, fun G w l => va G w l <<< ((vb G w l).toNat % 32)⟩,
   ⟨.vintShr, 11, two, fun G w l => va G w l >>> ((vb G w l).toNat % 32)⟩,
   ⟨.vintSra, 12, two, fun G w l => (va G w l).sshiftRight ((vb G w l).toNat % 32)⟩,
   ⟨.vintMov, 13, { two with va := 0 }, fun G w l => vb G w l⟩,
   ⟨.vintSel, 14, { two with vc := 7 }, fun G w l => if (G.p (wC w)).getLsbD l then va G w l else vb G w l⟩]

/-- A floating-point vector row: major, OP, V port time, field use, and a lane's result and flags. -/
structure XRow where
  row : Nat → Nat → Instr
  maj : Nat
  op : Nat
  vport : Nat
  use : VUse
  f : Group → Nat → Nat → Nat × Flg

/-- The field use of a vfp row. -/
def fpTwo : VUse := { bs := [0, 1, 2], types := [0, 4, 5] }

/-- A vfp operation of two sources on a lane, once on FP32 and on both halves of a packed word (R228, R231). -/
def fp2 (f : Fmt → Nat → Nat → Nat) (G : Group) (w l : Nat) : Nat × Flg :=
  fpLane (wType w) (fun m xs => f m (xs.getD 0 0) (xs.getD 1 0)) [G.vn (wA w) l, G.vb w (wType w) l]

/-- A sign operation of one source; NaN becomes canonical (R231, log 9). -/
def fp1 (f : Fmt → Nat → Nat) (G : Group) (w l : Nat) : Nat × Flg :=
  fpLane (wType w) (fun m xs => if (decodeF m (xs.getD 0 0)).isNan then nanBits m else f m (xs.getD 0 0)) [G.vn (wA w) l]

/-- A special function of VA (R259). -/
def spec (op : Nat) (G : Group) (w l : Nat) : Nat × Flg :=
  (special op (G.vn (wA w) l), flagsOf .fp32 [G.vn (wA w) l] (special op (G.vn (wA w) l)))

/-- Floating-point vectors (R231, R259, R284, R286). -/
def xRows : List XRow :=
  [⟨.vfpAdd, 8, 0, 2, fpTwo, fp2 fAdd⟩, ⟨.vfpSub, 8, 1, 2, fpTwo, fp2 fSub⟩, ⟨.vfpMul, 8, 2, 2, fpTwo, fp2 fMul⟩,
   ⟨.vfpFma, 8, 3, 2, { fpTwo with vc := 31 }, fun G w l => fpLane (wType w)
     (fun m xs => fFma m (xs.getD 0 0) (xs.getD 1 0) (xs.getD 2 0)) [G.vn (wA w) l, G.vb w (wType w) l, G.vn (wC w) l]⟩,
   ⟨.vfpMin, 8, 4, 2, fpTwo, fp2 fMin⟩, ⟨.vfpMax, 8, 5, 2, fpTwo, fp2 fMax⟩,
   ⟨.vfpAbs, 8, 6, 2, { types := [0, 4, 5] }, fp1 fun m x => x % 2 ^ m.signBit⟩, ⟨.vfpNeg, 8, 7, 2, { types := [0, 4, 5] }, fp1 fNeg⟩,
   ⟨.vfpMov, 8, 8, 2, { fpTwo with va := 0 }, fun G w l => (G.vb w (wType w) l, {})⟩] ++
  [⟨.vfExp2, 0x0B, 0, 4, {}, spec 0⟩, ⟨.vfLog2, 0x0B, 1, 4, {}, spec 1⟩, ⟨.vfRcp, 0x0B, 2, 4, {}, spec 2⟩,
   ⟨.vfRsqrt, 0x0B, 3, 4, {}, spec 3⟩, ⟨.vfSqrt, 0x0B, 4, 4, {}, spec 4⟩, ⟨.vfSin, 0x0B, 5, 4, {}, spec 5⟩,
   ⟨.vfCos, 0x0B, 6, 4, {}, spec 6⟩,
   ⟨.cvtFromI32, 0x0C, 3, 2, { rnd := [0, 2] }, fun G w l =>
     (fOfInt .fp32 (if wRnd w = 2 then .zero else .nearest) (sgn 32 (G.vn (wA w) l)), {})⟩,
   ⟨.cvtFromU32, 0x0C, 4, 2, { rnd := [0, 2] }, fun G w l =>
     (fOfInt .fp32 (if wRnd w = 2 then .zero else .nearest) (G.vn (wA w) l), {})⟩]

/-- The sticky flags of the lanes that are on. -/
def laneFlags (on : Nat → Bool) (f : Nat → Flg) : Flg := lanes.foldl (fun a l => if on l then a.or (f l) else a) {}

/-- A compare row. -/
structure CRow where
  row : Nat → Nat → Instr
  op : Nat
  types : List Nat
  fp : XNum → XNum → Bool
  int : Nat → BitVec 32 → BitVec 32 → Bool

/-- Compares (R284): floating point by IEEE 754, integers by TYPE. -/
def cmpRows : List CRow :=
  [⟨.vcmpEq, 0, [0, 1, 2, 3, 4, 5], fun a b => a.eq b, fun _ a b => decide (a = b)⟩,
   ⟨.vcmpNe, 1, [0, 1, 2, 3, 4, 5], fun a b => !a.eq b, fun _ a b => decide (a ≠ b)⟩,
   ⟨.vcmpLt, 2, [0, 1, 2, 4, 5], fun a b => a.lt b, fun w a b => !leBy w b a⟩,
   ⟨.vcmpLe, 3, [0, 1, 2, 4, 5], fun a b => a.lt b || a.eq b, fun w a b => leBy w a b⟩,
   ⟨.vcmpGt, 4, [0, 1, 2, 4, 5], fun a b => b.lt a, fun w a b => !leBy w a b⟩,
   ⟨.vcmpGe, 5, [0, 1, 2, 4, 5], fun a b => b.lt a || a.eq b, fun w a b => leBy w b a⟩]

/-- A compare in a lane; a packed compare holds when both elements' do. -/
def CRow.holds (r : CRow) (G : Group) (w l : Nat) : Bool :=
  let a := va G w l
  let b := vb G w l
  match wType w with
  | 0 => r.fp (decodeF .fp32 a.toNat) (decodeF .fp32 b.toNat)
  | 4 => r.fp (decodeF .bf16 (a.toNat % 2 ^ 16)) (decodeF .bf16 (b.toNat % 2 ^ 16))
      && r.fp (decodeF .bf16 (a.toNat / 2 ^ 16)) (decodeF .bf16 (b.toNat / 2 ^ 16))
  | 5 => r.fp (decodeF .fp16 (a.toNat % 2 ^ 16)) (decodeF .fp16 (b.toNat % 2 ^ 16))
      && r.fp (decodeF .fp16 (a.toNat / 2 ^ 16)) (decodeF .fp16 (b.toNat / 2 ^ 16))
  | _ => r.int w a b

/-- A predicate logic row: its operator. -/
structure PRow where
  row : Nat → Nat → Instr
  op : Nat
  vb : Nat
  f : Bool → Bool → Bool

/-- Predicate logic (R284; p.andn by log 12). -/
def predRows : List PRow :=
  [⟨.pAnd, 8, 7, fun a b => a && b⟩, ⟨.pOr, 9, 7, fun a b => a || b⟩, ⟨.pXor, 10, 7, fun a b => a != b⟩,
   ⟨.pAndn, 11, 7, fun a b => a && !b⟩, ⟨.pNot, 12, 0, fun a _ => !a⟩]

/-- The predicate as a row writes it: in active lanes whose guard is true; p0 is not written (R233, R234). -/
def predIs (G : Group) (w : Nat) (f : Nat → Bool) : Group := G.setPon (wD w) (G.on w) f

/-- Atomic rows in the order of their OP (R289). -/
def vatomRows : List (Nat → Nat → Instr) :=
  [.vatomAdd, .vatomAddF32, .vatomMinI32, .vatomMaxI32, .vatomMinU32, .vatomMaxU32, .vatomMinF32, .vatomMaxF32, .vatomAnd, .vatomOr,
   .vatomXor, .vatomExch, .vatomCas]

/-- The same of device memory (R313). -/
def mAtomRows : List (Nat → Nat → Instr) :=
  [.mAtomAdd, .mAtomAddF32, .mAtomMinI32, .mAtomMaxI32, .mAtomMinU32, .mAtomMaxU32, .mAtomMinF32, .mAtomMaxF32, .mAtomAnd, .mAtomOr,
   .mAtomXor, .mAtomExch, .mAtomCas]

/-! ## Messages -/

/-- No message of a core waits for its turn to be sent, and no epoch of its streams is full. -/
def quiet (s : Gk1) (core : Nat) : Bool :=
  s.msgs.all (fun e => !(e.2.unsent && decide (e.2.core = core))) && (s.core core).epochs.all fun r => decide (r.sent < epochLimit)

/-! ## Queues -/

/-- A descriptor is the next of its queue's normal lane and may start (R435, R450, R472, R729). -/
def starts (s : Gk1) (q : Nat) (d : Desc) : Bool :=
  decide (q < nQueues) && s.mayStart q && (s.queue q).cur.isNone && decide ((s.queue q).nextNormal = some d) && !d.replayed

/-- A started descriptor of a queue that is not DISABLED runs (R435). -/
def runs (s : Gk1) (q : Nat) (c : Cur) : Bool :=
  decide (q < nQueues) && decide ((s.queue q).cur = some c) && !c.desc.replayed && decide ((s.queue q).state = 1)

/-- A descriptor of an ACTIVE queue has completed: it is no longer started, its record waits when CMP is set or its status is not OK,
and a status other than OK has taken the queue to ERROR, but for the two of a management command (R437, R449, R472, R473). -/
def completed (s t : Gk1) (q : Nat) (d : Desc) (f : Fin_) : Prop :=
  (t.queue q).cur = none ∧
  (t.queue q).recs = (s.queue q).recs ++ (if f.status ≠ 0 ∨ d.cmp = true then [d.record s.dtime f] else []) ∧
  (t.queue q).state = (if f.status ≠ 0 ∧ ¬(q = 0 ∧ (f.status = 6 ∨ f.status = 7)) then 3 else 1)

/-- A started MGMT descriptor of a subtype (R446). -/
def mgmt (s : Gk1) (sub : Nat) (d : Desc) : Bool := starts s 0 d && decide (d.type = 0x10) && decide (d.sub = sub) && decide (d.phase ≠ 6)

/-! ## Packets -/

/-- A packet as it stands after its last link: HOPS is one higher, but for one that the part sent to itself (R512, log 20). -/
def hop (port : Nat) (p : Packet) : Packet := if port = selfPort then p else hopped p

/-- A packet of a type arrives for this part on a usable port, not behind an uncorrectable flit (R507, R508, R518). -/
def delivered (s : Gk1) (port : Nat) (p : Packet) (type : Nat) : Bool :=
  decide (port ≤ nPorts) && decide (pType p = type) && s.mayTake port p
    && (decide (port = selfPort) || decide ((s.port port).skip = 0)) && decide (s.route (hop port p) = .self)

/-- The job, the sender's rank in it and the bucket that an exchange packet names, accepted (R521, R577). -/
def exchanged (s : Gk1) (port : Nat) (p : Packet) (J : Job) (r : Nat) : Prop :=
  s.part ≠ .maintenance ∧ NMap.get? s.jobs (pJob p) = some J ∧ J.rankOf (pSrc p) = some r ∧
  (port = selfPort ∨ s.acceptCtx (hop port p) = some J.ctx)

end Sys2Proof.Claims
end

