-- ==== Sys2Proof/Certificates/Slice0/Obligations.lean ====
section
/-! DEFINITION. The statements for the provers. A statement about instructions that thread groups fetch (R272-R315) speaks of a
group that issues the row's word (`issues`); one about an event or a host command, of the state in which it is due. -/

open Sys2Proof Sys2Proof.Machine Sys2Proof.Claims

/-! ## The step, reset, and runs -/

/-- The command at the front of the queue runs with the queue's rest; with none waiting, one nanosecond of device time passes
(the model's choice, log 38). -/
def Obligations.StepRunsTheFrontCommand : Prop :=
  (∀ (s : State) (c : Instr) (rest : List Instr), s.pending = c :: rest → step s = exec c { s with pending := rest }) ∧
  (∀ s : State, s.pending = [] → step s = .next { s with toGk1 := s.toGk1.tick } ∧ s.toGk1.tick.dtime = s.dtime + 1)

/-- What reset leaves: ROM, the Reset values of registers of every block, no work, no owner, context 0 LIVE (R9, R466).

The reset state meets both invariants. -/
def Obligations.ResetValues : Prop :=
  (
    let s := State.reset
    s.part = .rom ∧ s.readReg .hlState = 2 ∧ s.readReg .hlId = 0x0C000121 ∧ s.readReg .hlReport = 16 ∧
    s.readReg (.qCtl 5) = 0x88 ∧ s.readReg (.qStat 5) = 2 ^ 48 ∧ s.readReg .ptPeriod = 20000000000 ∧
    s.readReg .ptBudget = 40000 + 2000 * 2 ^ 16 + 4000 * 2 ^ 32 ∧ s.readReg .ptEven = 0xF0 ∧ s.readReg .ptLedger = 3000 ∧
    s.readReg (.placeMask 0) = 2 ^ 64 - 1 ∧ s.readReg (.placeAttr 0) = 1 ∧ s.readReg .rcCtl = 12 ∧ s.readReg .scrubCtl = 0x100031 ∧
    s.readReg .fabCtl = 0xA0A00 ∧ s.readReg (.portCtl 7) = 0x4001 ∧ s.readReg .refCtl = 1 ∧ s.readReg .ckObs = 0xC00 ∧
    s.readReg .traceCtl = 0x60 ∧ s.readReg .traceCtx = 2 ^ 64 - 1 ∧ s.readReg .disp = 3 + 4 * 2 ^ 8 + 5 * 2 ^ 16 ∧
    s.dram = [] ∧ s.cores = [] ∧ s.kernels = [] ∧ s.queues = [] ∧ s.pending = [] ∧ (s.ctx 0).state = 1 ∧ (s.ctx 1).state = 0
  ) ∧ (
    unitsExist State.reset = true ∧ memoryOk State.reset = true
  )

/-- Every command on units that exist answers a next state and leaves the queue; any other stops with noSuchUnit. -/
def Obligations.CommandsStopOnlyForMissingUnits : Prop :=
  ∀ (c : Instr) (s : State),
    (c.wf = true → ∃ t, exec c s = .next t ∧ t.pending = s.pending) ∧ (c.wf = false → exec c s = .fault .noSuchUnit)

/-- A run whose waiting commands name existing units never stops, and stays such a run. -/
def Obligations.RunsNeverStop : Prop :=
  ∀ s : State, unitsExist s = true → ∃ t, step s = .next t ∧ unitsExist t = true

/-- Every step keeps device memory in its canonical form: addresses strictly rise and no listed byte is 0. -/
def Obligations.StepsKeepMemoryCanonical : Prop :=
  ∀ s t : State, memoryOk s = true → step s = .next t → memoryOk t = true

/-! ## Instructions of thread groups -/

/-- The frame of every statement below: a group put in place changes no other group and no other core; passing an instruction
changes the group's program counter, the core's last slot and counters, and nothing else of the part. -/
def Obligations.IssueFrame : Prop :=
  ∀ (s : State) (core grp words vport : Nat) (p : Gk1),
    let t := passed s core grp words vport p
    (∀ c, c ≠ core → t.core c = p.core c) ∧
    (∀ g, g ≠ grp → t.group core g = p.group core g) ∧
    t.group core grp = { p.group core grp with pc := (s.group core grp).pc + words } ∧
    { t.core core with groups := [], lastSlot := 0 } = { p.core core with groups := [], lastSlot := 0 } ∧
    { t.toGk1 with cores := [], obs := {}, ctxs := [] } = { p with cores := [], obs := {}, ctxs := [] } ∧
    t.pending = s.pending

/-- A word of a row whose reserved fields are not zero is refused: the group halts with INSTR_INVALID (R266, R267, R773).

A group that reaches a word that no row names, or a badly placed one, halts with INSTR_INVALID; the fault code stands in its
status word, and no register changes (R266, R267, R272, R277). -/
def Obligations.RefusedWordsHalt : Prop :=
  (
    ∀ (core grp : Nat) (s : State), core < nCores → grp < nGroups → s.ready core grp = true →
      (s.core core).wellPlaced (s.group core grp).pc = true →
      let w := (s.core core).word (s.group core grp).pc
      (∀ r ∈ sintRows, wMaj w = 1 → wOp w = r.op → sOk r.use w = false →
        exec (r.row core grp) s = .next (became s (s.groupFault core grp 0x20))) ∧
      (∀ r ∈ vintRows, wMaj w = 9 → wOp w = r.op → vOk r.use w = false →
        exec (r.row core grp) s = .next (became s (s.groupFault core grp 0x20))) ∧
      (∀ r ∈ xRows, wMaj w = r.maj → wOp w = r.op → vOk r.use w = false →
        exec (r.row core grp) s = .next (became s (s.groupFault core grp 0x20)))
  ) ∧ (
    ∀ (core grp : Nat) (s : State), core < nCores → grp < nGroups → s.ready core grp = true →
      (s.core core).wellPlaced (s.group core grp).pc = false →
      ∃ t, exec (.undefinedInstruction core grp) s = .next t ∧
        t.group core grp = { s.group core grp with status := .halted, fault := 0x20 } ∧ t.dram = s.dram ∧
        ∀ g, g ≠ grp → t.group core g = s.group core g
  )

/-- A scalar integer instruction writes SD with its result modulo 2^32 when its guard holds in the issuing lane, and changes
nothing else; otherwise only the program counter goes on (R232, R275, R282, R284).

A vector integer instruction writes VD in the active lanes whose guard is true, each with its result modulo 2^32
(R228, R232, R234, R284).

add64 and sub64 write the pair SD with the sum or difference of two even pairs modulo 2^64; an immediate is sign-extended
(R229, R282, R284). -/
def Obligations.IntegerResults : Prop :=
  (
    ∀ r ∈ sintRows, ∀ (core grp : Nat) (s : State), issues 1 (opIs r.op) (fun w _ => sOk r.use w) (sRegs r.use) core grp s.toGk1 = true →
      let G := s.group core grp
      let w := (fetched s.toGk1 core grp false).w
      exec (r.row core grp) s = .next (passed s core grp 1 0 (if G.issues w
        then groupIs s core grp (G.setS (wD w) (r.f (G.s (wA w)) (BitVec.ofNat 32 (G.sb w)) (G.s (wSc w)))) else s.toGk1))
  ) ∧ (
    ∀ r ∈ vintRows, ∀ (core grp : Nat) (s : State),
      issues 9 (opIs r.op) (fun w _ => vOk r.use w) (fun w => vRegs w false false false false) core grp s.toGk1 = true →
      let G := s.group core grp
      let w := (fetched s.toGk1 core grp false).w
      exec (r.row core grp) s = .next (passed s core grp 1 2
        (groupIs s core grp (G.setV (wD w) (G.on w) fun l => (r.f G w l).toNat)))
  ) ∧ (
    ∀ r ∈ [(Instr.add64, 16, fun a b : BitVec 64 => a + b), (Instr.sub64, 17, fun a b => a - b)], ∀ (core grp : Nat) (s : State),
      issues 1 (opIs r.2.1) (fun w _ => sOk {} w && wD w % 2 = 0 && wA w % 2 = 0 && (wImmB w || wB w % 2 = 0))
        (fun w => [wD w, wD w + 1, wA w, wA w + 1] ++ (if wImmB w then [] else [wB w, wB w + 1])) core grp s.toGk1 = true →
      let G := s.group core grp
      let w := (fetched s.toGk1 core grp false).w
      let b : BitVec 64 := if wImmB w then (BitVec.ofNat 32 (wImm32 w)).signExtend 64 else BitVec.ofNat 64 (G.pair (wB w))
      exec (r.1 core grp) s = .next (passed s core grp 1 0 (if G.issues w
        then groupIs s core grp (G.setPair (wD w) (r.2.2 (BitVec.ofNat 64 (G.pair (wA w))) b).toNat) else s.toGk1))
  )

/-- A scalar FP32 instruction writes SD with its result, rounded once, and sets INVALID or OVFL; the compares and conversions set
no flag (R231, R244, R275, R284).

A vector floating-point instruction, special function or conversion to FP32 writes VD in the active lanes whose guard is
true and sets the sticky flags of those lanes (R228, R231, R234, R244, R259, R284, R286). -/
def Obligations.FloatResults : Prop :=
  (
    ∀ r ∈ sfpRows, ∀ (core grp : Nat) (s : State), issues 2 (opIs r.op) (fun w _ => sOk r.use w) (sRegs r.use) core grp s.toGk1 = true →
      let G := s.group core grp
      let w := (fetched s.toGk1 core grp false).w
      let v := r.f (G.sn (wA w)) (G.sb w) (G.sn (wSc w))
      exec (r.row core grp) s = .next (passed s core grp 1 0 (if G.issues w
        then groupIs s core grp ((G.setS (wD w) (BitVec.ofNat 32 v.1)).flag v.2) else s.toGk1))
  ) ∧ (
    ∀ r ∈ xRows, ∀ (core grp : Nat) (s : State),
      issues r.maj (opIs r.op) (fun w _ => vOk r.use w) (fun w => vRegs w false false false false) core grp s.toGk1 = true →
      let G := s.group core grp
      let w := (fetched s.toGk1 core grp false).w
      exec (r.row core grp) s = .next (passed s core grp 1 r.vport
        (groupIs s core grp ((G.setV (wD w) (G.on w) fun l => (r.f G w l).1).flag (laneFlags (G.on w) fun l => (r.f G w l).2))))
  )

/-- Registers of a group read as written, every other one as before; p0 holds in every lane and is not written (R233).

A compare writes predicate VD in the active lanes whose guard is true, a logic instruction likewise from two predicates; a
write to p0 is ignored (R233, R234, R284; p.andn by log 12). -/
def Obligations.PredicatesAndCompares : Prop :=
  (
    (∀ (G : Group) (n m : Nat) (v : BitVec 32), (G.setS n v).s m = if n = m then v else G.s m) ∧
    (∀ (G : Group) (n m l : Nat) (on : Nat → Bool) (f : Nat → Nat), l < 16 →
      (G.setV n on f).v m l = if n = m ∧ on l = true then BitVec.ofNat 32 (f l) else G.v m l) ∧
    (∀ (G : Group) (n m : Nat) (v : BitVec 16), (G.setP n v).p m = if n = m ∧ n ≠ 0 then v else G.p m) ∧
    (∀ G : Group, G.p 0 = 0xFFFF)
  ) ∧ (
    (∀ r ∈ cmpRows, ∀ (core grp : Nat) (s : State),
      issues 0x0A (opIs r.op) (fun w _ => vOk { vd := 7, bs := [0, 1, 2], types := r.types } w)
        (fun w => vRegs w false false false false) core grp s.toGk1 = true →
      let G := s.group core grp
      let w := (fetched s.toGk1 core grp false).w
      exec (r.row core grp) s = .next (passed s core grp 1 2 (groupIs s core grp (predIs G w (r.holds G w))))) ∧
    (∀ r ∈ predRows, ∀ (core grp : Nat) (s : State),
      issues 0x0A (opIs r.op) (fun w _ => vOk { vd := 7, va := 7, bs := [0], vb := r.vb } w) (fun _ => []) core grp s.toGk1 = true →
      let G := s.group core grp
      let w := (fetched s.toGk1 core grp false).w
      exec (r.row core grp) s = .next (passed s core grp 1 2 (groupIs s core grp
        (predIs G w fun l => r.f ((G.p (wA w)).getLsbD l) ((G.p (wB w)).getLsbD l)))))
  )

/-- vf.act writes the activation of VA, vf.dact and vf.dact.out VA times a derivative rounded once; code 0, none, is the identity
with derivative 1 (log 13) (R257, R258).

Conversions: to an integer toward zero or to nearest, saturating; from packed 16-bit to the pair VD, VD + 1; to packed 16-bit,
even element from VA and odd from B, in the named rounding (R260, R286). -/
def Obligations.ActivationsAndConversions : Prop :=
  (
    ∀ (core grp : Nat) (s : State),
      let G := s.group core grp
      let w := (fetched s.toGk1 core grp false).w
      let x := fun l => decodeF .fp32 (G.vn (wA w) l)
      let y := fun l => decodeF .fp32 (G.vb w 0 l)
      let out := fun (xs : Nat → List Nat) (f : Nat → Nat) =>
        passed s core grp 1 4 (groupIs s core grp ((G.setV (wD w) (G.on w) f).flag
          (laneFlags (G.on w) fun l => flagsOf .fp32 (xs l ++ slopes (wFn w) (G.sn (wSx w))) (f l))))
      (issues 0x0B (opIs 8) (fun w _ => vOk { sx := true, imm := 15 } w && decide (wFn w ≤ 10)) (fun w => [wSx w]) core grp s.toGk1 = true →
        exec (.vfAct core grp) s = .next (out (fun l => [G.vn (wA w) l]) fun l =>
          if wFn w = 0 then roundF .fp32 .nearest (x l) else activation (wFn w) (G.sn (wSx w)) (x l))) ∧
      (issues 0x0B (opIs 9) (fun w _ => vOk { bs := [0, 1, 2], sx := true, imm := if wBsel w = 2 then 0xFFFF else 15 } w && decide (wFn w ≤ 10))
          (fun w => vRegs w false false true false) core grp s.toGk1 = true →
        exec (.vfDact core grp) s = .next (out (fun l => [G.vn (wA w) l, G.vb w 0 l]) fun l => roundF .fp32 .nearest
          ((x l).mul (if wFn w = 0 then XNum.ofInt 1 0 else decodeF .fp32 (derivPre (wFn w) (G.sn (wSx w)) (y l)))))) ∧
      (issues 0x0B (opIs 10) (fun w _ => vOk { bs := [0, 1, 2], sx := true, imm := if wBsel w = 2 then 0xFFFF else 15 } w
            && (wFn w = 0 || hasOut (wFn w))) (fun w => vRegs w false false true false) core grp s.toGk1 = true →
        exec (.vfDactOut core grp) s = .next (out (fun l => [G.vn (wA w) l, G.vb w 0 l]) fun l => roundF .fp32 .nearest
          ((x l).mul (if wFn w = 0 then XNum.ofInt 1 0 else derivOut (wFn w) (G.sn (wSx w)) (y l)))))
  ) ∧ (
    ∀ (core grp : Nat) (s : State),
      let G := s.group core grp
      let w := (fetched s.toGk1 core grp false).w
      (issues 0x0C (opIs 0) (fun w _ => vOk { types := [1, 2], rnd := [0, 2] } w) (fun w => vRegs w false false false false) core grp s.toGk1 = true →
        exec (.cvtFromF32 core grp) s = .next (passed s core grp 1 2 (groupIs s core grp (G.setV (wD w) (G.on w) fun l =>
          if wType w = 1 then twos 32 (fToInt (-(2 ^ 31)) (2 ^ 31 - 1) (decide (wRnd w = 0)) (G.vn (wA w) l))
          else (fToInt 0 (2 ^ 32 - 1) (decide (wRnd w = 0)) (G.vn (wA w) l)).toNat)))) ∧
      (∀ f ∈ [(4, Fmt.bf16), (5, Fmt.fp16)],
        issues 0x0C (opIs 0) (fun w _ => vOk { bs := [0, 1, 2], types := [f.1], rnd := [0, 2] } w) (fun w => vRegs w false false false false)
          core grp s.toGk1 = true →
        ∃ t, exec (.cvtFromF32 core grp) s = .next t ∧ ∀ l < 16,
          (t.group core grp).v (wD w) l = if G.on w l = true
            then BitVec.ofNat 32 (roundF f.2 (Rnd.ofCode (wRnd w) 0 0) (decodeF .fp32 (G.vn (wA w) l))
              + roundF f.2 (Rnd.ofCode (wRnd w) 0 0) (decodeF .fp32 (G.vb w 0 l)) * 2 ^ 16)
            else G.v (wD w) l) ∧
      (∀ r ∈ [(Instr.cvtFromBf16x2, 1, Fmt.bf16), (Instr.cvtFromF16x2, 2, Fmt.fp16)],
        issues 0x0C (opIs r.2.1) (fun w _ => unpackOk w) (fun _ => []) core grp s.toGk1 = true →
        let ext := fun x => roundF .fp32 .nearest (decodeF r.2.2 x)
        exec (r.1 core grp) s = .next (passed s core grp 1 2 (groupIs s core grp
          ((G.setV (wD w) (G.on w) fun l => ext (G.vn (wA w) l % 2 ^ 16)).setV (wD w + 1) (G.on w) fun l =>
            ext (G.vn (wA w) l / 2 ^ 16 % 2 ^ 16)))))
  )

/-- Structured control over the mask stack, when the active mask that results is not zero: the group goes on at the word given;
a stack of 16 entries, and an instruction whose top entry is of another kind, halt the group with DIV_STACK (R235-R237). -/
def Obligations.MaskStackControl : Prop :=
  ∀ (core grp : Nat) (s : State),
    let G := s.group core grp
    let w := (fetched s.toGk1 core grp false).w
    let p := G.p (wPx w)
    let go := fun G' : Group => became s (groupIs s core grp G')
    (issues 0 (opIs 1) (fun w _ => cOk true false true false w) (fun _ => []) core grp s.toGk1 = true →
      (16 ≤ G.stack.length → exec (.ctlIf core grp) s = .next (became s (s.groupFault core grp 0x21))) ∧
      (G.stack.length < 16 → G.active &&& p ≠ 0 → exec (.ctlIf core grp) s = .next (go { G with
        pc := G.pc + 1, active := G.active &&& p
        stack := { isLoop := false, saved := G.active, els := G.active &&& ~~~p, start := G.pc + 1, target := wTgt w } :: G.stack }))) ∧
    (issues 0 (opIs 2) (fun w _ => cOk false false true false w) (fun _ => []) core grp s.toGk1 = true →
      ∀ e es, G.stack = e :: es →
        (e.isLoop = true ∨ e.elseDone = true → exec (.ctlElse core grp) s = .next (became s (s.groupFault core grp 0x21))) ∧
        (e.isLoop = false → e.elseDone = false → e.els ≠ 0 → exec (.ctlElse core grp) s = .next (go { G with
          pc := G.pc + 1, active := e.els, stack := { e with elseDone := true, start := G.pc + 1, target := wTgt w } :: es }))) ∧
    (issues 0 (opIs 3) (fun w _ => cOk false false false false w) (fun _ => []) core grp s.toGk1 = true →
      ∀ e es, G.stack = e :: es →
        (e.isLoop = true → exec (.ctlEndif core grp) s = .next (became s (s.groupFault core grp 0x21))) ∧
        (e.isLoop = false → e.saved ≠ 0 → exec (.ctlEndif core grp) s = .next (go { G with pc := G.pc + 1, active := e.saved, stack := es }))) ∧
    (issues 0 (opIs 4) (fun w _ => cOk false false true false w) (fun _ => []) core grp s.toGk1 = true →
      (16 ≤ G.stack.length → exec (.ctlLoop core grp) s = .next (became s (s.groupFault core grp 0x21))) ∧
      (G.stack.length < 16 → G.active ≠ 0 → exec (.ctlLoop core grp) s = .next (go { G with
        pc := G.pc + 1
        stack := { isLoop := true, saved := G.active, els := 0, start := G.pc + 1, target := wTgt w } :: G.stack }))) ∧
    (issues 0 (opIs 5) (fun w _ => cOk true false false false w) (fun _ => []) core grp s.toGk1 = true →
      (G.stack.any MaskEntry.isLoop = false → exec (.ctlBrk core grp) s = .next (became s (s.groupFault core grp 0x21))) ∧
      (∀ e es, G.stack = e :: es → e.isLoop = true → G.active &&& ~~~p ≠ 0 →
        exec (.ctlBrk core grp) s = .next (go { G with pc := G.pc + 1, active := G.active &&& ~~~p }))) ∧
    (issues 0 (opIs 6) (fun w _ => cOk false false false false w) (fun _ => []) core grp s.toGk1 = true →
      ∀ e es, G.stack = e :: es →
        (e.isLoop = false → exec (.ctlEndloop core grp) s = .next (became s (s.groupFault core grp 0x21))) ∧
        (e.isLoop = true → G.active ≠ 0 → exec (.ctlEndloop core grp) s = .next (go { G with pc := e.start })) ∧
        (e.isLoop = true → G.active = 0 → e.saved ≠ 0 →
          exec (.ctlEndloop core grp) s = .next (go { G with pc := G.pc + 1, active := e.saved, stack := es })))

/-- With the active mask zero after an if, the group goes on at the target that the if recorded, when that is the else or endif of
its body (R236, R291).

exit: the active lanes leave the live mask; without a live lane the group ends (R235, R238).

nop does nothing; the branches jump for the whole group on their test, else the program counter goes on (R235, R273). -/
def Obligations.ControlFlow : Prop :=
  (
    ∀ (core grp : Nat) (s : State),
      issues 0 (opIs 1) (fun w _ => cOk true false true false w) (fun _ => []) core grp s.toGk1 = true →
      let G := s.group core grp
      let w := (fetched s.toGk1 core grp false).w
      let e : MaskEntry := { isLoop := false, saved := G.active, els := G.active, start := G.pc + 1, target := wTgt w }
      G.stack.length < 16 → G.active &&& G.p (wPx w) = 0 → kindOk (s.core core) e = true →
      matchEnd (s.core core) false 1024 (G.pc + 1) 0 = some (wTgt w) →
      ∃ t, exec (.ctlIf core grp) s = .next t ∧ (t.group core grp).pc = wTgt w ∧ (t.group core grp).active = 0 ∧
        (t.group core grp).stack = { e with els := G.active &&& ~~~(G.p (wPx w)) } :: G.stack
  ) ∧ (
    ∀ (core grp : Nat) (s : State),
      issues 0 (opIs 7) (fun w _ => cOk false false false false w) (fun _ => []) core grp s.toGk1 = true →
      (s.group core grp).live &&& ~~~(s.group core grp).active = 0 →
      ∃ t, exec (.ctlExit core grp) s = .next t ∧ (t.group core grp).status = .ended ∧ (t.group core grp).live = 0 ∧
        t.dram = s.dram ∧ (∀ g, g ≠ grp → t.group core g = s.group core g) ∧ (t.core core).store = (s.core core).store
  ) ∧ (
    ∀ (core grp : Nat) (s : State),
      let G := s.group core grp
      let w := (fetched s.toGk1 core grp false).w
      let p := G.p (wPx w)
      let to_ := fun t : Bool => became s (groupIs s core grp { G with pc := if t then wTgt w else G.pc + 1 })
      (issues 0 (opIs 0) (fun w _ => cOk false false false false w) (fun _ => []) core grp s.toGk1 = true →
        exec (.ctlNop core grp) s = .next (passed s core grp 1 0 s.toGk1)) ∧
      (issues 0 (opIs 8) (fun w _ => cOk true false true false w) (fun _ => []) core grp s.toGk1 = true →
        exec (.ctlBraAny core grp) s = .next (to_ (decide (p &&& G.active ≠ 0)))) ∧
      (issues 0 (opIs 9) (fun w _ => cOk true false true false w) (fun _ => []) core grp s.toGk1 = true →
        exec (.ctlBraAll core grp) s = .next (to_ (decide (p &&& G.active = G.active)))) ∧
      (issues 0 (opIs 10) (fun w _ => cOk false true true false w) (fun w => [wCsx w]) core grp s.toGk1 = true →
        exec (.ctlBra core grp) s = .next (to_ (decide (G.s (wCsx w) ≠ 0))))
  )

/-- gs.rd and gs.rdt copy the group status word and the conversion safeguard word into an s pair; gs.clr clears the sticky bits
that its mask names, gs.clrt the safeguard word (R244, R265, R283). -/
def Obligations.GroupStatusWords : Prop :=
  ∀ (core grp : Nat) (s : State),
    let G := s.group core grp
    let w := (fetched s.toGk1 core grp false).w
    let rd := fun (w _ : Nat) => cOk false true false false w && decide (wCsx w % 2 = 0)
    let rs := fun w => [wCsx w, wCsx w + 1]
    (issues 0 (opIs 11) rd rs core grp s.toGk1 = true →
      exec (.gsRd core grp) s = .next (passed s core grp 1 0 (groupIs s core grp (G.setPair (wCsx w) G.gsw)))) ∧
    (issues 0 (opIs 12) (fun w _ => cOk false false false true w) (fun _ => []) core grp s.toGk1 = true →
      exec (.gsClr core grp) s = .next (passed s core grp 1 0 (groupIs s core grp { G with
        diverged := G.diverged && !(wTgt w).testBit 0, invalid := G.invalid && !(wTgt w).testBit 1
        ovfl := G.ovfl && !(wTgt w).testBit 2 }))) ∧
    (issues 0 (opIs 13) rd rs core grp s.toGk1 = true →
      exec (.gsRdt core grp) s = .next (passed s core grp 1 0 (groupIs s core grp (G.setPair (wCsx w) G.csw.toNat)))) ∧
    (issues 0 (opIs 14) (fun w _ => cOk false false false false w) (fun _ => []) core grp s.toGk1 = true →
      exec (.gsClrt core grp) s = .next (passed s core grp 1 0 (groupIs s core grp { G with csw := 0 })))

/-- A gather reads a lane that is not active as zero and sets DIVERGED when a lane is not active; the shuffles write VD where a
lane is active and its guard is true, v.rdlane, v.ballot and red an s register, v.scan.add the running sums (R239-R241, R254, R255,
R284, R285).

The tree of R254 pairs element i with element i + 8, then i + 4, i + 2 and i + 1: for integers it is the sum modulo 2^32, and for
the scan the running sums. -/
def Obligations.LaneGathersAndReductions : Prop :=
  (
    ∀ (core grp : Nat) (s : State),
      let G := s.group core grp
      let w := (fetched s.toGk1 core grp false).w
      let vec := fun f : Nat → Nat => passed s core grp 1 2 (groupIs s core grp ((G.setV (wD w) (G.on w) f).gather))
      let xs := lanes.map (G.src (wA w))
      (issues 0x0D (opIs 0) (fun w _ => vOk { bs := [0, 1, 2], types := [3] } w) (fun w => vRegs w false false false false) core grp s.toGk1
        = true → exec (.vShfl core grp) s = .next (vec fun l => G.src (wA w) (G.vb w 3 l % 16))) ∧
      (issues 0x0D (opIs 1) (fun w _ => vOk { types := [3], imm := 15 } w) (fun w => vRegs w false false false false) core grp s.toGk1
        = true → exec (.vShflXor core grp) s = .next (vec fun l => G.src (wA w) (l ^^^ wDist w))) ∧
      (issues 0x0D (opIs 2) (fun w _ => vOk { types := [3], imm := 15 } w) (fun w => vRegs w false false false false) core grp s.toGk1
        = true → exec (.vShflUp core grp) s = .next (vec fun l => if wDist w ≤ l then G.src (wA w) (l - wDist w) else 0)) ∧
      (issues 0x0D (opIs 3) (fun w _ => vOk { types := [3], imm := 15 } w) (fun w => vRegs w false false false false) core grp s.toGk1
        = true → exec (.vShflDown core grp) s = .next (vec fun l => G.src (wA w) (l + wDist w))) ∧
      (issues 0x0D (opIs 4) (fun w _ => vOk { bs := [1, 2], types := [3], imm := if wBsel w = 2 then 15 else 0 } w && decide (fld w 7 4 = 0))
        (fun w => vRegs w true false false false) core grp s.toGk1 = true →
        exec (.vRdlane core grp) s = .next (passed s core grp 1 2 (groupIs s core grp ((G.setS (wD w) (BitVec.ofNat 32
          (G.src (wA w) (if wBsel w = 1 then G.sn (wB w) % 16 else wDist w)))).gather)))) ∧
      (issues 0x0D (opIs 5) (fun w _ => vOk { va := 7, types := [3] } w && decide (fld w 7 4 = 0)) (fun w => vRegs w true false false false)
        core grp s.toGk1 = true →
        exec (.vBallot core grp) s = .next (passed s core grp 1 2 (groupIs s core grp
          ((G.setS (wD w) ((G.p (wA w) &&& G.active).setWidth 32)).gather)))) ∧
      (issues 0x0D (opIs 6) (fun w _ => vOk { types := [0, 1, 2, 3], imm := 0x7000 } w && redOk w && decide (fld w 7 4 = 0))
        (fun w => vRegs w true false false false) core grp s.toGk1 = true →
        exec (.laneRed core grp) s = .next (passed s core grp 1 2 (groupIs s core grp
          (((G.setS (wD w) (BitVec.ofNat 32 (tree16 (wRedop w) (wType w) xs))).flag (treeFlags (wRedop w) (wType w) xs)).gather)))) ∧
      (issues 0x0D (opIs 7) (fun w _ => vOk { types := [0, 1, 2] } w) (fun _ => []) core grp s.toGk1 = true →
        exec (.vScanAdd core grp) s = .next (passed s core grp 1 2 (groupIs s core grp
          (((G.setV (wD w) (G.on w) fun l => (scanAdd (wType w) xs).getD l 0).flag (scanFlags (wType w) xs)).gather))))
  ) ∧ (
    ∀ x : List Nat, x.length = 16 → (∀ a ∈ x, a < 2 ^ 32) →
      tree16 0 2 x = x.sum % 2 ^ 32 ∧ (∀ k < 16, (scanAdd 2 x).getD k 0 = (x.take (k + 1)).sum % 2 ^ 32)
  )

/-- Loads and stores of the core store, direct path: an aligned access inside the 40 KiB, no fence holding it. A load changes only
its destination; a store changes only the addressed bytes (R249, R250, R275, R287, R324). Misaligned or outside, the group halts
with OPERAND_RANGE.

A scalar core-store atomic on an aligned word inside the core store writes the operation's result and, with RET, the old value to
s[VD]; nothing else changes (R289, R347-R349). -/
def Obligations.CoreStoreAccesses : Prop :=
  (
    ∀ (core grp : Nat) (s : State),
      let i := fetched s.toGk1 core grp false
      let G := s.group core grp
      let w := i.w
      let n := if wType w = 6 then 8 else 4
      let a := addrOf (G.sn (wA w)) (wImm w)
      let la := fun l => addrOf (G.vn (wA w) l) (wImm w)
      (issues 0x0E (opIs 2) (fun w _ => vmemOk w) (fun w => vRegs w true true false false) core grp s.toGk1 = true → G.issues w = true →
        directHeld i false = false →
        (storeOk n a = true → exec (.sLd core grp) s = .next (passed s core grp 1 0 (groupIs s core grp
          (if n = 8 then G.setPair (wD w) (Mem.le (s.core core).store a 8)
            else G.setS (wD w) (BitVec.ofNat 32 (Mem.le (s.core core).store a 4)))))) ∧
        (storeOk n a = false → exec (.sLd core grp) s = .next (became s (s.groupFault core grp 0x22)))) ∧
      (issues 0x0E (opIs 3) (fun w _ => vmemOk w) (fun w => vRegs w true true false false) core grp s.toGk1 = true → G.issues w = true →
        directHeld i true = false → storeOk n a = true →
        ∃ t, exec (.sSt core grp) s = .next t ∧
          Mem.le (t.core core).store a n = (if n = 8 then G.pair (wD w) else G.sn (wD w)) ∧
          (∀ b, b < a ∨ a + n ≤ b → Mem.read (t.core core).store b = Mem.read (s.core core).store b) ∧
          t.group core grp = { G with pc := G.pc + 1 } ∧ (∀ c, c ≠ core → t.core c = s.core c) ∧ t.dram = s.dram) ∧
      (issues 0x0E (opIs 0) (fun w _ => vmemOk w) (fun _ => []) core grp s.toGk1 = true → directHeld i false = false →
        wType w = 3 → (∀ l < 16, G.on w l = true → storeOk 4 (la l) = true) →
        ∃ t, exec (.vLd core grp) s = .next t ∧
          (∀ l < 16, (t.group core grp).v (wD w) l =
            if G.on w l = true then BitVec.ofNat 32 (Mem.le (s.core core).store (la l) 4) else G.v (wD w) l) ∧
          (∀ r l, l < 16 → r ≠ wD w → (t.group core grp).v r l = G.v r l) ∧
          (t.core core).store = (s.core core).store ∧ t.dram = s.dram) ∧
      (issues 0x0E (opIs 1) (fun w _ => vmemOk w) (fun _ => []) core grp s.toGk1 = true → directHeld i true = false →
        wType w = 3 → (∀ l < 16, G.on w l = true → storeOk 4 (la l) = true) →
        ∃ t, exec (.vSt core grp) s = .next t ∧
          (∀ l < 16, G.on w l = true → (∀ k < 16, l < k → G.on w k = true → la k ≠ la l) →
            Mem.le (t.core core).store (la l) 4 = G.vn (wD w) l) ∧
          (∀ b, (∀ l < 16, G.on w l = true → b < la l ∨ la l + 4 ≤ b) →
            Mem.read (t.core core).store b = Mem.read (s.core core).store b) ∧
          t.group core grp = { G with pc := G.pc + 1 } ∧ t.dram = s.dram)
  ) ∧ (
    ∀ e ∈ vatomRows.zip (List.range 13), ∀ (core grp : Nat) (s : State),
      issues 0x0F (opIs e.2) (fun w _ => vatomOk e.2 w) (vatomRegs e.2) core grp s.toGk1 = true →
      let i := fetched s.toGk1 core grp false
      let G := s.group core grp
      let a := G.sn (wA i.w)
      wScl i.w = true → G.issues i.w = true → directHeld i true = false → storeOk 4 a = true →
      let old := Mem.le (s.core core).store a 4
      ∃ t, exec (e.1 core grp) s = .next t ∧
        Mem.le (t.core core).store a 4 = atomOp e.2 old (G.sclB i.w (atomTy e.2)) (G.sn (wC i.w)) % 2 ^ 32 ∧
        (∀ b, b < a ∨ a + 4 ≤ b → Mem.read (t.core core).store b = Mem.read (s.core core).store b) ∧
        (t.group core grp).s (wD i.w) = (if wRet i.w then BitVec.ofNat 32 old else G.s (wD i.w)) ∧
        (∀ n, n ≠ wD i.w → (t.group core grp).s n = G.s n) ∧ (∀ n l, (t.group core grp).v n l = G.v n l) ∧ t.dram = s.dram
  )

/-- Tile moves: rows and columns between a tile and VD or VA, whole tiles between a tile and the core store, the transpose, the axis
reductions, and tile.pack (R251-R254, R288).

vq.ld decodes a block of 32 elements into VD and VD + 1, vq.st quantises the 32 values of VA and VA + 1 into the block's bytes and
changes no register; a bad descriptor halts with FORMAT_INVALID (R261-R264). -/
def Obligations.TilesAndBlocks : Prop :=
  (
    ∀ (core grp : Nat) (s : State),
      let i := fetched s.toGk1 core grp false
      let G := s.group core grp
      let C := s.core core
      let w := i.w
      let k := wTile w
      let x := tileIdx i
      let none_ := fun w => vRegs w false false false false
      (issues 0x10 (opIs 2) (fun w _ => tileMoveOk {} w) none_ core grp s.toGk1 = true →
        exec (.tileRdRow core grp) s = .next (passed s core grp 1 2 (groupIs s core grp (G.setV (wD w) (G.on w) fun l => C.tile k x l)))) ∧
      (issues 0x10 (opIs 3) (fun w _ => tileMoveOk {} w) none_ core grp s.toGk1 = true →
        exec (.tileRdCol core grp) s = .next (passed s core grp 1 2 (groupIs s core grp (G.setV (wD w) (G.on w) fun l => C.tile k l x)))) ∧
      (issues 0x10 (opIs 4) (fun w _ => tileMoveOk { vd := 0 } w) none_ core grp s.toGk1 = true →
        ∃ t, exec (.tileWrRow core grp) s = .next t ∧ (∀ l < 16, (t.core core).tile k x l = if G.on w l then G.vn (wA w) l else C.tile k x l) ∧
          (∀ q r c, r < 16 → c < 16 → (q ≠ k ∨ r ≠ x) → (t.core core).tile q r c = C.tile q r c) ∧
          (t.core core).store = C.store ∧ t.dram = s.dram) ∧
      (issues 0x10 (opIs 5) (fun w _ => tileMoveOk { vd := 0 } w) none_ core grp s.toGk1 = true →
        ∃ t, exec (.tileWrCol core grp) s = .next t ∧ (∀ l < 16, (t.core core).tile k l x = if G.on w l then G.vn (wA w) l else C.tile k l x) ∧
          (∀ q r c, r < 16 → c < 16 → (q ≠ k ∨ c ≠ x) → (t.core core).tile q r c = C.tile q r c) ∧
          (t.core core).store = C.store ∧ t.dram = s.dram) ∧
      (issues 0x10 (opIs 6) (fun w _ => vOk { vd := 0, imm := 0x3F } w) (fun _ => []) core grp s.toGk1 = true → G.issues w = true →
        ∃ t, exec (.tileTr core grp) s = .next t ∧ (∀ r c, r < 16 → c < 16 → (t.core core).tile k r c = C.tile (fld w 51 3) c r) ∧
          (t.core core).store = C.store ∧ t.dram = s.dram) ∧
      (issues 0x10 (opIs 0) (fun w _ => vOk { vd := 0, bs := [1], imm := 7 } w) (fun w => vRegs w false true false false) core grp s.toGk1 = true →
        G.issues w = true → directHeld i false = false → G.sn (wA w) % 64 = 0 → G.sn (wB w) % 64 = 0 →
        G.sn (wA w) + 15 * G.sn (wB w) + 64 ≤ 40960 →
        ∃ t, exec (.tileLd core grp) s = .next t ∧ (∀ r c, r < 16 → c < 16 →
            (t.core core).tile k r c = Mem.le C.store (G.sn (wA w) + r * G.sn (wB w) + 4 * c) 4) ∧
          (t.core core).store = C.store ∧ t.dram = s.dram) ∧
      (issues 0x10 (opIs 1) (fun w _ => vOk { vd := 0, bs := [1], imm := 7 } w) (fun w => vRegs w false true false false) core grp s.toGk1 = true →
        G.issues w = true → directHeld i true = false → G.sn (wA w) % 64 = 0 → G.sn (wB w) % 64 = 0 → 64 ≤ G.sn (wB w) →
        G.sn (wA w) + 15 * G.sn (wB w) + 64 ≤ 40960 →
        ∃ t, exec (.tileSt core grp) s = .next t ∧ (∀ r c, r < 16 → c < 16 →
            Mem.le (t.core core).store (G.sn (wA w) + r * G.sn (wB w) + 4 * c) 4 = C.tile k r c) ∧
          (t.core core).tiles = C.tiles ∧ t.dram = s.dram) ∧
      (issues 0x10 (opIs 7) (fun w _ => vOk { types := [0, 1, 2, 3], imm := 0x7007 } w && redOk w) (fun _ => []) core grp s.toGk1 = true →
        ∃ t, exec (.tileRedRow core grp) s = .next t ∧ (∀ l < 16, (t.group core grp).v (wD w) l = if G.on w l = true
          then BitVec.ofNat 32 (tree16 (wRedop w) (wType w) (lanes.map fun c => C.tile k l c)) else G.v (wD w) l) ∧ t.dram = s.dram) ∧
      (issues 0x10 (opIs 8) (fun w _ => vOk { types := [0, 1, 2, 3], imm := 0x7007 } w && redOk w) (fun _ => []) core grp s.toGk1 = true →
        ∃ t, exec (.tileRedCol core grp) s = .next t ∧ (∀ l < 16, (t.group core grp).v (wD w) l = if G.on w l = true
          then BitVec.ofNat 32 (tree16 (wRedop w) (wType w) (lanes.map fun r => C.tile k r l)) else G.v (wD w) l) ∧ t.dram = s.dram) ∧
      (issues 0x10 (opIs 9) (fun w _ => vOk { vd := 0, imm := 7 } w && decide (wA w ≤ 16)) (fun _ => []) core grp s.toGk1 = true →
        ∃ t, exec (.tilePack core grp) s = .next t ∧
          (∀ l c, l < 16 → c < 16 → (t.core core).tile k l c = if G.on w l then G.vn (wA w + c) l else C.tile k l c) ∧
          (t.group core grp).diverged = (G.diverged || decide (G.active ≠ 0xFFFF)) ∧ t.dram = s.dram)
  ) ∧ (
    ∀ (core grp : Nat) (s : State),
      let i := fetched s.toGk1 core grp false
      let G := s.group core grp
      let w := i.w
      (issues 0x11 (opIs 0) (fun w _ => vOk { bs := [1], vc := 31 } w && decide (wD w % 2 = 0)) (fun w => vRegs w false false false true)
        core grp s.toGk1 = true → directHeld i false = false →
        (∀ code, vqOperand i = .inl code → exec (.vqLd core grp) s = .next (became s (s.groupFault core grp code))) ∧
        (∀ p b, vqOperand i = .inr (p, b) → p.inStore b = true →
          ∃ t, exec (.vqLd core grp) s = .next t ∧ (∀ l < 16, G.on w l = true →
            (t.group core grp).v (wD w) l = BitVec.ofNat 32 (roundF .fp32 .nearest (p.read (s.core core).store b l).1.value) ∧
            (t.group core grp).v (wD w + 1) l = BitVec.ofNat 32 (roundF .fp32 .nearest (p.read (s.core core).store b (l + 16)).1.value)) ∧
            (t.core core).store = (s.core core).store ∧ t.dram = s.dram)) ∧
      (issues 0x11 (opIs 1) (fun w _ => vOk { vd := 0, bs := [1], vc := 31, sx := true, imm := 31 } w && decide (wA w % 2 = 0)
          && decide (fld w 48 5 % 2 = 0)) (fun w => vRegs w false false true true ++ [fld w 48 5, fld w 48 5 + 1])
        core grp s.toGk1 = true → G.issues w = true → directHeld i true = false →
        ∀ p b, vqOperand i = .inr (p, b) → p.inStore b = true →
          let q := Qcw.ofNat (G.sn (wSx w))
          (q.ok = true ∧ Fmt.ofCode q.fmt = some p.fmt ∧ q.geom = p.patch ∧ capOf q.capCode = some p.cap →
            ∃ t, exec (.vqSt core grp) s = .next t ∧ (t.group core grp).sregs = G.sregs ∧ (t.group core grp).vregs = G.vregs ∧
              t.dram = s.dram) ∧
          (Fmt.ofCode q.fmt ≠ some p.fmt → exec (.vqSt core grp) s = .next (became s (s.groupFault core grp 0x23))))
  )

/-- An mma that a check refuses halts the group with the code of the check. One that passes, whose total fits the bank, whose
registers are here and which no fence holds, stalls on a full queue and else enters it with its descriptors and its handle's total; a
full queue is one of 4 instructions or one whose next free entry a group of a lower slot waits for. While a register it reads awaits a
reply it issues nothing; it has changed no byte of memory and no general register (R92, R93, R103, R151, R152, R154, R159, R298, R299). -/
def Obligations.MmaIsAccepted : Prop :=
  ∀ (core grp : Nat) (s : State),
    issues 0x20 (fun _ => true) mmaOk (fun w => [fld w 21 5, fld w 26 5]) core grp s.toGk1 = true →
    let i := fetched s.toGk1 core grp true
    let G := s.group core grp
    let C := s.core core
    G.issues i.w = true →
    (i.waitsFor i.mmaReads = true → exec (.mma core grp) s = .next s) ∧
    (∀ e, i.waitsFor i.mmaReads = false → i.mmaArgs = .error e →
      exec (.mma core grp) s = .next (became s (s.groupFault core grp e))) ∧
    (∀ x, i.mmaArgs = .ok x →
      (mxInit i.w = true → ((s.bankCores core).map fun c => (s.core c).bankBytes).sum + x.bound.m * x.bound.n * elemBytes x.bound.fmt
        ≤ s.bankLimit core) →
      i.waitsFor i.mmaReads = false → engineHeld i (mxDrn i.w1) true = false →
      (i.queueFull = true → exec (.mma core grp) s = .next (became s (groupIs s core grp { G with stall := .queue }))) ∧
      (i.queueFull = false → C.pendFull ((mxOprel i.w1).toList ++ (mxDone i.w1).toList) = false →
        ∃ t ins, exec (.mma core grp) s = .next t ∧ (t.core core).mq = C.mq ++ [ins] ∧ ins.rid = s.nextId ∧ ins.kind = .mma ∧
          ins.slot = grp ∧ ins.aD = x.a.words ∧ ins.bD = x.b.words ∧ ins.tid = x.bound.tid ∧ ins.fold = x.fold ∧ ins.drain = x.drain ∧
          NMap.get? (t.core core).hbind (mxAH i.w) = (if x.drain.isSome && mxRel i.w1 then none else some x.bound) ∧
          t.group core grp = { G with pc := G.pc + 2 } ∧ (t.core core).store = C.store ∧ (t.core core).pipe = C.pipe ∧
          (∀ c, c ≠ core → t.core c = s.core c) ∧ t.dram = s.dram))

/-- mma.wg and acc.drain enter the matrix queue: mma.wg promotes into the open group of its U0 and of its shape, which is shared or
its core's own; acc.drain names a bound handle. mma.wg with a drain, a handle, a fold, N-outer order or forced gang is refused with
MMA_MODE_INVALID (R93, R103, R152, R159, R185, R189, R192, R297, R305). -/
def Obligations.MatrixQueueEntries : Prop :=
  ∀ (core grp : Nat) (s : State),
    let G := s.group core grp
    let C := s.core core
    (issues 0x21 (fun _ => true) mmaWgOk (fun w => [fld w 21 5, fld w 26 5, fld w 31 5]) core grp s.toGk1 = true →
      let i := fetched s.toGk1 core grp true
      G.issues i.w = true →
      (mmaWgMode i.w i.w1 = true → exec (.mmaWg core grp) s = .next (became s (s.groupFault core grp 0x25))) ∧
      (mmaWgMode i.w i.w1 = false → ∀ a b gid g, i.opds = some (a, b) → operandRefusal true i.w i.w1 0 a b = none →
        inStore (G.sn (fld i.w 31 5)) (2 * mxK i.w) = true → (s.cluster (clusterOf core)).groupAt (mxU0 i.w) = some (gid, g) →
        g.m = mxM i.w → g.n = mxN i.w → g.shared = true ∨ g.owner = core → engineHeld i false true = false → i.queueFull = false →
        C.pendFull ((mxOprel i.w1).toList ++ (mxDone i.w1).toList) = false →
        ∃ t ins op, exec (.mmaWg core grp) s = .next t ∧ (t.core core).mq = C.mq ++ [ins] ∧ ins.kind = .mmaWg ∧ ins.gid = gid ∧
          ins.aD = a.words ∧ ins.bD = b.words ∧ ins.ksel = G.sn (fld i.w 31 5) ∧
          (t.cluster (clusterOf core)).wops = (s.cluster (clusterOf core)).wops ++ [op] ∧ op.rid = s.nextId ∧ op.gid = gid ∧ op.kind = 0 ∧
          t.group core grp = { G with pc := G.pc + 2 } ∧ (t.core core).store = C.store ∧ t.dram = s.dram)) ∧
    (issues 0x22 (fun _ => true) (fun w _ => fld w 29 35 = 0) (fun w => [fld w 17 5]) core grp s.toGk1 = true →
      let i := fetched s.toGk1 core grp false
      G.issues i.w = true →
      (i.waitsFor (i.drainReads (fld i.w 17 5)) = true → exec (.accDrain core grp) s = .next s) ∧
      (∀ d, i.waitsFor (i.drainReads (fld i.w 17 5)) = false → drainAt C.store G (fld i.w 17 5) (i.w.testBit 16) = .ok d →
        NMap.get? C.hbind (fld i.w 11 5) = none → exec (.accDrain core grp) s = .next (became s (s.groupFault core grp 0x27))) ∧
      (∀ d b T, i.waitsFor (i.drainReads (fld i.w 17 5)) = false →
        drainAt C.store G (fld i.w 17 5) (i.w.testBit 16) = .ok d → NMap.get? C.hbind (fld i.w 11 5) = some b →
        NMap.get? C.totals b.tid = some T → d.refusal b.m b.n b.fmt T.ganged = none →
        engineHeld i true true = false → i.queueFull = false →
        C.pendFull (doneOf i.w 22 23).toList = false →
        ∃ t j, exec (.accDrain core grp) s = .next t ∧ (t.core core).drains = C.drains ++ [j] ∧ j.rid = s.nextId ∧ j.tid = b.tid ∧
          j.req = d ∧ j.started = false ∧ (t.core core).mq.length = C.mq.length + 1 ∧ (t.core core).totals = C.totals ∧
          NMap.get? (t.core core).hbind (fld i.w 11 5) = (if i.w.testBit 16 then none else some b) ∧
          t.group core grp = { G with pc := G.pc + 1 } ∧ (t.core core).store = C.store ∧ t.dram = s.dram))

/-- wgs.open makes a group when its tiles fit the store and meet no open group; a shared group in T32 is refused with WGS_STATE, one that does
not fit with WGS_RANGE. wgs.commit is accepted for its turn; wgs.discard of an idle group closes it; gang.hold and gang.free set and
clear the hold (R133, R183, R184, R194, R197, R201, R307, R308).

The gang forms when a ganged instruction or a hold asks for it and the four arrays are empty; it ends when they are empty, no hold
is in force and an apart instruction waits with no ganged one at a head; 4,096 ACLK of waiting release it (R130-R133). -/
def Obligations.GradientStoreAndGang : Prop :=
  (
    ∀ (core grp : Nat) (s : State),
      let G := s.group core grp
      let cl := clusterOf core
      (issues 0x23 (op3Is 0) wgsOpenOk (fun _ => []) core grp s.toGk1 = true →
        let w := (fetched s.toGk1 core grp true).w
        let fmt := if fld w 31 2 = 2 then 1 else 0
        let shared := decide (fld w 31 2 ≠ 0) && w.testBit 33
        let units := wgUnits (fld w 14 6) (fld w 20 6 + 1) ((fld w 26 2 + 1) * 16) ((fld w 28 3 + 1) * 8) fmt
        G.issues w = true →
        (shared = true → fmt = 0 → exec (.wgsOpen core grp) s = .next (became s (s.groupFault core grp 0x2A))) ∧
        ((shared = false ∨ fmt = 1) → 64 < units.2 → exec (.wgsOpen core grp) s = .next (became s (s.groupFault core grp 0x2B))) ∧
        ((shared = false ∨ fmt = 1) → units.2 ≤ 64 →
          ((s.cluster cl).wgs.any fun e => !e.2.closing && meets e.2.units units) = false →
          ∃ t g, exec (.wgsOpen core grp) s = .next t ∧ NMap.get? (t.cluster cl).wgs s.nextId = some g ∧ g.u0 = fld w 14 6 ∧
            g.wcount = fld w 20 6 + 1 ∧ g.m = (fld w 26 2 + 1) * 16 ∧ g.n = (fld w 28 3 + 1) * 8 ∧ g.fmt = fmt ∧ g.owner = core ∧
            g.shared = shared ∧ g.closing = false ∧ g.tiles = [] ∧ t.group core grp = { G with pc := G.pc + 2 } ∧
            (t.core core).store = (s.core core).store ∧ t.dram = s.dram)) ∧
      (issues 0x23 (op3Is 1) wgsCommitOk (fun w => [fld w 36 5, fld w 36 5 + 1, fld w 41 5, fld w 46 5]) core grp s.toGk1 = true →
        let i := fetched s.toGk1 core grp true
        let w := i.w
        G.issues w = true → ∀ gid g, (s.cluster cl).groupAt (fld w 14 6) = some (gid, g) →
          (g.wcount < fld w 20 6 + (fld w 26 6 + 1) → exec (.wgsCommit core grp) s = .next (became s (s.groupFault core grp 0x2B))) ∧
          (fld w 20 6 + (fld w 26 6 + 1) ≤ g.wcount → G.pair (fld w 36 5) % 64 = 0 → G.sn (fld w 41 5) % 64 = 0 → wgStatus i.w1 % 16 = 0 →
            inStore (wgStatus i.w1) 16 = true → engineHeld i true true = false → (s.core core).pendFull (doneOf w 51 52).toList = false →
            ∃ t o, exec (.wgsCommit core grp) s = .next t ∧ (t.cluster cl).wops = (s.cluster cl).wops ++ [o] ∧ o.rid = s.nextId ∧ o.gid = gid ∧
              o.kind = 1 ∧ o.va = G.pair (fld w 36 5) ∧ o.stride = G.sn (fld w 41 5) ∧ o.pitch = G.sn (fld w 46 5) ∧
              (t.cluster cl).wgs = (s.cluster cl).wgs ∧ t.group core grp = { G with pc := G.pc + 2 } ∧
              (t.core core).store = (s.core core).store ∧ t.dram = s.dram)) ∧
      (issues 0x23 (op3Is 2) (fun w w1 => fld w 20 44 = 0 && w1 >>> 7 = 0) (fun _ => []) core grp s.toGk1 = true →
        let w := (fetched s.toGk1 core grp true).w
        G.issues w = true → ∀ gid g, (s.cluster cl).groupAt (fld w 14 6) = some (gid, g) →
          ((s.cluster cl).wops.any fun o => o.gid = gid) = false →
          ∃ t, exec (.wgsDiscard core grp) s = .next t ∧ NMap.get? (t.cluster cl).wgs gid = none ∧
            (∀ k, k ≠ gid → NMap.get? (t.cluster cl).wgs k = NMap.get? (s.cluster cl).wgs k) ∧
            t.group core grp = { G with pc := G.pc + 2 } ∧ t.dram = s.dram) ∧
      (∀ op ∈ [(Instr.gangHold, false), (Instr.gangFree, true)],
        issues 0x24 (fun w => w.testBit 11 = op.2) (fun w _ => w >>> 12 = 0) (fun _ => []) core grp s.toGk1 = true →
        G.issues (fetched s.toGk1 core grp false).w = true →
        exec (op.1 core grp) s = .next (passed s core grp 1 0 (s.toGk1.modCluster cl fun c => { c with
          hold := !op.2, apartFirst := if c.ganged = true ∧ op.2 = false then [] else c.apartFirst })))
  ) ∧ (
    ∀ (cl : Nat) (s : State), cl < nClusters →
      let c := s.cluster cl
      (c.ganged = false → s.wantsGang cl = true → s.arraysEmpty cl = true → s.apartOwed cl = false →
        ∃ t, exec (.gangForm cl) s = .next t ∧ t.cluster cl = { c with ganged := true, apartWait := 0, apartFirst := [] } ∧
          t.cores = s.cores ∧ t.dram = s.dram) ∧
      (c.ganged = true → c.hold = false → s.arraysEmpty cl = true → ((s.heads cl).any fun h => !h.2.ganged && h.2.forms) = true →
        ((s.heads cl).any fun h => h.2.ganged) = false →
        ∃ t, exec (.gangLeave cl) s = .next t ∧ t.cluster cl = { c with ganged := false, apartWait := 0 } ∧ t.cores = s.cores ∧
          t.dram = s.dram) ∧
      (c.hold = true → exec (.gangLeave cl) s = .next s) ∧
      (c.ganged = true → c.hold = false → c.apartFirst = [] → 4096 ≤ c.apartWait → ∃ t, exec (.gangReleaseCountExpiry cl) s = .next t ∧
        t.cluster cl = { c with
          apartFirst := ((s.heads cl).filter fun h => !h.2.ganged && h.2.forms).map fun h => h.2.rid } ∧
        t.cores = s.cores ∧ t.dram = s.dram)
  )

/-- A group stalled for a queue entry, bank space or ENGPEND issues its instruction again when that event comes, and an mma that is
then accepted goes into the queue; a group stalled for another reason is left alone (R103, R154, R224, R360). -/
def Obligations.StalledIssueGoesOn : Prop :=
  ∀ r ∈ [(Instr.matrixQueueAccept, Stall.queue), (Instr.bankSpaceAccept, Stall.bank), (Instr.engpendResume, Stall.engpend)],
  ∀ (core grp : Nat) (s : State), core < nCores → grp < nGroups →
    let G := s.group core grp
    let s0 : State := became s (groupIs s core grp { G with stall := .none })
    let i := fetched s0.toGk1 core grp true
    (G.stall ≠ r.2 → exec (r.1 core grp) s = .next s) ∧
    (∀ x, G.stall = r.2 → issues 0x20 (fun _ => true) mmaOk (fun w => [fld w 21 5, fld w 26 5]) core grp s0.toGk1 = true →
      (s0.group core grp).issues i.w = true → i.mmaArgs = .ok x →
      (mxInit i.w = true → ((s0.bankCores core).map fun c => (s0.core c).bankBytes).sum + x.bound.m * x.bound.n * elemBytes x.bound.fmt
        ≤ s0.bankLimit core) →
      i.waitsFor i.mmaReads = false → engineHeld i (mxDrn i.w1) true = false → i.queueFull = false →
      (s.core core).pendFull ((mxOprel i.w1).toList ++ (mxDone i.w1).toList) = false →
      ∃ t ins, exec (r.1 core grp) s = .next t ∧ (t.core core).mq = (s.core core).mq ++ [ins] ∧ ins.rid = s.nextId ∧ ins.kind = .mma ∧
        t.group core grp = { G with stall := .none, pc := G.pc + 2 } ∧ (t.core core).store = (s.core core).store ∧ t.dram = s.dram)

/-- Barrier instructions on object b. init sets COUNT and clears ARRIVED, with waiters it is refused with BAR_STATE; an arrival that
leaves more to come adds to ARRIVED, one that completes the phase clears it, advances GEN and lets its waiters go on; wait passes once
GEN differs from s[SG] and else stalls; gen and insp read (R356-R372).

An engine arrival lowers ENGPEND and counts 1 when the kernel that made it still runs on the core; every other arrival changes no
object of any core (R360-R362, R375, R376). -/
def Obligations.BarriersAndArrivals : Prop :=
  (
    ∀ (core grp : Nat) (s : State),
      let G := s.group core grp
      let w := (fetched s.toGk1 core grp false).w
      let b := fld w 14 6
      let cnt := fld w 20 8
      let B := (s.core core).bar b
      let withBar := fun B' : Bar => s.toGk1.modCore core fun C => { C with bars := NMap.set C.bars b B' }
      let left := B.count - B.arrived
      G.issues w = true →
      (issues 0x28 (op3Is 0) (fun w _ => barOk true false false w && fld w 20 8 ≠ 0) (fun _ => []) core grp s.toGk1 = true →
        (B.waiters ≠ 0 → exec (.barInit core grp) s = .next (became s (s.groupFault core grp 0x2C))) ∧
        (B.waiters = 0 → B.engpend ≠ 0 → exec (.barInit core grp) s = .next (became s (groupIs s core grp { G with stall := .engpend }))) ∧
        (B.waiters = 0 → B.engpend = 0 → exec (.barInit core grp) s = .next (passed s core grp 1 0
          (withBar { B with count := cnt, arrived := 0, overflow := B.overflow || decide (B.arrived ≠ 0) })))) ∧
      (issues 0x28 (op3Is 1) (fun w _ => barOk true false false w && fld w 20 8 ≠ 0) (fun _ => []) core grp s.toGk1 = true →
        (cnt < left → exec (.barArrive core grp) s = .next (passed s core grp 1 0
          (withBar { B with arrived := B.arrived + cnt, lsrc := 1, lslot := grp }))) ∧
        (left ≤ cnt → ∃ t, exec (.barArrive core grp) s = .next t ∧
          (t.core core).bar b = { B with
            arrived := 0, waiters := 0, gen := B.gen + 1, lsrc := 1, lslot := grp, overflow := B.overflow || decide (left < cnt) } ∧
          (∀ g, g ≠ grp → t.group core g = (s.group core g).release b) ∧ t.dram = s.dram ∧ (t.core core).store = (s.core core).store)) ∧
      (issues 0x28 (op3Is 2) (fun w _ => barOk false true false w) (fun w => [fld w 28 5]) core grp s.toGk1 = true →
        (B.gen.toNat ≠ G.sn (fld w 28 5) % 2 ^ 16 → exec (.barWait core grp) s = .next (passed s core grp 1 0 s.toGk1)) ∧
        (B.gen.toNat = G.sn (fld w 28 5) % 2 ^ 16 → ∃ t, exec (.barWait core grp) s = .next t ∧
          t.group core grp = { G with stall := .bar b, pc := G.pc + 1 } ∧
          (t.core core).bar b = { B with waiters := B.waiters ||| BitVec.ofNat 8 (2 ^ grp) } ∧
          (∀ g, g ≠ grp → t.group core g = s.group core g))) ∧
      (issues 0x28 (op3Is 3) (fun w _ => barOk true false false w && fld w 20 8 ≠ 0) (fun _ => []) core grp s.toGk1 = true →
        (cnt < left → ∃ t, exec (.barArw core grp) s = .next t ∧ t.group core grp = { G with stall := .bar b, pc := G.pc + 1 } ∧
          ((t.core core).bar b).arrived = B.arrived + cnt ∧ ((t.core core).bar b).gen = B.gen) ∧
        (left ≤ cnt → ∃ t, exec (.barArw core grp) s = .next t ∧ (t.group core grp).stall = .none ∧
          ((t.core core).bar b).gen = B.gen + 1 ∧ (t.group core grp).pc = G.pc + 1)) ∧
      (issues 0x28 (op3Is 4) (fun w _ => barOk false false true w) (fun w => [fld w 33 5]) core grp s.toGk1 = true →
        exec (.barGen core grp) s = .next (passed s core grp 1 0 (groupIs s core grp (G.setS (fld w 33 5) (B.gen.setWidth 32))))) ∧
      (issues 0x28 (op3Is 5) (fun w _ => barOk false false true w && fld w 33 5 % 2 = 0) (fun w => [fld w 33 5, fld w 33 5 + 1])
          core grp s.toGk1 = true →
        exec (.barInsp core grp) s = .next (passed s core grp 1 0 (groupIs s core grp (G.setPair (fld w 33 5) B.view))))
  ) ∧ (
    ∀ (id : Nat) (m : Msg) (s : State), NMap.get? s.msgs id = some m → m.kind = .arrival →
      let B := (s.core m.core).bar m.bar
      ((s.core m.core).kid = some m.kid → ∃ t, exec (.engineArrival id) s = .next t ∧
        ((t.core m.core).bar m.bar).engpend = B.engpend - 1 ∧
        ((t.core m.core).bar m.bar).arrived = (if 1 < B.count - B.arrived then B.arrived + 1 else 0) ∧
        ((t.core m.core).bar m.bar).gen = (if 1 < B.count - B.arrived then B.gen else B.gen + 1) ∧
        (∀ b, b ≠ m.bar → (t.core m.core).bar b = (s.core m.core).bar b) ∧ (∀ c, c ≠ m.core → t.core c = s.core c) ∧
        NMap.get? t.msgs id = none ∧ t.dram = s.dram) ∧
      ((s.core m.core).kid ≠ some m.kid → ∃ t, exec (.engineArrival id) s = .next t ∧ t.cores = s.cores ∧
        NMap.get? t.msgs id = none ∧ t.dram = s.dram)
  )

/-- A fence joins the group's pending ones, with a release half it waits for the requests that its scope covers and that are not
performed; with none pending and none to wait for it has completed at once; nothing else changes (R327-R330). -/
def Obligations.FencesCoverEarlierRequests : Prop :=
  ∀ r ∈ [(Instr.fenceRelease, 2, false, true), (Instr.fenceAcquire, 1, true, false), (Instr.fenceFull, 0, true, true)],
  ∀ (core grp : Nat) (s : State),
    issues 0x29 (fun w => wSem w = r.2.1) (fun w _ => fld w 15 49 = 0) (fun _ => []) core grp s.toGk1 = true →
    let G := s.group core grp
    let w := (fetched s.toGk1 core grp false).w
    let scope := fld w 11 2
    let waits := if r.2.2.2 then fenceWaits s.toGk1 core grp scope else []
    let before := pendingFences s.toGk1 G
    G.issues w = true →
    (before = [] → waits = [] → exec (r.1 core grp) s = .next (passed s core grp 1 0 (groupIs s core grp { G with fences := [] }))) ∧
    (before ≠ [] ∨ waits ≠ [] → exec (r.1 core grp) s = .next (passed s core grp 1 0 (groupIs s core grp { G with
      fences := before ++ [{ acq := r.2.2.1, rel := r.2.2.2, scope := scope, waits := waits }] })))

/-- mv.get and mv.put: checked, then one message for each sector of each row, which the load/store mover carries out; ns.put and ns.get
one for each piece of the range; of a request to a peer a piece above address 2^52 is not sent and faults (R463). The group goes on at once; no byte of memory has changed (R311, R312, R315, R329, R360, R523).

A mover's or sender's request that has performed all its accesses ends, and arrives on DONE when it names one (R333). -/
def Obligations.MoverRequests : Prop :=
  (
    ∀ (core grp : Nat) (s : State),
      let G := s.group core grp
      let C := s.core core
      (∀ r ∈ [(Instr.mvGet, 0, ReqKind.mvGet, MsgKind.read), (Instr.mvPut, 1, ReqKind.mvPut, MsgKind.write)],
        issues 0x2A (op3Is r.2.1) (fun w _ => fld w 62 2 = 0 && evenBase (fld w 19 5))
          (fun w => [fld w 14 5, fld w 19 5, fld w 19 5 + 1, fld w 24 5, fld w 29 5, fld w 34 5]) core grp s.toGk1 = true →
        let i := fetched s.toGk1 core grp false
        let a := i.mvArgs
        G.issues i.w = true →
        (a.ok = false → exec (r.1 core grp) s = .next (became s (s.groupFault core grp 0x22))) ∧
        (a.ok = true → engineHeld i true true = false → C.pendFull (doneOf i.w 39 40).toList = false →
          ∃ t q, exec (r.1 core grp) s = .next t ∧ NMap.get? t.reqs s.nextId = some q ∧ q.kind = r.2.2.1 ∧ q.core = core ∧ q.slot = grp ∧
            q.left = a.rows * (a.len / 32) ∧ q.done = doneOf i.w 39 40 ∧
            (∀ k p, a.sectors[k]? = some p → ∃ m, NMap.get? t.msgs (s.nextId + 1 + k) = some m ∧ m.kind = r.2.2.2 ∧ m.rid = s.nextId ∧
              m.place = .dev p.2 ∧ m.local_ = p.1 ∧ m.len = 32) ∧
            t.group core grp = { G with pc := G.pc + 1 } ∧ (t.core core).store = C.store ∧ t.dram = s.dram)) ∧
      (∀ r ∈ [(Instr.nsPut, 0, true, ReqKind.nsPut), (Instr.nsGet, 1, false, ReqKind.nsGet)],
        issues 0x2B (op3Is r.2.1) (nsOk r.2.2.1)
          (fun w => [fld w 16 5, fld w 21 5, fld w 26 5] ++ (if fld w 14 2 = 0 then [] else [fld w 26 5 + 1])
            ++ (if fld w 14 2 = 2 then [fld w 31 5] else [])) core grp s.toGk1 = true →
        let i := fetched s.toGk1 core grp true
        let a := i.nsArgs
        G.issues i.w = true →
        (a.ok = false → exec (r.1 core grp) s = .next (became s (s.groupFault core grp 0x22))) ∧
        (a.ok = true → engineHeld i true true = false → C.pendFull (doneOf i.w 41 42).toList = false → i.nsRefused a = false →
          i.nsBlocked r.2.2.1 a = false →
          ∃ t q, exec (r.1 core grp) s = .next t ∧ NMap.get? t.reqs s.nextId = some q ∧ q.kind = r.2.2.2 ∧ q.core = core ∧ q.slot = grp ∧
            q.left = (a.pieces.filter fun p => !a.badPiece p).length ∧ q.done = doneOf i.w 41 42 ∧ q.src = 6 ∧
            t.group core grp = { G with pc := G.pc + 2 } ∧ (t.core core).store = C.store ∧ t.dram = s.dram))
  ) ∧ (
    ∀ (rid : Nat) (q : Req) (s : State), NMap.get? s.reqs rid = some q → q.kind.byMover = true → q.handed = true → q.left = 0 →
      ∃ t, exec (.moverComplete rid) s = .next t ∧ NMap.get? t.reqs rid = none ∧ (∀ r, r ≠ rid → NMap.get? t.reqs r = NMap.get? s.reqs r) ∧
        (q.done = none → t.msgs = s.msgs) ∧
        (∀ b, q.done = some b → NMap.get? t.msgs s.nextId = some {
          kind := .arrival, core := q.core, slot := q.slot, kid := q.kid, ctx := q.ctx, bar := b, src := q.src }) ∧
        t.cores = s.cores ∧ t.dram = s.dram
  )

/-- Device-memory atomics and the heap: an m.atom leaves as one message with its operation, operand and comparand, and with RET the
group awaits SD; h.alloc sends the block's address on its way to the pair; h.free of a block gives it back, of 0 does nothing, of
another address counts as misuse (R313, R314, R327, R353, R495-R497).

A block given for a size has the least power of two from 256 bytes that holds it and joins the blocks in use; a size of 0 or above
1 MiB gets address 0, and with address 0 nothing changes (R495, R496). -/
def Obligations.DeviceAtomicsAndHeap : Prop :=
  (
    ∀ (core grp : Nat) (s : State),
      let G := s.group core grp
      let i := fetched s.toGk1 core grp false
      let ctx := s.ctxOf core
      G.issues i.w = true →
      (∀ e ∈ mAtomRows.zip (List.range 13),
        issues 0x2D (opIs e.2) (fun w _ => evenBase (fld w 21 5) && (e.2 = 12 || fld w 31 5 = 0) && fld w 37 27 = 0)
          (fun w => [fld w 21 5, fld w 21 5 + 1, fld w 26 5] ++ (if e.2 = 12 then [fld w 31 5] else [])
            ++ (if w.testBit 36 then [fld w 16 5] else [])) core grp s.toGk1 = true → engineHeld i true true = false →
        ∃ t m, exec (e.1 core grp) s = .next t ∧ NMap.get? t.msgs (s.nextId + 1) = some m ∧ m.kind = .atom ∧ m.op = e.2 ∧
          m.place = .dev (G.pair (fld i.w 21 5)) ∧ m.value = (G.s (fld i.w 26 5)).setWidth 64 ∧ m.cmp = G.s (fld i.w 31 5) ∧
          m.reg = fld i.w 16 5 ∧ m.ret = i.w.testBit 36 ∧
          t.group core grp = { G with
            pc := G.pc + 1, awaiting := if i.w.testBit 36 then addNew G.awaiting (fld i.w 16 5) else G.awaiting } ∧
          (t.core core).store = (s.core core).store ∧ t.dram = s.dram) ∧
      (issues 0x2C (op3Is 0) (fun w _ => evenBase (fld w 14 5) && fld w 24 40 = 0)
        (fun w => [fld w 14 5, fld w 14 5 + 1, fld w 19 5]) core grp s.toGk1 = true → engineHeld i false true = false →
        ∃ t m, exec (.hAlloc core grp) s = .next t ∧ NMap.get? t.msgs (s.nextId + 1) = some m ∧ m.kind = .heapReply ∧
          m.reg = fld i.w 14 5 ∧
          m.value = BitVec.ofNat 64 ((s.ctx ctx).alloc s.free (regionOf (clusterOf core)) (G.sn (fld i.w 19 5))).1 ∧
          t.ctx ctx = ((s.ctx ctx).alloc s.free (regionOf (clusterOf core)) (G.sn (fld i.w 19 5))).2 ∧
          t.group core grp = { G with
            pc := G.pc + 1, awaiting := addNew (addNew G.awaiting (fld i.w 14 5)) (fld i.w 14 5 + 1) } ∧ t.dram = s.dram) ∧
      (issues 0x2C (op3Is 1) (fun w _ => fld w 14 5 = 0 && evenBase (fld w 19 5) && fld w 24 40 = 0)
        (fun w => [fld w 19 5, fld w 19 5 + 1]) core grp s.toGk1 = true → engineHeld i true true = false →
        ∃ t, exec (.hFree core grp) s = .next t ∧ t.group core grp = { G with pc := G.pc + 1 } ∧ t.dram = s.dram ∧
          (G.pair (fld i.w 19 5) = 0 → t.ctxs = s.ctxs) ∧
          (∀ c, G.pair (fld i.w 19 5) ≠ 0 → (s.ctx ctx).free (G.pair (fld i.w 19 5)) = some c → t.ctx ctx = c) ∧
          (G.pair (fld i.w 19 5) ≠ 0 → (s.ctx ctx).free (G.pair (fld i.w 19 5)) = none →
            (t.ctx ctx).blocks = (s.ctx ctx).blocks ∧ NMap.getD (t.ctx ctx).counters 12 0 = NMap.getD (s.ctx ctx).counters 12 0 + 1))
  ) ∧ (
    ∀ (c : Ctx) (free region size a : Nat) (c' : Ctx), c.alloc free region size = (a, c') → 0 < c.heapVA →
      ((size = 0 ∨ 2 ^ 20 < size) → a = 0 ∧ c' = c) ∧
      (a = 0 → c' = c) ∧
      (a ≠ 0 → ∃ k, 8 ≤ k ∧ k ≤ 20 ∧ size ≤ 2 ^ k ∧ (k = 8 ∨ 2 ^ (k - 1) < size) ∧ c'.blocks = c.blocks ++ [(a, k)] ∧ c.heapVA ≤ a)
  )

/-! ## Engines, network and stacks -/

/-- The reply of an atomic brings the old value into SD, the reply of the allocator the address into its pair; both registers are
then readable, and the reply has gone (R224, R353, R495).

A sector write of this part lands in the core store it names: exactly its bytes change. An access that cannot be translated
changes no byte and counts as faulted (R320, R322, R694). A stream write's acknowledgement, the data of a read and the end of a
mover's request do what R333, R336 and R338 say. The routers that a packet crosses, and the regions, are neighbours one after the
other, lie first along x and then along y, and end at the physical cluster that the points table names (R32, R33). -/
def Obligations.RequestsAndReplies : Prop :=
  (
    ∀ (s : State) (src dst n : Nat),
      let ends := fun (l : List (Nat × Nat)) (b : Nat × Nat) => l.getLast? = some b ∧
        ∀ i p q, l[i]? = some p → l[i + 1]? = some q → (p.1 - q.1) + (q.1 - p.1) + (p.2 - q.2) + (q.2 - p.2) = 1 ∧ (p.1 ≠ q.1 → p.2 = (l.headD b).2)
      ends (s.lastRouters src dst n) (s.routerOf dst) ∧ (regionPath (regionOf src) (regionOf dst)).getLast? = some (regionOf dst) ∧
        ends (gridPath (regionXY (regionOf src)) (regionXY (regionOf dst))) (regionXY (regionOf dst)) ∧
        (entrySide (regionOf src) (regionOf dst) = none ↔ regionOf src = regionOf dst)
  ) ∧ (
    ∀ (id : Nat) (m : Msg) (s : State), NMap.get? s.msgs id = some m → (s.core m.core).kid = some m.kid →
      let G := s.group m.core m.slot
      (m.kind = .atomReply → ∃ t, exec (.mAtomReply id) s = .next t ∧ NMap.get? t.msgs id = none ∧ t.dram = s.dram ∧
        t.group m.core m.slot = { G.setS m.reg (m.value.setWidth 32) with awaiting := G.awaiting.filter (· ≠ m.reg) }) ∧
      (m.kind = .heapReply → ∃ t, exec (.heapReply id) s = .next t ∧ NMap.get? t.msgs id = none ∧ t.dram = s.dram ∧
        (t.group m.core m.slot).s m.reg = m.value.setWidth 32 ∧ (t.group m.core m.slot).s (m.reg + 1) = (m.value >>> 32).setWidth 32 ∧
        (∀ n, n ≠ m.reg → n ≠ m.reg + 1 → (t.group m.core m.slot).s n = G.s n) ∧
        m.reg ∉ (t.group m.core m.slot).awaiting ∧ m.reg + 1 ∉ (t.group m.core m.slot).awaiting)
  ) ∧ (
    ∀ (id : Nat) (m : Msg) (s : State), NMap.get? s.msgs id = some m →
      (∀ c a, m.kind = .write → m.unsent = false → m.returned = none → m.place = .store c a → m.closing = false → m.late = false →
        m.stream = none → m.pkt = none → s.coreRails (clusterOf c) = true → s.drainBefore id m = false →
        ∃ t, exec (.meshWriteArrival id) s = .next t ∧ (t.core c).store = Mem.patch (s.core c).store a m.data ∧
          NMap.get? t.msgs id = none ∧ (∀ k, k ≠ c → t.core k = s.core k) ∧ (t.core c).groups = (s.core c).groups ∧ t.dram = s.dram) ∧
      (∀ va e, m.kind = .write → m.unsent = false → m.returned = none → m.place = .dev va → m.closing = false → m.late = false →
        m.stream = none → m.pkt = none → m.data = [(0, 0)] → s.snapOf m.ctx (va / 32 * 32) = none →
        s.drainBefore id m = false → s.translate m.ctx true m.enforced (va / 32 * 32) = .error e →
        ∃ t, exec (.meshWriteArrival id) s = .next t ∧ NMap.get? t.msgs id = none ∧ t.dram = s.dram ∧ t.cache = s.cache ∧
          NMap.getD (t.ctx m.ctx).counters 11 0 = NMap.getD (s.ctx m.ctx).counters 11 0 + 1) ∧
      (∀ t0, m.kind = .write → m.returned = some t0 → t0 + 1000 ≤ s.dtime → m.place.isPeer = false →
        exec (.closingWriteResend id) s = .next (became s (s.setMsg id { m with returned := none }))) ∧
      (m.kind = .ack → quiet s.toGk1 m.core = true →
        exec (.meshAck id) s = .next (became s ((s.delMsg id).performed m.rid 1 0))) ∧
      (m.kind = .readReply → (s.core m.core).kid = some m.kid → quiet s.toGk1 m.core = true →
        ∃ t, exec (.meshReadReply id) s = .next t ∧
          (t.core m.core).store = Mem.writeAll (s.core m.core).store m.local_ (m.data.map Prod.snd) ∧
          NMap.get? t.msgs id = none ∧ (∀ c, c ≠ m.core → t.core c = s.core c) ∧ t.dram = s.dram)
  )

/-- The feeder fills the next entry of the oldest instruction that lacks one while the core's queues hold fewer than 8; OPREL arrives once it has read
everything (R105, R108, R333).

One ACLK of an array whose cluster is HELD and runs its kernel: with no entry it counts a feeder stall; with an escape owed it
waits one ACLK; else it takes the class's K positions of the entry, which it gives up after its eighth (R87, R98, R108, R119, R606,
R743). The last run promoted, the instruction is complete: its total has taken the terms and counts it, and it arrives on DONE
(R100, R105, R144, R193). -/
def Obligations.MatrixArrays : Prop :=
  (
    ∀ (core : Nat) (s : State), core < nCores →
      let C := s.core core
      (∀ x, (C.mq.find? fun x => !x.fed) = some x → C.queued < 8 → (s.cluster (clusterOf core)).lost = false →
        ∃ t y, exec (.feederFill core) s = .next t ∧ y ∈ (t.core core).mq ∧ y.rid = x.rid ∧ y.entries.length = x.entries.length + 1 ∧
          (y.fillPass, y.fillEnt) = (if x.mnk.2.2 / 8 ≤ x.fillEnt + 1 then (x.fillPass + 1, 0) else (x.fillPass, x.fillEnt + 1)) ∧
          (t.core core).mq.length = C.mq.length ∧ (t.core core).store = C.store ∧ t.dram = s.dram ∧
          ∀ c, c ≠ core → t.core c = s.core c) ∧
      (∀ rid x b, C.mx rid = some x → mxOprel x.w1.toNat = some b → x.forms = true → x.fed = true → x.oprelDone = false →
        ∃ t m, exec (.oprelArrival core rid) s = .next t ∧ NMap.get? t.msgs s.nextId = some m ∧ m.kind = .arrival ∧ m.core = core ∧
          m.bar = b ∧ m.src = 2 ∧ m.kid = x.kid ∧ (t.core core).store = C.store ∧ (t.core core).bars = C.bars ∧ t.dram = s.dram)
  ) ∧ (
    ∀ (core : Nat) (s : State), core < nCores →
      let C := s.core core
      let cl := clusterOf core
      (∀ x rest, C.mq = x :: rest → s.mayRun core x = true →
        (∃ t, exec (.kStep core) s = .next t ∧ (t.core core).store = C.store ∧ t.dram = s.dram ∧ (t.core core).groups = C.groups ∧
          (x.entries = [] → (t.cluster cl).lastWork = (s.cluster cl).lastWork) ∧
          (∀ en es, x.entries = en :: es → en.stall ≠ 0 → (t.cluster cl).lastWork = (s.cluster cl).lastWork)) ∧
        (x.entries = [] → ∃ t, exec (.kStep core) s = .next t ∧ t.cores = s.cores) ∧
        (∀ en es, x.entries = en :: es → en.stall ≠ 0 → ∃ t y, exec (.kStep core) s = .next t ∧ y ∈ (t.core core).mq ∧
          y = { x with entries := { en with stall := en.stall - 1 } :: es } ∧ (t.core core).totals = C.totals) ∧
        (∀ en es, x.entries = en :: es → en.stall = 0 → x.pace.1 ≤ x.sub + 1 → (x.advance en x.pace.2).2 = [] →
          x.kpos + x.pace.2 < x.mnk.2.2 → ∃ t y, exec (.kStep core) s = .next t ∧ y ∈ (t.core core).mq ∧ y.rid = x.rid ∧
            y.kpos = x.kpos + x.pace.2 ∧ y.runs = (x.advance en x.pace.2).1.runs ∧
            y.entries = (if (x.kpos + x.pace.2) % 8 = 0 then es else en :: es) ∧ (t.core core).totals = C.totals ∧
            (x.sub = 0 → (t.cluster cl).lastWork = s.dtime))) ∧
      (∀ rid x, (C.pipe.find? fun x => x.rid = rid) = some x → s.promoteHeld core x = false →
        (x.kind = .mma → ∀ T, NMap.get? C.totals x.tid = some T → ∃ t, exec (.mmaComplete core rid) s = .next t ∧
          (t.core core).pipe = C.pipe.filter (fun y => y.rid ≠ rid) ∧
          NMap.get? (t.core core).totals x.tid = some { T.take x.closeRuns with
            tsw := tswSum T.tsw x.tsw, count := min (T.count + 1) 0xFFFF } ∧
          (∀ b, x.drain = none → mxDone x.w1.toNat = some b → ∃ id m, s.nextId ≤ id ∧ id ≤ s.nextId + 1 ∧ NMap.get? t.msgs id = some m ∧
            m.kind = .arrival ∧ m.core = core ∧ m.bar = b ∧ m.src = 3) ∧ (t.core core).store = C.store ∧ t.dram = s.dram) ∧
        (x.kind = .mmaWg → ∃ t, exec (.mmaWgComplete core rid) s = .next t ∧
          (t.core core).pipe = C.pipe.filter (fun y => y.rid ≠ rid) ∧ (∀ o ∈ (t.cluster cl).wops, o.rid ≠ rid) ∧
          (t.core core).totals = C.totals ∧ (t.core core).store = C.store ∧ t.dram = s.dram))
  )

/-- A drain that may start reads its total: RELEASE frees it, KEEP clears its safeguard word. A drain whose writes are handed on
writes TSW and DSW at its status address, leaves the pipeline and arrives on DONE; the last write of a LOCAL one has landed then, and
one that faults sets WRITE_FAULT. A commit that is due reads its tiles and writes its
two status words (R159, R160, R174, R176-R178, R199, R200, R333). -/
def Obligations.DrainsAndCommits : Prop :=
  (∀ (core : Nat) (s : State) (j : DrainJob) (rest : List DrainJob) (T : Total), core < nCores → (s.core core).drains = j :: rest →
    NMap.get? (s.core core).totals j.tid = some T → s.drainReady core j = true →
    ∃ t k, exec (.drainStart core) s = .next t ∧ k ∈ (t.core core).drains ∧ k.rid = j.rid ∧ k.started = true ∧
      k.dsw = dswOf T.inexact T.overflow T.nonfin T.undef T.fmt T.count ∧
      NMap.get? (t.core core).totals j.tid = (if j.req.release then none else some { T with tsw := 0 }) ∧
      (t.core core).groups = (s.core core).groups ∧ t.dram = s.dram) ∧
  (∀ (core : Nat) (s : State) (j : DrainJob) (rest : List DrainJob), core < nCores → (s.core core).drains = j :: rest → j.started = true →
    (∀ e ∈ s.pendingWrites j.rid, j.req.dest ≠ 0 ∧ e.2.unsent = false ∧ s.wouldFault e.2 = false) →
    ∃ t, exec (.drainComplete core) s = .next t ∧ (t.core core).drains = rest ∧
      Mem.le (t.core core).store j.req.status 8 = j.tsw.toNat ∧
      Mem.le (t.core core).store (j.req.status + 8) 8 = j.dsw.toNat ∧
      (∀ a, a < j.req.status ∨ j.req.status + 16 ≤ a → Mem.read (t.core core).store a = Mem.read (s.core core).store a) ∧
      (∀ b, j.done = some b → ∃ m, NMap.get? t.msgs s.nextId = some m ∧ m.kind = .arrival ∧ m.core = core ∧ m.bar = b ∧ m.src = 3) ∧
      t.dram = s.dram) ∧
  (∀ (core : Nat) (s : State) (j : DrainJob) (rest : List DrainJob) (id : Nat) (m : Msg), core < nCores →
    (s.core core).drains = j :: rest → j.started = true → s.pendingWrites j.rid = [(id, m)] → id < s.nextId → m.core = core → m.rid = j.rid →
    m.closing = false → m.late = false → m.stream = none → m.pkt = none → m.unsent = false → m.returned = none →
    s.drainBefore id m = false →
    (∀ a, j.req.dest = 0 → m.place = .store core a → s.coreRails (clusterOf core) = true →
      ∃ t, exec (.drainComplete core) s = .next t ∧ (t.core core).drains = rest ∧ NMap.get? t.msgs id = none ∧ t.dram = s.dram ∧
        ∀ x, x < j.req.status ∨ j.req.status + 16 ≤ x →
          Mem.read (t.core core).store x = Mem.read (Mem.patch (s.core core).store a m.data) x) ∧
    (∀ va e, j.req.dest ≠ 0 → m.place = .dev va → m.data = [(0, 0)] → s.snapOf m.ctx (va / 32 * 32) = none →
      s.translate m.ctx true m.enforced (va / 32 * 32) = .error e → j.rid ∉ rest.map DrainJob.rid →
      ∃ t, exec (.drainComplete core) s = .next t ∧ (t.core core).drains = rest ∧ NMap.get? t.msgs id = none ∧ t.dram = s.dram ∧
        Mem.le (t.core core).store (j.req.status + 8) 8 = (j.dsw ||| 0x10).toNat)) ∧
  (∀ (cl : Nat) (s : State) (o : WOp) (g : WGroup), cl < nClusters → (s.cluster cl).lost = false → (s.cluster cl).commitDue = some o →
    NMap.get? (s.cluster cl).wgs o.gid = some g →
    let out := s.commitOut o g (((NMap.get? s.kernels o.kid).map Kernel.ctx).getD 0) (s.enforcedOf o.core)
    ∃ t bad, exec (.wgsCommitComplete cl) s = .next t ∧ (∀ p ∈ (t.cluster cl).wops, p.rid ≠ o.rid) ∧
      Mem.le (t.core o.core).store (wgStatus o.w1.toNat) 8 = (o.status g out.ev).1.toNat ∧
      Mem.le (t.core o.core).store (wgStatus o.w1.toNat + 8) 8 = ((o.status g out.ev).2.toNat + 16 * b2n bad) % 2 ^ 64 ∧
      t.dram = s.dram)

/-- Reads and atomics at the region cache: one whose address does not translate faults; one that misses asks the stack for its sector;
one that hits answers with the bytes that the line holds. A fill brings the stored word; an uncorrectable one is marked BAD and listed
(R353, R389, R397, R403, R406, R694). -/
def Obligations.RegionCacheAccessesAndFills : Prop :=
  (∀ (id va : Nat) (m : Msg) (s : State), NMap.get? s.msgs id = some m → m.place = .dev va → quiet s.toGk1 m.core = true →
    (∀ e, m.kind = .read → s.translate m.ctx false m.enforced va = .error e →
      exec (.regionCacheAccess id) s = .next (became s (s.readFault id m e))) ∧
    (∀ loc ofs gid st, m.kind = .read → s.translate m.ctx false m.enforced va = .ok (.dev loc ofs) → s.locate loc ofs = .ok (gid, st) →
      (s.region (gStack gid)).stackLost = false →
      (NMap.get? s.cache gid = none → exec (.regionCacheAccess id) s = .next (became s (s.askFill gid (ofs % 256 / 32) m.ctx st))) ∧
      (∀ L, NMap.get? s.cache gid = some L → L.valid.getLsbD (ofs % 256 / 32) = true → L.bad.getLsbD (ofs % 256 / 32) = false →
        ∃ t, exec (.regionCacheAccess id) s = .next t ∧
          NMap.get? t.msgs id = some { m with
            kind := .readReply, data := (List.range m.len).zip (Mem.bytes L.data (ofs % 256) m.len) } ∧
          t.dram = s.dram ∧ t.cores = s.cores)) ∧
    (m.kind = .atom → va % 4 ≠ 0 → exec (.regionCacheAccess id) s
      = .next (became s ((s.accessFault m.kid m.ctx m.rid m.core 0x43 va).atomReply id m 0)))) ∧
  (∀ (g sec ctx : Nat) (st : Bool) (L : Line) (s : State), g < nGranules → sec < nSectors →
    NMap.get? s.fills (wordNo g sec) = some (ctx, st) → ((s.region (gStack g)).channel (gChannel g)).retrained = none →
    (s.region (gStack g)).stackLost = false → NMap.get? s.cache g = some L → L.valid.getLsbD sec = false → s.listed g sec = false →
    (((s.region (gStack g)).channel (gChannel g)).erasures = [] → ∃ t K, exec (.regionCacheFill g sec []) s = .next t ∧
      NMap.get? t.cache g = some K ∧ K.valid.getLsbD sec = true ∧ K.bad = L.bad ∧ K.dirty = L.dirty ∧
      Mem.bytes K.data (32 * sec) 32 = Mem.bytes s.dram (g * 256 + 32 * sec) 32 ∧ NMap.get? t.fills (wordNo g sec) = none ∧
      t.dram = s.dram) ∧
    (∀ noise, readWord g sec (sectorBytes s.dram (g * 256) sec) (noiseOf noise) ((((s.sweepOn (gStack g) (gChannel g)).region (gStack g)).channel (gChannel g)).erasuresAt (gSlot g)) = none →
      (s.region (gStack g)).badWords.length < 1024 → ∃ t K, exec (.regionCacheFill g sec noise) s = .next t ∧
        NMap.get? t.cache g = some K ∧ K.bad.getLsbD sec = true ∧ t.listed g sec = true ∧
        (t.region (gStack g)).uncorr = upTo16 ((s.region (gStack g)).uncorr + 1) ∧ t.dram = s.dram))

/-- Refresh and retraining of a channel when due hold back no data; a scrub corrects a granule without changing what its bytes read
as, counts the word in CORR and skips a granule whose line is cached; the end of a rebuild sweep puts the spare in the lane's place, and a lane erased meanwhile has the next sweep;
CLR of MEM_SEL clears the counts of the region then selected (R399, R400, R406, R408-R410). -/
def Obligations.StackUpkeep : Prop :=
  (∀ (s : State) (r c b : Nat), r < 64 → c < 32 → b < 64 →
    (∀ t0, NMap.get? ((s.region r).channel c).refreshed b = some t0 → t0 + (if (s.region r).hot = true then 1950 else 3900) ≤ s.dtime) →
    ∃ t, exec (.dramRefresh r c b) s = .next t ∧ NMap.get? ((t.region r).channel c).refreshed b = some s.dtime ∧
      t.fills = s.fills ∧ t.dram = s.dram) ∧
  (∀ (s : State) (r c : Nat), r < 64 → c < 32 → (∀ t0, ((s.region r).channel c).retrained = some t0 → t0 + 100000000 ≤ s.dtime) →
    ∃ t, exec (.dramRetrain r c) s = .next t ∧ ((t.region r).channel c).retrained = some s.dtime ∧ t.fills = s.fills ∧ t.dram = s.dram) ∧
  (∀ (s : State) (g : Nat) (noise : List (Nat × Byte)), g < 2048 * granulesPerChannel → s.scrubCtl.testBit 0 = true →
    (s.region (gStack g)).stackLost = false → (s.region (gStack g)).margining = false →
    (NMap.has s.cache g = true → ∃ t, exec (.scrub g noise) s = .next t ∧ t.dram = s.dram ∧
      (t.region (gStack g)).corr = (s.region (gStack g)).corr) ∧
    (∀ fixed, NMap.has s.cache g = false → ((s.region (gStack g)).channel (gChannel g)).erasures = [] → (∀ e ∈ noise, e.1 < 36) →
      s.listed g 0 = false → ((s.scrubPass (gStack g)).region (gStack g)).scrubbed.contains g = false → 
      readWord g 0 (sectorBytes s.dram (g * 256) 0) (noiseOf noise) [] = some ([], fixed) →
      ∃ t, exec (.scrub g noise) s = .next t ∧ (∀ a, Mem.read t.dram a = Mem.read s.dram a) ∧
        (t.region (gStack g)).corr = (if fixed = [] then (s.region (gStack g)).corr else min ((s.region (gStack g)).corr + 1) 0xFFFF))) ∧
  (∀ (s : State) (r c lane p spare : Nat), r < 64 → c < 32 → (s.region r).margining = false →
    ((s.region r).channel c).rebuild = some (lane, p) → ((s.region r).channel c).hasSpare = some spare →
    let C := { (s.region r).channel c with spared := ((s.region r).channel c).spared ++ [(lane, spare)], rebuild := none }
    (C.erased = [] ∨ C.hasSpare = none → exec (.rebuildSweepEnd r c) s = .next (became s (s.modChannel r c fun _ => C))) ∧
    (∀ l rest sp, C.erased = l :: rest → C.hasSpare = some sp → exec (.rebuildSweepEnd r c) s
      = .next (became s (s.modChannel r c fun _ => { C with rebuild := some (l, 0), erased := rest })))) ∧
  (∀ (s : State) (v : BitVec 32), s.blocksWork = true →
    let r := fld v.toNat 0 6
    ∃ t, exec (.memSelClr v) s = .next t ∧ t.reg 0x300C08 0 = r ∧ t.dram = s.dram ∧
      (v.getLsbD 31 = true → t.region r = { s.region r with corr := 0, uncorr := 0 }) ∧ (v.getLsbD 31 = false → t.regions = s.regions))

/-! ## The host link, queues and registers -/

/-- The host link trains at x16, or at x8 with WIDTH_DOWN, and what it held back goes out; it goes down and D3hot closes it with
nothing else changed, D0 opens it; a completion gives a host read its bytes, an error or 50 ms without one faults it; a PTM dialogue
keeps the last two pairs; a message goes out for every request that waits on its vector, or sets the pending bit of a masked one
(R37, R415-R419, R423, R454). -/
def Obligations.HostLinkEvents : Prop :=
  (∀ (s : State) (lanes : Nat), s.part ≠ .off → s.part ≠ .powerRamp → 8 ≤ lanes →
    ∃ t, exec (.hostLinkTrain lanes) s = .next t ∧ t.edge.linkUp = true ∧ t.edge.width = (if 16 ≤ lanes then 16 else 8) ∧
      (lanes < 16 → (t.reg 0x60 0).testBit 4 = true) ∧
      (s.edge.d3hot = false → t.posted = s.posted ++ s.postHeld ∧ t.postHeld = []) ∧ t.queues = s.queues ∧ t.dram = s.dram) ∧
  (∀ s : State, exec .hostLinkDown s = .next (became s { s.toGk1 with edge := { s.edge with linkUp := false } })) ∧
  (∀ s : State, exec .d3hotEntry s = .next (became s { s.toGk1 with edge := { s.edge with d3hot := true } })) ∧
  (∀ s : State, s.edge.linkUp = true → exec .d0Return s = .next (became s { s.toGk1 with
    edge := { s.edge with d3hot := false }, posted := s.posted ++ s.postHeld, postHeld := [] })) ∧
  (∀ (s : State) (id : Nat) (m : Msg) (data : List Byte), NMap.get? s.msgs id = some m → m.kind = .hostRead →
    (s.linkOpen = true → data.length = m.len → exec (.hostCompletion id true data) s
      = .next (became s (s.setMsg id { m with kind := .readReply, data := (List.range m.len).zip data }))) ∧
    (s.linkOpen = true → exec (.hostCompletion id false data) s = .next (became s (s.hostReadFault id m))) ∧
    (m.sentAt + 50000000 ≤ s.dtime → exec (.hostCompletionTimeout id) s = .next (became s (s.hostReadFault id m)))) ∧
  (∀ (s : State) (mtime ltime : Nat), s.linkOpen = true → s.ptmCtl.testBit 0 = true → s.edge.ptmAt = none → ltime ≤ s.dtime →
    exec (.ptmDialogue mtime ltime) s = .next (became s { s.toGk1 with
      edge := { s.edge with ptm := (mtime % 2 ^ 64, ltime) :: s.edge.ptm.take 1, ptmAt := some s.dtime, ptmReset := false } })) ∧
  (∀ (s : State) (v : Nat), s.linkOpen = true → (s.edge.msixWait.any fun w => w.1 = v && decide (w.2 ≤ s.dtime)) = true →
    ∃ t, exec (.msixMessage v) s = .next t ∧ (∀ w ∈ t.edge.msixWait, w.1 ≠ v) ∧
      (s.msixMasked v = true → v ∈ t.edge.msixPending ∧ t.posted = s.posted) ∧
      (s.msixMasked v = false → t.edge.msixSent = s.edge.msixSent ++ [v] ∧ v ∉ t.edge.msixPending ∧
        NMap.get? t.edge.msixLast v = some s.dtime))

/-- A queue-engine reset, by any of its four ways: every queue is DISABLED and empty, the registers of HL_ and QE_ read as at reset,
every LIVE context but 0 is in teardown, no region belongs to context 0, and device memory is untouched (R418). -/
def Obligations.QueueEngineReset : Prop :=
  ∀ r ∈ [Instr.functionLevelReset, .hotReset, .perst, .hlResetQueues], ∀ s : State, s.regsWork = true →
    ∃ t, exec r s = .next t ∧
      (∀ q, (t.queue q).state = 0 ∧ (t.queue q).recs = [] ∧ (t.queue q).fetched = [] ∧ (t.queue q).cur = none) ∧
      (∀ off v, isHlQe off = true → v < 2 ^ 64 → t.reg off v = v) ∧
      (∀ c, c ≠ 0 → (s.ctx c).state = 1 → (t.ctx c).state = 2) ∧ (∀ n, n < 64 → (t.region n).owner ≠ some 0) ∧
      t.edge.linkUp = s.edge.linkUp ∧ t.part = s.part ∧ t.dram = s.dram

/-- A poll of the summary clears each byte that is not zero and reads the doorbell words of their queues; a word past its ring takes
the queue to ERROR. Fetched descriptors join their queue in order, at most 64 in one read and 256 held (R427, R428, R431-R433). -/
def Obligations.PollsAndFetches : Prop :=
  (∀ (s : State) (bytes : List Byte) (words : List (Nat × Option (BitVec 64))) (i : Nat), s.pollDue = true → i < 512 →
    (∀ k, k < 512 → (bytes.getD k 0 ≠ 0 ↔ k = i)) → s.postHeld = [] →
    ∃ t, exec (.summaryPoll (some bytes) words) s = .next t ∧ t.edge.polledAt = some s.dtime ∧
      t.posted = s.posted ++ [(fld s.summaryReg 6 58 * 64 + i, [0])] ∧ t.dram = s.dram ∧
      (∀ q w, q / 8 = i → (s.queue q).state = 1 → (words.find? fun x => x.1 = q) = some (q, some w) →
        ((fld w.toNat 0 16 < s.sqSize q ∧ fld w.toNat 32 16 < s.cqSize q) →
          (t.queue q).sqTail = fld w.toNat 0 16 ∧ (t.queue q).cqHead = fld w.toNat 32 16 ∧ (t.queue q).state = 1) ∧
        ((s.sqSize q ≤ fld w.toNat 0 16 ∨ s.cqSize q ≤ fld w.toNat 32 16) → (t.queue q).state = 3 ∧ (t.queue q).lastErr = 1)) ∧
      (∀ q, q / 8 ≠ i → t.queue q = s.queue q)) ∧
  (∀ (s : State) (q : Nat) (ds : List (List (BitVec 64))), q < nQueues → s.queuesRun = true → s.linkOpen = true →
    (s.queue q).state = 1 → ds.length ≤ (s.queue q).submitted - (s.queue q).fetchedN → ds.length ≤ 64 →
    (s.queue q).fetched.length + ds.length ≤ 256 → (s.queue q).sqHead + ds.length ≤ s.sqSize q → (∀ d ∈ ds, d.length = 8) →
    ∃ t, exec (.descriptorFetch q ds) s = .next t ∧ (t.queue q).fetched.map Desc.q = (s.queue q).fetched.map Desc.q ++ ds ∧
      (t.queue q).fetchedN = (s.queue q).fetchedN + ds.length ∧ (t.queue q).sqHead = ((s.queue q).sqHead + ds.length) % s.sqSize q ∧
      (∀ k, k ≠ q → t.queue k = s.queue k) ∧ t.posted = s.posted ∧ t.dram = s.dram)

/-- A record is written at CQTAIL while the ring has room, its last 24 bytes before the first 8, and CQTAIL goes on around the ring,
the phase bit changing at its end; a full ring keeps it (R449-R451). A NOP completes OK; a descriptor that no table names with
DESC_INVALID; MGMT on a queue other than 0 with NOT_PERMITTED (R439, R446).

ENABLE takes a DISABLED queue of a LIVE context to ACTIVE with its rings from index 0, and of another context sets QCTX and changes
nothing else. STOP cancels what has not started and disables the queue once nothing runs; ABORT disables it at once (R426, R472, R474).

On queue 0, MGMT_REFUSED and MGMT_TIMEOUT do not move the queue to ERROR (R473). -/
def Obligations.RecordsAndQueueCommands : Prop :=
  (
    (∀ (s : State) (q : Nat) (r : Rec) (rest : List Rec), q < nQueues → (s.queue q).recs = r :: rest →
      (s.cqRoom q = 0 → exec (.completionRecord q) s = .next s) ∧
      (s.cqRoom q ≠ 0 → s.linkOpen = true → s.postHeld = [] →
        let a := fld (s.reg (0x100008 + 0x40 * q) 0) 12 52 * 4096 + 32 * (s.queue q).cqTail
        let bs := r.bytes (s.queue q).cqPh (s.queue q).sqHead
        ∃ t, exec (.completionRecord q) s = .next t ∧ t.posted = s.posted ++ [(a + 8, bs.drop 8), (a, bs.take 8)] ∧
          (t.queue q).recs = rest ∧
          ((s.queue q).cqTail + 1 ≠ s.cqSize q → (t.queue q).cqTail = (s.queue q).cqTail + 1 ∧ (t.queue q).cqPh = (s.queue q).cqPh) ∧
          ((s.queue q).cqTail + 1 = s.cqSize q → (t.queue q).cqTail = 0 ∧ (t.queue q).cqPh = !(s.queue q).cqPh) ∧ t.dram = s.dram)) ∧
    (∀ (s : State) (q : Nat) (d : Desc), starts s.toGk1 q d = true → d.plain q = true →
      ∃ t, exec (.nopDescriptor q) s = .next t ∧ t.dram = s.dram ∧ t.kernels = s.kernels ∧
        completed s.toGk1 t.toGk1 q d { status :=
          if d.type = 0x10 ∧ q ≠ 0 then 8 else if d.type ≠ 0 ∨ s.descBad q d [] = true then 1 else 0 })
  ) ∧ (
    ∀ (s : State) (q : Nat), q < nQueues → s.queuesRun = true →
      (∀ w : BitVec 64, (s.queue q).state = 0 → s.ctxLive (s.qctx q) = true → fld w.toNat 0 16 < s.sqSize q → fld w.toNat 32 16 < s.cqSize q →
        ∃ t, exec (.queueEnable q (some w)) s = .next t ∧ (t.queue q).state = 1 ∧ (t.queue q).sqHead = 0 ∧ (t.queue q).cqTail = 0 ∧
          (t.queue q).cqPh = true ∧ (t.queue q).sqTail = fld w.toNat 0 16 ∧ (t.queue q).cqHead = fld w.toNat 32 16 ∧
          (∀ k, k ≠ q → t.queue k = s.queue k) ∧ t.dram = s.dram) ∧
      (∀ w, (s.queue q).state = 0 → s.ctxLive (s.qctx q) = false → exec (.queueEnable q w) s = .next (became s (s.setErr 0x60 1))) ∧
      ((s.queue q).state = 1 → (s.queue q).cur = none → (s.queue q).deferred = [] → (s.queue q).fetched = [] → (s.queue q).recs = [] →
        ∃ t, exec (.queueStop q) s = .next t ∧ (t.queue q).state = 0 ∧ (∀ k, k ≠ q → t.queue k = s.queue k) ∧ t.dram = s.dram) ∧
      (∀ c, (s.queue q).state = 1 → (s.queue q).cur = some c → (∀ d ∈ (s.queue q).fetched, d.seq ≠ c.desc.seq) →
        ∃ t, exec (.queueStop q) s = .next t ∧ (t.queue q).state = 2 ∧ (t.queue q).fetched = [] ∧ (t.queue q).cur = some c ∧
          t.kernels = s.kernels ∧ t.dram = s.dram) ∧
      ((s.queue q).state ≠ 0 → ∃ t, exec (.queueAbort q) s = .next t ∧ (t.queue q).state = 0 ∧ (t.queue q).cur = none ∧
        (t.queue q).fetched = [] ∧ (t.queue q).deferred = [] ∧ t.dram = s.dram)
  ) ∧ (
    ∀ (s : Gk1) (d : Desc) (f : Fin_), f.status = 6 ∨ f.status = 7 → (s.queue 0).state ≠ 3 → ((s.finish 0 d f).queue 0).state ≠ 3
  )

/-- A write to a configuration register of a queue that is not DISABLED leaves all four as they are and sets HL_ERR.CFGDROP. -/
def Obligations.ConfigurationOfARunningQueueIsKept : Prop :=
  ∀ (s : State) (q off size : Nat) (v : BitVec 64), q < nQueues → s.blocksWork = true → (s.queue q).state ≠ 0 →
    0x100000 + 0x40 * q ≤ off → off < 0x10001C + 0x40 * q → accessOk off size = true →
    ∀ row ∈ [Instr.qeConfigWrite, Instr.registerWrite], ∃ t, exec (row off size v) s = .next t ∧
      (t.reg 0x60 0).testBit 1 = true ∧
      (∀ o ∈ [0x00, 0x08, 0x10, 0x18], ∀ d, t.reg (0x100000 + 0x40 * q + o) d = s.reg (0x100000 + 0x40 * q + o) d) ∧
      t.queues = s.queues

/-- A write to the mask of a placement entry whose VALID is set changes nothing; a write that sets VALID over a mask that does not
name 1, 2, 4, 8, 16, 32 or 64 stacks leaves VALID clear. -/
def Obligations.PlacementEntriesAreGuarded : Prop :=
  ∀ (s : State) (i : Nat), i < 256 →
    (∀ (size half : Nat) (v : BitVec 64), size = 8 ∨ (size = 4 ∧ half < 2) → (s.reg (0x300800 + 4 * i) (b2n (decide (i = 0)))).testBit 0 = true →
      exec (.memPlaceMaskWrite i size half v) s = .next s) ∧
    (∀ v : BitVec 32, i ≠ 0 → s.blocksWork = true → v.getLsbD 0 = true →
      (bitsOf 64 (s.reg (0x300000 + 8 * i) 0)).length ∉ [1, 2, 4, 8, 16, 32, 64] →
      ∃ t, exec (.memPlaceAttrWrite i v) s = .next t ∧ (t.reg (0x300800 + 4 * i) 0).testBit 0 = false)

/-- Register writes that take effect: a DISABLED queue's ring base, the mask and VALID of a placement entry, even running, a route;
and those that do not: an access of a wrong size sets BADACC, an offset without a register and a register whose block does not work
yet ignore it; HL_ERR clears by ones (R7, R421, R422, R424, R382, R386, R625, R658). -/
def Obligations.RegisterWrites : Prop :=
  (∀ (s : State) (q : Nat) (v : BitVec 64), q < nQueues → s.blocksWork = true → (s.queue q).state = 0 →
    ∀ o ∈ [0x00, 0x08], ∃ t, exec (.qeConfigWrite (0x100000 + 0x40 * q + o) 8 v) s = .next t ∧ t.queues = s.queues ∧ t.dram = s.dram ∧
      fld (t.reg (0x100000 + 0x40 * q + o) 0) 12 52 = fld v.toNat 12 52 ∧
      (∀ p d, p ≠ 0x100000 + 0x40 * q + o → t.reg p d = s.reg p d)) ∧
  (∀ (s : State) (i : Nat) (v : BitVec 64), i < 256 → i ≠ 0 → s.blocksWork = true → (s.reg (0x300800 + 4 * i) 0).testBit 0 = false →
    ∃ t, exec (.memPlaceMaskWrite i 8 0 v) s = .next t ∧ t.reg (0x300000 + 8 * i) 0 = v.toNat ∧ t.dram = s.dram ∧
      (∀ p d, p ≠ 0x300000 + 8 * i → t.reg p d = s.reg p d)) ∧
  (∀ (s : State) (i : Nat) (v : BitVec 32), i < 256 → i ≠ 0 → s.blocksWork = true →
    ((bitsOf 64 (s.reg (0x300000 + 8 * i) 0)).length ∈ [1, 2, 4, 8, 16, 32, 64] ∨ v.getLsbD 0 = false) →
    ∃ t, exec (.memPlaceAttrWrite i v) s = .next t ∧ t.reg (0x300800 + 4 * i) 0 = fld v.toNat 0 2 ∧ t.dram = s.dram ∧
      (∀ p d, p ≠ 0x300800 + 4 * i → t.reg p d = s.reg p d)) ∧
  (∀ (s : State) (v : BitVec 32), s.blocksWork = true →
    ∃ t, exec (.ptEvenWrite v) s = .next t ∧ t.evenPoint = fld v.toNat 4 4 ∧ t.dram = s.dram ∧
      t.even = (v.getLsbD 0 && decide (s.power.guard < fld v.toNat 4 4))) ∧
  (∀ (s : State) (i : Nat) (v : BitVec 64), i < 256 → s.blocksWork = true →
    ∃ t, exec (.registerWrite (0x401000 + 8 * i) 8 v) s = .next t ∧ fld (t.reg (0x401000 + 8 * i) 0) 0 48 = fld v.toNat 0 48 ∧
      (∀ p d, p ≠ 0x401000 + 8 * i → t.reg p d = s.reg p d) ∧ t.dram = s.dram) ∧
  (∀ (s : State) (off size : Nat) (v : BitVec 64),
    (accessOk off size = false → s.regsWork = true → exec (.registerWrite off size v) s = .next (became s (s.setErr 0x60 0))) ∧
    (size = 4 → off % 4 = 0 → regAt off = none → exec (.registerWrite off size v) s = .next s) ∧
    (∀ r, size = 4 → off % 4 = 0 → regAt off = some r → (if r.1.gated = true then s.blocksWork else s.regsWork) = false →
      exec (.registerWrite off size v) s = .next s) ∧
    (s.regsWork = true → ∃ t, exec (.registerWrite 0x60 4 v) s = .next t ∧
      ∀ k, k < 6 → (t.reg 0x60 0).testBit k = ((s.reg 0x60 0).testBit k && !v.getLsbD k)))

/-! ## Contexts, kernels and objects -/

/-- REGION_ASSIGN gives the named regions to a LIVE context, to be cleared before its first kernel when it did not own them; a refused
one changes no owner; a release is held and then, once no kernel has clusters in the regions and the departure slots elsewhere have
taken over the held draw, makes them unowned, or after 10 ms completes MGMT_TIMEOUT and changes no owner (R26, R27, R469-R471,
R611). -/
def Obligations.RegionOwnership : Prop :=
  (∀ (s : State) (d : Desc), mgmt s.toGk1 0xE d = true → d.raRelease = false →
    (s.assignRefused d = true → ∃ t, exec .regionAssign s = .next t ∧ completed s.toGk1 t.toGk1 0 d { status := 6 } ∧
      t.regions = s.regions ∧ t.dram = s.dram) ∧
    (s.assignRefused d = false → ∃ t, exec .regionAssign s = .next t ∧ completed s.toGk1 t.toGk1 0 d {} ∧ t.dram = s.dram ∧
      ∀ r, r < 64 → t.region r = if (d.w 3).testBit r = true ∧ (s.region r).owner ≠ some d.raCtx
        then { s.region r with owner := some d.raCtx, needsClear := true } else s.region r)) ∧
  (∀ (s : State) (d : Desc), mgmt s.toGk1 0xE d = true → d.raRelease = true → s.assignRefused d = false →
    ∃ t, exec .regionRelease s = .next t ∧ (t.queue 0).cur = some { desc := d, at_ := s.dtime } ∧
      t.held.releasing = regionMask (d.w 3) ∧ t.regions = s.regions ∧ t.dram = s.dram) ∧
  (∀ (s : State) (c : Cur), runs s.toGk1 0 c = true → s.heldRelease = some c →
    ((s.clusters.any fun e => (regionMask (c.desc.w 3)).contains (regionOf e.1) && !e.2.free) = false →
      (s.handOver 64 (regionMask (c.desc.w 3))).2 = false →
      exec .regionReleaseEffect s = .next (became s (s.handOver 64 (regionMask (c.desc.w 3))).1)) ∧
    ((s.clusters.any fun e => (regionMask (c.desc.w 3)).contains (regionOf e.1) && !e.2.free) = false →
      (s.handOver 64 (regionMask (c.desc.w 3))).2 = true →
      ∃ t, exec .regionReleaseEffect s = .next t ∧ completed s.toGk1 t.toGk1 0 c.desc {} ∧ t.dram = s.dram ∧
        (∀ r, r < 64 → (c.desc.w 3).testBit r = true → (t.region r).owner = none ∧ (t.region r).needsClear = true) ∧
        (∀ r, r < 64 → (c.desc.w 3).testBit r = false → (t.region r).owner = (s.region r).owner)) ∧
    (c.at_ + 10000000 ≤ s.dtime → ∃ t, exec .regionReleaseTimeout s = .next t ∧
      completed s.toGk1 t.toGk1 0 c.desc { status := 7 } ∧ t.regions = s.regions ∧ t.held.releasing = [] ∧ t.dram = s.dram))

/-- CTX_CREATE makes a FREE context LIVE with the next generation, or is refused; CTX_DESTROY takes a LIVE one to teardown, which stops
its queues; once no kernel of it is left and the held draw of its regions has been taken over, the context is FREE, owns no region and holds no heap block (R466-R468, R500, R611). -/
def Obligations.ContextLife : Prop :=
  (∀ (s : State) (d : Desc), mgmt s.toGk1 0xC d = true → 8 ≤ d.w 2 →
    let c := fld (d.w 3) 0 6
    (d.createBad = true → ∃ t, exec .ctxCreate s = .next t ∧ completed s.toGk1 t.toGk1 0 d { status := 1 } ∧ t.ctxs = s.ctxs) ∧
    (d.createBad = false → (s.ctx c).state ≠ 0 →
      ∃ t, exec .ctxCreate s = .next t ∧ completed s.toGk1 t.toGk1 0 d { status := 6 } ∧ t.ctxs = s.ctxs) ∧
    (d.createBad = false → (s.ctx c).state = 0 → ∃ t, exec .ctxCreate s = .next t ∧ completed s.toGk1 t.toGk1 0 d { data := 8 } ∧
      t.ctx c = { state := 1, gen := (s.ctx c).gen + 1, cbFrame := BitVec.ofNat 32 (d.w 4), heapVA := fld (d.w 5) 0 52,
                  heapCh := fld (d.w 6) 0 17, rlog := fld (d.w 7) 0 4, rlAddr := fld (d.w 7) 12 52 * 4096 } ∧
      (∀ k, k ≠ c → t.ctx k = s.ctx k) ∧ t.dram = s.dram)) ∧
  (∀ (s : State) (d : Desc), mgmt s.toGk1 0xD d = true →
    let c := fld (d.w 3) 0 6
    (c = 0 ∨ (s.ctx c).state ≠ 1 →
      ∃ t, exec .ctxDestroy s = .next t ∧ completed s.toGk1 t.toGk1 0 d { status := 6 } ∧ t.ctxs = s.ctxs) ∧
    (c ≠ 0 → (s.ctx c).state = 1 → ∃ t, exec .ctxDestroy s = .next t ∧ (t.ctx c).state = 2 ∧ (t.queue 0).cur = some { desc := d, at_ := s.dtime } ∧
      (∀ q, q ≠ 0 → s.qctx q = c → NMap.has s.queues q = true → (t.queue q).state = 0 ∧ (t.queue q).recs = []) ∧ t.dram = s.dram)) ∧
  (∀ (s : State) (c : Nat), c < nContexts → c ≠ 0 → (s.ctx c).state = 2 → (∀ e ∈ s.kernels, e.2.ctx ≠ c) →
    (∀ e ∈ s.msgs, e.2.copying c = false) → (s.handOver c (s.regionsOf c)).2 = true →
    ∃ t, exec (.teardownComplete c) s = .next t ∧ (t.ctx c).state = 0 ∧ (t.ctx c).blocks = [] ∧ (t.ctx c).gen = (s.ctx c).gen ∧
      (∀ r, r < 64 → (t.region r).owner ≠ some c) ∧ t.kernels = s.kernels)

/-- A KERNEL that breaks a field rule completes DESC_INVALID and one on regions that its context does not own NOT_OWNED; else it is
ready to launch, in the normal lane as the queue's started descriptor. When its clusters are free it launches, and each of them asks
for a place (R204, R436, R440, R441). -/
def Obligations.KernelsStartAndLaunch : Prop :=
  (∀ (s : State) (q : Nat) (d : Desc), starts s.toGk1 q d = true → d.normalKernel = true →
    (s.kernelRefusal q d ≠ 0 → ∃ t, exec (.kernelStart q false) s = .next t ∧
      completed s.toGk1 t.toGk1 q d { status := s.kernelRefusal q d } ∧ t.kernels = s.kernels ∧ t.dram = s.dram) ∧
    (s.kernelRefusal q d = 0 → (s.queue q).plan = none → ∃ t, exec (.kernelStart q false) s = .next t ∧
      NMap.get? t.kernels s.nextId = some { queue := q, ctx := s.qctx q, desc := d } ∧
      (t.queue q).cur = some { desc := d, kid := some s.nextId, at_ := s.dtime } ∧ (t.queue q).recs = (s.queue q).recs ∧
      t.cores = s.cores ∧ t.dram = s.dram)) ∧
  (∀ (s : State) (q : Nat) (d : Desc), q < nQueues → s.mayStart q = true → (s.queue q).nextDeferred = some d → s.kernelRefusal q d = 0 →
    ∃ t, exec (.kernelStart q true) s = .next t ∧ NMap.get? t.kernels s.nextId = some { queue := q, ctx := s.qctx q, desc := d } ∧
      (t.queue q).deferred = (s.queue q).deferred ++ [s.nextId] ∧ (t.queue q).cur = (s.queue q).cur ∧ t.dram = s.dram) ∧
  (∀ (s : State) (kid : Nat) (K : Kernel), NMap.get? s.kernels kid = some K → s.kernelReady K = true → K.taken = none →
    s.nextTaken = some kid → s.owns K.ctx K.desc = true →
    let s1 : Gk1 := { s.toGk1 with nextId := s.nextId + 1, edge := { s.edge with rr := K.queue + 1 } }.modKernel kid fun K =>
      { K with taken := some s.nextId }
    (s1.canLaunch kid { K with taken := some s.nextId } = false →
      exec (.kernelLaunch kid) s = .next (became s (s1.modKernel kid fun J => { J with
        reserved := (J.reserved ++ s1.busyOf { K with taken := some s.nextId }).eraseDups }))) ∧
    (s1.canLaunch kid { K with taken := some s.nextId } = true → (∀ r ∈ K.desc.regions, (s.region r).needsClear = false) →
      s.loadCores K = [] → ∃ t, exec (.kernelLaunch kid) s = .next t ∧
        NMap.get? t.kernels kid = some { K with phase := 1, taken := none, reserved := [] } ∧
        (∀ cl, t.cluster cl = if K.desc.covers cl = true then { s.cluster cl with asking := some kid } else s.cluster cl) ∧
        t.cores = s.cores ∧ t.dram = s.dram))

/-- At a departure slot a held cluster that asks takes its place: its groups start with their seven registers, its barrier objects count
the groups (R222, R223, R356, R608). A parked cluster with a K step ready asks for readmission (R609). A grain is handed to a free
cluster, the lowest lost one first, and counts when it is over (R205, R711).

A kernel whose shares are over completes with its status by R452 and leaves its clusters, held or parked as they were; its groups
are gone. At TLIMIT its groups are stopped, and it will complete with TIMEOUT (R107, R134, R443, R449, R452, R610). -/
def Obligations.AdmissionGrainsAndEnds : Prop :=
  (
    (∀ (s : State) (region cl kid : Nat) (c : Cluster) (K : Kernel), region < 64 → NMap.get? s.power.slots region = none →
      (s.region region).sbUp = true → (s.region region).service = 0 → regionOf cl = region → 0 < s.slotClusters →
      (s.clusters.filter fun e => regionOf e.1 = region && e.2.asking.isSome) = [(cl, c)] → s.cluster cl = c → c.asking = some kid →
      c.held = true → c.lost = false → c.admitted = none → NMap.get? s.kernels kid = some K →
      ∃ t, exec (.departureSlot region) s = .next t ∧ NMap.get? t.power.slots region = some s.dtime ∧
        t.cluster cl = { c with asking := none, admitted := some kid, shareFrom := s.nextId } ∧
        (∀ n ∈ coresOf cl, (t.core n).kid = some kid ∧ (∀ b, b < 64 → (t.core n).bar b = { count := K.desc.groups }) ∧
          ∀ g, g < K.desc.groups → t.group n g = startGroup n g (c.grain.getD 0) K.desc ∧
            (t.group n g).s 1 = BitVec.ofNat 32 g ∧ (t.group n g).s 5 = BitVec.ofNat 32 K.desc.groups ∧ (t.group n g).pc = K.desc.entry ∧
            (t.group n g).active = 0xFFFF) ∧ t.dram = s.dram) ∧
    (∀ (s : State) (cl kid : Nat), cl < nClusters → (s.cluster cl).admitted = some kid → (s.cluster cl).held = false →
      (s.cluster cl).lost = false → (s.cluster cl).asking = none → s.stepReady cl = true →
      exec (.readmissionRequest cl) s = .next (became s (s.modCluster cl fun c => { c with asking := some kid }))) ∧
    (∀ (s : State) (kid cl : Nat) (K : Kernel), cl < nClusters → NMap.get? s.kernels kid = some K → s.mayHand kid K cl = true →
      K.phase ≠ 0 → s.owns K.ctx K.desc = true → (s.region (regionOf cl)).needsClear = false →
      s.loadCores { K with desc := { K.desc with q := K.desc.q.set 3 (BitVec.ofNat 64 (cl + 2 ^ 18)) } } = [] →
      ∃ t, exec (.grainHandout kid cl) s = .next t ∧
        t.cluster cl = { s.cluster cl with asking := some kid, grain := some (K.lostGrains.headD K.nextGrain) } ∧
        NMap.get? t.kernels kid = some { K with
          phase := 1, lostGrains := K.lostGrains.drop 1, loaded := addNew K.loaded cl
          nextGrain := if K.lostGrains = [] then K.nextGrain + 1 else K.nextGrain } ∧ t.cores = s.cores ∧ t.dram = s.dram) ∧
    (∀ (s : State) (kid cl : Nat) (K : Kernel), cl < nClusters → NMap.get? s.kernels kid = some K → K.stopped = false →
      s.grainOver kid cl = true → K.doneGrains + 1 < K.desc.grains → (s.queue K.queue).state = 1 → K.desc.deferred = true →
      ∃ t K', exec (.grainComplete kid cl) s = .next t ∧ NMap.get? t.kernels kid = some K' ∧ K'.doneGrains = K.doneGrains + 1 ∧
        (t.cluster cl).free = true ∧ (t.cluster cl).held = (s.cluster cl).held ∧ t.dram = s.dram)
  ) ∧ (
    ∀ (s : State) (kid : Nat) (K : Kernel), NMap.get? s.kernels kid = some K → K.stopped = false →
      (s.queuesRun = true → s.mayComplete kid K = true → (s.endEpochs kid K.ctx).epochsDone kid = true → K.desc.deferred = false →
        ∃ t, exec (.kernelComplete kid) s = .next t ∧ NMap.get? t.kernels kid = none ∧ t.dram = s.dram ∧
          (∀ cl, K.desc.covers cl = true → (s.cluster cl).admitted = some kid →
            (t.cluster cl).free = true ∧ (t.cluster cl).ganged = false ∧ (t.cluster cl).held = (s.cluster cl).held ∧
            ∀ n ∈ coresOf cl, (t.core n).groups = [] ∧ (t.core n).totals = [] ∧ (t.core n).kid = none) ∧
          (((s.queue K.queue).recomp.bind Recomp.kid) ≠ some kid → K.desc.replayed = false → (s.queue K.queue).state ≠ 0 →
            (K.status ≠ 0 ∨ K.desc.cmp = true) → ∃ r ∈ (t.queue K.queue).recs, r.status = BitVec.ofNat 8 K.status ∧ r.ring = K.desc.ring)) ∧
      (∀ t0, K.since = some t0 → K.desc.tLimit ≠ 0 → t0 + K.desc.tLimit * 1000 ≤ s.dtime →
        ∃ t K', exec (.kernelTimeout kid) s = .next t ∧ NMap.get? t.kernels kid = some K' ∧ K'.stopped = true ∧
          K'.final = (if K.final = none then some 3 else K.final) ∧ t.dram = s.dram ∧
          ∀ cl, K.desc.covers cl = true → (s.cluster cl).admitted = some kid →
            ∀ n ∈ coresOf cl, (t.core n).mq = [] ∧ ∀ g, (t.group n g).status ≠ .running)
  )

/-- COPY: one that breaks a rule, or of no byte, completes at once; one from device to host memory posts the bytes it read in pieces of
at most 512 and completes with their count (R444). A releasing object or fence that nothing holds is logged once (R481, R484). -/
def Obligations.CopiesAndReleases : Prop :=
  (∀ (s : State) (q : Nat) (d : Desc), starts s.toGk1 q d = true → d.type = 2 →
    (s.copyRefusal q d ≠ 0 ∨ d.copyLen = 0 → ∃ t, exec (.copyStart q) s = .next t ∧
      completed s.toGk1 t.toGk1 q d { status := s.copyRefusal q d } ∧ t.dram = s.dram) ∧
    (s.copyRefusal q d = 0 → d.copyLen ≠ 0 → exec (.copyStart q) s = .next (became s (s.start q d)))) ∧
  (∀ (s : State) (q : Nat) (c : Cur) (bs : List Byte) (f : Option (Nat × Nat)), runs s.toGk1 q c = true → c.desc.type = 2 →
    c.desc.srcHost = false → c.desc.dstHost = true → s.linkOpen = true → s.postHeld = [] →
    s.readUpTo (s.qctx q) (s.qEnforced q) (sectors (c.desc.w 1) c.desc.copyLen) = (bs, f) →
    ∃ t, exec (.copyComplete q [] true) s = .next t ∧ t.dram = s.dram ∧
      (f = none → t.posted = s.posted ++ hostPieces (bs.length + 1) (c.desc.w 2) bs ∧
        completed s.toGk1 t.toGk1 q c.desc { data := bs.length }) ∧
      (f ≠ none → (t.queue q).cur = none)) ∧
  (∀ (s : State) (c : Nat) (isFence : Bool) (n : Nat) (r : (Bool × Nat) × List (Nat × Nat)), c < nContexts →
    ((s.ctx c).releases.find? fun r => r.1 = (isFence, n)) = some r →
    (s.mayRelease c isFence n r.2 = false → exec (.objectReleased c isFence n) s = .next s) ∧
    (s.mayRelease c isFence n r.2 = true → s.linkOpen = true → s.postHeld = [] → ∃ t, exec (.objectReleased c isFence n) s = .next t ∧
      (t.ctx c).rlSeq = ((s.ctx c).rlSeq + 1) % 2 ^ 32 ∧ (∀ x ∈ (t.ctx c).releases, x.1 ≠ (isFence, n)) ∧
      t.posted = s.posted ++ [((s.ctx c).rlAddr + 8 * ((s.ctx c).rlSeq % 2 ^ (s.ctx c).rlog),
        leBytes 8 (n + b2n isFence * 2 ^ 16 + ((s.ctx c).rlSeq + 1) % 2 ^ 32 * 2 ^ 32))]))

/-- FENCE_WAIT waits while its fence is below VALUE and then completes with the fence's value, with FENCE_ABANDONED on an abandoned one.
FENCE_SIGNAL raises a fence of this part to VALUE and never lowers it (R445, R487, R488, R490).

Fence watches: an owner sends the value after a change and every 1 ms, which advances WSEQ, and a watch that it reports abandoned
ends; an importer that was answered RETRY asks again after 1 ms (R493, R494, R534, R535). -/
def Obligations.FencesAndWatches : Prop :=
  (
    (∀ (s : State) (q : Nat) (d : Desc) (c n : Nat), starts s.toGk1 q d = true → d.type = 4 →
      s.fenceRef (s.qctx q) (fld (d.w 0) 32 24) = some (.local_ c n) → s.descBad q d [span 32 24, span 0 64] = false →
      exec (.fenceWait q) s = .next (became s (s.start q d))) ∧
    (∀ (s : State) (q : Nat) (c : Cur) (r : FenceRef), runs s.toGk1 q c = true → s.waitRef q = some r →
      ((s.fenceNow r).2 = true → ∃ t, exec (.fenceWaitSatisfied q) s = .next t ∧ t.dram = s.dram ∧
        completed s.toGk1 t.toGk1 q c.desc { status := 4, data := (s.fenceNow r).1 }) ∧
      ((s.fenceNow r).2 = false → c.desc.w 1 ≤ (s.fenceNow r).1 → ∃ t, exec (.fenceWaitSatisfied q) s = .next t ∧ t.dram = s.dram ∧
        completed s.toGk1 t.toGk1 q c.desc { data := (s.fenceNow r).1 }) ∧
      ((s.fenceNow r).2 = false → (s.fenceNow r).1 < c.desc.w 1 → exec (.fenceWaitSatisfied q) s = .next s)) ∧
    (∀ (s : State) (q : Nat) (d : Desc) (c n old : Nat), starts s.toGk1 q d = true → s.mySignal q d = true →
      s.descBad q d [span 32 25, span 0 64] = false → d.w 1 ≠ 2 ^ 64 - 1 →
      s.fenceRef (s.qctx q) (fld (d.w 0) 32 24) = some (.local_ c n) →
      s.frameWord (s.ctx c).cbFrame.toNat (fenceOfs n 0) = .ok old →
      ∃ t, exec (.fenceSignal q) s = .next t ∧ completed s.toGk1 t.toGk1 q d {} ∧
        t.fenceWord c n 0 = (if (s.fenceNow (.local_ c n)).2 = false ∧ old < d.w 1 then d.w 1 else old))
  ) ∧ (
    (∀ r ∈ [(Instr.watchUpdate, 1000, true), (Instr.watchRefresh, 1000000, false)], ∀ (s : State) (id : Nat) (w : OwnerWatch),
      NMap.get? s.ownerWatches id = some w → (r.2.2 = true → w.dirty = true) → w.lastSent + r.2.1 ≤ s.dtime →
      let dead := !s.watchHolds w.ctx w.gen w.fence w.check.toNat || (s.fenceNow (.local_ w.ctx w.fence)).2
      ∃ t, exec (r.1 id) s = .next t ∧ t.dram = s.dram ∧
        NMap.get? t.ownerWatches id = if dead then none
          else some { w with wseq := (w.wseq + 1) % 2 ^ 32, lastSent := s.dtime, dirty := false }) ∧
    (∀ (s : State) (id t0 : Nat) (w : ImportWatch), NMap.get? s.importWatches id = some w → w.retryAt = some t0 → t0 + 1000000 ≤ s.dtime →
      ∃ t w', exec (.watchReqResend id) s = .next t ∧ NMap.get? t.importWatches id = some w' ∧ w'.lo = w.lo ∧ w'.check = w.check ∧
        w'.asked = some (w.asked.getD s.dtime) ∧ (w'.retryAt = none ∨ w'.retryAt = some s.dtime) ∧ t.dram = s.dram)
  )

/-- PLAN: OPEN begins segment 0, MARK the next one, CLOSE writes the header and ends the plan; an OPEN while one is open, and a MARK
or CLOSE with none, complete with DESC_INVALID (R543-R546).

RECOMPUTE holds its place while the plan's entries run one by one as kernels of the normal lane; with none to replay it completes.
A SNAPSHOT completes as its copying begins; the copier reads its blocks in ascending order, a block that a write waits on first, and
signals the fence after the last (R547-R549, R578-R580). -/
def Obligations.PlansRecomputeAndSnapshots : Prop :=
  (
    ∀ (s : State) (q : Nat) (d : Desc), starts s.toGk1 q d = true → d.type = 0xA →
      (d.planOp = 0 → s.descBad q d [span 32 3, span 0 52, span 0 16] = false →
        ((s.queue q).plan ≠ none → ∃ t, exec (.planOpen q) s = .next t ∧ completed s.toGk1 t.toGk1 q d { status := 1 } ∧
          (t.queue q).plan = (s.queue q).plan) ∧
        ((s.queue q).plan = none → fld (d.w 1) 0 52 % 64 = 0 → fld (d.w 2) 0 16 ≠ 0 → ∃ t, exec (.planOpen q) s = .next t ∧
          completed s.toGk1 t.toGk1 q d {} ∧ t.dram = s.dram ∧
          (t.queue q).plan = some { va := fld (d.w 1) 0 52, capacity := fld (d.w 2) 0 16, keep := d.planKeep })) ∧
      (d.planOp = 1 → s.descBad q d [span 32 3] = false →
        ((s.queue q).plan = none → ∃ t, exec (.planMark q) s = .next t ∧ completed s.toGk1 t.toGk1 q d { status := 1 }) ∧
        (∀ P, (s.queue q).plan = some P → P.segment + 1 < 65535 → ∃ t, exec (.planMark q) s = .next t ∧
          completed s.toGk1 t.toGk1 q d {} ∧ (t.queue q).plan = some { P with segment := P.segment + 1, keep := d.planKeep } ∧
          t.dram = s.dram)) ∧
      (d.planOp = 2 → s.descBad q d [span 32 3] = false →
        ((s.queue q).plan = none → ∃ t, exec (.planClose q) s = .next t ∧ completed s.toGk1 t.toGk1 q d { status := 1 }) ∧
        (∀ P s2, (s.queue q).plan = some P → (∀ p ∈ sectors P.va 64, s.snapOf (s.qctx q) p.1 = none) →
          ((s.start q d).modQueue q fun Q => { Q with plan := none }).writeRange (s.qctx q) (s.qEnforced q) (sectors P.va 64) P.header
            = (s2, none) →
          exec (.planClose q) s = .next (became s ((s2.hasWritten (s2.qctx q) P.va 64).finishWith q d 0)) ∧ (s2.queue q).plan = none))
  ) ∧ (
    (∀ (s : State) (q : Nat) (d : Desc), starts s.toGk1 q d = true → d.type = 0xB →
      s.descBad q d [span 32 1, span 0 52, span 0 32, span 0 64] = false →
      ((s.start q d).planEntries q d = .ok [] → ∃ t, exec (.recompute q) s = .next t ∧ completed s.toGk1 t.toGk1 q d {} ∧ t.dram = s.dram) ∧
      (∀ e es, (s.start q d).planEntries q d = .ok (e :: es) → ∃ t, exec (.recompute q) s = .next t ∧
        (t.queue q).cur = some { desc := d, at_ := s.dtime } ∧ t.dram = s.dram ∧
        (t.queue q).recomp = some { entries := e :: es, pdelta := d.q.getD 3 0, phase := BitVec.ofNat 3 d.phase })) ∧
    (∀ (s : State) (q : Nat) (c : Cur) (R : Recomp) (e : List (BitVec 64)) (es : List (List (BitVec 64))), q < nQueues →
      (s.queue q).cur = some c → (s.queue q).recomp = some R → R.kid = none → R.entries = e :: es →
      (replayDesc c.desc R e).normalKernel = true → s.kernelRefusal q (replayDesc c.desc R e) = 0 →
      ∃ t, exec (.recomputeEntry q) s = .next t ∧ (t.queue q).recomp = some { R with entries := es, kid := some s.nextId } ∧
        NMap.get? t.kernels s.nextId = some { queue := q, ctx := s.qctx q, desc := replayDesc c.desc R e } ∧ t.dram = s.dram) ∧
    (∀ (s : State) (q : Nat) (d : Desc), starts s.toGk1 q d = true → d.type = 0xD → s.snaps.length < 4 →
      s.descBad q d (snapMasks (fld (d.w 0) 32 2)) = false → fld (d.w 0) 32 2 ≠ 3 → fld (d.w 2) 0 41 % 65536 = 0 →
      fld (d.w 2) 0 41 ≤ 2 ^ 40 → ∃ t, exec (.snapshot q) s = .next t ∧ completed s.toGk1 t.toGk1 q d {} ∧ t.dram = s.dram ∧
        NMap.get? t.snaps s.nextId = some { queue := q, ctx := s.qctx q, q := d.q, enforced := s.qEnforced q }) ∧
    (∀ (s : State) (id b : Nat) (S : Snap) (bs : List Byte), NMap.get? s.snaps id = some S → S.kind = 0 → s.linkOpen = true →
      s.postHeld = [] → (S.wanted = [] → ((List.range S.blocks).find? fun b => !S.read.contains b) = some b) →
      (S.wanted ≠ [] → S.wanted.head? = some b) → s.snapRead S (sectors (S.src + 65536 * b) 65536) = .ok bs →
      ∃ t S', exec (.snapshotBlockRead id) s = .next t ∧ NMap.get? t.snaps id = some S' ∧ S'.read = insertNat b S.read ∧ b ∉ S'.wanted ∧
        t.posted = s.posted ++ hostPieces (bs.length + 1) (S.w 3 + 65536 * b) bs ∧ t.dram = s.dram) ∧
    (∀ (s : State) (id : Nat) (S : Snap), NMap.get? s.snaps id = some S → S.blocks ≤ S.read.length →
      (∀ m ∈ s.msgs, m.2.rid = id → m.2.core ≠ noCore) →
      exec (.snapshotDone id) s = .next (became s
        ({ s.toGk1 with snaps := NMap.erase s.snaps id }.signalFence S.ctx S.fence (S.w 5) S.queue)))
  )

/-- JOB CREATE holds a job with its member table, DESTROY removes one of no bucket in flight; BUCKET_READY puts a bucket in flight and
completes; its owner's slots are reserved together; a bucket not complete after BTIME fails and is counted; a failed engine's chunks
move to the next engine of its edge (R551, R555-R559, R566, R569, R719).

Exchange packets of a job's member. A contribution for a chunk without its slots is answered RETRY; one for a chunk of the bucket's
dispatch adds the exact images of its values, a CONTRIB_END its checksum; a PARAM_END tells how many PARAM packets the chunk has; a
REDISPATCH of a bucket that has not started here is answered RETRY; a job that is not here, REFUSED (R563-R568, R574-R577). -/
def Obligations.Exchange : Prop :=
  (
    (∀ (s : State) (q : Nat) (d : Desc) (bs : List Byte), starts s.toGk1 q d = true → d.type = 8 → (d.w 0).testBit 44 = false →
      let J : Job := { ctx := s.qctx q, q := d.q, members := [] }
      (s.descBad q d jobMasks = true ∨ NMap.has s.jobs d.job = true ∨ J.bad = true →
        ∃ t, exec (.jobCreate q) s = .next t ∧ completed s.toGk1 t.toGk1 q d { status := 1 } ∧ t.jobs = s.jobs) ∧
      (s.descBad q d jobMasks = false → NMap.has s.jobs d.job = false → J.bad = false → J.qcwBad = false →
        (s.start q d).readRange (s.qctx q) (s.qEnforced q) (sectors J.memberVA (4 * J.p)) = .ok bs →
        (words4 bs J.p).getD J.rank 0 = s.self → (words4 bs J.p).eraseDups.length = (words4 bs J.p).length →
        ∃ t, exec (.jobCreate q) s = .next t ∧ completed s.toGk1 t.toGk1 q d {} ∧ t.dram = s.dram ∧
          NMap.get? t.jobs d.job = some { J with members := words4 bs J.p })) ∧
    (∀ (s : State) (q : Nat) (d : Desc) (J : Job), starts s.toGk1 q d = true → d.type = 8 → (d.w 0).testBit 44 = true →
      s.inFlight d.job = [] → NMap.get? s.jobs d.job = some J → s.descBad q d jobMasks = false → J.ctx = s.qctx q →
      ∃ t, exec (.jobDestroy q) s = .next t ∧ completed s.toGk1 t.toGk1 q d {} ∧ NMap.get? t.jobs d.job = none ∧ t.dram = s.dram) ∧
    (∀ (s : State) (q : Nat) (d : Desc), starts s.toGk1 q d = true → s.myBucket q d = true →
      (NMap.get? s.jobs d.job = none → ∃ t, exec (.bucketReady q) s = .next t ∧ completed s.toGk1 t.toGk1 q d { status := 1 } ∧
        t.buckets = s.buckets) ∧
      (∀ J, NMap.get? s.jobs d.job = some J → s.descBad q d [span 32 13, span 0 64, span 0 52, span 0 52, span 0 24, span 0 64] = false →
        J.ctx = s.qctx q → J.chunksOf d.bucket ≠ [] → s.bucketOf d.job d.bucket = none → (fld (d.w 2) 0 52 ≠ 0 ∨ J.gradVA ≠ 0) →
        fld (d.w 3) 0 52 % 64 = 0 → ∃ t B, exec (.bucketReady q) s = .next t ∧ completed s.toGk1 t.toGk1 q d {} ∧
          NMap.get? t.buckets s.nextId = some B ∧ B.job = d.job ∧ B.number = d.bucket ∧ B.started = s.dtime ∧ B.reserved = false ∧
          B.landed = [])) ∧
    (∀ (s : State) (key : Nat) (B : Bucket) (J : Job), NMap.get? s.buckets key = some B → NMap.get? s.jobs B.job = some J →
      (B.reserved = false → s.slotsBefore key = false → ((s.wantedSlots B J).any fun c =>
          decide (engineSlots < s.slotsUsed c.engine + ((s.wantedSlots B J).filter fun x => x.engine = c.engine).length)) = false →
        exec (.slotReserve key) s = .next (became s { s.toGk1 with
          buckets := NMap.set s.buckets key { B with reserved := true, chunks := s.wantedSlots B J } })) ∧
      (B.started + J.btime ≤ s.dtime → ∃ t, exec (.bucketTimeout key) s = .next t ∧ NMap.get? t.buckets key = none ∧
        NMap.get? t.jobs B.job = some { J with timeouts := (J.timeouts + 1) % 2 ^ 32 })) ∧
    (∀ (s : State) (e n : Nat), e < nEngines → e ∉ s.held.engines →
      (Gk1.engineFor { s.toGk1 with held := { s.held with engines := s.held.engines ++ [e] } } e) = some n →
      (∀ b ∈ s.buckets, NMap.has s.jobs b.2.job = true) →
      ∃ t, exec (.engineFault e) s = .next t ∧ t.held.engines = s.held.engines ++ [e] ∧
        (∀ key B, NMap.get? t.buckets key = some B → ∀ c ∈ B.chunks, c.engine ≠ e) ∧ t.dram = s.dram)
  ) ∧ (
    ∀ (s : State) (port : Nat) (p : Packet) (J : Job) (r : Nat), exchanged s.toGk1 port p J r →
      let t0 := s.counted port p
      let q := hop port p
      let g := tagChunk p
      (∀ row ∈ [(Instr.xContrib, 0x10), (Instr.xContribSparse, 0x11), (Instr.xContribEnd, 0x12)],
        delivered s.toGk1 port p row.2 = true → J.ownerOf g = J.rank →
        (∀ key B, s.bucketOf (pJob p) (g / J.bchunk) = some (key, B) → B.reserved = false →
          exec (row.1 port p) s = .next (became s (t0.reply q 1 0 []))) ∧
        (∀ key B, s.bucketOf (pJob p) (g / J.bchunk) = some (key, B) → B.reserved = true → B.dispatch ≠ pEpoch p →
          exec (row.1 port p) s = .next (became s (t0.reply q 0 0 [])))) ∧
      (∀ key B c, s.bucketOf (pJob p) (g / J.bchunk) = some (key, B) → B.reserved = true → B.dispatch = pEpoch p → B.applied = false →
        J.ownerOf g = J.rank → c ∈ B.chunks → c.chunk = g → (∀ k ∈ B.chunks, k.ends.length + 1 < J.p) →
        (delivered s.toGk1 port p 0x10 = true → ∃ t B' c', exec (.xContrib port p) s = .next t ∧ NMap.get? t.buckets key = some B' ∧
          c' ∈ B'.chunks ∧ c'.chunk = g ∧ NMap.getD c'.got r 0 = NMap.getD c.got r 0 + 1 ∧ c'.ends = c.ends ∧ t.dram = s.dram ∧
          ∀ i, i < p.payload.length / 4 → NMap.getD c'.acc (128 * tagIndex p + i) 0
            = NMap.getD c.acc (128 * tagIndex p + i) 0 + imageOf ((words4 p.payload (p.payload.length / 4)).getD i 0)) ∧
        (delivered s.toGk1 port p 0x11 = true → ∃ t B' c', exec (.xContribSparse port p) s = .next t ∧ NMap.get? t.buckets key = some B' ∧
          c' ∈ B'.chunks ∧ c'.chunk = g ∧ NMap.getD c'.got r 0 = NMap.getD c.got r 0 + 1 ∧ c'.ends = c.ends ∧ t.dram = s.dram) ∧
        (delivered s.toGk1 port p 0x12 = true → ∃ t B' c', exec (.xContribEnd port p) s = .next t ∧ NMap.get? t.buckets key = some B' ∧
          c' ∈ B'.chunks ∧ c'.chunk = g ∧ c'.checks = c.checks + BitVec.ofNat 64 (pWord p 0) ∧
          c'.ends = c.ends ++ [(r, fld (pWord p 1) 48 16)] ∧ c'.acc = c.acc ∧ t.dram = s.dram)) ∧
      (delivered s.toGk1 port p 0x13 = true → J.ownerOf g = r → ∀ s2, t0.landParam J.ctx (pAddr p) p.payload = (s2, none) →
        s2.bucketOf (pJob p) (g / J.bchunk) = none →
        exec (.xParam port p) s = .next (became s ((s2.countCtx J.ctx 8 p.payload.length).reply q 0 0 []))) ∧
      (∀ key B h, delivered s.toGk1 port p 0x14 = true → J.ownerOf g = r → s.bucketOf (pJob p) (g / J.bchunk) = some (key, B) →
        NMap.get? s.buckets key = some B → h ∈ J.chunksOf B.number → h ≠ g → h ∉ B.landed → ∃ t B', exec (.xParamEnd port p) s = .next t ∧
          NMap.get? t.buckets key = some B' ∧ NMap.get? B'.paramEnds g = some (pWord p 0 % 2 ^ 16) ∧ B'.params = B.params ∧
          (g ∈ B'.landed ↔ g ∈ B.landed ∨ pWord p 0 % 2 ^ 16 ≤ NMap.getD B.params g 0) ∧ t.dram = s.dram) ∧
      (delivered s.toGk1 port p 0x15 = true →
        (s.bucketOf (pJob p) (g / J.bchunk) = none → exec (.xRedispatch port p) s = .next (became s (t0.reply q 1 0 []))) ∧
        (∀ key B, s.bucketOf (pJob p) (g / J.bchunk) = some (key, B) → exec (.xRedispatch port p) s = .next (became s
          ((J.owned B.number r).foldl (fun s g => s.contribute key B J (pEpoch p) g) (t0.reply q 0 0 [])))))
  )

/-! ## Faults and the fabric -/

/-- A CLUSTER fault takes the cluster's power and its rank out of use, and what it ran is lost; a substitution gives its index the free
siding of lowest rank, or takes the region OUT; a start image that passes frees the rank again; a lost share asks for its place again,
and under WHOLE every cluster does (R681, R702-R705, R708, R709). -/
def Obligations.ClusterFaultsAndReplay : Prop :=
  (∀ (s : State) (region rank i : Nat) (sram : Bool), region < 64 → rank < 4096 → s.regionsRun = true →
    (s.region region).service = 0 → rank ∉ (s.region region).failed → (s.region region).indexOf rank = some i →
    (s.cluster (4000 * region + i)).lost = false →
    ∃ t f, exec (.clusterFault region rank sram) s = .next t ∧ (t.cluster (4000 * region + i)).lost = true ∧
      (t.cluster (4000 * region + i)).wgs = [] ∧ rank ∈ (t.region region).failed ∧
      (t.region region).clfaults = upTo8 ((s.region region).clfaults + 1) ∧ t.held.failing = s.held.failing ++ [f] ∧
      f.region = region ∧ f.index = i ∧ f.rank = rank ∧ (∀ n ∈ coresOf (4000 * region + i), (t.core n).groups = [] ∧ (t.core n).store = []) ∧
      t.dram = s.dram) ∧
  (∀ (s : State) (region index : Nat) (f : Failing), region < 64 → index < 4000 →
    (s.held.failing.find? fun f => f.region = region && f.index = index) = some f →
    (∀ R k, (s.region region).substitute index = some (R, k) → ∃ t, exec (.sidingSubstitution region index) s = .next t ∧
      t.region region = R ∧ (t.cluster (4000 * region + index)).lost = false ∧ f ∉ t.held.failing ∧ t.dram = s.dram) ∧
    ((s.region region).substitute index = none → ∃ t, exec (.sidingSubstitution region index) s = .next t ∧
      (t.region region).service = 2 ∧ (t.region region).owner = none ∧ t.dram = s.dram)) ∧
  (∀ (s : State) (region rank : Nat) (pass : Bool), region < 64 → rank < 4096 → (region, rank) ∈ s.held.background →
    (s.held.failing.any fun f => f.region = region && f.rank = rank) = false →
    ∃ t, exec (.backgroundStartImage region rank pass) s = .next t ∧ (region, rank) ∉ t.held.background ∧
      (t.region region).failed = (if pass then (s.region region).failed.filter (· ≠ rank) else (s.region region).failed) ∧ t.cores = s.cores) ∧
  (∀ (s : State) (kid cl : Nat) (K : Kernel), cl < nClusters → NMap.get? s.kernels kid = some K → K.stopped = false → K.rerun = false →
    (NMap.getD K.shares cl {}).lost ≠ none → s.serves cl = true → (s.enginesDone kid fun c => clusterOf c = cl) = true →
    (s.cluster cl).grain = none →
    s.loadCores { K with desc := { K.desc with q := K.desc.q.set 3 (BitVec.ofNat 64 (cl + 2 ^ 18)) } } = [] →
    ∃ t K', exec (.replayShare kid cl) s = .next t ∧ (t.cluster cl).asking = some kid ∧ (t.cluster cl).admitted = none ∧
      NMap.get? t.kernels kid = some K' ∧ (NMap.getD K'.shares cl {}).lost = none ∧ t.held.shares = upTo16 (s.held.shares + 1) ∧
      t.dram = s.dram) ∧
  (∀ (s : State) (kid : Nat) (K : Kernel), NMap.get? s.kernels kid = some K → K.rerun = true → K.stopped = false →
    (s.enginesDone kid fun _ => true) = true → s.stoppedDone kid K = true → ((s.kernelClusters K).all fun cl => s.serves cl) = true →
    K.desc.regions.all s.boxUp = true → K.desc.deferred = false → s.loadCores K = [] →
    ∃ t K', exec (.replayWhole kid) s = .next t ∧ NMap.get? t.kernels kid = some K' ∧ K'.rerun = false ∧ K'.admitted = [] ∧
      (∀ cl, K.desc.covers cl = true → (t.cluster cl).asking = some kid) ∧ t.held.wholes = upTo16 (s.held.wholes + 1) ∧ t.dram = s.dram)

/-- Regions and the dispatcher: without heartbeats a signal box is down; a follower takes the role; a region with a fault is reset with
its stack, cache and memory untouched, and returns to service or goes OUT; a partition reset needs its key (R38, R688, R700, R701,
R714-R718). -/
def Obligations.RegionsAndTheDispatcher : Prop :=
  (∀ (s : State) (r : Nat), r < 64 → s.boot.dvalid = true → s.boxUp r = true →
    exec (.heartbeatTimeout r) s = .next (became s (s.modRegion r fun R => { R with sbUp := false }))) ∧
  (∀ (s : State) (n : Nat), s.boot.dvalid = true → s.regionsRun = true →
    (s.boot.follow.find? fun r => r ≠ s.boot.disp && s.boxUp r) = some n →
    ∃ t, exec .dispatcherTakeover s = .next t ∧ t.boot.disp = n ∧ t.boot.takeovers = upTo8 (s.boot.takeovers + 1) ∧
      (t.region s.boot.disp).sbUp = false ∧ t.kernels = s.kernels ∧ t.dram = s.dram) ∧
  (∀ (s : State) (r : Nat), r < 64 → s.regionsRun = true → s.regionFaulty r = true → s.boot.disp ≠ r →
    ∃ t, exec (.regionReset r) s = .next t ∧ (t.region r).service = 1 ∧ (t.region r).sbUp = false ∧
      (t.region r).resets = upTo8 ((s.region r).resets + 1) ∧ (t.region r).stackLost = (s.region r).stackLost ∧
      (t.region r).owner = (s.region r).owner ∧ t.cache = s.cache ∧ t.dram = s.dram) ∧
  (∀ (s : State) (r : Nat), r < 64 → (s.region r).service = 1 →
    (∃ t, exec (.regionResetDone r true) s = .next t ∧ (t.region r).service = 0 ∧ (t.region r).sbUp = true ∧ (t.region r).aLock = true ∧
      (t.region r).fLock = true ∧ t.cores = s.cores ∧ t.dram = s.dram) ∧
    (∃ t, exec (.regionResetDone r false) s = .next t ∧ (t.region r).service = 2 ∧ (t.region r).owner = none ∧ t.dram = s.dram)) ∧
  (∀ (s : State) (key : BitVec 16), key ≠ 0x6D2E → exec (.partitionResetGo key) s = .next s) ∧
  (∀ (s : State), s.part = .ready → s.boxUp s.boot.disp = true → (s.reg 0x780308 0).testBit s.boot.disp = false → s.boot.disp < 64 →
    ∃ t, exec (.partitionResetGo 0x6D2E) s = .next t ∧ t.dram = s.dram ∧ t.boot.disp = s.boot.disp ∧
      (∀ r, r < 64 → (s.reg 0x780308 0).testBit r = true → (s.region r).service = 0 → (t.region r).service = 1) ∧
      (∀ r, r < 64 → (s.reg 0x780308 0).testBit r = false → (t.region r).service = (s.region r).service))

/-- Faults of routers, cache rows, stacks, host interface instances and the part: a router moves to its other plane, or with none left
the part is FAULTED; a resent flit is only counted; a bad row's sector is BAD; a lost stack is LOST; the standby instance takes over;
a PART fault stops every kernel (R36, R402, R408, R686, R690, R692, R720, R721). -/
def Obligations.UnitFaults : Prop :=
  (∀ (s : State) (x y : Nat), x < 512 → y < 512 →
    ((x, y) ∉ s.held.planes → ∃ t, exec (.routerPlaneSwitch x y) s = .next t ∧ t.held.planes = s.held.planes ++ [(x, y)] ∧
      (t.region (y / 64 * 8 + x / 64)).routers = upTo8 ((s.region (y / 64 * 8 + x / 64)).routers + 1) ∧ t.part = s.part ∧ t.dram = s.dram) ∧
    ((x, y) ∈ s.held.planes → s.part ≠ .faulted → ∃ t, exec (.routerPlaneSwitch x y) s = .next t ∧ t.part = .faulted) ∧
    (exec (.flitRetransmit x y) s = .next (became s { s.toGk1 with held := { s.held with
      resent := NMap.set s.held.resent (y * 512 + x) (NMap.getD s.held.resent (y * 512 + x) 0 + 1) } }))) ∧
  (∀ (s : State) (g sec : Nat) (L : Line), g < nGranules → sec < 8 → NMap.get? s.cache g = some L →
    ∃ t K, exec (.cacheRowUncorrectable g sec) s = .next t ∧ NMap.get? t.cache g = some K ∧ K.bad.getLsbD sec = true ∧
      K.dirty.getLsbD sec = false ∧ K.data = L.data ∧ t.held.deadWays = s.held.deadWays ++ [(gStack g, gSlice g, gSet g, L.way)] ∧
      t.dram = s.dram) ∧
  (∀ (s : State) (r : Nat) (hot : Bool), r < 64 →
    (s.powered = true → ∃ t, exec (.stackFault r) s = .next t ∧ (t.region r).stackLost = true ∧ t.dram = s.dram ∧ t.cores = s.cores) ∧
    exec (.stackHotChange r hot) s = .next (became s (s.modRegion r fun R => { R with hot := hot }))) ∧
  (∀ s : State, s.powered = true →
    (s.edge.standbyFailed = false → ∃ t, exec .hiaSwitch s = .next t ∧ t.edge.hia = !s.edge.hia ∧ t.edge.standbyFailed = true ∧
      (t.reg 0x60 0).testBit 5 = true ∧ t.kernels = s.kernels ∧ t.dram = s.dram) ∧
    (s.edge.standbyFailed = false → ∃ t, exec .standbyHiaFault s = .next t ∧ t.edge.hia = s.edge.hia ∧ t.edge.standbyFailed = true ∧
      t.part = s.part ∧ t.dram = s.dram) ∧
    (s.part ≠ .faulted → ∃ t, exec .partFault s = .next t ∧ t.part = .faulted ∧
      (∀ k K, NMap.get? t.kernels k = some K → K.stopped = true) ∧ t.dram = s.dram))

/-- Packets of peers. One of no partition of a LIVE context is counted and answered REFUSED; in MAINTENANCE it is answered RETRY; an
EPOCH_END frees its epoch; a READ_REQ is answered with its bytes or its fault; a WRITE or WRITE_CLOSE becomes a sector write on its way
to its home. An unknown type is dropped and counted (R515, R516, R521, R525, R530-R532, R729).

Answers: read data land in the core store of the kernel that asked; RETRY is kept for 1 us and NO_ROUTE for FAB_CTL.RETRY, then the
packet is sent again; a part that has answered nothing for FAB_CTL.UNREACH is unreachable and its watches read as abandoned
(R516, R525, R538). -/
def Obligations.PeerRequestsAndAnswers : Prop :=
  (
    (∀ row ∈ [(Instr.fabWrite, 1), (Instr.writeClose, 2), (Instr.epochEnd, 3), (Instr.readReq, 4)], ∀ (s : State) (port : Nat) (p : Packet),
      delivered s.toGk1 port p row.2 = true →
      let t0 := s.counted port p
      let q := hop port p
      (s.part ≠ .maintenance → s.acceptCtx q = none → exec (row.1 port p) s = .next (became s ((t0.countDrop 2).reply q 2 0 []))) ∧
      (row.2 ≠ 3 → s.part = .maintenance → exec (row.1 port p) s = .next (became s (t0.reply q 1 0 [])))) ∧
    (∀ (s : State) (port : Nat) (p : Packet) (c : Nat), s.part ≠ .maintenance → s.acceptCtx (hop port p) = some c →
      let t0 := s.counted port p
      let q := hop port p
      (delivered s.toGk1 port p 1 = true → t0.epochFull (t0.peerMsg q c false) = false → exec (.fabWrite port p) s
        = .next (became s (((t0.openEpoch (t0.peerMsg q c false)).addMsg (t0.peerMsg q c false)).arrive s.nextId
          (t0.peerMsg q c false)))) ∧
      (delivered s.toGk1 port p 2 = true → exec (.writeClose port p) s
        = .next (became s ((t0.addMsg (t0.peerMsg q c true)).arrive s.nextId (t0.peerMsg q c true)))) ∧
      (delivered s.toGk1 port p 3 = true → ∃ t, exec (.epochEnd port p) s = .next t ∧ t.epochOf (t0.peerMsg q c false) = none ∧
        t.dram = s.dram) ∧
      (∀ e, delivered s.toGk1 port p 4 = true → t0.readPeer c (sectors (pAddr q) (32 * (pLen q + 1))) = .error e →
        exec (.readReq port p) s = .next (became s (t0.reply q 3 e []))) ∧
      (∀ bs, delivered s.toGk1 port p 4 = true → t0.readPeer c (sectors (pAddr q) (32 * (pLen q + 1))) = .ok bs →
        exec (.readReq port p) s = .next (became s
          (Gk1.reply { t0.countCtx c 7 (32 * (pLen q + 1)) with free := t0.free + 1 } q 0 0 bs)))) ∧
    (∀ (s : State) (port : Nat) (p : Packet), port < 48 → unknownType (pType p) = true → s.portUp port = true →
      (s.port port).skip = 0 → exec (.unknownPacketType port p) s = .next (became s ((s.counted port p).countDrop 0))) ∧
    (∀ row ∈ [(Instr.fabWrite, 1), (Instr.writeClose, 2), (Instr.readReq, 4), (Instr.fabAck, 6)], ∀ (s : State) (port : Nat) (p : Packet),
      port < 48 → pType p = row.2 → s.portUp port = true → (s.port port).skip ≠ 0 →
      exec (row.1 port p) s = .next (became s (s.modPort port fun P => { P with skip := P.skip - 1 })))
  ) ∧ (
    (∀ (s : State) (port id : Nat) (p : Packet) (m : Msg), delivered s.toGk1 port p 5 = true → pResult (hop port p) = 0 →
      ({ s.counted port p with unreachable := s.unreachable.filter (· ≠ pSrc (hop port p)) } : Gk1).answeredMsg (hop port p)
        = some (id, m) →
      m.kind = .read → (s.core m.core).kid = some m.kid →
      ∃ t, exec (.readReply port p) s = .next t ∧ (t.core m.core).store = Mem.writeAll (s.core m.core).store m.local_ p.payload ∧
        (t.core m.core).groups = (s.core m.core).groups ∧ t.dram = s.dram) ∧
    (∀ (s : State) (port id : Nat) (p : Packet) (m : Msg), delivered s.toGk1 port p 6 = true → pResult (hop port p) = 1 →
      ({ s.counted port p with unreachable := s.unreachable.filter (· ≠ pSrc (hop port p)) } : Gk1).answeredMsg (hop port p)
        = some (id, m) →
      ∃ t, exec (.fabAck port p) s = .next t ∧ NMap.get? t.msgs id = some { m with returned := some s.dtime } ∧ t.dram = s.dram) ∧
    (∀ (s : State) (id t0 : Nat) (m : Msg), NMap.get? s.msgs id = some m → m.place.isPeer = true →
      (m.returned = some t0 → t0 + 1000 ≤ s.dtime →
        exec (.retryResend id) s = .next (became s (s.sendPeer id { m with sentAt := s.dtime }))) ∧
      (m.noRoute = some t0 → t0 + max (fld s.fabCtl 16 8) 1 * 10000 ≤ s.dtime →
        exec (.noRouteResend id) s = .next (became s (s.sendPeer id m)))) ∧
    (∀ (s : State) (peer : Nat), peer ∉ s.unreachable → s.silent peer = true →
      ∃ t, exec (.destinationUnreachable peer) s = .next t ∧ t.unreachable = s.unreachable ++ [peer] ∧
        (∀ i w, NMap.get? t.importWatches i = some w → fld w.lo.toNat 0 32 = peer → w.unreachable = true) ∧ t.dram = s.dram)
  )

/-- Watches between parts: a WATCH_REQ that the owner may serve is held; a WATCH_VALUE is taken when its WSEQ is higher than the last
one used; a WATCH_END ends the watch. A RECOVER takes the failed link's port DOWN, if it was still UP, and its replay store is sent on
by other ways (R493, R494, R534, R535, R537). -/
def Obligations.WatchPacketsAndRecovery : Prop :=
  ∀ (s : State) (port : Nat) (p : Packet),
    let t0 := s.counted port p
    let q := hop port p
    let lo := pWord q 0
    (delivered s.toGk1 port p 8 = true → t0.heldWatch q = none → s.ownerWatches.length < watchPlaces →
      t0.watchGood (fld lo 32 6) (fld lo 38 8) (fld lo 46 14) (pWord q 1 % 2 ^ 64) = true →
      (t0.fenceNow (.local_ (fld lo 32 6) (fld lo 46 14))).2 = false →
      ∃ t w, exec (.watchReq port p) s = .next t ∧ NMap.get? t.ownerWatches s.nextId = some w ∧ w.part = pSrc q ∧
        w.ctx = fld lo 32 6 ∧ w.fence = fld lo 46 14 ∧ w.wseq = 1 ∧ w.lastSent = s.dtime ∧ t.dram = s.dram) ∧
    (∀ i w, delivered s.toGk1 port p 9 = true → NMap.get? s.importWatches i = some w → w.lo.toNat = pWord q 0 → w.check.toNat = pWord q 1 →
      fld w.lo.toNat 0 32 = pSrc q → ∃ t, exec (.watchValue port p) s = .next t ∧ t.dram = s.dram ∧
        ((∀ n, w.wseq = some n → n < pWord q 3 % 2 ^ 32) → NMap.get? t.importWatches i = some { w with
          value := BitVec.ofNat 64 (pWord q 2), abandoned := (pWord q 3).testBit 32, wseq := some (pWord q 3 % 2 ^ 32)
          retryAt := none, noRouteAt := none, asked := none }) ∧
        (∀ n, w.wseq = some n → pWord q 3 % 2 ^ 32 ≤ n → NMap.get? t.importWatches i = some w)) ∧
    (∀ i w, delivered s.toGk1 port p 0xA = true → t0.heldWatch q = some (i, w) →
      exec (.watchEnd port p) s = .next (became s { t0 with ownerWatches := NMap.erase t0.ownerWatches i })) ∧
    (∀ n, delivered s.toGk1 port p 0xC = true → t0.portsToward (pSrc q) = [n] → ∃ t, exec (.fabRecover port p) s = .next t ∧
      ((s.port n).old = [] → (t.port n).store = [] ∧ t.portUp n = false) ∧ (t.port n).old = (s.port n).old.tail ∧ t.dram = s.dram)

/-- Ports: one that may train comes UP with a GK1 port of its INSTALL and stays in TRAINING with any other partner; without frames it
goes DOWN; a LINK flit acknowledges; an uncorrectable flit asks for a replay and a correctable one is counted; a lane is erased when it
loses lock or corrects too many symbols, and a second lane without a spare fails the port; a lane that has moved to the spare at SFRAME
is no longer erased; clearing ENABLE takes the port DOWN (R503, R506-R509, R536, R539-R541). -/
def Obligations.PortsAndLinks : Prop :=
  ∀ (s : State) (port : Nat), port < 48 →
    (∀ (install : Nat) (lanes : BitVec 17), s.mayTrain port = true → (s.port port).state = 0 ∨ (s.port port).state = 1 →
      (install = fld s.self 16 16 → lanes.toNat % 2 ^ 16 = 0xFFFF → ∃ t, exec (.portTrainUp port install lanes) s = .next t ∧
        (t.port port).state = 2 ∧ (t.port port).lanes = 0xFFFF ∧ (t.port port).rxSpare = none ∧ (t.port port).store = [] ∧ (t.port port).rxCount = 0 ∧
        (∀ n, n ≠ port → t.port n = s.port n) ∧ t.dram = s.dram) ∧
      (install ≠ fld s.self 16 16 ∨ lanes.toNat % 2 ^ 16 ≠ 0xFFFF → exec (.portTrainUp port install lanes) s
        = .next (became s (s.modPort port fun P => { P with state := 1 })))) ∧
    (s.portUp port = true → ∃ t, exec (.portDown port) s = .next t ∧ (t.port port).state = 0 ∧ (t.port port).waiting = [] ∧ t.dram = s.dram) ∧
    (∀ flit : LinkFlit, s.portUp port = true → fld flit.h0.toNat 0 5 = 0x1F → flit.h1.toNat.testBit 32 = false →
      flit.h3.toNat.testBit 5 = false → flit.h3.toNat.testBit 6 = false → (s.port port).waiting = [] →
      ∃ t, exec (.fabLink port flit) s = .next t ∧ (t.port port).partner = fld flit.h3.toNat 32 32 ∧
        (∀ e ∈ (t.port port).store, e ∈ (s.port port).store ∧ received (fld flit.h0.toNat 32 32) e.1 (pFlits e.2.2) = false) ∧
        (t.port port).state = (s.port port).state ∧ (∀ n, n ≠ port → t.port n = s.port n) ∧ t.dram = s.dram) ∧
    (∀ a : FlitArrival, a.port = port → s.portUp port = true → flitDecode (s.port port).erased a.flit a.err = none →
      ∃ t f, exec (.replayRequest a) s = .next t ∧ (t.port port).notices = (s.port port).notices ++ [f] ∧
      (t.port port).replays = min ((s.port port).replays + 1) 0xFFFF ∧ fld f.h1.toNat 0 32 = (s.port port).rxCount % 2 ^ 32 ∧
      (t.port port).skip = a.behind ∧ (t.port port).state = (s.port port).state ∧ t.dram = s.dram) ∧
    (∀ (a : FlitArrival) (l : Nat) (ls : List Nat), a.port = port → s.portUp port = true →
      flitDecode (s.port port).erased a.flit a.err = some (l :: ls) → ∃ t, exec (.replayRequest a) s = .next t ∧
      (t.port port).corr = min ((s.port port).corr + 1) 0xFFFF ∧ (t.port port).replays = (s.port port).replays ∧
      (t.port port).notices = (s.port port).notices ∧ t.dram = s.dram) ∧
    (∀ loss : LaneLoss, loss.lane < 16 → s.portUp port = true → loss.lane ∉ (s.port port).erased →
      (loss.lockLost = false → loss.lane ∉ (s.port port).noisy → exec (.laneErase port loss) s = .next s) ∧
      (loss.lockLost = true ∨ loss.lane ∈ (s.port port).noisy →
      ((s.port port).erased.length + 1 - b2n (s.port port).rxSpare.isNone < 2 → ∃ t, exec (.laneErase port loss) s = .next t ∧
        (t.port port).erased = (s.port port).erased ++ [loss.lane] ∧ t.portUp port = true ∧ t.dram = s.dram) ∧
      (2 ≤ (s.port port).erased.length + 1 - b2n (s.port port).rxSpare.isNone → ∃ t, exec (.laneErase port loss) s = .next t ∧
        (t.port port).state = 4 ∧ t.dram = s.dram))) ∧
    (∀ lane sf, lane < 16 → s.portUp port = true → ((s.port port).switching.find? fun e => e.1 = lane) = some (lane, sf) →
      s.frameReached port sf = true → lane ∈ (s.port port).erased →
      (s.port port).rxSpare = none → (s.port port).erased.length ≤ 1 → ∃ t, exec (.laneSwitch port lane) s = .next t ∧
        (t.port port).rxSpare = some lane ∧ lane ∉ (t.port port).erased ∧ (t.port port).state = 2 ∧ t.dram = s.dram) ∧
    (∀ v : BitVec 32, s.blocksWork = true → v.getLsbD 0 = false → (s.port port).state ≠ 0 →
      ∃ t, exec (.fabPortCtlWrite port v) s = .next t ∧ (t.port port).state = 0 ∧
        t.portCtl port = v.toNat &&& 0xFF01 ∧ t.dram = s.dram) ∧
    (∀ v : BitVec 32, s.blocksWork = true → v.getLsbD 0 = true → s.fabCtl.testBit 0 = true → (s.port port).state = 0 →
      ∃ t, exec (.fabPortCtlWrite port v) s = .next t ∧ (t.port port).state = 1 ∧ t.portCtl port = v.toNat &&& 0xFF01 ∧ t.dram = s.dram)

/-! ## Power, clocks, bring-up, observation -/

/-- CAP_PRESET selects a preset and discards any timetable, and without caps or a response the effective budget is the preset's;
ENV_NOTICE replaces the caps; a LINE_DISTURBANCE starts a response and lowers the budget at once, and CLEAR or the end of HOLDCYC ends
it; a field out of range completes DESC_INVALID and leaves the power controller as it was (R589, R590, R596, R597, R619-R622).

TIMETABLE_LOAD answers the digest; its table takes effect at once, or is pending until the line clock reaches ACTIVATE; a count,
budget or entry that breaks a rule completes DESC_INVALID, a read that faults HOST_ACCESS, and neither changes the power controller.
At an entry's boundary the slopes follow the entry in force (R591-R595). -/
def Obligations.BudgetsAndTimetables : Prop :=
  (
    (∀ (s : State) (d : Desc), mgmt s.toGk1 2 d = true → ∃ t, exec .capPreset s = .next t ∧ completed s.toGk1 t.toGk1 0 d {} ∧
      t.power.timetable = false ∧ t.power.table = none ∧ t.power.pendingTable = none ∧ t.power.preset = fld (d.w 3) 0 3 ∧ t.dram = s.dram ∧
      (s.power.disturb = none → s.power.rackCap = 0 → s.power.coolCap = 0 → s.power.eff ≤ 1000 * presetBudget (fld (d.w 3) 0 3) →
        t.power.eff = 1000 * presetBudget (fld (d.w 3) 0 3))) ∧
    (∀ (s : State) (d : Desc), mgmt s.toGk1 5 d = true →
      let rack := fld (d.w 3) 0 16
      let cool := fld (d.w 3) 16 16
      let ok := fun v => v = 0 ∨ (8000 ≤ v ∧ v ≤ 40000)
      (ok rack ∧ ok cool → ∃ t, exec .envNotice s = .next t ∧ completed s.toGk1 t.toGk1 0 d {} ∧ t.power.rackCap = rack ∧
        t.power.coolCap = cool ∧ t.power.inlet.toNat = fld (d.w 3) 32 16 ∧ t.power.flow.toNat = fld (d.w 3) 48 16 ∧ t.dram = s.dram) ∧
      (¬(ok rack ∧ ok cool) → ∃ t, exec .envNotice s = .next t ∧ completed s.toGk1 t.toGk1 0 d { status := 1 } ∧ t.power = s.power)) ∧
    (∀ (s : State) (d : Desc), mgmt s.toGk1 4 d = true →
      let b := fld (d.w 3) 16 16
      (d.distKind ≤ 3 → b ≤ 40000 → ∃ t, exec .lineDisturbance s = .next t ∧ completed s.toGk1 t.toGk1 0 d {} ∧
        t.power.disturb = some {
          budget := b, holdCyc := fld (d.w 4) 0 32, endCycle := s.line.cycle + fld (d.w 4) 0 32
          endFrac := s.line.frac, endSpan := 8 * s.line.period, startAt := s.dtime } ∧
        t.power.eff ≤ 1000 * b ∧ t.dram = s.dram) ∧
      (d.distKind ≠ 7 → 3 < d.distKind ∨ 40000 < b →
        ∃ t, exec .lineDisturbance s = .next t ∧ completed s.toGk1 t.toGk1 0 d { status := 1 } ∧ t.power = s.power) ∧
      (d.distKind = 7 → b ≤ 40000 → ∃ t, exec .disturbanceClear s = .next t ∧ completed s.toGk1 t.toGk1 0 d {} ∧
        t.power.disturb = none ∧ t.dram = s.dram)) ∧
    (∀ (s : State) (D : Disturb), s.power.disturb = some D → D.holdCyc ≠ 0 →
      ((D.endCycle < s.line.cycle ∨ (D.endCycle = s.line.cycle ∧ D.endFrac * (8 * s.line.period) ≤ s.line.frac * D.endSpan)) →
        ∃ t, exec .disturbanceEnd s = .next t ∧ t.power.disturb = none ∧ t.line = s.line ∧ t.dram = s.dram) ∧
      ((s.line.cycle < D.endCycle ∨ (D.endCycle = s.line.cycle ∧ s.line.frac * D.endSpan < D.endFrac * (8 * s.line.period))) → exec .disturbanceEnd s = .next s))
  ) ∧ (
    (∀ (s : State) (d : Desc), mgmt s.toGk1 1 d = true → 64 ≤ d.w 2 →
      let n := fld (d.w 4) 0 11
      let gap := fld (d.w 5) 0 16
      let hold := fld (d.w 5) 16 16
      let good := (1 ≤ n ∧ n ≤ 1024) ∧ (8000 ≤ gap ∧ gap ≤ 40000) ∧ (8000 ≤ hold ∧ hold ≤ 40000) ∧ d.w 3 % 64 = 0
      (∀ bs : List Byte, good → bs.length = 32 * n → entriesOk (entriesOf n bs) = true →
        let T : Table := { gap := gap, hold := hold, activate := fld (d.w 6) 0 48, entries := entriesOf n bs,
                           digest := Config.sha3 (leBytes 8 (d.w 5) ++ leBytes 8 (d.w 6) ++ bs) }
        ∃ t, exec (.timetableLoad (some bs)) s = .next t ∧ completed s.toGk1 t.toGk1 0 d { data := 64 } ∧ t.dram = s.dram ∧
          (s.tableDue T = true → t.power.timetable = true ∧ t.power.table = some T ∧ t.power.pendingTable = none) ∧
          (s.tableDue T = false → t.power.table = s.power.table ∧ t.power.timetable = s.power.timetable ∧ t.power.pendingTable = some T)) ∧
      (∀ bs : List Byte, ¬good ∨ bs.length ≠ 32 * n ∨ entriesOk (entriesOf n bs) = false →
        ∃ t, exec (.timetableLoad (some bs)) s = .next t ∧ completed s.toGk1 t.toGk1 0 d { status := 1 } ∧ t.power = s.power) ∧
      (good → ∃ t, exec (.timetableLoad none) s = .next t ∧ completed s.toGk1 t.toGk1 0 d { status := 0x44 } ∧ t.power = s.power)) ∧
    (∀ (s : State) (T : Table), s.power.pendingTable = some T →
      (s.tableDue T = false → exec .timetableActivate s = .next s) ∧
      (s.tableDue T = true → ∃ t, exec .timetableActivate s = .next t ∧ t.power.timetable = true ∧ t.power.table = some T ∧
        t.power.pendingTable = none ∧ t.line = s.line ∧ t.dram = s.dram)) ∧
    (∀ s : State, (s.entryNow = s.power.entry → exec .timetableEntryBoundary s = .next s) ∧
      (s.entryNow ≠ s.power.entry → ∃ t, exec .timetableEntryBoundary s = .next t ∧ t.power.entry = s.entryNow ∧
        t.power.up = s.slopes.1 ∧ t.power.down = s.slopes.2 ∧ t.line = s.line ∧ t.dram = s.dram))
  )

/-- A LINE_NOTICE out of its ranges completes DESC_INVALID and one without PTM MGMT_REFUSED; an accepted one locks the line clock to
its PERIOD, the first at CYCLE. 3 s without one is HOLDOVER. A slew ends when nothing is left to remove (R582-R588).

At a multiple of PT_LEDGER.PERIOD the open period is sealed with the next SEQ and another begins; at most 1,024 records are held;
once the ledger key is ready every record held is signed; LEDGER_GET answers 5,120 bytes a record, ATTEST its 7,744 bytes, posted
to RESULTVA (R628, R629, R632, R633, R736, R739). -/
def Obligations.LineClockAndLedger : Prop :=
  (
    (∀ (s : State) (d : Desc), mgmt s.toGk1 3 d = true →
      let cycle := fld (d.w 3) 0 48
      let period := fld (d.w 4) 0 40
      (s.noticeBad cycle period (d.w 5) = true →
        ∃ t, exec .lineNotice s = .next t ∧ completed s.toGk1 t.toGk1 0 d { status := 1 } ∧ t.line = s.line) ∧
      (s.noticeBad cycle period (d.w 5) = false → s.ptmValid = false →
        ∃ t, exec .lineNotice s = .next t ∧ completed s.toGk1 t.toGk1 0 d { status := 6 } ∧ t.line = s.line) ∧
      (s.noticeBad cycle period (d.w 5) = false → s.ptmValid = true →
        ∃ t, exec .lineNotice s = .next t ∧ completed s.toGk1 t.toGk1 0 d {} ∧ t.line.state = 1 ∧ t.line.period = period ∧
          t.line.notice = some (cycle, d.w 5, s.dtime) ∧ t.dram = s.dram ∧
          (s.line.state = 0 → s.deviceTime (d.w 5) = s.dtime → t.line.cycle = cycle ∧ t.line.frac = 0 ∧ t.line.slew = 0))) ∧
    (∀ (s : State) (n : Nat × Nat × Nat), s.line.notice = some n → s.line.state = 1 → n.2.2 + 3000000000 ≤ s.dtime →
      ∃ t, exec .lineClockHoldover s = .next t ∧ t.line = { s.line with state := 2 } ∧ t.ledger.period.flags.getLsbD 4 = true ∧
        t.dram = s.dram) ∧
    (∀ s : State, 0 < s.line.slew → s.line.slew ≤ 1000 → ∃ t, exec .lineClockSlewEnd s = .next t ∧ t.line.slew = 0 ∧
      t.line.cycle = s.line.cycle ∧ t.line.period = s.line.period ∧ t.power = s.power ∧ t.dram = s.dram)
  ) ∧ (
    (∀ s : State, s.powered = true → s.ledger.period.cstart / s.ledgerCycles < s.line.cycle / s.ledgerCycles →
      ∃ t, exec .ledgerPeriodEnd s = .next t ∧ t.ledger.seq = s.ledger.seq + 1 ∧ t.ledger.held.length = min (s.ledger.held.length + 1) 1024 ∧
        t.ledger.held.getLast? = some (s.signRecord { seq := s.ledger.seq + 1, body := s.recordBody (s.ledger.seq + 1), sig := none }) ∧
        t.ledger.period.cstart = s.line.cycle ∧ t.ledger.period.dstart = s.dtime ∧ t.ledger.period.energy = 0 ∧ t.power = s.power ∧
        t.dram = s.dram) ∧
    (∀ s : State, exec .ledgerSign s = .next (became s s.signAll) ∧ (s.boot.lkReady = true → ∀ r ∈ s.signAll.ledger.held, r.sig ≠ none)) ∧
    (∀ (s : State) (d : Desc), mgmt s.toGk1 6 d = true → 5120 * fld (d.w 4) 0 11 ≤ d.w 2 →
      let first := fld (d.w 3) 0 32
      let count := fld (d.w 4) 0 11
      (count = 0 ∨ 1024 < count → ∃ t, exec .ledgerGet s = .next t ∧ completed s.toGk1 t.toGk1 0 d { status := 1 } ∧ t.ledger = s.ledger) ∧
      (1 ≤ count → count ≤ 1024 → ∃ t, exec .ledgerGet s = .next t ∧ t.dram = s.dram ∧ completed s.toGk1 t.toGk1 0 d
        { data := 5120 * (s.ledger.held.filter fun r => decide (first ≤ r.seq) && decide (r.seq < first + count)).length })) ∧
    (∀ (s : State) (d : Desc), mgmt s.toGk1 0xF d = true →
      (d.w 2 < 7744 → ∃ t, exec .attest s = .next t ∧ completed s.toGk1 t.toGk1 0 d { status := 1 } ∧ t.dram = s.dram) ∧
      (7744 ≤ d.w 2 → s.linkOpen = true → s.postHeld = [] →
        ∃ t a b, exec .attest s = .next t ∧ completed s.toGk1 t.toGk1 0 d { data := 7744 } ∧ t.dram = s.dram ∧
          t.posted = s.posted ++ a ++ hostPieces 7745 (d.w 1)
            (s.attestReport (leBytes 8 (d.w 3) ++ leBytes 8 (d.w 4) ++ leBytes 8 (d.w 5) ++ leBytes 8 (d.w 6))) ++ b))
  )

/-- Estimates, measurement and calibration: every 1 us a signal box forms its region's estimate from its held clusters, its activity
and its static term, scaled by the calibration; a 10 us average adds its energy to the open
period, a failed entry counting as its quadrant's estimate with MEAS set; a calibration recomputes Lp. A tick sets the ceiling within
the effective budget and makes no cluster held (R598-R601, R605, R615).

Operating points, droop and heat: a region moves one point at a time toward its point, a faster one only within the allowance;
a glide ends after 8 us; a stretch begins with droop and ends after 64 ACLK, which are counted; a hot region slows by one point, and
one past TJ_CRIT parks its clusters and sets THERMAL (R613-R618, R623, R640, R743). -/
def Obligations.MeasurementPointsAndHeat : Prop :=
  (
    (∀ (s : State) (r mw : Nat), r < 64 → (s.region r).sbUp = true →
      (s.due (s.region r).estimatedAt 1000 = true → exec (.regionEstimate r mw) s = .next (became s (s.modRegion r fun R => { R with
        estimate := s.scaled r (Config.regionStatic r) + (s.heldIn r).length * s.drawOf r + s.scaled r mw
        estimatedAt := some s.dtime }))) ∧
      (s.due (s.region r).estimatedAt 1000 = false → exec (.regionEstimate r mw) s = .next s)) ∧
    (∀ (s : State) (a b c d : Nat), s.due s.power.railAt 10000 = true →
      (∃ t, exec (.railMeasurement [some a, some b, some c, some d]) s = .next t ∧ t.power.meas = a + b + c + d ∧
        t.power.railAt = some s.dtime ∧ t.ledger.period.energy = s.ledger.period.energy + 10 * (a + b + c + d) ∧ t.dram = s.dram) ∧
      (∃ t, exec (.railMeasurement [none, some b, some c, some d]) s = .next t ∧ t.power.meas = s.quadrantEst 0 + b + c + d ∧
        t.ledger.period.flags.getLsbD 7 = true ∧ t.dram = s.dram)) ∧
    (∀ (s : State) (energy : List Nat), energy = s.measured → s.powerOn = true → s.due s.power.calAt 10000000 = true →
      ∃ t, exec (.calibration energy) s = .next t ∧ t.power.calAt = some s.dtime ∧ t.power.calibrated = true ∧
        t.power.limit = firstPoint (fun k => decide (t.fullLoad k ≤ t.power.eff)) ∧ t.clusters = s.clusters ∧ t.dram = s.dram) ∧
    (∀ s : State, s.dispatcherRuns = false → exec .powerTick s = .next s) ∧
    (∀ s : State, s.powerOn = true → s.dispatcherRuns = true → s.due s.power.tickAt 1000 = true →
      ∃ t, exec .powerTick s = .next t ∧ t.power.tickAt = some s.dtime ∧ t.power.ceil ≤ t.power.eff ∧
        (∀ c, (t.cluster c).held = true → (s.cluster c).held = true) ∧ t.cores = s.cores ∧ t.kernels = s.kernels ∧ t.dram = s.dram)
  ) ∧ (
    ∀ (s : State) (r : Nat), r < 64 →
      (s.powerOn = true → s.moveDue r = true →
        ((s.region r).point < s.pointFor r → ∃ t, exec (.pointMove r) s = .next t ∧ t.dram = s.dram ∧
          t.region r = { s.region r with point := (s.region r).point + 1, moving := true, moveAt := s.dtime }) ∧
        (s.pointFor r < (s.region r).point →
          let cost : Int := (s.heldIn r).length * (s.drawAt r ((s.region r).point - 1) - s.drawAt r (s.region r).point)
          (s.power.allowance < cost → exec (.pointMove r) s = .next s) ∧
          (cost ≤ s.power.allowance → s.due (s.region r).throttledAt 10000 = true → ∃ t, exec (.pointMove r) s = .next t ∧
            t.region r = { s.region r with point := (s.region r).point - 1, moving := true, moveAt := s.dtime } ∧
            t.power.allowance = s.power.allowance - cost ∧ t.dram = s.dram)) ∧
        (s.pointFor r = (s.region r).point → exec (.pointMove r) s = .next s)) ∧
      ((s.region r).moving = true → (s.region r).moveAt + 8000 ≤ s.dtime →
        exec (.moveComplete r) s = .next (became s (s.modRegion r fun R => { R with moving := false }))) ∧
      ((s.region r).aLock = true → exec (.droopStretch r) s = .next (became s (s.modRegion r fun R => { R with stretch := true }))) ∧
      (∀ n, (s.region r).stretch = true →
        (n < 64 → exec (.droopStretchEnd r n) s = .next s) ∧
        (64 ≤ n → ∃ t, exec (.droopStretchEnd r n) s = .next t ∧ t.region r = { s.region r with stretch := false } ∧
          NMap.getD t.obs.rgnCnt (r * 4) 0 = NMap.getD s.obs.rgnCnt (r * 4) 0 + BitVec.ofNat 64 n ∧ t.dram = s.dram)) ∧
      (∃ t, exec (.thermalThrottle r) s = .next t ∧ (t.region r).throttledAt = some s.dtime ∧ t.dram = s.dram ∧
        (t.region r).point = (if s.moveDue r = true ∧ (s.region r).point < 15 ∧ s.power.fallFrom ≤ s.dtime then (s.region r).point + 1 else (s.region r).point)) ∧
      (∃ t, exec (.thermalCrit r) s = .next t ∧ t.ledger.period.flags.getLsbD 10 = true ∧ t.dram = s.dram ∧
        ∀ c ∈ s.heldIn r, (t.cluster c).held = false ∨ c ∈ t.power.parkDue) ∧
      (s.dispatcherRuns = true → NMap.get? s.power.parked r = none → s.power.parkDue = [] → (s.heldIn r).length ≤ s.slotClusters →
        ∃ t, exec (.thermalCrit r) s = .next t ∧ t.ledger.period.flags.getLsbD 10 = true ∧ (∀ c ∈ s.heldIn r, (t.cluster c).held = false) ∧
          (∀ c, (t.cluster c).held = true → (s.cluster c).held = true) ∧ t.dram = s.dram)
  )

/-- DEFECT_SUPPLEMENT: a read that faults completes HOST_ACCESS, a bad entry DESC_INVALID, an entry of an owned region MGMT_REFUSED; a
lane entry starts a rebuild. SELFTEST is held until its units are free, answers 16 bytes a unit and marks failed sidings, or completes
MGMT_TIMEOUT; CACHE outside MAINTENANCE is refused (R684, R685, R724-R727). -/
def Obligations.SupplementAndSelfTest : Prop :=
  (∀ (s : State) (d : Desc), mgmt s.toGk1 7 d = true →
    (∃ t, exec (.defectSupplement none) s = .next t ∧ completed s.toGk1 t.toGk1 0 d { status := 0x44 } ∧ t.regions = s.regions) ∧
    (∀ bs, suppOf bs = none → ∃ t, exec (.defectSupplement (some bs)) s = .next t ∧ completed s.toGk1 t.toGk1 0 d { status := 1 } ∧
      t.regions = s.regions) ∧
    (∀ bs es, suppOf bs = some es → (es.any fun e => (s.region e.region).owner.isSome || (s.region e.region).service ≠ 0) = true →
      ∃ t, exec (.defectSupplement (some bs)) s = .next t ∧ completed s.toGk1 t.toGk1 0 d { status := 6 } ∧ t.regions = s.regions) ∧
    (∀ bs r c l, suppOf bs = some [.lane r c l] → (s.region r).owner = none → (s.region r).service = 0 →
      let C := (s.region r).channel c
      l ∉ C.erased → C.rebuild = none → (∀ e ∈ C.spared, e.1 ≠ l) → C.hasSpare ≠ none →
      ∃ t, exec (.defectSupplement (some bs)) s = .next t ∧ completed s.toGk1 t.toGk1 0 d {} ∧
        ((t.region r).channel c).rebuild = some (l, 0) ∧ t.dram = s.dram)) ∧
  (∀ (s : State) (d : Desc), mgmt s.toGk1 8 d = true → 16 * d.testUnits.length ≤ d.w 2 →
    (d.testKind = 3 ∧ s.part ≠ .maintenance →
      ∃ t, exec .selftest s = .next t ∧ completed s.toGk1 t.toGk1 0 d { status := 6 } ∧ t.regions = s.regions) ∧
    (¬(d.testKind = 3 ∧ s.part ≠ .maintenance) → ∃ t, exec .selftest s = .next t ∧
      (t.queue 0).cur = some { desc := d, at_ := s.dtime } ∧ t.regions = s.regions ∧ t.dram = s.dram)) ∧
  (∀ (s : State) (c : Cur), runs s.toGk1 0 c = true → s.heldMgmt 8 = some c →
    (∀ failed, c.desc.testUnits.all (s.testFree c.desc.testKind) = false → exec (.selftestRun failed) s = .next s) ∧
    (∀ failed, c.desc.testUnits.all (s.testFree c.desc.testKind) = true → c.desc.testKind ≠ 0 ∨ failed = [] →
      ∃ t, exec (.selftestRun failed) s = .next t ∧ completed s.toGk1 t.toGk1 0 c.desc { data := 16 * c.desc.testUnits.length } ∧
        (c.desc.testKind = 1 → t.dram = s.dram ∧
          ∀ u ∈ c.desc.testUnits, ∀ k ∈ (s.region u).freeSidings, (u, k) ∈ failed → k ∈ (t.region u).failed) ∧
        (c.desc.testKind = 2 → t.regions = s.regions ∧ t.dram = s.dram)) ∧
    (c.at_ + timeoutNs (fld (c.desc.w 5) 0 16) ≤ s.dtime → ∃ t, exec .selftestTimeout s = .next t ∧
      completed s.toGk1 t.toGk1 0 c.desc { status := 7 } ∧ t.regions = s.regions ∧ t.dram = s.dram))

/-- MAINT_ENTER is held until no work runs and then takes the part to MAINTENANCE, or completes MGMT_TIMEOUT; MAINT_EXIT returns it to
READY, is refused outside MAINTENANCE, and is held while a DRAM_MARGIN runs; DRAM_MARGIN outside MAINTENANCE is refused, else it frees
queue 0 at once and completes when its result is written (R411-R413, R728-R731). -/
def Obligations.Maintenance : Prop :=
  (∀ (s : State) (d : Desc), mgmt s.toGk1 10 d = true → ∃ t, exec .maintEnter s = .next t ∧ t.held.maintEntering = true ∧
    (t.queue 0).cur = some { desc := d, at_ := s.dtime } ∧ t.part = s.part ∧ t.dram = s.dram) ∧
  (∀ (s : State) (c : Cur), runs s.toGk1 0 c = true → s.heldMgmt 10 = some c →
    (s.workless = true → ∃ t, exec .maintenanceEntry s = .next t ∧ completed s.toGk1 t.toGk1 0 c.desc {} ∧ t.part = .maintenance ∧
      t.held.maintEntering = false ∧ t.dram = s.dram) ∧
    (s.workless = false → exec .maintenanceEntry s = .next s) ∧
    (c.at_ + timeoutNs (fld (c.desc.w 3) 0 16) ≤ s.dtime → ∃ t, exec .maintEnterTimeout s = .next t ∧
      completed s.toGk1 t.toGk1 0 c.desc { status := 7 } ∧ t.part = s.part ∧ t.held.maintEntering = false ∧ t.dram = s.dram)) ∧
  (∀ (s : State) (d : Desc), mgmt s.toGk1 11 d = true →
    (s.part ≠ .maintenance → ∃ t, exec .maintExit s = .next t ∧ completed s.toGk1 t.toGk1 0 d { status := 6 } ∧ t.part = s.part) ∧
    (s.part = .maintenance → s.held.margin = none →
      ∃ t, exec .maintExit s = .next t ∧ completed s.toGk1 t.toGk1 0 d {} ∧ t.part = .ready ∧ t.dram = s.dram) ∧
    (s.part = .maintenance → s.held.margin ≠ none →
      ∃ t, exec .maintExit s = .next t ∧ (t.queue 0).cur = some { desc := d, at_ := s.dtime } ∧ t.part = .maintenance)) ∧
  (∀ (s : State) (d : Desc), mgmt s.toGk1 9 d = true → 19456 * (regionMask (d.w 3)).length ≤ d.w 2 →
    (s.part ≠ .maintenance → ∃ t, exec .dramMargin s = .next t ∧ completed s.toGk1 t.toGk1 0 d { status := 6 } ∧ t.regions = s.regions) ∧
    (s.part = .maintenance → s.held.margin = none → (∀ r ∈ regionMask (d.w 3), (s.region r).service = 0 ∧ (s.region r).stackLost = false) →
      ∃ t, exec .dramMargin s = .next t ∧ t.held.margin = some d ∧ (t.queue 0).cur = none ∧ (t.queue 0).recs = (s.queue 0).recs ∧
        (∀ r ∈ regionMask (d.w 3), (t.region r).margining = true) ∧ t.dram = s.dram)) ∧
  (∀ (s : State) (d : Desc) (result : List Byte), s.held.margin = some d → s.part = .maintenance → (s.queue 0).state = 1 → (s.queue 0).cur = none →
    d.replayed = false → result.length = 19456 * (regionMask (d.w 3)).length →
    ∃ t, exec (.dramMarginDone result) s = .next t ∧ completed s.toGk1 t.toGk1 0 d { data := result.length } ∧ t.held.margin = none ∧
      (∀ r, (t.region r).margining = false) ∧ t.part = s.part ∧ t.dram = s.dram)

/-- Reference sources, switches and PLLs: a source that becomes READY ends a holdover, the loss of the one in use is answered by a
switch in automatic mode or by holdover, a switch completes on its target; a SEL of a source that is not READY is refused with SELBAD;
a PLL that loses lock sets CK_ERR and is a fault of its unit (R634-R652, R693, R720). -/
def Obligations.ClockSources : Prop :=
  (∀ (s : State) (pin : Bool), s.powered = true →
    (∃ t, exec (.refclkSourceReady pin) s = .next t ∧ t.srcReady pin = true ∧ t.srcReady (!pin) = s.srcReady (!pin) ∧ t.dram = s.dram ∧
      t.clocks.switching = (if s.clocks.holdover = true ∧ s.clocks.switching = none ∧ (s.refAuto = true ∨ s.refSel = pin)
        then some pin else s.clocks.switching)) ∧
    (s.srcReady pin = true → s.clocks.switching = none → s.clocks.cur = pin →
      ∃ t, exec (.refclkSourceLoss pin) s = .next t ∧ t.srcReady pin = false ∧ t.dram = s.dram ∧
        (s.refAuto = true ∧ s.srcReady (!pin) = true → t.clocks.switching = some (!pin) ∧ t.clocks.holdover = s.clocks.holdover) ∧
        (¬(s.refAuto = true ∧ s.srcReady (!pin) = true) → t.clocks.switching = none ∧ t.clocks.holdover = true)) ∧
    (s.srcReady pin = true → s.clocks.switching = none → s.clocks.cur ≠ pin →
      ∃ t, exec (.refclkSourceLoss pin) s = .next t ∧ t.srcReady pin = false ∧ t.clocks.cur = s.clocks.cur ∧ t.clocks.switching = none ∧
        t.dram = s.dram)) ∧
  (∀ s : State, s.powered = true → s.clocks.since + 20000000 ≤ s.dtime → s.clocks.cur = s.clocks.refsel → s.srcReady s.clocks.cur = false →
    s.clocks.holdover = false → s.clocks.switching = none → s.srcReady (!s.clocks.cur) = true →
    exec .refclkFallback s = .next (became s { s.toGk1 with clocks := { s.clocks with cur := !s.clocks.cur } })) ∧
  (∀ (s : State) (pin : Bool), s.clocks.switching = some pin → s.clocks.selAfter = none →
    exec .refclkSwitchDone s = .next (became s { s.toGk1 with clocks := { s.clocks with
      cur := pin, holdover := false, switching := none, switches := min (s.clocks.switches + 1) 0xFF } })) ∧
  (∀ (s : State) (v : BitVec 32), s.regsWork = true →
    (v.getLsbD 0 = true → ∃ t, exec (.ckRefCtlWrite v) s = .next t ∧ t.refAuto = true ∧ t.refSel = v.getLsbD 1 ∧ t.dram = s.dram) ∧
    (v.getLsbD 0 = false → s.clocks.switching = none → s.srcReady (v.getLsbD 1) = true → s.clocks.holdover = false →
      ∃ t, exec (.ckRefCtlWrite v) s = .next t ∧ t.refAuto = false ∧ t.refSel = v.getLsbD 1 ∧ t.dram = s.dram ∧
        t.clocks.switching = (if v.getLsbD 1 = s.clocks.cur then none else some (v.getLsbD 1))) ∧
    (v.getLsbD 0 = false → s.clocks.switching = none → s.srcReady (v.getLsbD 1) = false →
      ∃ t, exec (.ckRefCtlWrite v) s = .next t ∧ t.refAuto = false ∧ t.refSel = s.refSel ∧ (t.reg 0x500008 0).testBit 0 = true ∧
        t.clocks.cur = s.clocks.cur ∧ t.dram = s.dram)) ∧
  (∀ (s : State) (v : BitVec 32), s.regsWork = true → s.boot.locked = false → fld v.toNat 1 3 < 6 →
    ¬(fld v.toNat 1 3 = 4 ∧ 48 ≤ fld v.toNat 4 6) →
    (v.getLsbD 0 = true → s.pllReady (fld v.toNat 1 3) (fld v.toNat 4 6) = false →
      exec (.ckObsCtlWrite v) s = .next (became s (s.setErr 0x500008 0))) ∧
    (v.getLsbD 0 = false ∨ s.pllReady (fld v.toNat 1 3) (fld v.toNat 4 6) = true →
      ∃ t, exec (.ckObsCtlWrite v) s = .next t ∧ fld (t.reg 0x500400 0xC00) 0 10 = fld v.toNat 0 10 ∧ t.dram = s.dram ∧
        fld (t.reg 0x500400 0xC00) 10 5 = min (max (fld v.toNat 10 5) 3) 24)) ∧
  (∀ (s : State) (r : Nat) (v : BitVec 32), r < 64 → s.regsWork = true →
    ∃ t, exec (.ckRgnCtlWrite r v) s = .next t ∧ (∀ k, k < 64 → t.capOf k = if k = r then fld v.toNat 0 4 else s.capOf k) ∧ t.dram = s.dram) ∧
  (∀ (s : State) (u : Nat), u < 64 →
    ((s.region u).aLock = true → ∃ t, exec (.pllLockLoss 1 u) s = .next t ∧ (t.region u).aLock = false ∧ (t.reg 0x500008 0).testBit 3 = true ∧
      t.dram = s.dram) ∧
    ((s.region u).fLock = true → ∃ t, exec (.pllLockLoss 2 u) s = .next t ∧ (t.region u).fclkBorrowed = true ∧
      (t.region u).fLock = false ∧ t.dram = s.dram) ∧
    ((s.region u).dLock = true → ∃ t, exec (.pllLockLoss 3 u) s = .next t ∧ (t.region u).stackLost = true ∧
      (t.region u).dLock = false ∧ t.dram = s.dram) ∧
    (u < 48 → (s.port u).lock = true → s.portUp u = true → ∃ t, exec (.pllLockLoss 4 u) s = .next t ∧ (t.port u).state = 0 ∧ t.dram = s.dram) ∧
    (s.clocks.hLock = true → s.edge.standbyFailed = false → ∃ t, exec (.pllLockLoss 5 0) s = .next t ∧ t.clocks.hLock = false ∧
      t.edge.hia = !s.edge.hia ∧ t.dram = s.dram))

/-- Power: a rise of PWR_EN with the entries in range takes the part to POWER_RAMP, one within 100 ms of a fall only after them; a fall
or an entry out of range takes it to OFF and empties it; POWER_RAMP ends in ROM with DTIME 0. A part reset enters ROM and keeps DTIME,
the link and the ledger's SEQ (R653-R660, R755, R766, R768). -/
def Obligations.PowerAndReset : Prop :=
  (∀ s : State, s.edge.pwrEn = false →
    (s.enDue = true → ∃ t, exec .pwrEnRise s = .next t ∧ t.edge.pwrEn = true ∧
      t.part = (if s.part = .off ∧ s.edge.entriesOk = true then .powerRamp else s.part)) ∧
    (s.enDue = false → exec .pwrEnRise s = .next (became s { s.toGk1 with edge := { s.edge with riseDue := true } }))) ∧
  (∀ s : State, s.edge.riseDue = true →
    (s.enDue = true → ∃ t, exec .pwrEnDeferredRise s = .next t ∧ t.edge.pwrEn = true ∧ t.edge.riseDue = false ∧
      t.part = (if s.part = .off ∧ s.edge.entriesOk = true then .powerRamp else s.part)) ∧
    (s.enDue = false → exec .pwrEnDeferredRise s = .next s)) ∧
  (∀ s : State, ∃ t, exec .pwrEnFall s = .next t ∧ t.part = .off ∧ t.edge.pwrEn = false ∧ t.edge.fellAt = some s.dtime ∧ t.regs = [] ∧
    t.cores = [] ∧ t.queues = [] ∧ t.kernels = [] ∧ t.dram = []) ∧
  (∀ (s : State) (e : Nat), e < 4 → ∃ t, exec (.entryVoltageFault e) s = .next t ∧ t.part = .off ∧ t.edge.entriesOk = false ∧
    t.edge.pwrEn = s.edge.pwrEn ∧ t.queues = [] ∧ t.dram = []) ∧
  (∀ s : State, ∃ t, exec .entryVoltageRestored s = .next t ∧ t.edge.entriesOk = true ∧
    t.part = (if s.part = .off ∧ s.edge.pwrEn = true then .powerRamp else s.part)) ∧
  (∀ (s : State) (refsel : Bool), s.part = .powerRamp → ∃ t, exec (.powerRampDone refsel) s = .next t ∧ t.part = .rom ∧ t.dtime = 0 ∧
    t.clocks.refsel = refsel ∧ t.clocks.cur = refsel ∧ t.ledger.boot = Config.random s.free ∧ t.ledger.seq = 0 ∧ t.queues = [] ∧ t.dram = []) ∧
  (∀ (s : State) (key : BitVec 16),
    (key ≠ 0x5A3C → exec (.hlResetPart key) s = .next s) ∧
    (key = 0x5A3C → s.regsWork = true → ∃ t, exec (.hlResetPart key) s = .next t ∧ t.part = .rom ∧ t.dtime = s.dtime ∧
      t.edge.linkUp = s.edge.linkUp ∧ t.ledger.seq = s.ledger.seq ∧ t.ledger.held = [] ∧ t.cores = [] ∧ t.queues = [] ∧ t.kernels = [] ∧
      t.dram = []))

/-- ROM goes to LINK_UP once the link has trained and the fuses are good; GO starts LOADING; a bundle that fails a check sends it back
to LINK_UP with the error, one that passes all of them goes on to the waves with its SVN; COMMIT and LOCK need their keys in READY, and
blown fuses raise ARB to the SVN and keep the lock (R655, R663, R667, R669, R737, R749).

A bring-up wave: a stack that fails training, a staged image that does not match, or no signal box in wave 0 enters FAULTED with
its error; a wave in which all is well brings up its four regions and counts, and the last one enters READY (R670-R677). -/
def Obligations.BootAndFuses : Prop :=
  (
    (∀ s : State, s.part = .rom →
      (s.edge.linkUp = true → ∃ t, exec (.linkUp true) s = .next t ∧ t.part = .linkUp ∧ t.boot.ikReady = true ∧ t.dram = s.dram) ∧
      (s.edge.linkUp = false → exec (.linkUp true) s = .next s) ∧
      (∃ t, exec (.linkUp false) s = .next t ∧ t.part = .faulted ∧ t.boot.err = 9)) ∧
    (∀ s : State, s.part = .linkUp →
      exec .bootGo s = .next (became s { s.toGk1 with part := .loading, boot := { s.boot with err := 0 } })) ∧
    (∀ (s : State) (b sp : Option (List Byte)), s.part = .loading →
      (s.bundleErr b sp ≠ 0 → exec (.loadingDone b sp) s
        = .next (became s { s.toGk1 with part := .linkUp, boot := { s.boot with err := s.bundleErr b sp } })) ∧
      (s.bundleErr b sp = 0 → ∃ t, exec (.loadingDone b sp) s = .next t ∧ t.part = .waves ∧ t.boot.svn = bnum (b.getD []) 10 1 ∧
        s.arb ≤ t.boot.svn ∧ t.boot.bhdig = bundleDigest (b.getD []) ∧ t.boot.lkReady = true ∧ t.boot.waves = 0 ∧ t.dram = s.dram)) ∧
    (∀ (s : State) (key : BitVec 16), s.part = .ready →
      (key = 0xC3A5 → s.arb < s.boot.svn → s.boot.blowing = none →
        exec (.arbCommit key) s = .next (became s { s.toGk1 with boot := { s.boot with blowing := some s.boot.svn } })) ∧
      (key ≠ 0xC3A5 → exec (.arbCommit key) s = .next s) ∧
      (key = 0x9B17 → ∃ t, exec (.debugLock key) s = .next t ∧ t.boot.locked = true ∧ t.traceCtl.testBit 0 = false ∧
        (s.boot.lockBlown = false → t.boot.lockBlowing = true) ∧ t.dram = s.dram) ∧
      (key ≠ 0x9B17 → exec (.debugLock key) s = .next s)) ∧
    (∀ s : State, s.powered = true → ∃ t, exec .fuseBlowComplete s = .next t ∧ t.boot.blowing = none ∧ t.boot.lockBlowing = false ∧
      (∀ n, s.boot.blowing = some n → s.arb ≤ n → t.arb = n) ∧ (s.boot.blowing = none → t.arb = s.arb) ∧
      t.boot.lockBlown = (s.boot.lockBlown || s.boot.lockBlowing) ∧ t.dram = s.dram)
  ) ∧ (
    ∀ (s : State) (fs : List RegionWave), s.part = .waves → fs.map RegionWave.region = waveRegions s.boot.waves → s.boot.waves < 16 →
      s.boot.supplement = [] → (∀ f ∈ fs, f.badLanes = []) → (∀ r, ∀ c ∈ (s.region r).channels, c.2.lost ≤ 4) →
      ((∃ f ∈ fs, f.trained = false) → ∃ t, exec (.bootWave fs) s = .next t ∧ t.part = .faulted ∧ t.boot.err = 0x0B ∧ t.boot.waves = s.boot.waves) ∧
      ((∀ f ∈ fs, f.trained = true) → (∃ f ∈ fs, f.staged = false) →
        ∃ t, exec (.bootWave fs) s = .next t ∧ t.part = .faulted ∧ t.boot.err = 8) ∧
      ((∀ f ∈ fs, f.trained = true ∧ f.staged = true ∧ f.started = false) → s.boot.waves = 0 →
        ∃ t, exec (.bootWave fs) s = .next t ∧ t.part = .faulted ∧ t.boot.err = 0x0A) ∧
      ((∀ f ∈ fs, f.trained = true ∧ f.staged = true ∧ f.started = true ∧ f.failed = [] ∧ (s.region f.region).service = 0) →
        s.boot.waves = 0 ∨ s.boxUp s.boot.disp = true →
        ∃ t, exec (.bootWave fs) s = .next t ∧ t.boot.waves = s.boot.waves + 1 ∧ t.part = (if s.boot.waves = 15 then .ready else .waves) ∧
          t.boot.disp = (if s.boot.waves = 0 then 3 else s.boot.disp) ∧ t.boot.dvalid = true ∧ t.dram = s.dram ∧
          ∀ f ∈ fs, (t.region f.region).sbUp = true ∧ (t.region f.region).bootDone = true ∧ (t.region f.region).vfab = true ∧ (t.region f.region).vmem = true ∧
            (t.region f.region).aLock = true ∧ (t.region f.region).dLock = true)
  )

/-- A selection clears READY and starts a snapshot, which then holds the counters of the selected core or the view of the selected
barrier object; the trace starts at SEQ 0 when EN is set and LOG2N stays within 8-24; TICK and SAMPLE records take the next SEQ when
their kind is selected; a part that is locked ignores the writes (R357, R377, R743-R749). -/
def Obligations.SnapshotsAndTrace : Prop :=
  (∀ (s : State) (v : BitVec 32),
    (s.viewsOpen = false → exec (.obsCoreselWrite v) s = .next s ∧ exec (.obsBarselWrite v) s = .next s) ∧
    (s.viewsOpen = true →
      (∃ t, exec (.obsCoreselWrite v) s = .next t ∧ t.reg 0x700400 0 = fld v.toNat 0 20 ∧ t.obs.coreReady = false ∧
        t.obs.corePending = true ∧ t.obs.coreSnap = s.obs.coreSnap ∧ t.cores = s.cores ∧ t.dram = s.dram) ∧
      (∃ t, exec (.obsBarselWrite v) s = .next t ∧ t.reg 0x700500 0 = fld v.toNat 0 26 ∧ t.obs.barReady = false ∧
        t.obs.barPending = true ∧ t.obs.barSnap = s.obs.barSnap ∧ t.cores = s.cores ∧ t.dram = s.dram))) ∧
  (∀ s : State, s.obs.corePending = true → fld (s.reg 0x700400 0) 0 20 < nCores →
    exec (.obsSnapshotReady false) s = .next (became s { s.toGk1 with obs := { s.obs with
      corePending := false, coreReady := true, coreSnap := (List.range 6).map fun i => NMap.getD s.obs.coreCnt (s.physCore (fld (s.reg 0x700400 0) 0 20) * 8 + i) 0 } })) ∧
  (∀ s : State, s.obs.barPending = true → fld (s.reg 0x700500 0) 0 20 < nCores →
    exec (.obsSnapshotReady true) s = .next (became s { s.toGk1 with obs := { s.obs with
      barPending := false, barReady := true, barSnap := BitVec.ofNat 64 ((s.core (fld (s.reg 0x700500 0) 0 20)).bar (fld (s.reg 0x700500 0) 20 6)).view } })) ∧
  (∀ (s : State) (v : BitVec 64), s.viewsOpen = true →
    ∃ t, exec (.obsTraceCtlWrite 8 0 v) s = .next t ∧ t.traceCtl.testBit 0 = v.getLsbD 0 ∧ t.dram = s.dram ∧
      fld t.traceCtl 3 5 = min (max (fld v.toNat 3 5) 8) 24 ∧
      (v.getLsbD 0 = true → s.traceCtl.testBit 0 = false → t.obs.traceSeq = 0 ∧ t.obs.drops = 0)) ∧
  (∀ s : State, s.blocksWork = true → s.traceCtl.testBit 0 = true → s.due s.obs.tickAt 100000 = true →
    ∃ t, exec .traceTick s = .next t ∧ t.obs.tickAt = some s.dtime ∧ t.dram = s.dram ∧
      t.obs.traceSeq = (if s.traceCtl.testBit 10 = true then (s.obs.traceSeq + 1) % 2 ^ 32 else s.obs.traceSeq)) ∧
  (∀ s : State, s.blocksWork = true → s.traceCtl.testBit 0 = true → s.sampleCore < nCores → s.due s.obs.sampleAt s.samplePeriod = true →
    ∃ t, exec .traceSample s = .next t ∧ t.obs.sampleAt = some s.dtime ∧ t.cores = s.cores ∧ t.dram = s.dram ∧
      (s.kernelOf s.sampleCore = none → s.traceCtl.testBit 16 = true → t.obs.traceSeq = (s.obs.traceSeq + 1) % 2 ^ 32))
end

