-- ==== Sys2Proof/Laws/Map.lean ====
section
/-! SUPPORT. Sparse maps and byte memory: what a read gives after a write, and that every operation keeps the canonical form. -/

namespace Sys2Proof

/-! ## Reads after writes -/

@[simp] theorem NMap.get?_nil {α : Type} (k : Nat) : NMap.get? ([] : NMap α) k = none := rfl

@[simp] theorem NMap.get?_set {α : Type} (m : NMap α) (k j : Nat) (v : α) :
    (m.set k v).get? j = if k = j then some v else m.get? j := by
  induction m with
  | nil => simp [NMap.set, NMap.get?]
  | cons e m ih =>
    obtain ⟨a, x⟩ := e
    simp only [NMap.set]
    split
    · simp only [NMap.get?]
    · split
      · subst_vars; simp only [NMap.get?]; split <;> simp_all
      · simp only [NMap.get?, ih]; split <;> split <;> simp_all

@[simp] theorem NMap.getD_set {α : Type} (m : NMap α) (k j : Nat) (v d : α) :
    (m.set k v).getD j d = if k = j then v else m.getD j d := by
  simp only [NMap.getD, NMap.get?_set]; split <;> rfl

theorem NMap.get?_erase {α : Type} (m : NMap α) (k j : Nat) :
    (m.erase k).get? j = if k = j then none else m.get? j := by
  induction m with
  | nil => simp [NMap.erase, NMap.get?]
  | cons e m ih =>
    obtain ⟨a, x⟩ := e
    simp only [NMap.erase, List.filter] at ih ⊢
    by_cases h : a = k
    · subst h; simp only [bne_self_eq_false, ih, NMap.get?]; split <;> rfl
    · have : (a != k) = true := by simpa using h
      simp only [this, NMap.get?, ih]; split <;> split <;> simp_all

theorem NMap.getD_erase {α : Type} (m : NMap α) (k j : Nat) (d : α) :
    (m.erase k).getD j d = if k = j then d else m.getD j d := by
  simp only [NMap.getD, NMap.get?_erase]; split <;> rfl

@[simp] theorem NMap.getD_put {α : Type} [DecidableEq α] (m : NMap α) (k j : Nat) (v d : α) :
    (m.put k v d).getD j d = if k = j then v else m.getD j d := by
  simp only [NMap.put]; split
  · subst_vars; rw [NMap.getD_erase]
  · simp

@[simp] theorem Mem.read_write (m : Mem) (a j : Nat) (b : Byte) :
    Mem.read (Mem.write m a b) j = if a = j then b else Mem.read m j := by
  simp [Mem.read, Mem.write]

/-- A byte outside the range written reads as before. -/
theorem Mem.read_writeAll_other (bs : List Byte) (m : Mem) (a j : Nat) (h : j < a ∨ a + bs.length ≤ j) :
    Mem.read (Mem.writeAll m a bs) j = Mem.read m j := by
  induction bs generalizing m a with
  | nil => rfl
  | cons b bs ih =>
    simp only [List.length_cons] at h
    rw [Mem.writeAll, ih _ _ (by omega), Mem.read_write, if_neg (by omega)]

/-- A byte of the range reads as written. -/
theorem Mem.read_writeAll (bs : List Byte) (m : Mem) (a i : Nat) (h : i < bs.length) :
    Mem.read (Mem.writeAll m a bs) (a + i) = bs[i] := by
  induction bs generalizing m a i with
  | nil => simp at h
  | cons b bs ih =>
    cases i with
    | zero => rw [Mem.writeAll, Mem.read_writeAll_other _ _ _ _ (by omega)]; simp
    | succ i =>
      have := ih (Mem.write m a b) (a + 1) i (by simpa using h)
      rw [Mem.writeAll, show a + (i + 1) = a + 1 + i by omega, this]; simp

/-! ## The canonical form -/

/-- Keys rise: all of them lie above the first. -/
theorem NMap.rising_cons {α : Type} (a : Nat) (x : α) (m : NMap α) :
    NMap.rising ((a, x) :: m) = true ↔ (∀ e ∈ m, a < e.1) ∧ NMap.rising m = true := by
  induction m generalizing a x with
  | nil => simp [NMap.rising]
  | cons e m ih =>
    obtain ⟨b, y⟩ := e
    simp only [NMap.rising, Bool.and_eq_true, decide_eq_true_eq, List.mem_cons, forall_eq_or_imp]
    constructor
    · rintro ⟨h, hr⟩
      exact ⟨⟨h, fun e he => Nat.lt_trans h (((ih b y).1 hr).1 e he)⟩, hr⟩
    · rintro ⟨⟨h, -⟩, hr⟩; exact ⟨h, hr⟩

theorem NMap.rising_filter {α : Type} (m : NMap α) (p : Nat × α → Bool) (h : m.rising = true) :
    NMap.rising (List.filter p m) = true := by
  induction m with
  | nil => rfl
  | cons e m ih =>
    obtain ⟨a, x⟩ := e
    obtain ⟨h1, h2⟩ := (NMap.rising_cons a x m).1 h
    simp only [List.filter]
    split
    · exact (NMap.rising_cons _ _ _).2 ⟨fun e he => h1 e (List.mem_filter.1 he).1, ih h2⟩
    · exact ih h2

theorem NMap.mem_set {α : Type} (m : NMap α) (k : Nat) (v : α) (e : Nat × α) (h : e ∈ m.set k v) : e = (k, v) ∨ e ∈ m := by
  induction m with
  | nil => simpa [NMap.set] using h
  | cons c m ih =>
    obtain ⟨a, x⟩ := c
    simp only [NMap.set] at h
    split at h
    · simpa using h
    · split at h
      · simp only [List.mem_cons] at h ⊢; tauto
      · simp only [List.mem_cons] at h ⊢; rcases h with h | h
        · tauto
        · rcases ih h with h | h <;> tauto

theorem NMap.rising_set {α : Type} (m : NMap α) (k : Nat) (v : α) (h : m.rising = true) : (m.set k v).rising = true := by
  induction m with
  | nil => rfl
  | cons c m ih =>
    obtain ⟨a, x⟩ := c
    obtain ⟨h1, h2⟩ := (NMap.rising_cons a x m).1 h
    simp only [NMap.set]
    split
    · refine (NMap.rising_cons _ _ _).2 ⟨?_, h⟩
      intro e he
      rcases List.mem_cons.1 he with he | he
      · subst he; assumption
      · exact Nat.lt_trans (by assumption) (h1 e he)
    · split
      · subst_vars; exact (NMap.rising_cons _ _ _).2 ⟨h1, h2⟩
      · refine (NMap.rising_cons _ _ _).2 ⟨?_, ih h2⟩
        intro e he
        rcases NMap.mem_set m k v e he with rfl | he
        · simp only; omega
        · exact h1 e he

/-- A map's put keeps its canonical form. -/
theorem NMap.canon_put {α : Type} [DecidableEq α] (m : NMap α) (k : Nat) (v d : α) (h : m.canon d = true) :
    (m.put k v d).canon d = true := by
  simp only [NMap.canon, Bool.and_eq_true, List.all_eq_true, decide_eq_true_eq] at h ⊢
  simp only [NMap.put]
  split
  · exact ⟨NMap.rising_filter _ _ h.1, fun e he => h.2 e (List.mem_filter.1 he).1⟩
  · refine ⟨NMap.rising_set _ _ _ h.1, fun e he => ?_⟩
    rcases NMap.mem_set _ _ _ _ he with rfl | he
    · assumption
    · exact h.2 e he

@[simp] theorem Mem.wf_nil : Mem.wf [] = true := rfl

theorem Mem.wf_write (m : Mem) (a : Nat) (b : Byte) (h : Mem.wf m = true) : Mem.wf (Mem.write m a b) = true :=
  NMap.canon_put m a b 0 h

theorem Mem.wf_writeAll (bs : List Byte) (m : Mem) (a : Nat) (h : Mem.wf m = true) : Mem.wf (Mem.writeAll m a bs) = true := by
  induction bs generalizing m a with
  | nil => exact h
  | cons b bs ih => exact ih _ _ (Mem.wf_write _ _ _ h)

theorem Mem.wf_writeLE (m : Mem) (a n v : Nat) (h : Mem.wf m = true) : Mem.wf (Mem.writeLE m a n v) = true :=
  Mem.wf_writeAll _ _ _ h

theorem Mem.wf_patch (p m : Mem) (a : Nat) (h : Mem.wf m = true) : Mem.wf (Mem.patch m a p) = true := by
  induction p generalizing m with
  | nil => exact h
  | cons e p ih => obtain ⟨o, b⟩ := e; exact ih _ (Mem.wf_write _ _ _ h)

theorem Mem.wf_filter (m : Mem) (p : Nat × Byte → Bool) (h : Mem.wf m = true) : Mem.wf (List.filter p m) = true := by
  simp only [Mem.wf, NMap.canon, Bool.and_eq_true, List.all_eq_true] at h ⊢
  exact ⟨NMap.rising_filter _ _ h.1, fun e he => h.2 e (List.mem_filter.1 he).1⟩

/-- A fold of operations that keep the form keeps it. -/
theorem Mem.wf_foldl {α : Type} (l : List α) (f : Mem → α → Mem) (m : Mem) (h : Mem.wf m = true)
    (hf : ∀ m a, Mem.wf m = true → Mem.wf (f m a) = true) : Mem.wf (l.foldl f m) = true := by
  induction l generalizing m with
  | nil => exact h
  | cons a l ih => exact ih _ (hf _ _ h)

end Sys2Proof
end

