-- ==== Sys2Proof/Laws/State.lean ====
section
/-! SUPPORT. Named updates of the part: what each leaves, field by field, and what it changes. -/

namespace Sys2Proof.Machine

/-! ### setCore -/

@[simp] theorem Gk1.setCore_free (s : Gk1) (c : Nat) (C : Core) : (s.setCore c C).free = s.free := rfl
@[simp] theorem Gk1.setCore_part (s : Gk1) (c : Nat) (C : Core) : (s.setCore c C).part = s.part := rfl
@[simp] theorem Gk1.setCore_dtime (s : Gk1) (c : Nat) (C : Core) : (s.setCore c C).dtime = s.dtime := rfl
@[simp] theorem Gk1.setCore_regs (s : Gk1) (c : Nat) (C : Core) : (s.setCore c C).regs = s.regs := rfl
@[simp] theorem Gk1.setCore_edge (s : Gk1) (c : Nat) (C : Core) : (s.setCore c C).edge = s.edge := rfl
@[simp] theorem Gk1.setCore_boot (s : Gk1) (c : Nat) (C : Core) : (s.setCore c C).boot = s.boot := rfl
@[simp] theorem Gk1.setCore_clocks (s : Gk1) (c : Nat) (C : Core) : (s.setCore c C).clocks = s.clocks := rfl
@[simp] theorem Gk1.setCore_line (s : Gk1) (c : Nat) (C : Core) : (s.setCore c C).line = s.line := rfl
@[simp] theorem Gk1.setCore_power (s : Gk1) (c : Nat) (C : Core) : (s.setCore c C).power = s.power := rfl
@[simp] theorem Gk1.setCore_ledger (s : Gk1) (c : Nat) (C : Core) : (s.setCore c C).ledger = s.ledger := rfl
@[simp] theorem Gk1.setCore_held (s : Gk1) (c : Nat) (C : Core) : (s.setCore c C).held = s.held := rfl
@[simp] theorem Gk1.setCore_obs (s : Gk1) (c : Nat) (C : Core) : (s.setCore c C).obs = s.obs := rfl
@[simp] theorem Gk1.setCore_clusters (s : Gk1) (c : Nat) (C : Core) : (s.setCore c C).clusters = s.clusters := rfl
@[simp] theorem Gk1.setCore_regions (s : Gk1) (c : Nat) (C : Core) : (s.setCore c C).regions = s.regions := rfl
@[simp] theorem Gk1.setCore_dram (s : Gk1) (c : Nat) (C : Core) : (s.setCore c C).dram = s.dram := rfl
@[simp] theorem Gk1.setCore_cache (s : Gk1) (c : Nat) (C : Core) : (s.setCore c C).cache = s.cache := rfl
@[simp] theorem Gk1.setCore_stamp (s : Gk1) (c : Nat) (C : Core) : (s.setCore c C).stamp = s.stamp := rfl
@[simp] theorem Gk1.setCore_fills (s : Gk1) (c : Nat) (C : Core) : (s.setCore c C).fills = s.fills := rfl
@[simp] theorem Gk1.setCore_nextId (s : Gk1) (c : Nat) (C : Core) : (s.setCore c C).nextId = s.nextId := rfl
@[simp] theorem Gk1.setCore_reqs (s : Gk1) (c : Nat) (C : Core) : (s.setCore c C).reqs = s.reqs := rfl
@[simp] theorem Gk1.setCore_msgs (s : Gk1) (c : Nat) (C : Core) : (s.setCore c C).msgs = s.msgs := rfl
@[simp] theorem Gk1.setCore_epochs (s : Gk1) (c : Nat) (C : Core) : (s.setCore c C).epochs = s.epochs := rfl
@[simp] theorem Gk1.setCore_queues (s : Gk1) (c : Nat) (C : Core) : (s.setCore c C).queues = s.queues := rfl
@[simp] theorem Gk1.setCore_ctxs (s : Gk1) (c : Nat) (C : Core) : (s.setCore c C).ctxs = s.ctxs := rfl
@[simp] theorem Gk1.setCore_kernels (s : Gk1) (c : Nat) (C : Core) : (s.setCore c C).kernels = s.kernels := rfl
@[simp] theorem Gk1.setCore_ownerWatches (s : Gk1) (c : Nat) (C : Core) : (s.setCore c C).ownerWatches = s.ownerWatches := rfl
@[simp] theorem Gk1.setCore_importWatches (s : Gk1) (c : Nat) (C : Core) : (s.setCore c C).importWatches = s.importWatches := rfl
@[simp] theorem Gk1.setCore_ports (s : Gk1) (c : Nat) (C : Core) : (s.setCore c C).ports = s.ports := rfl
@[simp] theorem Gk1.setCore_drops (s : Gk1) (c : Nat) (C : Core) : (s.setCore c C).drops = s.drops := rfl
@[simp] theorem Gk1.setCore_unreachable (s : Gk1) (c : Nat) (C : Core) : (s.setCore c C).unreachable = s.unreachable := rfl
@[simp] theorem Gk1.setCore_kept (s : Gk1) (c : Nat) (C : Core) : (s.setCore c C).kept = s.kept := rfl
@[simp] theorem Gk1.setCore_routedAt (s : Gk1) (c : Nat) (C : Core) : (s.setCore c C).routedAt = s.routedAt := rfl
@[simp] theorem Gk1.setCore_jobs (s : Gk1) (c : Nat) (C : Core) : (s.setCore c C).jobs = s.jobs := rfl
@[simp] theorem Gk1.setCore_buckets (s : Gk1) (c : Nat) (C : Core) : (s.setCore c C).buckets = s.buckets := rfl
@[simp] theorem Gk1.setCore_snaps (s : Gk1) (c : Nat) (C : Core) : (s.setCore c C).snaps = s.snaps := rfl
@[simp] theorem Gk1.setCore_posted (s : Gk1) (c : Nat) (C : Core) : (s.setCore c C).posted = s.posted := rfl
@[simp] theorem Gk1.setCore_postHeld (s : Gk1) (c : Nat) (C : Core) : (s.setCore c C).postHeld = s.postHeld := rfl

/-! ### modCore -/

@[simp] theorem Gk1.modCore_free (s : Gk1) (c : Nat) (f : Core → Core) : (s.modCore c f).free = s.free := rfl
@[simp] theorem Gk1.modCore_part (s : Gk1) (c : Nat) (f : Core → Core) : (s.modCore c f).part = s.part := rfl
@[simp] theorem Gk1.modCore_dtime (s : Gk1) (c : Nat) (f : Core → Core) : (s.modCore c f).dtime = s.dtime := rfl
@[simp] theorem Gk1.modCore_regs (s : Gk1) (c : Nat) (f : Core → Core) : (s.modCore c f).regs = s.regs := rfl
@[simp] theorem Gk1.modCore_edge (s : Gk1) (c : Nat) (f : Core → Core) : (s.modCore c f).edge = s.edge := rfl
@[simp] theorem Gk1.modCore_boot (s : Gk1) (c : Nat) (f : Core → Core) : (s.modCore c f).boot = s.boot := rfl
@[simp] theorem Gk1.modCore_clocks (s : Gk1) (c : Nat) (f : Core → Core) : (s.modCore c f).clocks = s.clocks := rfl
@[simp] theorem Gk1.modCore_line (s : Gk1) (c : Nat) (f : Core → Core) : (s.modCore c f).line = s.line := rfl
@[simp] theorem Gk1.modCore_power (s : Gk1) (c : Nat) (f : Core → Core) : (s.modCore c f).power = s.power := rfl
@[simp] theorem Gk1.modCore_ledger (s : Gk1) (c : Nat) (f : Core → Core) : (s.modCore c f).ledger = s.ledger := rfl
@[simp] theorem Gk1.modCore_held (s : Gk1) (c : Nat) (f : Core → Core) : (s.modCore c f).held = s.held := rfl
@[simp] theorem Gk1.modCore_obs (s : Gk1) (c : Nat) (f : Core → Core) : (s.modCore c f).obs = s.obs := rfl
@[simp] theorem Gk1.modCore_clusters (s : Gk1) (c : Nat) (f : Core → Core) : (s.modCore c f).clusters = s.clusters := rfl
@[simp] theorem Gk1.modCore_regions (s : Gk1) (c : Nat) (f : Core → Core) : (s.modCore c f).regions = s.regions := rfl
@[simp] theorem Gk1.modCore_dram (s : Gk1) (c : Nat) (f : Core → Core) : (s.modCore c f).dram = s.dram := rfl
@[simp] theorem Gk1.modCore_cache (s : Gk1) (c : Nat) (f : Core → Core) : (s.modCore c f).cache = s.cache := rfl
@[simp] theorem Gk1.modCore_stamp (s : Gk1) (c : Nat) (f : Core → Core) : (s.modCore c f).stamp = s.stamp := rfl
@[simp] theorem Gk1.modCore_fills (s : Gk1) (c : Nat) (f : Core → Core) : (s.modCore c f).fills = s.fills := rfl
@[simp] theorem Gk1.modCore_nextId (s : Gk1) (c : Nat) (f : Core → Core) : (s.modCore c f).nextId = s.nextId := rfl
@[simp] theorem Gk1.modCore_reqs (s : Gk1) (c : Nat) (f : Core → Core) : (s.modCore c f).reqs = s.reqs := rfl
@[simp] theorem Gk1.modCore_msgs (s : Gk1) (c : Nat) (f : Core → Core) : (s.modCore c f).msgs = s.msgs := rfl
@[simp] theorem Gk1.modCore_epochs (s : Gk1) (c : Nat) (f : Core → Core) : (s.modCore c f).epochs = s.epochs := rfl
@[simp] theorem Gk1.modCore_queues (s : Gk1) (c : Nat) (f : Core → Core) : (s.modCore c f).queues = s.queues := rfl
@[simp] theorem Gk1.modCore_ctxs (s : Gk1) (c : Nat) (f : Core → Core) : (s.modCore c f).ctxs = s.ctxs := rfl
@[simp] theorem Gk1.modCore_kernels (s : Gk1) (c : Nat) (f : Core → Core) : (s.modCore c f).kernels = s.kernels := rfl
@[simp] theorem Gk1.modCore_ownerWatches (s : Gk1) (c : Nat) (f : Core → Core) : (s.modCore c f).ownerWatches = s.ownerWatches := rfl
@[simp] theorem Gk1.modCore_importWatches (s : Gk1) (c : Nat) (f : Core → Core) : (s.modCore c f).importWatches = s.importWatches := rfl
@[simp] theorem Gk1.modCore_ports (s : Gk1) (c : Nat) (f : Core → Core) : (s.modCore c f).ports = s.ports := rfl
@[simp] theorem Gk1.modCore_drops (s : Gk1) (c : Nat) (f : Core → Core) : (s.modCore c f).drops = s.drops := rfl
@[simp] theorem Gk1.modCore_unreachable (s : Gk1) (c : Nat) (f : Core → Core) : (s.modCore c f).unreachable = s.unreachable := rfl
@[simp] theorem Gk1.modCore_kept (s : Gk1) (c : Nat) (f : Core → Core) : (s.modCore c f).kept = s.kept := rfl
@[simp] theorem Gk1.modCore_routedAt (s : Gk1) (c : Nat) (f : Core → Core) : (s.modCore c f).routedAt = s.routedAt := rfl
@[simp] theorem Gk1.modCore_jobs (s : Gk1) (c : Nat) (f : Core → Core) : (s.modCore c f).jobs = s.jobs := rfl
@[simp] theorem Gk1.modCore_buckets (s : Gk1) (c : Nat) (f : Core → Core) : (s.modCore c f).buckets = s.buckets := rfl
@[simp] theorem Gk1.modCore_snaps (s : Gk1) (c : Nat) (f : Core → Core) : (s.modCore c f).snaps = s.snaps := rfl
@[simp] theorem Gk1.modCore_posted (s : Gk1) (c : Nat) (f : Core → Core) : (s.modCore c f).posted = s.posted := rfl
@[simp] theorem Gk1.modCore_postHeld (s : Gk1) (c : Nat) (f : Core → Core) : (s.modCore c f).postHeld = s.postHeld := rfl

/-! ### setGroup -/

@[simp] theorem Gk1.setGroup_free (s : Gk1) (c g : Nat) (G : Group) : (s.setGroup c g G).free = s.free := rfl
@[simp] theorem Gk1.setGroup_part (s : Gk1) (c g : Nat) (G : Group) : (s.setGroup c g G).part = s.part := rfl
@[simp] theorem Gk1.setGroup_dtime (s : Gk1) (c g : Nat) (G : Group) : (s.setGroup c g G).dtime = s.dtime := rfl
@[simp] theorem Gk1.setGroup_regs (s : Gk1) (c g : Nat) (G : Group) : (s.setGroup c g G).regs = s.regs := rfl
@[simp] theorem Gk1.setGroup_edge (s : Gk1) (c g : Nat) (G : Group) : (s.setGroup c g G).edge = s.edge := rfl
@[simp] theorem Gk1.setGroup_boot (s : Gk1) (c g : Nat) (G : Group) : (s.setGroup c g G).boot = s.boot := rfl
@[simp] theorem Gk1.setGroup_clocks (s : Gk1) (c g : Nat) (G : Group) : (s.setGroup c g G).clocks = s.clocks := rfl
@[simp] theorem Gk1.setGroup_line (s : Gk1) (c g : Nat) (G : Group) : (s.setGroup c g G).line = s.line := rfl
@[simp] theorem Gk1.setGroup_power (s : Gk1) (c g : Nat) (G : Group) : (s.setGroup c g G).power = s.power := rfl
@[simp] theorem Gk1.setGroup_ledger (s : Gk1) (c g : Nat) (G : Group) : (s.setGroup c g G).ledger = s.ledger := rfl
@[simp] theorem Gk1.setGroup_held (s : Gk1) (c g : Nat) (G : Group) : (s.setGroup c g G).held = s.held := rfl
@[simp] theorem Gk1.setGroup_obs (s : Gk1) (c g : Nat) (G : Group) : (s.setGroup c g G).obs = s.obs := rfl
@[simp] theorem Gk1.setGroup_clusters (s : Gk1) (c g : Nat) (G : Group) : (s.setGroup c g G).clusters = s.clusters := rfl
@[simp] theorem Gk1.setGroup_regions (s : Gk1) (c g : Nat) (G : Group) : (s.setGroup c g G).regions = s.regions := rfl
@[simp] theorem Gk1.setGroup_dram (s : Gk1) (c g : Nat) (G : Group) : (s.setGroup c g G).dram = s.dram := rfl
@[simp] theorem Gk1.setGroup_cache (s : Gk1) (c g : Nat) (G : Group) : (s.setGroup c g G).cache = s.cache := rfl
@[simp] theorem Gk1.setGroup_stamp (s : Gk1) (c g : Nat) (G : Group) : (s.setGroup c g G).stamp = s.stamp := rfl
@[simp] theorem Gk1.setGroup_fills (s : Gk1) (c g : Nat) (G : Group) : (s.setGroup c g G).fills = s.fills := rfl
@[simp] theorem Gk1.setGroup_nextId (s : Gk1) (c g : Nat) (G : Group) : (s.setGroup c g G).nextId = s.nextId := rfl
@[simp] theorem Gk1.setGroup_reqs (s : Gk1) (c g : Nat) (G : Group) : (s.setGroup c g G).reqs = s.reqs := rfl
@[simp] theorem Gk1.setGroup_msgs (s : Gk1) (c g : Nat) (G : Group) : (s.setGroup c g G).msgs = s.msgs := rfl
@[simp] theorem Gk1.setGroup_epochs (s : Gk1) (c g : Nat) (G : Group) : (s.setGroup c g G).epochs = s.epochs := rfl
@[simp] theorem Gk1.setGroup_queues (s : Gk1) (c g : Nat) (G : Group) : (s.setGroup c g G).queues = s.queues := rfl
@[simp] theorem Gk1.setGroup_ctxs (s : Gk1) (c g : Nat) (G : Group) : (s.setGroup c g G).ctxs = s.ctxs := rfl
@[simp] theorem Gk1.setGroup_kernels (s : Gk1) (c g : Nat) (G : Group) : (s.setGroup c g G).kernels = s.kernels := rfl
@[simp] theorem Gk1.setGroup_ownerWatches (s : Gk1) (c g : Nat) (G : Group) : (s.setGroup c g G).ownerWatches = s.ownerWatches := rfl
@[simp] theorem Gk1.setGroup_importWatches (s : Gk1) (c g : Nat) (G : Group) : (s.setGroup c g G).importWatches = s.importWatches := rfl
@[simp] theorem Gk1.setGroup_ports (s : Gk1) (c g : Nat) (G : Group) : (s.setGroup c g G).ports = s.ports := rfl
@[simp] theorem Gk1.setGroup_drops (s : Gk1) (c g : Nat) (G : Group) : (s.setGroup c g G).drops = s.drops := rfl
@[simp] theorem Gk1.setGroup_unreachable (s : Gk1) (c g : Nat) (G : Group) : (s.setGroup c g G).unreachable = s.unreachable := rfl
@[simp] theorem Gk1.setGroup_kept (s : Gk1) (c g : Nat) (G : Group) : (s.setGroup c g G).kept = s.kept := rfl
@[simp] theorem Gk1.setGroup_routedAt (s : Gk1) (c g : Nat) (G : Group) : (s.setGroup c g G).routedAt = s.routedAt := rfl
@[simp] theorem Gk1.setGroup_jobs (s : Gk1) (c g : Nat) (G : Group) : (s.setGroup c g G).jobs = s.jobs := rfl
@[simp] theorem Gk1.setGroup_buckets (s : Gk1) (c g : Nat) (G : Group) : (s.setGroup c g G).buckets = s.buckets := rfl
@[simp] theorem Gk1.setGroup_snaps (s : Gk1) (c g : Nat) (G : Group) : (s.setGroup c g G).snaps = s.snaps := rfl
@[simp] theorem Gk1.setGroup_posted (s : Gk1) (c g : Nat) (G : Group) : (s.setGroup c g G).posted = s.posted := rfl
@[simp] theorem Gk1.setGroup_postHeld (s : Gk1) (c g : Nat) (G : Group) : (s.setGroup c g G).postHeld = s.postHeld := rfl

/-! ### modGroup -/

@[simp] theorem Gk1.modGroup_free (s : Gk1) (c g : Nat) (f : Group → Group) : (s.modGroup c g f).free = s.free := rfl
@[simp] theorem Gk1.modGroup_part (s : Gk1) (c g : Nat) (f : Group → Group) : (s.modGroup c g f).part = s.part := rfl
@[simp] theorem Gk1.modGroup_dtime (s : Gk1) (c g : Nat) (f : Group → Group) : (s.modGroup c g f).dtime = s.dtime := rfl
@[simp] theorem Gk1.modGroup_regs (s : Gk1) (c g : Nat) (f : Group → Group) : (s.modGroup c g f).regs = s.regs := rfl
@[simp] theorem Gk1.modGroup_edge (s : Gk1) (c g : Nat) (f : Group → Group) : (s.modGroup c g f).edge = s.edge := rfl
@[simp] theorem Gk1.modGroup_boot (s : Gk1) (c g : Nat) (f : Group → Group) : (s.modGroup c g f).boot = s.boot := rfl
@[simp] theorem Gk1.modGroup_clocks (s : Gk1) (c g : Nat) (f : Group → Group) : (s.modGroup c g f).clocks = s.clocks := rfl
@[simp] theorem Gk1.modGroup_line (s : Gk1) (c g : Nat) (f : Group → Group) : (s.modGroup c g f).line = s.line := rfl
@[simp] theorem Gk1.modGroup_power (s : Gk1) (c g : Nat) (f : Group → Group) : (s.modGroup c g f).power = s.power := rfl
@[simp] theorem Gk1.modGroup_ledger (s : Gk1) (c g : Nat) (f : Group → Group) : (s.modGroup c g f).ledger = s.ledger := rfl
@[simp] theorem Gk1.modGroup_held (s : Gk1) (c g : Nat) (f : Group → Group) : (s.modGroup c g f).held = s.held := rfl
@[simp] theorem Gk1.modGroup_obs (s : Gk1) (c g : Nat) (f : Group → Group) : (s.modGroup c g f).obs = s.obs := rfl
@[simp] theorem Gk1.modGroup_clusters (s : Gk1) (c g : Nat) (f : Group → Group) : (s.modGroup c g f).clusters = s.clusters := rfl
@[simp] theorem Gk1.modGroup_regions (s : Gk1) (c g : Nat) (f : Group → Group) : (s.modGroup c g f).regions = s.regions := rfl
@[simp] theorem Gk1.modGroup_dram (s : Gk1) (c g : Nat) (f : Group → Group) : (s.modGroup c g f).dram = s.dram := rfl
@[simp] theorem Gk1.modGroup_cache (s : Gk1) (c g : Nat) (f : Group → Group) : (s.modGroup c g f).cache = s.cache := rfl
@[simp] theorem Gk1.modGroup_stamp (s : Gk1) (c g : Nat) (f : Group → Group) : (s.modGroup c g f).stamp = s.stamp := rfl
@[simp] theorem Gk1.modGroup_fills (s : Gk1) (c g : Nat) (f : Group → Group) : (s.modGroup c g f).fills = s.fills := rfl
@[simp] theorem Gk1.modGroup_nextId (s : Gk1) (c g : Nat) (f : Group → Group) : (s.modGroup c g f).nextId = s.nextId := rfl
@[simp] theorem Gk1.modGroup_reqs (s : Gk1) (c g : Nat) (f : Group → Group) : (s.modGroup c g f).reqs = s.reqs := rfl
@[simp] theorem Gk1.modGroup_msgs (s : Gk1) (c g : Nat) (f : Group → Group) : (s.modGroup c g f).msgs = s.msgs := rfl
@[simp] theorem Gk1.modGroup_epochs (s : Gk1) (c g : Nat) (f : Group → Group) : (s.modGroup c g f).epochs = s.epochs := rfl
@[simp] theorem Gk1.modGroup_queues (s : Gk1) (c g : Nat) (f : Group → Group) : (s.modGroup c g f).queues = s.queues := rfl
@[simp] theorem Gk1.modGroup_ctxs (s : Gk1) (c g : Nat) (f : Group → Group) : (s.modGroup c g f).ctxs = s.ctxs := rfl
@[simp] theorem Gk1.modGroup_kernels (s : Gk1) (c g : Nat) (f : Group → Group) : (s.modGroup c g f).kernels = s.kernels := rfl
@[simp] theorem Gk1.modGroup_ownerWatches (s : Gk1) (c g : Nat) (f : Group → Group) : (s.modGroup c g f).ownerWatches = s.ownerWatches := rfl
@[simp] theorem Gk1.modGroup_importWatches (s : Gk1) (c g : Nat) (f : Group → Group) : (s.modGroup c g f).importWatches = s.importWatches := rfl
@[simp] theorem Gk1.modGroup_ports (s : Gk1) (c g : Nat) (f : Group → Group) : (s.modGroup c g f).ports = s.ports := rfl
@[simp] theorem Gk1.modGroup_drops (s : Gk1) (c g : Nat) (f : Group → Group) : (s.modGroup c g f).drops = s.drops := rfl
@[simp] theorem Gk1.modGroup_unreachable (s : Gk1) (c g : Nat) (f : Group → Group) : (s.modGroup c g f).unreachable = s.unreachable := rfl
@[simp] theorem Gk1.modGroup_kept (s : Gk1) (c g : Nat) (f : Group → Group) : (s.modGroup c g f).kept = s.kept := rfl
@[simp] theorem Gk1.modGroup_routedAt (s : Gk1) (c g : Nat) (f : Group → Group) : (s.modGroup c g f).routedAt = s.routedAt := rfl
@[simp] theorem Gk1.modGroup_jobs (s : Gk1) (c g : Nat) (f : Group → Group) : (s.modGroup c g f).jobs = s.jobs := rfl
@[simp] theorem Gk1.modGroup_buckets (s : Gk1) (c g : Nat) (f : Group → Group) : (s.modGroup c g f).buckets = s.buckets := rfl
@[simp] theorem Gk1.modGroup_snaps (s : Gk1) (c g : Nat) (f : Group → Group) : (s.modGroup c g f).snaps = s.snaps := rfl
@[simp] theorem Gk1.modGroup_posted (s : Gk1) (c g : Nat) (f : Group → Group) : (s.modGroup c g f).posted = s.posted := rfl
@[simp] theorem Gk1.modGroup_postHeld (s : Gk1) (c g : Nat) (f : Group → Group) : (s.modGroup c g f).postHeld = s.postHeld := rfl

/-! ### passPc -/

@[simp] theorem Gk1.passPc_free (s : Gk1) (c g pc : Nat) : (s.passPc c g pc).free = s.free := rfl
@[simp] theorem Gk1.passPc_part (s : Gk1) (c g pc : Nat) : (s.passPc c g pc).part = s.part := rfl
@[simp] theorem Gk1.passPc_dtime (s : Gk1) (c g pc : Nat) : (s.passPc c g pc).dtime = s.dtime := rfl
@[simp] theorem Gk1.passPc_regs (s : Gk1) (c g pc : Nat) : (s.passPc c g pc).regs = s.regs := rfl
@[simp] theorem Gk1.passPc_edge (s : Gk1) (c g pc : Nat) : (s.passPc c g pc).edge = s.edge := rfl
@[simp] theorem Gk1.passPc_boot (s : Gk1) (c g pc : Nat) : (s.passPc c g pc).boot = s.boot := rfl
@[simp] theorem Gk1.passPc_clocks (s : Gk1) (c g pc : Nat) : (s.passPc c g pc).clocks = s.clocks := rfl
@[simp] theorem Gk1.passPc_line (s : Gk1) (c g pc : Nat) : (s.passPc c g pc).line = s.line := rfl
@[simp] theorem Gk1.passPc_power (s : Gk1) (c g pc : Nat) : (s.passPc c g pc).power = s.power := rfl
@[simp] theorem Gk1.passPc_ledger (s : Gk1) (c g pc : Nat) : (s.passPc c g pc).ledger = s.ledger := rfl
@[simp] theorem Gk1.passPc_held (s : Gk1) (c g pc : Nat) : (s.passPc c g pc).held = s.held := rfl
@[simp] theorem Gk1.passPc_obs (s : Gk1) (c g pc : Nat) : (s.passPc c g pc).obs = s.obs := rfl
@[simp] theorem Gk1.passPc_clusters (s : Gk1) (c g pc : Nat) : (s.passPc c g pc).clusters = s.clusters := rfl
@[simp] theorem Gk1.passPc_regions (s : Gk1) (c g pc : Nat) : (s.passPc c g pc).regions = s.regions := rfl
@[simp] theorem Gk1.passPc_dram (s : Gk1) (c g pc : Nat) : (s.passPc c g pc).dram = s.dram := rfl
@[simp] theorem Gk1.passPc_cache (s : Gk1) (c g pc : Nat) : (s.passPc c g pc).cache = s.cache := rfl
@[simp] theorem Gk1.passPc_stamp (s : Gk1) (c g pc : Nat) : (s.passPc c g pc).stamp = s.stamp := rfl
@[simp] theorem Gk1.passPc_fills (s : Gk1) (c g pc : Nat) : (s.passPc c g pc).fills = s.fills := rfl
@[simp] theorem Gk1.passPc_nextId (s : Gk1) (c g pc : Nat) : (s.passPc c g pc).nextId = s.nextId := rfl
@[simp] theorem Gk1.passPc_reqs (s : Gk1) (c g pc : Nat) : (s.passPc c g pc).reqs = s.reqs := rfl
@[simp] theorem Gk1.passPc_msgs (s : Gk1) (c g pc : Nat) : (s.passPc c g pc).msgs = s.msgs := rfl
@[simp] theorem Gk1.passPc_epochs (s : Gk1) (c g pc : Nat) : (s.passPc c g pc).epochs = s.epochs := rfl
@[simp] theorem Gk1.passPc_queues (s : Gk1) (c g pc : Nat) : (s.passPc c g pc).queues = s.queues := rfl
@[simp] theorem Gk1.passPc_ctxs (s : Gk1) (c g pc : Nat) : (s.passPc c g pc).ctxs = s.ctxs := rfl
@[simp] theorem Gk1.passPc_kernels (s : Gk1) (c g pc : Nat) : (s.passPc c g pc).kernels = s.kernels := rfl
@[simp] theorem Gk1.passPc_ownerWatches (s : Gk1) (c g pc : Nat) : (s.passPc c g pc).ownerWatches = s.ownerWatches := rfl
@[simp] theorem Gk1.passPc_importWatches (s : Gk1) (c g pc : Nat) : (s.passPc c g pc).importWatches = s.importWatches := rfl
@[simp] theorem Gk1.passPc_ports (s : Gk1) (c g pc : Nat) : (s.passPc c g pc).ports = s.ports := rfl
@[simp] theorem Gk1.passPc_drops (s : Gk1) (c g pc : Nat) : (s.passPc c g pc).drops = s.drops := rfl
@[simp] theorem Gk1.passPc_unreachable (s : Gk1) (c g pc : Nat) : (s.passPc c g pc).unreachable = s.unreachable := rfl
@[simp] theorem Gk1.passPc_kept (s : Gk1) (c g pc : Nat) : (s.passPc c g pc).kept = s.kept := rfl
@[simp] theorem Gk1.passPc_routedAt (s : Gk1) (c g pc : Nat) : (s.passPc c g pc).routedAt = s.routedAt := rfl
@[simp] theorem Gk1.passPc_jobs (s : Gk1) (c g pc : Nat) : (s.passPc c g pc).jobs = s.jobs := rfl
@[simp] theorem Gk1.passPc_buckets (s : Gk1) (c g pc : Nat) : (s.passPc c g pc).buckets = s.buckets := rfl
@[simp] theorem Gk1.passPc_snaps (s : Gk1) (c g pc : Nat) : (s.passPc c g pc).snaps = s.snaps := rfl
@[simp] theorem Gk1.passPc_posted (s : Gk1) (c g pc : Nat) : (s.passPc c g pc).posted = s.posted := rfl
@[simp] theorem Gk1.passPc_postHeld (s : Gk1) (c g pc : Nat) : (s.passPc c g pc).postHeld = s.postHeld := rfl

/-! ### modCluster -/

@[simp] theorem Gk1.modCluster_free (s : Gk1) (n : Nat) (f : Cluster → Cluster) : (s.modCluster n f).free = s.free := rfl
@[simp] theorem Gk1.modCluster_part (s : Gk1) (n : Nat) (f : Cluster → Cluster) : (s.modCluster n f).part = s.part := rfl
@[simp] theorem Gk1.modCluster_dtime (s : Gk1) (n : Nat) (f : Cluster → Cluster) : (s.modCluster n f).dtime = s.dtime := rfl
@[simp] theorem Gk1.modCluster_regs (s : Gk1) (n : Nat) (f : Cluster → Cluster) : (s.modCluster n f).regs = s.regs := rfl
@[simp] theorem Gk1.modCluster_edge (s : Gk1) (n : Nat) (f : Cluster → Cluster) : (s.modCluster n f).edge = s.edge := rfl
@[simp] theorem Gk1.modCluster_boot (s : Gk1) (n : Nat) (f : Cluster → Cluster) : (s.modCluster n f).boot = s.boot := rfl
@[simp] theorem Gk1.modCluster_clocks (s : Gk1) (n : Nat) (f : Cluster → Cluster) : (s.modCluster n f).clocks = s.clocks := rfl
@[simp] theorem Gk1.modCluster_line (s : Gk1) (n : Nat) (f : Cluster → Cluster) : (s.modCluster n f).line = s.line := rfl
@[simp] theorem Gk1.modCluster_power (s : Gk1) (n : Nat) (f : Cluster → Cluster) : (s.modCluster n f).power = s.power := rfl
@[simp] theorem Gk1.modCluster_ledger (s : Gk1) (n : Nat) (f : Cluster → Cluster) : (s.modCluster n f).ledger = s.ledger := rfl
@[simp] theorem Gk1.modCluster_held (s : Gk1) (n : Nat) (f : Cluster → Cluster) : (s.modCluster n f).held = s.held := rfl
@[simp] theorem Gk1.modCluster_obs (s : Gk1) (n : Nat) (f : Cluster → Cluster) : (s.modCluster n f).obs = s.obs := rfl
@[simp] theorem Gk1.modCluster_cores (s : Gk1) (n : Nat) (f : Cluster → Cluster) : (s.modCluster n f).cores = s.cores := rfl
@[simp] theorem Gk1.modCluster_regions (s : Gk1) (n : Nat) (f : Cluster → Cluster) : (s.modCluster n f).regions = s.regions := rfl
@[simp] theorem Gk1.modCluster_dram (s : Gk1) (n : Nat) (f : Cluster → Cluster) : (s.modCluster n f).dram = s.dram := rfl
@[simp] theorem Gk1.modCluster_cache (s : Gk1) (n : Nat) (f : Cluster → Cluster) : (s.modCluster n f).cache = s.cache := rfl
@[simp] theorem Gk1.modCluster_stamp (s : Gk1) (n : Nat) (f : Cluster → Cluster) : (s.modCluster n f).stamp = s.stamp := rfl
@[simp] theorem Gk1.modCluster_fills (s : Gk1) (n : Nat) (f : Cluster → Cluster) : (s.modCluster n f).fills = s.fills := rfl
@[simp] theorem Gk1.modCluster_nextId (s : Gk1) (n : Nat) (f : Cluster → Cluster) : (s.modCluster n f).nextId = s.nextId := rfl
@[simp] theorem Gk1.modCluster_reqs (s : Gk1) (n : Nat) (f : Cluster → Cluster) : (s.modCluster n f).reqs = s.reqs := rfl
@[simp] theorem Gk1.modCluster_msgs (s : Gk1) (n : Nat) (f : Cluster → Cluster) : (s.modCluster n f).msgs = s.msgs := rfl
@[simp] theorem Gk1.modCluster_epochs (s : Gk1) (n : Nat) (f : Cluster → Cluster) : (s.modCluster n f).epochs = s.epochs := rfl
@[simp] theorem Gk1.modCluster_queues (s : Gk1) (n : Nat) (f : Cluster → Cluster) : (s.modCluster n f).queues = s.queues := rfl
@[simp] theorem Gk1.modCluster_ctxs (s : Gk1) (n : Nat) (f : Cluster → Cluster) : (s.modCluster n f).ctxs = s.ctxs := rfl
@[simp] theorem Gk1.modCluster_kernels (s : Gk1) (n : Nat) (f : Cluster → Cluster) : (s.modCluster n f).kernels = s.kernels := rfl
@[simp] theorem Gk1.modCluster_ownerWatches (s : Gk1) (n : Nat) (f : Cluster → Cluster) : (s.modCluster n f).ownerWatches = s.ownerWatches := rfl
@[simp] theorem Gk1.modCluster_importWatches (s : Gk1) (n : Nat) (f : Cluster → Cluster) : (s.modCluster n f).importWatches = s.importWatches := rfl
@[simp] theorem Gk1.modCluster_ports (s : Gk1) (n : Nat) (f : Cluster → Cluster) : (s.modCluster n f).ports = s.ports := rfl
@[simp] theorem Gk1.modCluster_drops (s : Gk1) (n : Nat) (f : Cluster → Cluster) : (s.modCluster n f).drops = s.drops := rfl
@[simp] theorem Gk1.modCluster_unreachable (s : Gk1) (n : Nat) (f : Cluster → Cluster) : (s.modCluster n f).unreachable = s.unreachable := rfl
@[simp] theorem Gk1.modCluster_kept (s : Gk1) (n : Nat) (f : Cluster → Cluster) : (s.modCluster n f).kept = s.kept := rfl
@[simp] theorem Gk1.modCluster_routedAt (s : Gk1) (n : Nat) (f : Cluster → Cluster) : (s.modCluster n f).routedAt = s.routedAt := rfl
@[simp] theorem Gk1.modCluster_jobs (s : Gk1) (n : Nat) (f : Cluster → Cluster) : (s.modCluster n f).jobs = s.jobs := rfl
@[simp] theorem Gk1.modCluster_buckets (s : Gk1) (n : Nat) (f : Cluster → Cluster) : (s.modCluster n f).buckets = s.buckets := rfl
@[simp] theorem Gk1.modCluster_snaps (s : Gk1) (n : Nat) (f : Cluster → Cluster) : (s.modCluster n f).snaps = s.snaps := rfl
@[simp] theorem Gk1.modCluster_posted (s : Gk1) (n : Nat) (f : Cluster → Cluster) : (s.modCluster n f).posted = s.posted := rfl
@[simp] theorem Gk1.modCluster_postHeld (s : Gk1) (n : Nat) (f : Cluster → Cluster) : (s.modCluster n f).postHeld = s.postHeld := rfl

/-! ### modRegion -/

@[simp] theorem Gk1.modRegion_free (s : Gk1) (r : Nat) (f : Region → Region) : (s.modRegion r f).free = s.free := rfl
@[simp] theorem Gk1.modRegion_part (s : Gk1) (r : Nat) (f : Region → Region) : (s.modRegion r f).part = s.part := rfl
@[simp] theorem Gk1.modRegion_dtime (s : Gk1) (r : Nat) (f : Region → Region) : (s.modRegion r f).dtime = s.dtime := rfl
@[simp] theorem Gk1.modRegion_regs (s : Gk1) (r : Nat) (f : Region → Region) : (s.modRegion r f).regs = s.regs := rfl
@[simp] theorem Gk1.modRegion_edge (s : Gk1) (r : Nat) (f : Region → Region) : (s.modRegion r f).edge = s.edge := rfl
@[simp] theorem Gk1.modRegion_boot (s : Gk1) (r : Nat) (f : Region → Region) : (s.modRegion r f).boot = s.boot := rfl
@[simp] theorem Gk1.modRegion_clocks (s : Gk1) (r : Nat) (f : Region → Region) : (s.modRegion r f).clocks = s.clocks := rfl
@[simp] theorem Gk1.modRegion_line (s : Gk1) (r : Nat) (f : Region → Region) : (s.modRegion r f).line = s.line := rfl
@[simp] theorem Gk1.modRegion_power (s : Gk1) (r : Nat) (f : Region → Region) : (s.modRegion r f).power = s.power := rfl
@[simp] theorem Gk1.modRegion_ledger (s : Gk1) (r : Nat) (f : Region → Region) : (s.modRegion r f).ledger = s.ledger := rfl
@[simp] theorem Gk1.modRegion_held (s : Gk1) (r : Nat) (f : Region → Region) : (s.modRegion r f).held = s.held := rfl
@[simp] theorem Gk1.modRegion_obs (s : Gk1) (r : Nat) (f : Region → Region) : (s.modRegion r f).obs = s.obs := rfl
@[simp] theorem Gk1.modRegion_cores (s : Gk1) (r : Nat) (f : Region → Region) : (s.modRegion r f).cores = s.cores := rfl
@[simp] theorem Gk1.modRegion_clusters (s : Gk1) (r : Nat) (f : Region → Region) : (s.modRegion r f).clusters = s.clusters := rfl
@[simp] theorem Gk1.modRegion_dram (s : Gk1) (r : Nat) (f : Region → Region) : (s.modRegion r f).dram = s.dram := rfl
@[simp] theorem Gk1.modRegion_cache (s : Gk1) (r : Nat) (f : Region → Region) : (s.modRegion r f).cache = s.cache := rfl
@[simp] theorem Gk1.modRegion_stamp (s : Gk1) (r : Nat) (f : Region → Region) : (s.modRegion r f).stamp = s.stamp := rfl
@[simp] theorem Gk1.modRegion_fills (s : Gk1) (r : Nat) (f : Region → Region) : (s.modRegion r f).fills = s.fills := rfl
@[simp] theorem Gk1.modRegion_nextId (s : Gk1) (r : Nat) (f : Region → Region) : (s.modRegion r f).nextId = s.nextId := rfl
@[simp] theorem Gk1.modRegion_reqs (s : Gk1) (r : Nat) (f : Region → Region) : (s.modRegion r f).reqs = s.reqs := rfl
@[simp] theorem Gk1.modRegion_msgs (s : Gk1) (r : Nat) (f : Region → Region) : (s.modRegion r f).msgs = s.msgs := rfl
@[simp] theorem Gk1.modRegion_epochs (s : Gk1) (r : Nat) (f : Region → Region) : (s.modRegion r f).epochs = s.epochs := rfl
@[simp] theorem Gk1.modRegion_queues (s : Gk1) (r : Nat) (f : Region → Region) : (s.modRegion r f).queues = s.queues := rfl
@[simp] theorem Gk1.modRegion_ctxs (s : Gk1) (r : Nat) (f : Region → Region) : (s.modRegion r f).ctxs = s.ctxs := rfl
@[simp] theorem Gk1.modRegion_kernels (s : Gk1) (r : Nat) (f : Region → Region) : (s.modRegion r f).kernels = s.kernels := rfl
@[simp] theorem Gk1.modRegion_ownerWatches (s : Gk1) (r : Nat) (f : Region → Region) : (s.modRegion r f).ownerWatches = s.ownerWatches := rfl
@[simp] theorem Gk1.modRegion_importWatches (s : Gk1) (r : Nat) (f : Region → Region) : (s.modRegion r f).importWatches = s.importWatches := rfl
@[simp] theorem Gk1.modRegion_ports (s : Gk1) (r : Nat) (f : Region → Region) : (s.modRegion r f).ports = s.ports := rfl
@[simp] theorem Gk1.modRegion_drops (s : Gk1) (r : Nat) (f : Region → Region) : (s.modRegion r f).drops = s.drops := rfl
@[simp] theorem Gk1.modRegion_unreachable (s : Gk1) (r : Nat) (f : Region → Region) : (s.modRegion r f).unreachable = s.unreachable := rfl
@[simp] theorem Gk1.modRegion_kept (s : Gk1) (r : Nat) (f : Region → Region) : (s.modRegion r f).kept = s.kept := rfl
@[simp] theorem Gk1.modRegion_routedAt (s : Gk1) (r : Nat) (f : Region → Region) : (s.modRegion r f).routedAt = s.routedAt := rfl
@[simp] theorem Gk1.modRegion_jobs (s : Gk1) (r : Nat) (f : Region → Region) : (s.modRegion r f).jobs = s.jobs := rfl
@[simp] theorem Gk1.modRegion_buckets (s : Gk1) (r : Nat) (f : Region → Region) : (s.modRegion r f).buckets = s.buckets := rfl
@[simp] theorem Gk1.modRegion_snaps (s : Gk1) (r : Nat) (f : Region → Region) : (s.modRegion r f).snaps = s.snaps := rfl
@[simp] theorem Gk1.modRegion_posted (s : Gk1) (r : Nat) (f : Region → Region) : (s.modRegion r f).posted = s.posted := rfl
@[simp] theorem Gk1.modRegion_postHeld (s : Gk1) (r : Nat) (f : Region → Region) : (s.modRegion r f).postHeld = s.postHeld := rfl

/-! ### modQueue -/

@[simp] theorem Gk1.modQueue_free (s : Gk1) (q : Nat) (f : Queue → Queue) : (s.modQueue q f).free = s.free := rfl
@[simp] theorem Gk1.modQueue_part (s : Gk1) (q : Nat) (f : Queue → Queue) : (s.modQueue q f).part = s.part := rfl
@[simp] theorem Gk1.modQueue_dtime (s : Gk1) (q : Nat) (f : Queue → Queue) : (s.modQueue q f).dtime = s.dtime := rfl
@[simp] theorem Gk1.modQueue_regs (s : Gk1) (q : Nat) (f : Queue → Queue) : (s.modQueue q f).regs = s.regs := rfl
@[simp] theorem Gk1.modQueue_edge (s : Gk1) (q : Nat) (f : Queue → Queue) : (s.modQueue q f).edge = s.edge := rfl
@[simp] theorem Gk1.modQueue_boot (s : Gk1) (q : Nat) (f : Queue → Queue) : (s.modQueue q f).boot = s.boot := rfl
@[simp] theorem Gk1.modQueue_clocks (s : Gk1) (q : Nat) (f : Queue → Queue) : (s.modQueue q f).clocks = s.clocks := rfl
@[simp] theorem Gk1.modQueue_line (s : Gk1) (q : Nat) (f : Queue → Queue) : (s.modQueue q f).line = s.line := rfl
@[simp] theorem Gk1.modQueue_power (s : Gk1) (q : Nat) (f : Queue → Queue) : (s.modQueue q f).power = s.power := rfl
@[simp] theorem Gk1.modQueue_ledger (s : Gk1) (q : Nat) (f : Queue → Queue) : (s.modQueue q f).ledger = s.ledger := rfl
@[simp] theorem Gk1.modQueue_held (s : Gk1) (q : Nat) (f : Queue → Queue) : (s.modQueue q f).held = s.held := rfl
@[simp] theorem Gk1.modQueue_obs (s : Gk1) (q : Nat) (f : Queue → Queue) : (s.modQueue q f).obs = s.obs := rfl
@[simp] theorem Gk1.modQueue_cores (s : Gk1) (q : Nat) (f : Queue → Queue) : (s.modQueue q f).cores = s.cores := rfl
@[simp] theorem Gk1.modQueue_clusters (s : Gk1) (q : Nat) (f : Queue → Queue) : (s.modQueue q f).clusters = s.clusters := rfl
@[simp] theorem Gk1.modQueue_regions (s : Gk1) (q : Nat) (f : Queue → Queue) : (s.modQueue q f).regions = s.regions := rfl
@[simp] theorem Gk1.modQueue_dram (s : Gk1) (q : Nat) (f : Queue → Queue) : (s.modQueue q f).dram = s.dram := rfl
@[simp] theorem Gk1.modQueue_cache (s : Gk1) (q : Nat) (f : Queue → Queue) : (s.modQueue q f).cache = s.cache := rfl
@[simp] theorem Gk1.modQueue_stamp (s : Gk1) (q : Nat) (f : Queue → Queue) : (s.modQueue q f).stamp = s.stamp := rfl
@[simp] theorem Gk1.modQueue_fills (s : Gk1) (q : Nat) (f : Queue → Queue) : (s.modQueue q f).fills = s.fills := rfl
@[simp] theorem Gk1.modQueue_nextId (s : Gk1) (q : Nat) (f : Queue → Queue) : (s.modQueue q f).nextId = s.nextId := rfl
@[simp] theorem Gk1.modQueue_reqs (s : Gk1) (q : Nat) (f : Queue → Queue) : (s.modQueue q f).reqs = s.reqs := rfl
@[simp] theorem Gk1.modQueue_msgs (s : Gk1) (q : Nat) (f : Queue → Queue) : (s.modQueue q f).msgs = s.msgs := rfl
@[simp] theorem Gk1.modQueue_epochs (s : Gk1) (q : Nat) (f : Queue → Queue) : (s.modQueue q f).epochs = s.epochs := rfl
@[simp] theorem Gk1.modQueue_ctxs (s : Gk1) (q : Nat) (f : Queue → Queue) : (s.modQueue q f).ctxs = s.ctxs := rfl
@[simp] theorem Gk1.modQueue_kernels (s : Gk1) (q : Nat) (f : Queue → Queue) : (s.modQueue q f).kernels = s.kernels := rfl
@[simp] theorem Gk1.modQueue_ownerWatches (s : Gk1) (q : Nat) (f : Queue → Queue) : (s.modQueue q f).ownerWatches = s.ownerWatches := rfl
@[simp] theorem Gk1.modQueue_importWatches (s : Gk1) (q : Nat) (f : Queue → Queue) : (s.modQueue q f).importWatches = s.importWatches := rfl
@[simp] theorem Gk1.modQueue_ports (s : Gk1) (q : Nat) (f : Queue → Queue) : (s.modQueue q f).ports = s.ports := rfl
@[simp] theorem Gk1.modQueue_drops (s : Gk1) (q : Nat) (f : Queue → Queue) : (s.modQueue q f).drops = s.drops := rfl
@[simp] theorem Gk1.modQueue_unreachable (s : Gk1) (q : Nat) (f : Queue → Queue) : (s.modQueue q f).unreachable = s.unreachable := rfl
@[simp] theorem Gk1.modQueue_kept (s : Gk1) (q : Nat) (f : Queue → Queue) : (s.modQueue q f).kept = s.kept := rfl
@[simp] theorem Gk1.modQueue_routedAt (s : Gk1) (q : Nat) (f : Queue → Queue) : (s.modQueue q f).routedAt = s.routedAt := rfl
@[simp] theorem Gk1.modQueue_jobs (s : Gk1) (q : Nat) (f : Queue → Queue) : (s.modQueue q f).jobs = s.jobs := rfl
@[simp] theorem Gk1.modQueue_buckets (s : Gk1) (q : Nat) (f : Queue → Queue) : (s.modQueue q f).buckets = s.buckets := rfl
@[simp] theorem Gk1.modQueue_snaps (s : Gk1) (q : Nat) (f : Queue → Queue) : (s.modQueue q f).snaps = s.snaps := rfl
@[simp] theorem Gk1.modQueue_posted (s : Gk1) (q : Nat) (f : Queue → Queue) : (s.modQueue q f).posted = s.posted := rfl
@[simp] theorem Gk1.modQueue_postHeld (s : Gk1) (q : Nat) (f : Queue → Queue) : (s.modQueue q f).postHeld = s.postHeld := rfl

/-! ### modCtx -/

@[simp] theorem Gk1.modCtx_free (s : Gk1) (c : Nat) (f : Ctx → Ctx) : (s.modCtx c f).free = s.free := rfl
@[simp] theorem Gk1.modCtx_part (s : Gk1) (c : Nat) (f : Ctx → Ctx) : (s.modCtx c f).part = s.part := rfl
@[simp] theorem Gk1.modCtx_dtime (s : Gk1) (c : Nat) (f : Ctx → Ctx) : (s.modCtx c f).dtime = s.dtime := rfl
@[simp] theorem Gk1.modCtx_regs (s : Gk1) (c : Nat) (f : Ctx → Ctx) : (s.modCtx c f).regs = s.regs := rfl
@[simp] theorem Gk1.modCtx_edge (s : Gk1) (c : Nat) (f : Ctx → Ctx) : (s.modCtx c f).edge = s.edge := rfl
@[simp] theorem Gk1.modCtx_boot (s : Gk1) (c : Nat) (f : Ctx → Ctx) : (s.modCtx c f).boot = s.boot := rfl
@[simp] theorem Gk1.modCtx_clocks (s : Gk1) (c : Nat) (f : Ctx → Ctx) : (s.modCtx c f).clocks = s.clocks := rfl
@[simp] theorem Gk1.modCtx_line (s : Gk1) (c : Nat) (f : Ctx → Ctx) : (s.modCtx c f).line = s.line := rfl
@[simp] theorem Gk1.modCtx_power (s : Gk1) (c : Nat) (f : Ctx → Ctx) : (s.modCtx c f).power = s.power := rfl
@[simp] theorem Gk1.modCtx_ledger (s : Gk1) (c : Nat) (f : Ctx → Ctx) : (s.modCtx c f).ledger = s.ledger := rfl
@[simp] theorem Gk1.modCtx_held (s : Gk1) (c : Nat) (f : Ctx → Ctx) : (s.modCtx c f).held = s.held := rfl
@[simp] theorem Gk1.modCtx_obs (s : Gk1) (c : Nat) (f : Ctx → Ctx) : (s.modCtx c f).obs = s.obs := rfl
@[simp] theorem Gk1.modCtx_cores (s : Gk1) (c : Nat) (f : Ctx → Ctx) : (s.modCtx c f).cores = s.cores := rfl
@[simp] theorem Gk1.modCtx_clusters (s : Gk1) (c : Nat) (f : Ctx → Ctx) : (s.modCtx c f).clusters = s.clusters := rfl
@[simp] theorem Gk1.modCtx_regions (s : Gk1) (c : Nat) (f : Ctx → Ctx) : (s.modCtx c f).regions = s.regions := rfl
@[simp] theorem Gk1.modCtx_dram (s : Gk1) (c : Nat) (f : Ctx → Ctx) : (s.modCtx c f).dram = s.dram := rfl
@[simp] theorem Gk1.modCtx_cache (s : Gk1) (c : Nat) (f : Ctx → Ctx) : (s.modCtx c f).cache = s.cache := rfl
@[simp] theorem Gk1.modCtx_stamp (s : Gk1) (c : Nat) (f : Ctx → Ctx) : (s.modCtx c f).stamp = s.stamp := rfl
@[simp] theorem Gk1.modCtx_fills (s : Gk1) (c : Nat) (f : Ctx → Ctx) : (s.modCtx c f).fills = s.fills := rfl
@[simp] theorem Gk1.modCtx_nextId (s : Gk1) (c : Nat) (f : Ctx → Ctx) : (s.modCtx c f).nextId = s.nextId := rfl
@[simp] theorem Gk1.modCtx_reqs (s : Gk1) (c : Nat) (f : Ctx → Ctx) : (s.modCtx c f).reqs = s.reqs := rfl
@[simp] theorem Gk1.modCtx_msgs (s : Gk1) (c : Nat) (f : Ctx → Ctx) : (s.modCtx c f).msgs = s.msgs := rfl
@[simp] theorem Gk1.modCtx_epochs (s : Gk1) (c : Nat) (f : Ctx → Ctx) : (s.modCtx c f).epochs = s.epochs := rfl
@[simp] theorem Gk1.modCtx_queues (s : Gk1) (c : Nat) (f : Ctx → Ctx) : (s.modCtx c f).queues = s.queues := rfl
@[simp] theorem Gk1.modCtx_kernels (s : Gk1) (c : Nat) (f : Ctx → Ctx) : (s.modCtx c f).kernels = s.kernels := rfl
@[simp] theorem Gk1.modCtx_ownerWatches (s : Gk1) (c : Nat) (f : Ctx → Ctx) : (s.modCtx c f).ownerWatches = s.ownerWatches := rfl
@[simp] theorem Gk1.modCtx_importWatches (s : Gk1) (c : Nat) (f : Ctx → Ctx) : (s.modCtx c f).importWatches = s.importWatches := rfl
@[simp] theorem Gk1.modCtx_ports (s : Gk1) (c : Nat) (f : Ctx → Ctx) : (s.modCtx c f).ports = s.ports := rfl
@[simp] theorem Gk1.modCtx_drops (s : Gk1) (c : Nat) (f : Ctx → Ctx) : (s.modCtx c f).drops = s.drops := rfl
@[simp] theorem Gk1.modCtx_unreachable (s : Gk1) (c : Nat) (f : Ctx → Ctx) : (s.modCtx c f).unreachable = s.unreachable := rfl
@[simp] theorem Gk1.modCtx_kept (s : Gk1) (c : Nat) (f : Ctx → Ctx) : (s.modCtx c f).kept = s.kept := rfl
@[simp] theorem Gk1.modCtx_routedAt (s : Gk1) (c : Nat) (f : Ctx → Ctx) : (s.modCtx c f).routedAt = s.routedAt := rfl
@[simp] theorem Gk1.modCtx_jobs (s : Gk1) (c : Nat) (f : Ctx → Ctx) : (s.modCtx c f).jobs = s.jobs := rfl
@[simp] theorem Gk1.modCtx_buckets (s : Gk1) (c : Nat) (f : Ctx → Ctx) : (s.modCtx c f).buckets = s.buckets := rfl
@[simp] theorem Gk1.modCtx_snaps (s : Gk1) (c : Nat) (f : Ctx → Ctx) : (s.modCtx c f).snaps = s.snaps := rfl
@[simp] theorem Gk1.modCtx_posted (s : Gk1) (c : Nat) (f : Ctx → Ctx) : (s.modCtx c f).posted = s.posted := rfl
@[simp] theorem Gk1.modCtx_postHeld (s : Gk1) (c : Nat) (f : Ctx → Ctx) : (s.modCtx c f).postHeld = s.postHeld := rfl

/-! ### modKernel -/

@[simp] theorem Gk1.modKernel_free (s : Gk1) (k : Nat) (f : Kernel → Kernel) : (s.modKernel k f).free = s.free := rfl
@[simp] theorem Gk1.modKernel_part (s : Gk1) (k : Nat) (f : Kernel → Kernel) : (s.modKernel k f).part = s.part := rfl
@[simp] theorem Gk1.modKernel_dtime (s : Gk1) (k : Nat) (f : Kernel → Kernel) : (s.modKernel k f).dtime = s.dtime := rfl
@[simp] theorem Gk1.modKernel_regs (s : Gk1) (k : Nat) (f : Kernel → Kernel) : (s.modKernel k f).regs = s.regs := rfl
@[simp] theorem Gk1.modKernel_edge (s : Gk1) (k : Nat) (f : Kernel → Kernel) : (s.modKernel k f).edge = s.edge := rfl
@[simp] theorem Gk1.modKernel_boot (s : Gk1) (k : Nat) (f : Kernel → Kernel) : (s.modKernel k f).boot = s.boot := rfl
@[simp] theorem Gk1.modKernel_clocks (s : Gk1) (k : Nat) (f : Kernel → Kernel) : (s.modKernel k f).clocks = s.clocks := rfl
@[simp] theorem Gk1.modKernel_line (s : Gk1) (k : Nat) (f : Kernel → Kernel) : (s.modKernel k f).line = s.line := rfl
@[simp] theorem Gk1.modKernel_power (s : Gk1) (k : Nat) (f : Kernel → Kernel) : (s.modKernel k f).power = s.power := rfl
@[simp] theorem Gk1.modKernel_ledger (s : Gk1) (k : Nat) (f : Kernel → Kernel) : (s.modKernel k f).ledger = s.ledger := rfl
@[simp] theorem Gk1.modKernel_held (s : Gk1) (k : Nat) (f : Kernel → Kernel) : (s.modKernel k f).held = s.held := rfl
@[simp] theorem Gk1.modKernel_obs (s : Gk1) (k : Nat) (f : Kernel → Kernel) : (s.modKernel k f).obs = s.obs := rfl
@[simp] theorem Gk1.modKernel_cores (s : Gk1) (k : Nat) (f : Kernel → Kernel) : (s.modKernel k f).cores = s.cores := rfl
@[simp] theorem Gk1.modKernel_clusters (s : Gk1) (k : Nat) (f : Kernel → Kernel) : (s.modKernel k f).clusters = s.clusters := rfl
@[simp] theorem Gk1.modKernel_regions (s : Gk1) (k : Nat) (f : Kernel → Kernel) : (s.modKernel k f).regions = s.regions := rfl
@[simp] theorem Gk1.modKernel_dram (s : Gk1) (k : Nat) (f : Kernel → Kernel) : (s.modKernel k f).dram = s.dram := rfl
@[simp] theorem Gk1.modKernel_cache (s : Gk1) (k : Nat) (f : Kernel → Kernel) : (s.modKernel k f).cache = s.cache := rfl
@[simp] theorem Gk1.modKernel_stamp (s : Gk1) (k : Nat) (f : Kernel → Kernel) : (s.modKernel k f).stamp = s.stamp := rfl
@[simp] theorem Gk1.modKernel_fills (s : Gk1) (k : Nat) (f : Kernel → Kernel) : (s.modKernel k f).fills = s.fills := rfl
@[simp] theorem Gk1.modKernel_nextId (s : Gk1) (k : Nat) (f : Kernel → Kernel) : (s.modKernel k f).nextId = s.nextId := rfl
@[simp] theorem Gk1.modKernel_reqs (s : Gk1) (k : Nat) (f : Kernel → Kernel) : (s.modKernel k f).reqs = s.reqs := rfl
@[simp] theorem Gk1.modKernel_msgs (s : Gk1) (k : Nat) (f : Kernel → Kernel) : (s.modKernel k f).msgs = s.msgs := rfl
@[simp] theorem Gk1.modKernel_epochs (s : Gk1) (k : Nat) (f : Kernel → Kernel) : (s.modKernel k f).epochs = s.epochs := rfl
@[simp] theorem Gk1.modKernel_queues (s : Gk1) (k : Nat) (f : Kernel → Kernel) : (s.modKernel k f).queues = s.queues := rfl
@[simp] theorem Gk1.modKernel_ctxs (s : Gk1) (k : Nat) (f : Kernel → Kernel) : (s.modKernel k f).ctxs = s.ctxs := rfl
@[simp] theorem Gk1.modKernel_ownerWatches (s : Gk1) (k : Nat) (f : Kernel → Kernel) : (s.modKernel k f).ownerWatches = s.ownerWatches := rfl
@[simp] theorem Gk1.modKernel_importWatches (s : Gk1) (k : Nat) (f : Kernel → Kernel) : (s.modKernel k f).importWatches = s.importWatches := rfl
@[simp] theorem Gk1.modKernel_ports (s : Gk1) (k : Nat) (f : Kernel → Kernel) : (s.modKernel k f).ports = s.ports := rfl
@[simp] theorem Gk1.modKernel_drops (s : Gk1) (k : Nat) (f : Kernel → Kernel) : (s.modKernel k f).drops = s.drops := rfl
@[simp] theorem Gk1.modKernel_unreachable (s : Gk1) (k : Nat) (f : Kernel → Kernel) : (s.modKernel k f).unreachable = s.unreachable := rfl
@[simp] theorem Gk1.modKernel_kept (s : Gk1) (k : Nat) (f : Kernel → Kernel) : (s.modKernel k f).kept = s.kept := rfl
@[simp] theorem Gk1.modKernel_routedAt (s : Gk1) (k : Nat) (f : Kernel → Kernel) : (s.modKernel k f).routedAt = s.routedAt := rfl
@[simp] theorem Gk1.modKernel_jobs (s : Gk1) (k : Nat) (f : Kernel → Kernel) : (s.modKernel k f).jobs = s.jobs := rfl
@[simp] theorem Gk1.modKernel_buckets (s : Gk1) (k : Nat) (f : Kernel → Kernel) : (s.modKernel k f).buckets = s.buckets := rfl
@[simp] theorem Gk1.modKernel_snaps (s : Gk1) (k : Nat) (f : Kernel → Kernel) : (s.modKernel k f).snaps = s.snaps := rfl
@[simp] theorem Gk1.modKernel_posted (s : Gk1) (k : Nat) (f : Kernel → Kernel) : (s.modKernel k f).posted = s.posted := rfl
@[simp] theorem Gk1.modKernel_postHeld (s : Gk1) (k : Nat) (f : Kernel → Kernel) : (s.modKernel k f).postHeld = s.postHeld := rfl

/-! ### modPort -/

@[simp] theorem Gk1.modPort_free (s : Gk1) (p : Nat) (f : Port → Port) : (s.modPort p f).free = s.free := rfl
@[simp] theorem Gk1.modPort_part (s : Gk1) (p : Nat) (f : Port → Port) : (s.modPort p f).part = s.part := rfl
@[simp] theorem Gk1.modPort_dtime (s : Gk1) (p : Nat) (f : Port → Port) : (s.modPort p f).dtime = s.dtime := rfl
@[simp] theorem Gk1.modPort_regs (s : Gk1) (p : Nat) (f : Port → Port) : (s.modPort p f).regs = s.regs := rfl
@[simp] theorem Gk1.modPort_edge (s : Gk1) (p : Nat) (f : Port → Port) : (s.modPort p f).edge = s.edge := rfl
@[simp] theorem Gk1.modPort_boot (s : Gk1) (p : Nat) (f : Port → Port) : (s.modPort p f).boot = s.boot := rfl
@[simp] theorem Gk1.modPort_clocks (s : Gk1) (p : Nat) (f : Port → Port) : (s.modPort p f).clocks = s.clocks := rfl
@[simp] theorem Gk1.modPort_line (s : Gk1) (p : Nat) (f : Port → Port) : (s.modPort p f).line = s.line := rfl
@[simp] theorem Gk1.modPort_power (s : Gk1) (p : Nat) (f : Port → Port) : (s.modPort p f).power = s.power := rfl
@[simp] theorem Gk1.modPort_ledger (s : Gk1) (p : Nat) (f : Port → Port) : (s.modPort p f).ledger = s.ledger := rfl
@[simp] theorem Gk1.modPort_held (s : Gk1) (p : Nat) (f : Port → Port) : (s.modPort p f).held = s.held := rfl
@[simp] theorem Gk1.modPort_obs (s : Gk1) (p : Nat) (f : Port → Port) : (s.modPort p f).obs = s.obs := rfl
@[simp] theorem Gk1.modPort_cores (s : Gk1) (p : Nat) (f : Port → Port) : (s.modPort p f).cores = s.cores := rfl
@[simp] theorem Gk1.modPort_clusters (s : Gk1) (p : Nat) (f : Port → Port) : (s.modPort p f).clusters = s.clusters := rfl
@[simp] theorem Gk1.modPort_regions (s : Gk1) (p : Nat) (f : Port → Port) : (s.modPort p f).regions = s.regions := rfl
@[simp] theorem Gk1.modPort_dram (s : Gk1) (p : Nat) (f : Port → Port) : (s.modPort p f).dram = s.dram := rfl
@[simp] theorem Gk1.modPort_cache (s : Gk1) (p : Nat) (f : Port → Port) : (s.modPort p f).cache = s.cache := rfl
@[simp] theorem Gk1.modPort_stamp (s : Gk1) (p : Nat) (f : Port → Port) : (s.modPort p f).stamp = s.stamp := rfl
@[simp] theorem Gk1.modPort_fills (s : Gk1) (p : Nat) (f : Port → Port) : (s.modPort p f).fills = s.fills := rfl
@[simp] theorem Gk1.modPort_nextId (s : Gk1) (p : Nat) (f : Port → Port) : (s.modPort p f).nextId = s.nextId := rfl
@[simp] theorem Gk1.modPort_reqs (s : Gk1) (p : Nat) (f : Port → Port) : (s.modPort p f).reqs = s.reqs := rfl
@[simp] theorem Gk1.modPort_msgs (s : Gk1) (p : Nat) (f : Port → Port) : (s.modPort p f).msgs = s.msgs := rfl
@[simp] theorem Gk1.modPort_epochs (s : Gk1) (p : Nat) (f : Port → Port) : (s.modPort p f).epochs = s.epochs := rfl
@[simp] theorem Gk1.modPort_queues (s : Gk1) (p : Nat) (f : Port → Port) : (s.modPort p f).queues = s.queues := rfl
@[simp] theorem Gk1.modPort_ctxs (s : Gk1) (p : Nat) (f : Port → Port) : (s.modPort p f).ctxs = s.ctxs := rfl
@[simp] theorem Gk1.modPort_kernels (s : Gk1) (p : Nat) (f : Port → Port) : (s.modPort p f).kernels = s.kernels := rfl
@[simp] theorem Gk1.modPort_ownerWatches (s : Gk1) (p : Nat) (f : Port → Port) : (s.modPort p f).ownerWatches = s.ownerWatches := rfl
@[simp] theorem Gk1.modPort_importWatches (s : Gk1) (p : Nat) (f : Port → Port) : (s.modPort p f).importWatches = s.importWatches := rfl
@[simp] theorem Gk1.modPort_drops (s : Gk1) (p : Nat) (f : Port → Port) : (s.modPort p f).drops = s.drops := rfl
@[simp] theorem Gk1.modPort_unreachable (s : Gk1) (p : Nat) (f : Port → Port) : (s.modPort p f).unreachable = s.unreachable := rfl
@[simp] theorem Gk1.modPort_kept (s : Gk1) (p : Nat) (f : Port → Port) : (s.modPort p f).kept = s.kept := rfl
@[simp] theorem Gk1.modPort_routedAt (s : Gk1) (p : Nat) (f : Port → Port) : (s.modPort p f).routedAt = s.routedAt := rfl
@[simp] theorem Gk1.modPort_jobs (s : Gk1) (p : Nat) (f : Port → Port) : (s.modPort p f).jobs = s.jobs := rfl
@[simp] theorem Gk1.modPort_buckets (s : Gk1) (p : Nat) (f : Port → Port) : (s.modPort p f).buckets = s.buckets := rfl
@[simp] theorem Gk1.modPort_snaps (s : Gk1) (p : Nat) (f : Port → Port) : (s.modPort p f).snaps = s.snaps := rfl
@[simp] theorem Gk1.modPort_posted (s : Gk1) (p : Nat) (f : Port → Port) : (s.modPort p f).posted = s.posted := rfl
@[simp] theorem Gk1.modPort_postHeld (s : Gk1) (p : Nat) (f : Port → Port) : (s.modPort p f).postHeld = s.postHeld := rfl

/-! ### setReg -/

@[simp] theorem Gk1.setReg_free (s : Gk1) (off reset v : Nat) : (s.setReg off reset v).free = s.free := rfl
@[simp] theorem Gk1.setReg_part (s : Gk1) (off reset v : Nat) : (s.setReg off reset v).part = s.part := rfl
@[simp] theorem Gk1.setReg_dtime (s : Gk1) (off reset v : Nat) : (s.setReg off reset v).dtime = s.dtime := rfl
@[simp] theorem Gk1.setReg_edge (s : Gk1) (off reset v : Nat) : (s.setReg off reset v).edge = s.edge := rfl
@[simp] theorem Gk1.setReg_boot (s : Gk1) (off reset v : Nat) : (s.setReg off reset v).boot = s.boot := rfl
@[simp] theorem Gk1.setReg_clocks (s : Gk1) (off reset v : Nat) : (s.setReg off reset v).clocks = s.clocks := rfl
@[simp] theorem Gk1.setReg_line (s : Gk1) (off reset v : Nat) : (s.setReg off reset v).line = s.line := rfl
@[simp] theorem Gk1.setReg_power (s : Gk1) (off reset v : Nat) : (s.setReg off reset v).power = s.power := rfl
@[simp] theorem Gk1.setReg_ledger (s : Gk1) (off reset v : Nat) : (s.setReg off reset v).ledger = s.ledger := rfl
@[simp] theorem Gk1.setReg_held (s : Gk1) (off reset v : Nat) : (s.setReg off reset v).held = s.held := rfl
@[simp] theorem Gk1.setReg_obs (s : Gk1) (off reset v : Nat) : (s.setReg off reset v).obs = s.obs := rfl
@[simp] theorem Gk1.setReg_cores (s : Gk1) (off reset v : Nat) : (s.setReg off reset v).cores = s.cores := rfl
@[simp] theorem Gk1.setReg_clusters (s : Gk1) (off reset v : Nat) : (s.setReg off reset v).clusters = s.clusters := rfl
@[simp] theorem Gk1.setReg_regions (s : Gk1) (off reset v : Nat) : (s.setReg off reset v).regions = s.regions := rfl
@[simp] theorem Gk1.setReg_dram (s : Gk1) (off reset v : Nat) : (s.setReg off reset v).dram = s.dram := rfl
@[simp] theorem Gk1.setReg_cache (s : Gk1) (off reset v : Nat) : (s.setReg off reset v).cache = s.cache := rfl
@[simp] theorem Gk1.setReg_stamp (s : Gk1) (off reset v : Nat) : (s.setReg off reset v).stamp = s.stamp := rfl
@[simp] theorem Gk1.setReg_fills (s : Gk1) (off reset v : Nat) : (s.setReg off reset v).fills = s.fills := rfl
@[simp] theorem Gk1.setReg_nextId (s : Gk1) (off reset v : Nat) : (s.setReg off reset v).nextId = s.nextId := rfl
@[simp] theorem Gk1.setReg_reqs (s : Gk1) (off reset v : Nat) : (s.setReg off reset v).reqs = s.reqs := rfl
@[simp] theorem Gk1.setReg_msgs (s : Gk1) (off reset v : Nat) : (s.setReg off reset v).msgs = s.msgs := rfl
@[simp] theorem Gk1.setReg_epochs (s : Gk1) (off reset v : Nat) : (s.setReg off reset v).epochs = s.epochs := rfl
@[simp] theorem Gk1.setReg_queues (s : Gk1) (off reset v : Nat) : (s.setReg off reset v).queues = s.queues := rfl
@[simp] theorem Gk1.setReg_ctxs (s : Gk1) (off reset v : Nat) : (s.setReg off reset v).ctxs = s.ctxs := rfl
@[simp] theorem Gk1.setReg_kernels (s : Gk1) (off reset v : Nat) : (s.setReg off reset v).kernels = s.kernels := rfl
@[simp] theorem Gk1.setReg_ownerWatches (s : Gk1) (off reset v : Nat) : (s.setReg off reset v).ownerWatches = s.ownerWatches := rfl
@[simp] theorem Gk1.setReg_importWatches (s : Gk1) (off reset v : Nat) : (s.setReg off reset v).importWatches = s.importWatches := rfl
@[simp] theorem Gk1.setReg_ports (s : Gk1) (off reset v : Nat) : (s.setReg off reset v).ports = s.ports := rfl
@[simp] theorem Gk1.setReg_drops (s : Gk1) (off reset v : Nat) : (s.setReg off reset v).drops = s.drops := rfl
@[simp] theorem Gk1.setReg_unreachable (s : Gk1) (off reset v : Nat) : (s.setReg off reset v).unreachable = s.unreachable := rfl
@[simp] theorem Gk1.setReg_kept (s : Gk1) (off reset v : Nat) : (s.setReg off reset v).kept = s.kept := rfl
@[simp] theorem Gk1.setReg_routedAt (s : Gk1) (off reset v : Nat) : (s.setReg off reset v).routedAt = s.routedAt := rfl
@[simp] theorem Gk1.setReg_jobs (s : Gk1) (off reset v : Nat) : (s.setReg off reset v).jobs = s.jobs := rfl
@[simp] theorem Gk1.setReg_buckets (s : Gk1) (off reset v : Nat) : (s.setReg off reset v).buckets = s.buckets := rfl
@[simp] theorem Gk1.setReg_snaps (s : Gk1) (off reset v : Nat) : (s.setReg off reset v).snaps = s.snaps := rfl
@[simp] theorem Gk1.setReg_posted (s : Gk1) (off reset v : Nat) : (s.setReg off reset v).posted = s.posted := rfl
@[simp] theorem Gk1.setReg_postHeld (s : Gk1) (off reset v : Nat) : (s.setReg off reset v).postHeld = s.postHeld := rfl

/-! ### addMsg -/

@[simp] theorem Gk1.addMsg_free (s : Gk1) (m : Msg) : (s.addMsg m).free = s.free := rfl
@[simp] theorem Gk1.addMsg_part (s : Gk1) (m : Msg) : (s.addMsg m).part = s.part := rfl
@[simp] theorem Gk1.addMsg_dtime (s : Gk1) (m : Msg) : (s.addMsg m).dtime = s.dtime := rfl
@[simp] theorem Gk1.addMsg_regs (s : Gk1) (m : Msg) : (s.addMsg m).regs = s.regs := rfl
@[simp] theorem Gk1.addMsg_edge (s : Gk1) (m : Msg) : (s.addMsg m).edge = s.edge := rfl
@[simp] theorem Gk1.addMsg_boot (s : Gk1) (m : Msg) : (s.addMsg m).boot = s.boot := rfl
@[simp] theorem Gk1.addMsg_clocks (s : Gk1) (m : Msg) : (s.addMsg m).clocks = s.clocks := rfl
@[simp] theorem Gk1.addMsg_line (s : Gk1) (m : Msg) : (s.addMsg m).line = s.line := rfl
@[simp] theorem Gk1.addMsg_power (s : Gk1) (m : Msg) : (s.addMsg m).power = s.power := rfl
@[simp] theorem Gk1.addMsg_ledger (s : Gk1) (m : Msg) : (s.addMsg m).ledger = s.ledger := rfl
@[simp] theorem Gk1.addMsg_held (s : Gk1) (m : Msg) : (s.addMsg m).held = s.held := rfl
@[simp] theorem Gk1.addMsg_obs (s : Gk1) (m : Msg) : (s.addMsg m).obs = s.obs := rfl
@[simp] theorem Gk1.addMsg_cores (s : Gk1) (m : Msg) : (s.addMsg m).cores = s.cores := rfl
@[simp] theorem Gk1.addMsg_clusters (s : Gk1) (m : Msg) : (s.addMsg m).clusters = s.clusters := rfl
@[simp] theorem Gk1.addMsg_regions (s : Gk1) (m : Msg) : (s.addMsg m).regions = s.regions := rfl
@[simp] theorem Gk1.addMsg_dram (s : Gk1) (m : Msg) : (s.addMsg m).dram = s.dram := rfl
@[simp] theorem Gk1.addMsg_cache (s : Gk1) (m : Msg) : (s.addMsg m).cache = s.cache := rfl
@[simp] theorem Gk1.addMsg_stamp (s : Gk1) (m : Msg) : (s.addMsg m).stamp = s.stamp := rfl
@[simp] theorem Gk1.addMsg_fills (s : Gk1) (m : Msg) : (s.addMsg m).fills = s.fills := rfl
@[simp] theorem Gk1.addMsg_reqs (s : Gk1) (m : Msg) : (s.addMsg m).reqs = s.reqs := rfl
@[simp] theorem Gk1.addMsg_epochs (s : Gk1) (m : Msg) : (s.addMsg m).epochs = s.epochs := rfl
@[simp] theorem Gk1.addMsg_queues (s : Gk1) (m : Msg) : (s.addMsg m).queues = s.queues := rfl
@[simp] theorem Gk1.addMsg_ctxs (s : Gk1) (m : Msg) : (s.addMsg m).ctxs = s.ctxs := rfl
@[simp] theorem Gk1.addMsg_kernels (s : Gk1) (m : Msg) : (s.addMsg m).kernels = s.kernels := rfl
@[simp] theorem Gk1.addMsg_ownerWatches (s : Gk1) (m : Msg) : (s.addMsg m).ownerWatches = s.ownerWatches := rfl
@[simp] theorem Gk1.addMsg_importWatches (s : Gk1) (m : Msg) : (s.addMsg m).importWatches = s.importWatches := rfl
@[simp] theorem Gk1.addMsg_ports (s : Gk1) (m : Msg) : (s.addMsg m).ports = s.ports := rfl
@[simp] theorem Gk1.addMsg_drops (s : Gk1) (m : Msg) : (s.addMsg m).drops = s.drops := rfl
@[simp] theorem Gk1.addMsg_unreachable (s : Gk1) (m : Msg) : (s.addMsg m).unreachable = s.unreachable := rfl
@[simp] theorem Gk1.addMsg_kept (s : Gk1) (m : Msg) : (s.addMsg m).kept = s.kept := rfl
@[simp] theorem Gk1.addMsg_routedAt (s : Gk1) (m : Msg) : (s.addMsg m).routedAt = s.routedAt := rfl
@[simp] theorem Gk1.addMsg_jobs (s : Gk1) (m : Msg) : (s.addMsg m).jobs = s.jobs := rfl
@[simp] theorem Gk1.addMsg_buckets (s : Gk1) (m : Msg) : (s.addMsg m).buckets = s.buckets := rfl
@[simp] theorem Gk1.addMsg_snaps (s : Gk1) (m : Msg) : (s.addMsg m).snaps = s.snaps := rfl
@[simp] theorem Gk1.addMsg_posted (s : Gk1) (m : Msg) : (s.addMsg m).posted = s.posted := rfl
@[simp] theorem Gk1.addMsg_postHeld (s : Gk1) (m : Msg) : (s.addMsg m).postHeld = s.postHeld := rfl

/-! ### setMsg -/

@[simp] theorem Gk1.setMsg_free (s : Gk1) (id : Nat) (m : Msg) : (s.setMsg id m).free = s.free := rfl
@[simp] theorem Gk1.setMsg_part (s : Gk1) (id : Nat) (m : Msg) : (s.setMsg id m).part = s.part := rfl
@[simp] theorem Gk1.setMsg_dtime (s : Gk1) (id : Nat) (m : Msg) : (s.setMsg id m).dtime = s.dtime := rfl
@[simp] theorem Gk1.setMsg_regs (s : Gk1) (id : Nat) (m : Msg) : (s.setMsg id m).regs = s.regs := rfl
@[simp] theorem Gk1.setMsg_edge (s : Gk1) (id : Nat) (m : Msg) : (s.setMsg id m).edge = s.edge := rfl
@[simp] theorem Gk1.setMsg_boot (s : Gk1) (id : Nat) (m : Msg) : (s.setMsg id m).boot = s.boot := rfl
@[simp] theorem Gk1.setMsg_clocks (s : Gk1) (id : Nat) (m : Msg) : (s.setMsg id m).clocks = s.clocks := rfl
@[simp] theorem Gk1.setMsg_line (s : Gk1) (id : Nat) (m : Msg) : (s.setMsg id m).line = s.line := rfl
@[simp] theorem Gk1.setMsg_power (s : Gk1) (id : Nat) (m : Msg) : (s.setMsg id m).power = s.power := rfl
@[simp] theorem Gk1.setMsg_ledger (s : Gk1) (id : Nat) (m : Msg) : (s.setMsg id m).ledger = s.ledger := rfl
@[simp] theorem Gk1.setMsg_held (s : Gk1) (id : Nat) (m : Msg) : (s.setMsg id m).held = s.held := rfl
@[simp] theorem Gk1.setMsg_obs (s : Gk1) (id : Nat) (m : Msg) : (s.setMsg id m).obs = s.obs := rfl
@[simp] theorem Gk1.setMsg_cores (s : Gk1) (id : Nat) (m : Msg) : (s.setMsg id m).cores = s.cores := rfl
@[simp] theorem Gk1.setMsg_clusters (s : Gk1) (id : Nat) (m : Msg) : (s.setMsg id m).clusters = s.clusters := rfl
@[simp] theorem Gk1.setMsg_regions (s : Gk1) (id : Nat) (m : Msg) : (s.setMsg id m).regions = s.regions := rfl
@[simp] theorem Gk1.setMsg_dram (s : Gk1) (id : Nat) (m : Msg) : (s.setMsg id m).dram = s.dram := rfl
@[simp] theorem Gk1.setMsg_cache (s : Gk1) (id : Nat) (m : Msg) : (s.setMsg id m).cache = s.cache := rfl
@[simp] theorem Gk1.setMsg_stamp (s : Gk1) (id : Nat) (m : Msg) : (s.setMsg id m).stamp = s.stamp := rfl
@[simp] theorem Gk1.setMsg_fills (s : Gk1) (id : Nat) (m : Msg) : (s.setMsg id m).fills = s.fills := rfl
@[simp] theorem Gk1.setMsg_nextId (s : Gk1) (id : Nat) (m : Msg) : (s.setMsg id m).nextId = s.nextId := rfl
@[simp] theorem Gk1.setMsg_reqs (s : Gk1) (id : Nat) (m : Msg) : (s.setMsg id m).reqs = s.reqs := rfl
@[simp] theorem Gk1.setMsg_epochs (s : Gk1) (id : Nat) (m : Msg) : (s.setMsg id m).epochs = s.epochs := rfl
@[simp] theorem Gk1.setMsg_queues (s : Gk1) (id : Nat) (m : Msg) : (s.setMsg id m).queues = s.queues := rfl
@[simp] theorem Gk1.setMsg_ctxs (s : Gk1) (id : Nat) (m : Msg) : (s.setMsg id m).ctxs = s.ctxs := rfl
@[simp] theorem Gk1.setMsg_kernels (s : Gk1) (id : Nat) (m : Msg) : (s.setMsg id m).kernels = s.kernels := rfl
@[simp] theorem Gk1.setMsg_ownerWatches (s : Gk1) (id : Nat) (m : Msg) : (s.setMsg id m).ownerWatches = s.ownerWatches := rfl
@[simp] theorem Gk1.setMsg_importWatches (s : Gk1) (id : Nat) (m : Msg) : (s.setMsg id m).importWatches = s.importWatches := rfl
@[simp] theorem Gk1.setMsg_ports (s : Gk1) (id : Nat) (m : Msg) : (s.setMsg id m).ports = s.ports := rfl
@[simp] theorem Gk1.setMsg_drops (s : Gk1) (id : Nat) (m : Msg) : (s.setMsg id m).drops = s.drops := rfl
@[simp] theorem Gk1.setMsg_unreachable (s : Gk1) (id : Nat) (m : Msg) : (s.setMsg id m).unreachable = s.unreachable := rfl
@[simp] theorem Gk1.setMsg_kept (s : Gk1) (id : Nat) (m : Msg) : (s.setMsg id m).kept = s.kept := rfl
@[simp] theorem Gk1.setMsg_routedAt (s : Gk1) (id : Nat) (m : Msg) : (s.setMsg id m).routedAt = s.routedAt := rfl
@[simp] theorem Gk1.setMsg_jobs (s : Gk1) (id : Nat) (m : Msg) : (s.setMsg id m).jobs = s.jobs := rfl
@[simp] theorem Gk1.setMsg_buckets (s : Gk1) (id : Nat) (m : Msg) : (s.setMsg id m).buckets = s.buckets := rfl
@[simp] theorem Gk1.setMsg_snaps (s : Gk1) (id : Nat) (m : Msg) : (s.setMsg id m).snaps = s.snaps := rfl
@[simp] theorem Gk1.setMsg_posted (s : Gk1) (id : Nat) (m : Msg) : (s.setMsg id m).posted = s.posted := rfl
@[simp] theorem Gk1.setMsg_postHeld (s : Gk1) (id : Nat) (m : Msg) : (s.setMsg id m).postHeld = s.postHeld := rfl

/-! ### delMsg -/

@[simp] theorem Gk1.delMsg_free (s : Gk1) (id : Nat) : (s.delMsg id).free = s.free := rfl
@[simp] theorem Gk1.delMsg_part (s : Gk1) (id : Nat) : (s.delMsg id).part = s.part := rfl
@[simp] theorem Gk1.delMsg_dtime (s : Gk1) (id : Nat) : (s.delMsg id).dtime = s.dtime := rfl
@[simp] theorem Gk1.delMsg_regs (s : Gk1) (id : Nat) : (s.delMsg id).regs = s.regs := rfl
@[simp] theorem Gk1.delMsg_edge (s : Gk1) (id : Nat) : (s.delMsg id).edge = s.edge := rfl
@[simp] theorem Gk1.delMsg_boot (s : Gk1) (id : Nat) : (s.delMsg id).boot = s.boot := rfl
@[simp] theorem Gk1.delMsg_clocks (s : Gk1) (id : Nat) : (s.delMsg id).clocks = s.clocks := rfl
@[simp] theorem Gk1.delMsg_line (s : Gk1) (id : Nat) : (s.delMsg id).line = s.line := rfl
@[simp] theorem Gk1.delMsg_power (s : Gk1) (id : Nat) : (s.delMsg id).power = s.power := rfl
@[simp] theorem Gk1.delMsg_ledger (s : Gk1) (id : Nat) : (s.delMsg id).ledger = s.ledger := rfl
@[simp] theorem Gk1.delMsg_held (s : Gk1) (id : Nat) : (s.delMsg id).held = s.held := rfl
@[simp] theorem Gk1.delMsg_obs (s : Gk1) (id : Nat) : (s.delMsg id).obs = s.obs := rfl
@[simp] theorem Gk1.delMsg_cores (s : Gk1) (id : Nat) : (s.delMsg id).cores = s.cores := rfl
@[simp] theorem Gk1.delMsg_clusters (s : Gk1) (id : Nat) : (s.delMsg id).clusters = s.clusters := rfl
@[simp] theorem Gk1.delMsg_regions (s : Gk1) (id : Nat) : (s.delMsg id).regions = s.regions := rfl
@[simp] theorem Gk1.delMsg_dram (s : Gk1) (id : Nat) : (s.delMsg id).dram = s.dram := rfl
@[simp] theorem Gk1.delMsg_cache (s : Gk1) (id : Nat) : (s.delMsg id).cache = s.cache := rfl
@[simp] theorem Gk1.delMsg_stamp (s : Gk1) (id : Nat) : (s.delMsg id).stamp = s.stamp := rfl
@[simp] theorem Gk1.delMsg_fills (s : Gk1) (id : Nat) : (s.delMsg id).fills = s.fills := rfl
@[simp] theorem Gk1.delMsg_nextId (s : Gk1) (id : Nat) : (s.delMsg id).nextId = s.nextId := rfl
@[simp] theorem Gk1.delMsg_reqs (s : Gk1) (id : Nat) : (s.delMsg id).reqs = s.reqs := rfl
@[simp] theorem Gk1.delMsg_epochs (s : Gk1) (id : Nat) : (s.delMsg id).epochs = s.epochs := rfl
@[simp] theorem Gk1.delMsg_queues (s : Gk1) (id : Nat) : (s.delMsg id).queues = s.queues := rfl
@[simp] theorem Gk1.delMsg_ctxs (s : Gk1) (id : Nat) : (s.delMsg id).ctxs = s.ctxs := rfl
@[simp] theorem Gk1.delMsg_kernels (s : Gk1) (id : Nat) : (s.delMsg id).kernels = s.kernels := rfl
@[simp] theorem Gk1.delMsg_ownerWatches (s : Gk1) (id : Nat) : (s.delMsg id).ownerWatches = s.ownerWatches := rfl
@[simp] theorem Gk1.delMsg_importWatches (s : Gk1) (id : Nat) : (s.delMsg id).importWatches = s.importWatches := rfl
@[simp] theorem Gk1.delMsg_ports (s : Gk1) (id : Nat) : (s.delMsg id).ports = s.ports := rfl
@[simp] theorem Gk1.delMsg_drops (s : Gk1) (id : Nat) : (s.delMsg id).drops = s.drops := rfl
@[simp] theorem Gk1.delMsg_unreachable (s : Gk1) (id : Nat) : (s.delMsg id).unreachable = s.unreachable := rfl
@[simp] theorem Gk1.delMsg_kept (s : Gk1) (id : Nat) : (s.delMsg id).kept = s.kept := rfl
@[simp] theorem Gk1.delMsg_routedAt (s : Gk1) (id : Nat) : (s.delMsg id).routedAt = s.routedAt := rfl
@[simp] theorem Gk1.delMsg_jobs (s : Gk1) (id : Nat) : (s.delMsg id).jobs = s.jobs := rfl
@[simp] theorem Gk1.delMsg_buckets (s : Gk1) (id : Nat) : (s.delMsg id).buckets = s.buckets := rfl
@[simp] theorem Gk1.delMsg_snaps (s : Gk1) (id : Nat) : (s.delMsg id).snaps = s.snaps := rfl
@[simp] theorem Gk1.delMsg_posted (s : Gk1) (id : Nat) : (s.delMsg id).posted = s.posted := rfl
@[simp] theorem Gk1.delMsg_postHeld (s : Gk1) (id : Nat) : (s.delMsg id).postHeld = s.postHeld := rfl

/-! ### countRgn -/

@[simp] theorem Gk1.countRgn_free (s : Gk1) (r i n : Nat) : (s.countRgn r i n).free = s.free := rfl
@[simp] theorem Gk1.countRgn_part (s : Gk1) (r i n : Nat) : (s.countRgn r i n).part = s.part := rfl
@[simp] theorem Gk1.countRgn_dtime (s : Gk1) (r i n : Nat) : (s.countRgn r i n).dtime = s.dtime := rfl
@[simp] theorem Gk1.countRgn_regs (s : Gk1) (r i n : Nat) : (s.countRgn r i n).regs = s.regs := rfl
@[simp] theorem Gk1.countRgn_edge (s : Gk1) (r i n : Nat) : (s.countRgn r i n).edge = s.edge := rfl
@[simp] theorem Gk1.countRgn_boot (s : Gk1) (r i n : Nat) : (s.countRgn r i n).boot = s.boot := rfl
@[simp] theorem Gk1.countRgn_clocks (s : Gk1) (r i n : Nat) : (s.countRgn r i n).clocks = s.clocks := rfl
@[simp] theorem Gk1.countRgn_line (s : Gk1) (r i n : Nat) : (s.countRgn r i n).line = s.line := rfl
@[simp] theorem Gk1.countRgn_power (s : Gk1) (r i n : Nat) : (s.countRgn r i n).power = s.power := rfl
@[simp] theorem Gk1.countRgn_ledger (s : Gk1) (r i n : Nat) : (s.countRgn r i n).ledger = s.ledger := rfl
@[simp] theorem Gk1.countRgn_held (s : Gk1) (r i n : Nat) : (s.countRgn r i n).held = s.held := rfl
@[simp] theorem Gk1.countRgn_cores (s : Gk1) (r i n : Nat) : (s.countRgn r i n).cores = s.cores := rfl
@[simp] theorem Gk1.countRgn_clusters (s : Gk1) (r i n : Nat) : (s.countRgn r i n).clusters = s.clusters := rfl
@[simp] theorem Gk1.countRgn_regions (s : Gk1) (r i n : Nat) : (s.countRgn r i n).regions = s.regions := rfl
@[simp] theorem Gk1.countRgn_dram (s : Gk1) (r i n : Nat) : (s.countRgn r i n).dram = s.dram := rfl
@[simp] theorem Gk1.countRgn_cache (s : Gk1) (r i n : Nat) : (s.countRgn r i n).cache = s.cache := rfl
@[simp] theorem Gk1.countRgn_stamp (s : Gk1) (r i n : Nat) : (s.countRgn r i n).stamp = s.stamp := rfl
@[simp] theorem Gk1.countRgn_fills (s : Gk1) (r i n : Nat) : (s.countRgn r i n).fills = s.fills := rfl
@[simp] theorem Gk1.countRgn_nextId (s : Gk1) (r i n : Nat) : (s.countRgn r i n).nextId = s.nextId := rfl
@[simp] theorem Gk1.countRgn_reqs (s : Gk1) (r i n : Nat) : (s.countRgn r i n).reqs = s.reqs := rfl
@[simp] theorem Gk1.countRgn_msgs (s : Gk1) (r i n : Nat) : (s.countRgn r i n).msgs = s.msgs := rfl
@[simp] theorem Gk1.countRgn_epochs (s : Gk1) (r i n : Nat) : (s.countRgn r i n).epochs = s.epochs := rfl
@[simp] theorem Gk1.countRgn_queues (s : Gk1) (r i n : Nat) : (s.countRgn r i n).queues = s.queues := rfl
@[simp] theorem Gk1.countRgn_ctxs (s : Gk1) (r i n : Nat) : (s.countRgn r i n).ctxs = s.ctxs := rfl
@[simp] theorem Gk1.countRgn_kernels (s : Gk1) (r i n : Nat) : (s.countRgn r i n).kernels = s.kernels := rfl
@[simp] theorem Gk1.countRgn_ownerWatches (s : Gk1) (r i n : Nat) : (s.countRgn r i n).ownerWatches = s.ownerWatches := rfl
@[simp] theorem Gk1.countRgn_importWatches (s : Gk1) (r i n : Nat) : (s.countRgn r i n).importWatches = s.importWatches := rfl
@[simp] theorem Gk1.countRgn_ports (s : Gk1) (r i n : Nat) : (s.countRgn r i n).ports = s.ports := rfl
@[simp] theorem Gk1.countRgn_drops (s : Gk1) (r i n : Nat) : (s.countRgn r i n).drops = s.drops := rfl
@[simp] theorem Gk1.countRgn_unreachable (s : Gk1) (r i n : Nat) : (s.countRgn r i n).unreachable = s.unreachable := rfl
@[simp] theorem Gk1.countRgn_kept (s : Gk1) (r i n : Nat) : (s.countRgn r i n).kept = s.kept := rfl
@[simp] theorem Gk1.countRgn_routedAt (s : Gk1) (r i n : Nat) : (s.countRgn r i n).routedAt = s.routedAt := rfl
@[simp] theorem Gk1.countRgn_jobs (s : Gk1) (r i n : Nat) : (s.countRgn r i n).jobs = s.jobs := rfl
@[simp] theorem Gk1.countRgn_buckets (s : Gk1) (r i n : Nat) : (s.countRgn r i n).buckets = s.buckets := rfl
@[simp] theorem Gk1.countRgn_snaps (s : Gk1) (r i n : Nat) : (s.countRgn r i n).snaps = s.snaps := rfl
@[simp] theorem Gk1.countRgn_posted (s : Gk1) (r i n : Nat) : (s.countRgn r i n).posted = s.posted := rfl
@[simp] theorem Gk1.countRgn_postHeld (s : Gk1) (r i n : Nat) : (s.countRgn r i n).postHeld = s.postHeld := rfl

/-! ### countDrop -/

@[simp] theorem Gk1.countDrop_free (s : Gk1) (i : Nat) : (s.countDrop i).free = s.free := rfl
@[simp] theorem Gk1.countDrop_part (s : Gk1) (i : Nat) : (s.countDrop i).part = s.part := rfl
@[simp] theorem Gk1.countDrop_dtime (s : Gk1) (i : Nat) : (s.countDrop i).dtime = s.dtime := rfl
@[simp] theorem Gk1.countDrop_regs (s : Gk1) (i : Nat) : (s.countDrop i).regs = s.regs := rfl
@[simp] theorem Gk1.countDrop_edge (s : Gk1) (i : Nat) : (s.countDrop i).edge = s.edge := rfl
@[simp] theorem Gk1.countDrop_boot (s : Gk1) (i : Nat) : (s.countDrop i).boot = s.boot := rfl
@[simp] theorem Gk1.countDrop_clocks (s : Gk1) (i : Nat) : (s.countDrop i).clocks = s.clocks := rfl
@[simp] theorem Gk1.countDrop_line (s : Gk1) (i : Nat) : (s.countDrop i).line = s.line := rfl
@[simp] theorem Gk1.countDrop_power (s : Gk1) (i : Nat) : (s.countDrop i).power = s.power := rfl
@[simp] theorem Gk1.countDrop_ledger (s : Gk1) (i : Nat) : (s.countDrop i).ledger = s.ledger := rfl
@[simp] theorem Gk1.countDrop_held (s : Gk1) (i : Nat) : (s.countDrop i).held = s.held := rfl
@[simp] theorem Gk1.countDrop_obs (s : Gk1) (i : Nat) : (s.countDrop i).obs = s.obs := rfl
@[simp] theorem Gk1.countDrop_cores (s : Gk1) (i : Nat) : (s.countDrop i).cores = s.cores := rfl
@[simp] theorem Gk1.countDrop_clusters (s : Gk1) (i : Nat) : (s.countDrop i).clusters = s.clusters := rfl
@[simp] theorem Gk1.countDrop_regions (s : Gk1) (i : Nat) : (s.countDrop i).regions = s.regions := rfl
@[simp] theorem Gk1.countDrop_dram (s : Gk1) (i : Nat) : (s.countDrop i).dram = s.dram := rfl
@[simp] theorem Gk1.countDrop_cache (s : Gk1) (i : Nat) : (s.countDrop i).cache = s.cache := rfl
@[simp] theorem Gk1.countDrop_stamp (s : Gk1) (i : Nat) : (s.countDrop i).stamp = s.stamp := rfl
@[simp] theorem Gk1.countDrop_fills (s : Gk1) (i : Nat) : (s.countDrop i).fills = s.fills := rfl
@[simp] theorem Gk1.countDrop_nextId (s : Gk1) (i : Nat) : (s.countDrop i).nextId = s.nextId := rfl
@[simp] theorem Gk1.countDrop_reqs (s : Gk1) (i : Nat) : (s.countDrop i).reqs = s.reqs := rfl
@[simp] theorem Gk1.countDrop_msgs (s : Gk1) (i : Nat) : (s.countDrop i).msgs = s.msgs := rfl
@[simp] theorem Gk1.countDrop_epochs (s : Gk1) (i : Nat) : (s.countDrop i).epochs = s.epochs := rfl
@[simp] theorem Gk1.countDrop_queues (s : Gk1) (i : Nat) : (s.countDrop i).queues = s.queues := rfl
@[simp] theorem Gk1.countDrop_ctxs (s : Gk1) (i : Nat) : (s.countDrop i).ctxs = s.ctxs := rfl
@[simp] theorem Gk1.countDrop_kernels (s : Gk1) (i : Nat) : (s.countDrop i).kernels = s.kernels := rfl
@[simp] theorem Gk1.countDrop_ownerWatches (s : Gk1) (i : Nat) : (s.countDrop i).ownerWatches = s.ownerWatches := rfl
@[simp] theorem Gk1.countDrop_importWatches (s : Gk1) (i : Nat) : (s.countDrop i).importWatches = s.importWatches := rfl
@[simp] theorem Gk1.countDrop_ports (s : Gk1) (i : Nat) : (s.countDrop i).ports = s.ports := rfl
@[simp] theorem Gk1.countDrop_unreachable (s : Gk1) (i : Nat) : (s.countDrop i).unreachable = s.unreachable := rfl
@[simp] theorem Gk1.countDrop_kept (s : Gk1) (i : Nat) : (s.countDrop i).kept = s.kept := rfl
@[simp] theorem Gk1.countDrop_routedAt (s : Gk1) (i : Nat) : (s.countDrop i).routedAt = s.routedAt := rfl
@[simp] theorem Gk1.countDrop_jobs (s : Gk1) (i : Nat) : (s.countDrop i).jobs = s.jobs := rfl
@[simp] theorem Gk1.countDrop_buckets (s : Gk1) (i : Nat) : (s.countDrop i).buckets = s.buckets := rfl
@[simp] theorem Gk1.countDrop_snaps (s : Gk1) (i : Nat) : (s.countDrop i).snaps = s.snaps := rfl
@[simp] theorem Gk1.countDrop_posted (s : Gk1) (i : Nat) : (s.countDrop i).posted = s.posted := rfl
@[simp] theorem Gk1.countDrop_postHeld (s : Gk1) (i : Nat) : (s.countDrop i).postHeld = s.postHeld := rfl

/-! ### irq -/

@[simp] theorem Gk1.irq_free (s : Gk1) (v h : Nat) : (s.irq v h).free = s.free := rfl
@[simp] theorem Gk1.irq_part (s : Gk1) (v h : Nat) : (s.irq v h).part = s.part := rfl
@[simp] theorem Gk1.irq_dtime (s : Gk1) (v h : Nat) : (s.irq v h).dtime = s.dtime := rfl
@[simp] theorem Gk1.irq_regs (s : Gk1) (v h : Nat) : (s.irq v h).regs = s.regs := rfl
@[simp] theorem Gk1.irq_boot (s : Gk1) (v h : Nat) : (s.irq v h).boot = s.boot := rfl
@[simp] theorem Gk1.irq_clocks (s : Gk1) (v h : Nat) : (s.irq v h).clocks = s.clocks := rfl
@[simp] theorem Gk1.irq_line (s : Gk1) (v h : Nat) : (s.irq v h).line = s.line := rfl
@[simp] theorem Gk1.irq_power (s : Gk1) (v h : Nat) : (s.irq v h).power = s.power := rfl
@[simp] theorem Gk1.irq_ledger (s : Gk1) (v h : Nat) : (s.irq v h).ledger = s.ledger := rfl
@[simp] theorem Gk1.irq_held (s : Gk1) (v h : Nat) : (s.irq v h).held = s.held := rfl
@[simp] theorem Gk1.irq_obs (s : Gk1) (v h : Nat) : (s.irq v h).obs = s.obs := rfl
@[simp] theorem Gk1.irq_cores (s : Gk1) (v h : Nat) : (s.irq v h).cores = s.cores := rfl
@[simp] theorem Gk1.irq_clusters (s : Gk1) (v h : Nat) : (s.irq v h).clusters = s.clusters := rfl
@[simp] theorem Gk1.irq_regions (s : Gk1) (v h : Nat) : (s.irq v h).regions = s.regions := rfl
@[simp] theorem Gk1.irq_dram (s : Gk1) (v h : Nat) : (s.irq v h).dram = s.dram := rfl
@[simp] theorem Gk1.irq_cache (s : Gk1) (v h : Nat) : (s.irq v h).cache = s.cache := rfl
@[simp] theorem Gk1.irq_stamp (s : Gk1) (v h : Nat) : (s.irq v h).stamp = s.stamp := rfl
@[simp] theorem Gk1.irq_fills (s : Gk1) (v h : Nat) : (s.irq v h).fills = s.fills := rfl
@[simp] theorem Gk1.irq_nextId (s : Gk1) (v h : Nat) : (s.irq v h).nextId = s.nextId := rfl
@[simp] theorem Gk1.irq_reqs (s : Gk1) (v h : Nat) : (s.irq v h).reqs = s.reqs := rfl
@[simp] theorem Gk1.irq_msgs (s : Gk1) (v h : Nat) : (s.irq v h).msgs = s.msgs := rfl
@[simp] theorem Gk1.irq_epochs (s : Gk1) (v h : Nat) : (s.irq v h).epochs = s.epochs := rfl
@[simp] theorem Gk1.irq_queues (s : Gk1) (v h : Nat) : (s.irq v h).queues = s.queues := rfl
@[simp] theorem Gk1.irq_ctxs (s : Gk1) (v h : Nat) : (s.irq v h).ctxs = s.ctxs := rfl
@[simp] theorem Gk1.irq_kernels (s : Gk1) (v h : Nat) : (s.irq v h).kernels = s.kernels := rfl
@[simp] theorem Gk1.irq_ownerWatches (s : Gk1) (v h : Nat) : (s.irq v h).ownerWatches = s.ownerWatches := rfl
@[simp] theorem Gk1.irq_importWatches (s : Gk1) (v h : Nat) : (s.irq v h).importWatches = s.importWatches := rfl
@[simp] theorem Gk1.irq_ports (s : Gk1) (v h : Nat) : (s.irq v h).ports = s.ports := rfl
@[simp] theorem Gk1.irq_drops (s : Gk1) (v h : Nat) : (s.irq v h).drops = s.drops := rfl
@[simp] theorem Gk1.irq_unreachable (s : Gk1) (v h : Nat) : (s.irq v h).unreachable = s.unreachable := rfl
@[simp] theorem Gk1.irq_kept (s : Gk1) (v h : Nat) : (s.irq v h).kept = s.kept := rfl
@[simp] theorem Gk1.irq_routedAt (s : Gk1) (v h : Nat) : (s.irq v h).routedAt = s.routedAt := rfl
@[simp] theorem Gk1.irq_jobs (s : Gk1) (v h : Nat) : (s.irq v h).jobs = s.jobs := rfl
@[simp] theorem Gk1.irq_buckets (s : Gk1) (v h : Nat) : (s.irq v h).buckets = s.buckets := rfl
@[simp] theorem Gk1.irq_snaps (s : Gk1) (v h : Nat) : (s.irq v h).snaps = s.snaps := rfl
@[simp] theorem Gk1.irq_posted (s : Gk1) (v h : Nat) : (s.irq v h).posted = s.posted := rfl
@[simp] theorem Gk1.irq_postHeld (s : Gk1) (v h : Nat) : (s.irq v h).postHeld = s.postHeld := rfl

/-! ### Reading back -/

@[simp] theorem Gk1.core_setCore (s : Gk1) (c d : Nat) (C : Core) : (s.setCore c C).core d = if c = d then C else s.core d := by
  simp [Gk1.core, Gk1.setCore]

@[simp] theorem Gk1.core_modCore (s : Gk1) (c d : Nat) (f : Core → Core) :
    (s.modCore c f).core d = if c = d then f (s.core c) else s.core d := by simp [Gk1.modCore]

@[simp] theorem Core.group_setGroup (C : Core) (g h : Nat) (G : Group) :
    (C.setGroup g G).group h = if g = h then G else C.group h := by simp [Core.group, Core.setGroup]

@[simp] theorem Core.setGroup_store (C : Core) (g : Nat) (G : Group) : (C.setGroup g G).store = C.store := rfl
@[simp] theorem Core.setGroup_istore (C : Core) (g : Nat) (G : Group) : (C.setGroup g G).istore = C.istore := rfl
@[simp] theorem Core.setGroup_tiles (C : Core) (g : Nat) (G : Group) : (C.setGroup g G).tiles = C.tiles := rfl
@[simp] theorem Core.setGroup_bars (C : Core) (g : Nat) (G : Group) : (C.setGroup g G).bars = C.bars := rfl
@[simp] theorem Core.setGroup_kid (C : Core) (g : Nat) (G : Group) : (C.setGroup g G).kid = C.kid := rfl
@[simp] theorem Core.setGroup_mq (C : Core) (g : Nat) (G : Group) : (C.setGroup g G).mq = C.mq := rfl

/-- Replacing one group changes no other group of the part. -/
@[simp] theorem Gk1.group_setGroup (s : Gk1) (c g d h : Nat) (G : Group) :
    (s.setGroup c g G).group d h = if c = d ∧ g = h then G else s.group d h := by
  simp only [Gk1.group, Gk1.setGroup, Gk1.core_setCore]
  split
  · subst_vars; simp only [Core.group_setGroup, true_and]
  · rw [if_neg (by tauto)]

@[simp] theorem Gk1.region_modRegion (s : Gk1) (r q : Nat) (f : Region → Region) :
    (s.modRegion r f).region q = if r = q then f (s.region r) else s.region q := by simp [Gk1.region, Gk1.modRegion]

@[simp] theorem Gk1.cluster_modCluster (s : Gk1) (n k : Nat) (f : Cluster → Cluster) :
    (s.modCluster n f).cluster k = if n = k then f (s.cluster n) else s.cluster k := by simp [Gk1.cluster, Gk1.modCluster]

@[simp] theorem Gk1.queue_modQueue (s : Gk1) (q p : Nat) (f : Queue → Queue) :
    (s.modQueue q f).queue p = if q = p then f (s.queue q) else s.queue p := by simp [Gk1.queue, Gk1.modQueue]

@[simp] theorem Gk1.ctx_modCtx (s : Gk1) (c d : Nat) (f : Ctx → Ctx) :
    (s.modCtx c f).ctx d = if c = d then f (s.ctx c) else s.ctx d := by simp [Gk1.ctx, Gk1.modCtx]

@[simp] theorem Gk1.port_modPort (s : Gk1) (p q : Nat) (f : Port → Port) :
    (s.modPort p f).port q = if p = q then f (s.port p) else s.port q := by simp [Gk1.port, Gk1.modPort]

/-- A register reads as it was written, every other one as before. -/
theorem Gk1.reg_setReg (s : Gk1) (off o2 reset v : Nat) :
    (s.setReg off reset v).reg o2 reset = if off = o2 then v % 2 ^ 64 else s.reg o2 reset := by
  simp only [Gk1.reg, Gk1.setReg, NMap.getD_put]; split <;> simp

/-! ### Registers of a group -/

@[simp] theorem Group.s_setS (G : Group) (n m : Nat) (v : BitVec 32) : (G.setS n v).s m = if n = m then v else G.s m := by
  simp [Group.s, Group.setS]

@[simp] theorem Group.v_setLane (G : Group) (n l m k : Nat) (v : BitVec 32) :
    (G.setLane n l v).v m k = if 16 * n + l = 16 * m + k then v else G.v m k := by simp [Group.v, Group.setLane]

/-- Predicate p0 holds in every lane, whatever is written (R233). -/
@[simp] theorem Group.p_zero (G : Group) : G.p 0 = 0xFFFF := rfl

/-- A write to p0 is ignored (R233). -/
@[simp] theorem Group.setP_zero (G : Group) (v : BitVec 16) : G.setP 0 v = G := rfl

/-! ### The outcome of a command -/

/-- A command's meaning answers a next state exactly when its action on the part does; the waiting commands stay. -/
theorem State.act_next (s t : State) (f : Gk1 → Out) :
    s.act f = .next t ↔ f s.toGk1 = .next t.toGk1 ∧ t.pending = s.pending := by
  unfold State.act
  split
  · next p h => rw [h]; constructor
                · intro e; cases e; exact ⟨rfl, rfl⟩
                · rintro ⟨e, e'⟩; cases e; cases t; simp_all
  · next e h => rw [h]; simp
  · next e h => rw [h]; simp

/-- A meaning that always answers on the part always answers. -/
theorem State.act_of_next (s : State) (f : Gk1 → Out) (p : Gk1) (h : f s.toGk1 = .next p) :
    s.act f = .next { s with toGk1 := p } := by simp [State.act, h]

end Sys2Proof.Machine
end

