-- ==== Sys2Proof/Tests/Slice0.lean ====
section
/-! SUPPORT. Tests: what the checks of WellFormed refuse, small results, and for every statement of Certificates/Slice0 states and
operands that meet its hypotheses. -/

namespace Sys2Proof.Tests

set_option Elab.async false

open Sys2Proof Sys2Proof.Machine Sys2Proof.Claims

/-! ## States -/

/-- A word of the V form. -/
def vw (maj op : Nat) (d a b c bsel ty sx imm : Nat := 0) : Nat :=
  maj + op * 2 ^ 11 + d * 2 ^ 16 + a * 2 ^ 21 + b * 2 ^ 26 + c * 2 ^ 31 + bsel * 2 ^ 36 + ty * 2 ^ 38 + sx * 2 ^ 43 + imm * 2 ^ 48

/-- A word of the S form with a register as second source. -/
def sw (maj op d a b : Nat) (sc : Nat := 0) : Nat :=
  maj + op * 2 ^ 11 + d * 2 ^ 16 + a * 2 ^ 21 + b * 2 ^ 26 + sc * 2 ^ 32

/-- A word of the C form. -/
def cw (op : Nat) (px sx tgt : Nat := 0) : Nat := op * 2 ^ 11 + px * 2 ^ 16 + sx * 2 ^ 20 + tgt * 2 ^ 32

/-- A group that runs with all lanes on. -/
def runner : Group := { status := .running, active := 0xFFFF, live := 0xFFFF }

/-- Core 0 with a group in slot 0 and words in its instruction store. -/
def coreOf (ws : List Nat) (G : Group) (C : Core := {}) : Core :=
  { C with groups := [(0, G)], istore := (List.range ws.length).zip (ws.map (BitVec.ofNat 64)) }

/-- The part with that core. -/
def at_ (ws : List Nat) (G : Group := runner) (C : Core := {}) : State := { cores := [(0, coreOf ws G C)] }

/-! ## Witnesses: instructions -/

theorem witness_refused :
    let s := at_ [vw 9 0 (ty := 7)]
    (s.ready 0 0 && (s.core 0).wellPlaced (s.group 0 0).pc && !vOk two ((s.core 0).word 0)) = true ∧
    ((at_ [0x3F]).ready 0 0 && !((at_ [0x3F]).core 0).wellPlaced 0) = true := by decide +kernel

theorem witness_scalar :
    (sintRows.all fun r => issues 1 (opIs r.op) (fun w _ => sOk r.use w) (sRegs r.use) 0 0 (at_ [sw 1 r.op 1 0 0]).toGk1) = true ∧
    (sfpRows.all fun r => issues 2 (opIs r.op) (fun w _ => sOk r.use w) (sRegs r.use) 0 0 (at_ [sw 2 r.op 1 0 0]).toGk1) = true := by
  decide +kernel

theorem witness_pair : ([16, 17].all fun op => issues 1 (opIs op)
    (fun w _ => sOk {} w && wD w % 2 = 0 && wA w % 2 = 0 && (wImmB w || wB w % 2 = 0))
    (fun w => [wD w, wD w + 1, wA w, wA w + 1] ++ (if wImmB w then [] else [wB w, wB w + 1])) 0 0 (at_ [sw 1 op 30 2 4]).toGk1) = true := by
  decide +kernel

theorem witness_vector :
    (vintRows.all fun r => issues 9 (opIs r.op) (fun w _ => vOk r.use w) (fun w => vRegs w false false false false) 0 0
      (at_ [vw 9 r.op (d := 31) (ty := r.use.types.headD 0)]).toGk1) = true ∧
    (xRows.all fun r => issues r.maj (opIs r.op) (fun w _ => vOk r.use w) (fun w => vRegs w false false false false) 0 0
      (at_ [vw r.maj r.op (d := 31)]).toGk1) = true := by decide +kernel

theorem witness_predicates :
    (cmpRows.all fun r => issues 0x0A (opIs r.op) (fun w _ => vOk { vd := 7, bs := [0, 1, 2], types := r.types } w)
      (fun w => vRegs w false false false false) 0 0 (at_ [vw 10 r.op (d := 7)]).toGk1) = true ∧
    (predRows.all fun r => issues 0x0A (opIs r.op) (fun w _ => vOk { vd := 7, va := 7, bs := [0], vb := r.vb } w) (fun _ => []) 0 0
      (at_ [vw 10 r.op (d := 7) (a := 7)]).toGk1) = true := by decide +kernel

theorem witness_activation :
    issues 0x0B (opIs 8) (fun w _ => vOk { sx := true, imm := 15 } w && decide (wFn w ≤ 10)) (fun w => [wSx w]) 0 0
      (at_ [vw 11 8 (imm := 10)]).toGk1 = true ∧
    issues 0x0B (opIs 9) (fun w _ => vOk { bs := [0, 1, 2], sx := true, imm := if wBsel w = 2 then 0xFFFF else 15 } w && decide (wFn w ≤ 10))
      (fun w => vRegs w false false true false) 0 0 (at_ [vw 11 9 (imm := 10)]).toGk1 = true ∧
    issues 0x0B (opIs 10) (fun w _ => vOk { bs := [0, 1, 2], sx := true, imm := if wBsel w = 2 then 0xFFFF else 15 } w
      && (wFn w = 0 || hasOut (wFn w))) (fun w => vRegs w false false true false) 0 0 (at_ [vw 11 10 (imm := 8)]).toGk1 = true := by
  decide +kernel

theorem witness_conversion :
    issues 0x0C (opIs 0) (fun w _ => vOk { types := [1, 2], rnd := [0, 2] } w) (fun w => vRegs w false false false false) 0 0
      (at_ [vw 12 0 (ty := 1)]).toGk1 = true ∧
    ([4, 5].all fun ty => issues 0x0C (opIs 0) (fun w _ => vOk { bs := [0, 1, 2], types := [ty], rnd := [0, 2] } w)
      (fun w => vRegs w false false false false) 0 0 (at_ [vw 12 0 (ty := ty)]).toGk1) = true ∧
    ([1, 2].all fun op => issues 0x0C (opIs op) (fun w _ => unpackOk w) (fun _ => []) 0 0
      (at_ [vw 12 op (d := 30)]).toGk1) = true := by decide +kernel

/-- A mask stack entry of either kind. -/
def entry (isLoop : Bool) (done : Bool := false) : MaskEntry :=
  { isLoop := isLoop, saved := 0xFFFF, els := if isLoop then 0 else 0xFF00, start := 1, target := 1, elseDone := done }

/-- The hypotheses of a control row of an op. -/
def ctl (op : Nat) (px sx tgt mask : Bool) (s : State) : Bool :=
  issues 0 (opIs op) (fun w _ => cOk px sx tgt mask w) (fun _ => []) 0 0 s.toGk1

/-- A stack of 16 entries. -/
def full : Group := { runner with stack := List.replicate 16 (entry true) }

theorem witness_mask_stack :
    (ctl 1 true false true false (at_ [cw 1] full) = true ∧ 16 ≤ full.stack.length) ∧
    (ctl 1 true false true false (at_ [cw 1]) = true ∧ (runner.stack.length < 16 ∧ runner.active &&& runner.p 0 ≠ 0)) ∧
    ctl 2 false false true false (at_ [cw 2] { runner with stack := [entry true] }) = true ∧
    ctl 2 false false true false (at_ [cw 2] { runner with stack := [entry false true] }) = true ∧
    ctl 2 false false true false (at_ [cw 2] { runner with stack := [entry false] }) = true ∧
    ctl 3 false false false false (at_ [cw 3] { runner with stack := [entry true] }) = true ∧
    ctl 3 false false false false (at_ [cw 3] { runner with stack := [entry false] }) = true ∧
    ctl 4 false false true false (at_ [cw 4] full) = true ∧ ctl 4 false false true false (at_ [cw 4]) = true ∧
    (ctl 5 true false false false (at_ [cw 5]) = true ∧ runner.stack.any MaskEntry.isLoop = false) ∧
    (ctl 5 true false false false (at_ [cw 5 (px := 1)] { runner with stack := [entry true] }) = true ∧
      runner.active &&& ~~~(runner.p 1) ≠ 0) ∧
    ctl 6 false false false false (at_ [cw 6] { runner with stack := [entry false] }) = true ∧
    ctl 6 false false false false (at_ [cw 6] { runner with stack := [entry true] }) = true ∧
    ctl 6 false false false false (at_ [cw 6] { runner with active := 0, stack := [entry true] }) = true := by decide +kernel

theorem witness_control_flow :
    (let s := at_ [cw 1 (px := 1) (tgt := 1), cw 3]
     let e : MaskEntry := { isLoop := false, saved := 0xFFFF, els := 0xFFFF, start := 1, target := 1 }
     ctl 1 true false true false s = true ∧ runner.stack.length < 16 ∧ runner.active &&& runner.p 1 = 0 ∧ kindOk (s.core 0) e = true ∧
       matchEnd (s.core 0) false 1024 1 0 = some 1) ∧
    (ctl 7 false false false false (at_ [cw 7]) = true ∧ runner.live &&& ~~~runner.active = 0) ∧
    ctl 0 false false false false (at_ [cw 0]) = true ∧ ctl 8 true false true false (at_ [cw 8 (tgt := 1023)]) = true ∧
    ctl 9 true false true false (at_ [cw 9 (tgt := 1023)]) = true ∧
    issues 0 (opIs 10) (fun w _ => cOk false true true false w) (fun w => [wCsx w]) 0 0 (at_ [cw 10 (sx := 31)]).toGk1 = true := by
  decide +kernel

theorem witness_status_words :
    ([11, 13].all fun op => issues 0 (opIs op) (fun (w _ : Nat) => cOk false true false false w && decide (wCsx w % 2 = 0))
      (fun w => [wCsx w, wCsx w + 1]) 0 0 (at_ [cw op (sx := 30)]).toGk1) = true ∧
    ctl 12 false false false true (at_ [cw 12 (tgt := 7)]) = true ∧ ctl 14 false false false false (at_ [cw 14]) = true := by
  decide +kernel

theorem witness_gathers :
    issues 0x0D (opIs 0) (fun w _ => vOk { bs := [0, 1, 2], types := [3] } w) (fun w => vRegs w false false false false) 0 0
      (at_ [vw 13 0 (ty := 3)]).toGk1 = true ∧
    ([1, 2, 3].all fun op => issues 0x0D (opIs op) (fun w _ => vOk { types := [3], imm := 15 } w) (fun w => vRegs w false false false false)
      0 0 (at_ [vw 13 op (ty := 3) (imm := 15)]).toGk1) = true ∧
    issues 0x0D (opIs 4) (fun w _ => vOk { bs := [1, 2], types := [3], imm := if wBsel w = 2 then 15 else 0 } w && decide (fld w 7 4 = 0))
      (fun w => vRegs w true false false false) 0 0 (at_ [vw 13 4 (bsel := 2) (ty := 3) (imm := 15)]).toGk1 = true ∧
    issues 0x0D (opIs 5) (fun w _ => vOk { va := 7, types := [3] } w && decide (fld w 7 4 = 0)) (fun w => vRegs w true false false false)
      0 0 (at_ [vw 13 5 (a := 7) (ty := 3)]).toGk1 = true ∧
    issues 0x0D (opIs 6) (fun w _ => vOk { types := [0, 1, 2, 3], imm := 0x7000 } w && redOk w && decide (fld w 7 4 = 0))
      (fun w => vRegs w true false false false) 0 0 (at_ [vw 13 6 (ty := 3) (imm := 0x5000)]).toGk1 = true ∧
    issues 0x0D (opIs 7) (fun w _ => vOk { types := [0, 1, 2] } w) (fun _ => []) 0 0 (at_ [vw 13 7 (ty := 2)]).toGk1 = true ∧
    ((List.range 16).length = 16 ∧ ∀ a ∈ List.range 16, a < 2 ^ 32) := by decide +kernel

/-- A group whose s1 holds a number. -/
def withS1 (v : BitVec 32) : Group := { runner with sregs := [(1, v)] }

/-- What the core-store statements ask of a state: the row's word, the guard, no fence. -/
def storeRow (op : Nat) (ok : Nat → Nat → Bool) (regs : Nat → List Nat) (writes : Bool) (s : State) : Bool :=
  issues 0x0E (opIs op) ok regs 0 0 s.toGk1 && (s.group 0 0).issues (fetched s.toGk1 0 0 false).w
    && !directHeld (fetched s.toGk1 0 0 false) writes

theorem witness_core_store :
    (storeRow 2 (fun w _ => vmemOk w) (fun w => vRegs w true true false false) false (at_ [vw 14 2 (d := 2) (a := 1) (ty := 6)] (withS1 40952))
      = true ∧ storeOk 8 (addrOf 40952 0) = true) ∧
    (storeRow 2 (fun w _ => vmemOk w) (fun w => vRegs w true true false false) false (at_ [vw 14 2 (d := 2) (a := 1) (ty := 3)] (withS1 40960))
      = true ∧ storeOk 4 (addrOf 40960 0) = false) ∧
    (storeRow 3 (fun w _ => vmemOk w) (fun w => vRegs w true true false false) true (at_ [vw 14 3 (d := 2) (a := 1) (ty := 3)] (withS1 40956))
      = true ∧ storeOk 4 (addrOf 40956 0) = true) ∧
    (storeRow 0 (fun w _ => vmemOk w) (fun _ => []) false (at_ [vw 14 0 (ty := 3)]) = true ∧
      ∀ l < 16, storeOk 4 (addrOf (runner.vn 0 l) 0) = true) ∧
    storeRow 1 (fun w _ => vmemOk w) (fun _ => []) true (at_ [vw 14 1 (ty := 3)]) = true := by decide +kernel

theorem witness_core_atomics :
    (List.range 13).all (fun op =>
      let s := at_ [vw 15 op (d := 2) (a := 1) (b := 3) (bsel := 1) (ty := 3) + 2 ^ 41 + 2 ^ 42] (withS1 40956)
      let i := fetched s.toGk1 0 0 false
      issues 0x0F (opIs op) (fun w _ => vatomOk op w) (vatomRegs op) 0 0 s.toGk1 && wScl i.w && i.G.issues i.w
        && !directHeld i true && storeOk 4 (i.G.sn (wA i.w))) = true := by decide +kernel

/-- The hypotheses of a tile row. -/
def tileRow (op : Nat) (ok : Nat → Nat → Bool) (regs : Nat → List Nat) (w : Nat) (G : Group := runner) : Bool :=
  let s := at_ [w] G
  issues 0x10 (opIs op) ok regs 0 0 s.toGk1 && G.issues w && !directHeld (fetched s.toGk1 0 0 false) true

theorem witness_tiles :
    ([2, 3].all fun op => tileRow op (fun w _ => tileMoveOk {} w) (fun w => vRegs w false false false false)
      (vw 16 op (bsel := 2) (imm := 0xF07))) = true ∧
    ([4, 5].all fun op => tileRow op (fun w _ => tileMoveOk { vd := 0 } w) (fun w => vRegs w false false false false)
      (vw 16 op (bsel := 2) (imm := 0xF07))) = true ∧
    tileRow 6 (fun w _ => vOk { vd := 0, imm := 0x3F } w) (fun _ => []) (vw 16 6 (imm := 0x38)) = true ∧
    ([0, 1].all fun op => tileRow op (fun w _ => vOk { vd := 0, bs := [1], imm := 7 } w) (fun w => vRegs w false true false false)
      (vw 16 op (a := 1) (b := 2) (bsel := 1) (imm := 7)) { runner with sregs := [(1, 39936), (2, 64)] }) = true ∧
    39936 + 15 * 64 + 64 ≤ 40960 ∧
    ([7, 8].all fun op => tileRow op (fun w _ => vOk { types := [0, 1, 2, 3], imm := 0x7007 } w && redOk w) (fun _ => [])
      (vw 16 op (ty := 3) (imm := 0x5007))) = true ∧
    tileRow 9 (fun w _ => vOk { vd := 0, imm := 7 } w && decide (wA w ≤ 16)) (fun _ => []) (vw 16 9 (a := 16) (imm := 7)) = true := by
  decide +kernel

/-- A core with a descriptor at address 0: format, columns. -/
def withDesc (fmt : Nat) : Core := { store := Mem.writeAll [] 0 (leBytes 8 (fmt + 32 * 2 ^ 16) ++ leBytes 8 (64 + 128 * 2 ^ 16)) }

theorem witness_blocks :
    (let s := at_ [vw 17 0 (b := 1) (bsel := 1)] runner (withDesc 3)
     let i := fetched s.toGk1 0 0 false
     issues 0x11 (opIs 0) (fun w _ => vOk { bs := [1], vc := 31 } w && decide (wD w % 2 = 0)) (fun w => vRegs w false false false true)
       0 0 s.toGk1 = true ∧ directHeld i false = false ∧
       (match vqOperand i with | .inr (p, b) => p.inStore b | .inl _ => false) = true) ∧
    (let s := at_ [vw 17 0 (b := 1) (bsel := 1)]
     issues 0x11 (opIs 0) (fun w _ => vOk { bs := [1], vc := 31 } w && decide (wD w % 2 = 0)) (fun w => vRegs w false false false true)
       0 0 s.toGk1 = true ∧ (vqOperand (fetched s.toGk1 0 0 false)).isLeft = true) ∧
    [3, 4].all (fun code =>
      let s := at_ [vw 17 1 (b := 1) (bsel := 1) (sx := 3)] { runner with sregs := [(3, BitVec.ofNat 32 code)] } (withDesc 3)
      let i := fetched s.toGk1 0 0 false
      issues 0x11 (opIs 1) (fun w _ => vOk { vd := 0, bs := [1], vc := 31, sx := true, imm := 31 } w && decide (wA w % 2 = 0)
          && decide (fld w 48 5 % 2 = 0)) (fun w => vRegs w false false true true ++ [fld w 48 5, fld w 48 5 + 1]) 0 0 s.toGk1
        && i.G.issues i.w && !directHeld i true &&
        (match vqOperand i with
        | .inr (p, b) => p.inStore b && (let q := Qcw.ofNat code
            if code = 3 then q.ok && decide (Fmt.ofCode q.fmt = some p.fmt) && decide (q.geom = p.patch) && decide (capOf q.capCode = some p.cap)
            else decide (Fmt.ofCode q.fmt ≠ some p.fmt))
        | .inl _ => false)) = true := by decide +kernel

/-! ## Witnesses: matrix instructions, barriers, movers -/

/-- A result of a check that is good and passes a test. -/
def okAnd {α : Type} (e : Except Nat α) (p : α → Bool) : Bool := match e with
  | .ok x => p x
  | .error _ => false

/-- An mma word: M 16, N 8, K 32, INIT, T32, registers s1 and s2; its second word. -/
def mmaW : List Nat := [0x60 + 1 * 2 ^ 21 + 2 * 2 ^ 26 + 2 ^ 41 + 2 ^ 42, 0x7F]

/-- A core with two FP32 operand descriptors at 0 and 32: planes at 1,024 and 4,096, rows of 32. -/
def operands (C : Core := {}) : Core :=
  { C with store := Mem.writeAll [] 0 (leBytes 8 (32 * 2 ^ 16) ++ leBytes 8 1024 ++ leBytes 16 0 ++ leBytes 8 (32 * 2 ^ 16) ++ leBytes 8 4096) }

/-- A group whose s1 and s2 name them. -/
def mmaG : Group := { runner with sregs := [(2, 32)] }

/-- An mma that waits in the queue or runs. -/
def mxq (rid : Nat := 1) : MxInstr :=
  { rid := rid, kind := .mma, slot := 0, kid := 7, w0 := BitVec.ofNat 64 (mmaW.getD 0 0)
    w1 := 0x7F, aD := [BitVec.ofNat 64 (32 * 2 ^ 16), 1024, 0, 0], bD := [BitVec.ofNat 64 (32 * 2 ^ 16), 4096, 0, 0], tid := 1 }

/-- The hypotheses of an accepted mma. -/
def mmaReady (s : State) : Bool :=
  let i := fetched s.toGk1 0 0 true
  issues 0x20 (fun _ => true) mmaOk (fun w => [fld w 21 5, fld w 26 5]) 0 0 s.toGk1 && i.G.issues i.w &&
    okAnd i.mmaArgs fun x => !i.waitsFor i.mmaReads && !engineHeld i (mxDrn i.w1) true && mxInit i.w &&
      decide (((s.bankCores 0).map fun c => (s.core c).bankBytes).sum + x.bound.m * x.bound.n * elemBytes x.bound.fmt ≤ s.bankLimit 0)

theorem witness_mma :
    (let s := at_ mmaW { mmaG with sregs := [(1, 1)] }
     let i := fetched s.toGk1 0 0 true
     issues 0x20 (fun _ => true) mmaOk (fun w => [fld w 21 5, fld w 26 5]) 0 0 s.toGk1 = true ∧ i.G.issues i.w = true ∧
       i.waitsFor i.mmaReads = false ∧ (match i.mmaArgs with | .error _ => true | .ok _ => false) = true) ∧
    (let s := at_ mmaW mmaG (operands { mq := [mxq 1, mxq 2, mxq 3, mxq 4] })
     mmaReady s = true ∧ (fetched s.toGk1 0 0 true).queueFull = true) ∧
    (let s := at_ mmaW mmaG (operands { mq := [mxq 1, mxq 2, mxq 3] })
     mmaReady s = true ∧ (fetched s.toGk1 0 0 true).queueFull = false) ∧
    (operands.pendFull ((mxOprel 0x7F).toList ++ (mxDone 0x7F).toList) = false) := by decide +kernel

/-- A group of the gradient store at U0 0: 4 tiles of 16 x 8. -/
def wg (fmt : Nat := 0) (shared : Bool := false) : WGroup :=
  { u0 := 0, wcount := 4, m := 16, n := 8, fmt := fmt, w := 0, shared := shared, owner := 0, ctx := 0 }

/-- A cluster with that group. -/
def wgCluster : Cluster := { wgs := [(5, wg)] }

/-- An mma.wg word with a MODE field. -/
def mmaWgW (mode : Nat) : List Nat := [0x61 + 1 * 2 ^ 21 + 2 * 2 ^ 26 + 3 * 2 ^ 31 + mode * 2 ^ 54, 0x7F]

theorem witness_mma_wg :
    (let s := at_ (mmaWgW 1) mmaG operands
     let i := fetched s.toGk1 0 0 true
     issues 0x21 (fun _ => true) mmaWgOk (fun w => [fld w 21 5, fld w 26 5, fld w 31 5]) 0 0 s.toGk1 = true ∧ i.G.issues i.w = true ∧
       mmaWgMode i.w i.w1 = true) ∧
    (let s : State := { at_ (mmaWgW 0) mmaG operands with clusters := [(0, wgCluster)] }
     let i := fetched s.toGk1 0 0 true
     issues 0x21 (fun _ => true) mmaWgOk (fun w => [fld w 21 5, fld w 26 5, fld w 31 5]) 0 0 s.toGk1 = true ∧ i.G.issues i.w = true ∧
       mmaWgMode i.w i.w1 = false ∧ (i.opds.any fun o => (operandRefusal true i.w i.w1 0 o.1 o.2).isNone) = true ∧
       inStore (i.G.sn (fld i.w 31 5)) (2 * mxK i.w) = true ∧ (s.cluster 0).groupAt (mxU0 i.w) = some (5, wg) ∧ wg.m = mxM i.w ∧
       wg.n = mxN i.w ∧ wg.owner = 0 ∧ engineHeld i false true = false ∧ i.queueFull = false ∧
       i.C.pendFull ((mxOprel i.w1).toList ++ (mxDone i.w1).toList) = false) := by decide +kernel

/-- An acc.drain word: handle 3, RELEASE, descriptor at s1. -/
def drainW : Nat := 0x22 + 3 * 2 ^ 11 + 2 ^ 16 + 1 * 2 ^ 17

/-- A core with a drain descriptor at 0 (PITCH 32, STATUS 64), handle 3 bound to total 1. -/
def drainCore : Core :=
  { store := Mem.writeAll [] 40 [32, 0, 0, 0, 0, 0, 0, 0, 0, 0, 0, 0, 0, 0, 0, 0, 0, 0, 0, 0, 0, 0, 0, 0, 64]
    hbind := [(3, { tid := 1, m := 16, n := 8, fmt := 0, w := 0 })], totals := [(1, { m := 16, n := 8 })] }

theorem witness_drain :
    (let s := at_ [drainW] { runner with awaiting := [9] } { drainCore with store := Mem.writeAll [] 0 [0, 0x12] }
     let i := fetched s.toGk1 0 0 false
     issues 0x22 (fun _ => true) (fun w _ => fld w 29 35 = 0) (fun w => [fld w 17 5]) 0 0 s.toGk1 = true ∧ i.G.issues i.w = true ∧
       i.waitsFor (i.drainReads (fld i.w 17 5)) = true) ∧
    (let s := at_ [drainW]
     let i := fetched s.toGk1 0 0 false
     issues 0x22 (fun _ => true) (fun w _ => fld w 29 35 = 0) (fun w => [fld w 17 5]) 0 0 s.toGk1 = true ∧ i.G.issues i.w = true ∧
       i.waitsFor (i.drainReads (fld i.w 17 5)) = false ∧
       okAnd (drainAt i.C.store i.G (fld i.w 17 5) (i.w.testBit 16)) (fun _ => true) = true ∧ NMap.get? i.C.hbind (fld i.w 11 5) = none) ∧
    (let s := at_ [drainW] runner drainCore
     let i := fetched s.toGk1 0 0 false
     issues 0x22 (fun _ => true) (fun w _ => fld w 29 35 = 0) (fun w => [fld w 17 5]) 0 0 s.toGk1 = true ∧ i.G.issues i.w = true ∧
       okAnd (drainAt i.C.store i.G (fld i.w 17 5) (i.w.testBit 16)) (fun d =>
         (d.refusal 16 8 0 false).isNone) = true ∧ i.waitsFor (i.drainReads (fld i.w 17 5)) = false ∧
       NMap.get? i.C.hbind (fld i.w 11 5) = some { tid := 1, m := 16, n := 8, fmt := 0, w := 0 } ∧ engineHeld i true true = false ∧
       i.queueFull = false ∧ i.C.pendFull (doneOf i.w 22 23).toList = false) := by decide +kernel

/-- A wgs word of an op: U0 0. -/
def wgsW (op : Nat) (f : Nat := 0) : List Nat := [0x63 + op * 2 ^ 11 + f, 0x7F]

/-- The hypotheses of a wgs row. -/
def wgsRow (op : Nat) (ok : Nat → Nat → Bool) (regs : Nat → List Nat) (s : State) : Bool :=
  issues 0x23 (op3Is op) ok regs 0 0 s.toGk1 && (s.group 0 0).issues (fetched s.toGk1 0 0 true).w

theorem witness_gradient_store :
    wgsRow 0 wgsOpenOk (fun _ => []) (at_ (wgsW 0 (2 ^ 33))) = true ∧
    (wgsRow 0 wgsOpenOk (fun _ => []) (at_ (wgsW 0 (63 * 2 ^ 20 + 3 * 2 ^ 26 + 7 * 2 ^ 28))) = true ∧ 64 < (wgUnits 0 64 64 64 0).2) ∧
    (wgsRow 0 wgsOpenOk (fun _ => []) (at_ (wgsW 0 (3 * 2 ^ 20))) = true ∧ (wgUnits 0 4 16 8 0).2 ≤ 64) ∧
    (let s : State := { at_ (wgsW 1 (3 * 2 ^ 20 + 1 * 2 ^ 26)) with clusters := [(0, wgCluster)] }
     wgsRow 1 wgsCommitOk (fun w => [fld w 36 5, fld w 36 5 + 1, fld w 41 5, fld w 46 5]) s = true ∧
       (s.cluster 0).groupAt 0 = some (5, wg) ∧ wg.wcount < 3 + (1 + 1)) ∧
    (let s : State := { at_ (wgsW 1 (3 * 2 ^ 26)) with clusters := [(0, wgCluster)] }
     let i := fetched s.toGk1 0 0 true
     wgsRow 1 wgsCommitOk (fun w => [fld w 36 5, fld w 36 5 + 1, fld w 41 5, fld w 46 5]) s = true ∧ 0 + (3 + 1) ≤ wg.wcount ∧
       i.G.pair (fld i.w 36 5) % 64 = 0 ∧ i.G.sn (fld i.w 41 5) % 64 = 0 ∧ wgStatus i.w1 % 16 = 0 ∧ inStore (wgStatus i.w1) 16 = true ∧
       engineHeld i true true = false ∧ (s.core 0).pendFull (doneOf i.w 51 52).toList = false) ∧
    (let s : State := { at_ (wgsW 2) with clusters := [(0, wgCluster)] }
     wgsRow 2 (fun w w1 => fld w 20 44 = 0 && w1 >>> 7 = 0) (fun _ => []) s = true ∧ (s.cluster 0).groupAt 0 = some (5, wg) ∧
       ((s.cluster 0).wops.any fun o => o.gid = 5) = false) ∧
    ([false, true].all fun b => let s := at_ [0x24 + b2n b * 2 ^ 11]
      issues 0x24 (fun w => w.testBit 11 = b) (fun w _ => w >>> 12 = 0) (fun _ => []) 0 0 s.toGk1
        && (s.group 0 0).issues (fetched s.toGk1 0 0 false).w) = true := by decide +kernel

theorem witness_gang :
    (let s : State := { clusters := [(0, { hold := true })] }
     (s.cluster 0).ganged = false ∧ s.wantsGang 0 = true ∧ s.arraysEmpty 0 = true ∧ s.apartOwed 0 = false) ∧
    (let s : State := { clusters := [(0, { ganged := true, apartWait := 4096 })], cores := [(0, { mq := [mxq] })] }
     (s.cluster 0).ganged = true ∧ (s.cluster 0).hold = false ∧ s.arraysEmpty 0 = true ∧
       ((s.heads 0).any fun h => !h.2.ganged && h.2.forms) = true ∧ ((s.heads 0).any fun h => h.2.ganged) = false ∧
       (s.cluster 0).apartFirst = [] ∧ 4096 ≤ (s.cluster 0).apartWait) := by decide +kernel

theorem witness_stalled :
    ([Stall.queue, .bank, .engpend].all fun st =>
      let s := at_ mmaW { mmaG with stall := st } operands
      let s0 := became s (groupIs s 0 0 { s.group 0 0 with stall := .none })
      decide ((s.group 0 0).stall = st) && mmaReady s0 && !(fetched s0.toGk1 0 0 true).queueFull
        && !(s.core 0).pendFull ((mxOprel 0x7F).toList ++ (mxDone 0x7F).toList)) = true ∧
    (at_ mmaW mmaG).group 0 0 ≠ { mmaG with stall := .queue } := by decide +kernel

/-- A bar word: object 1, CNT 2, further fields. -/
def barW (op : Nat) (f : Nat := 2 * 2 ^ 20) : Nat := 0x28 + op * 2 ^ 11 + 2 ^ 14 + f

/-- The hypotheses of a bar row, with object 1 as given. -/
def barRow (op : Nat) (ok : Nat → Bool) (regs : Nat → List Nat) (w : Nat) (B : Bar) : Bool :=
  let s := at_ [w] runner { bars := [(1, B)] }
  issues 0x28 (op3Is op) (fun w _ => ok w) regs 0 0 s.toGk1 && (s.group 0 0).issues w && decide ((s.core 0).bar (fld w 14 6) = B)

theorem witness_barriers :
    ([({ waiters := 1 } : Bar), { engpend := 1 }, { arrived := 1 }].all
      (barRow 0 (fun w => barOk true false false w && fld w 20 8 ≠ 0) (fun _ => []) (barW 0))) = true ∧
    ([1, 3].all fun op => [({ count := 3 } : Bar), { count := 2 }].all
      (barRow op (fun w => barOk true false false w && fld w 20 8 ≠ 0) (fun _ => []) (barW op))) = true ∧
    (2 < 3 - 0 ∧ 2 - 0 ≤ 2) ∧
    ([({ gen := 1 } : Bar), { gen := 0 }].all (barRow 2 (barOk false true false) (fun w => [fld w 28 5]) (barW 2 0))) = true ∧
    barRow 4 (barOk false false true) (fun w => [fld w 33 5]) (barW 4 0) {} = true ∧
    barRow 5 (fun w => barOk false false true w && fld w 33 5 % 2 = 0) (fun w => [fld w 33 5, fld w 33 5 + 1]) (barW 5 (30 * 2 ^ 33)) {} = true := by
  decide +kernel

theorem witness_arrivals :
    (let s : State := { msgs := [(4, { kind := .arrival, kid := 7, bar := 1 })], cores := [(0, { kid := some 7, bars := [(1, { count := 2 })] })] }
     (NMap.get? s.msgs 4).any (fun m => m.kind = .arrival && decide ((s.core m.core).kid = some m.kid)) = true) ∧
    (let s : State := { msgs := [(4, { kind := .arrival, kid := 7, bar := 1 })] }
     (NMap.get? s.msgs 4).any (fun m => m.kind = .arrival && decide ((s.core m.core).kid ≠ some m.kid)) = true) := by decide +kernel

theorem witness_fences :
    ([2, 1, 0].all fun sem =>
      let s := at_ [0x29 + 3 * 2 ^ 11 + sem * 2 ^ 13]
      issues 0x29 (fun w => wSem w = sem) (fun w _ => fld w 15 49 = 0) (fun _ => []) 0 0 s.toGk1
        && (s.group 0 0).issues (fetched s.toGk1 0 0 false).w && decide (pendingFences s.toGk1 (s.group 0 0) = [])
        && decide (fenceWaits s.toGk1 0 0 3 = [])) = true ∧
    (let s : State := { at_ [0x29 + 3 * 2 ^ 11] with reqs := [(1, { kind := .mvGet, core := 0, slot := 0, kid := 0, ctx := 0, left := 1 })] }
     fenceWaits s.toGk1 0 0 3 ≠ []) := by decide +kernel

/-- An mv word: LA s1, VA s2, LEN s4, ROWS s5, PITCH s6. -/
def mvW (op : Nat) : Nat := 0x2A + op * 2 ^ 11 + 1 * 2 ^ 14 + 2 * 2 ^ 19 + 4 * 2 ^ 24 + 5 * 2 ^ 29 + 6 * 2 ^ 34

/-- A group with the operands of one row of 32 bytes at the end of the core store. -/
def mvG (rows : BitVec 32) : Group := { runner with sregs := [(1, 40928), (4, 32), (5, rows)] }

/-- The hypotheses of an mv row, and whether its operands are good. -/
def mvRow (op : Nat) (G : Group) (good : Bool) : Bool :=
  let s := at_ [mvW op] G
  let i := fetched s.toGk1 0 0 false
  issues 0x2A (op3Is op) (fun w _ => fld w 62 2 = 0 && evenBase (fld w 19 5))
      (fun w => [fld w 14 5, fld w 19 5, fld w 19 5 + 1, fld w 24 5, fld w 29 5, fld w 34 5]) 0 0 s.toGk1 && G.issues i.w
    && i.mvArgs.ok == good && !engineHeld i true true && !i.C.pendFull (doneOf i.w 39 40).toList

/-- The hypotheses of an ns row: DKIND 1, core store at s1, length s2, device address s4. -/
def nsRow (op : Nat) (G : Group) (good : Bool) : Bool :=
  let s := at_ [0x6B + op * 2 ^ 11 + 1 * 2 ^ 14 + 1 * 2 ^ 16 + 2 * 2 ^ 21 + 4 * 2 ^ 26, 0x7F] G
  let i := fetched s.toGk1 0 0 true
  issues 0x2B (op3Is op) (nsOk (op = 0))
      (fun w => [fld w 16 5, fld w 21 5, fld w 26 5] ++ (if fld w 14 2 = 0 then [] else [fld w 26 5 + 1])
        ++ (if fld w 14 2 = 2 then [fld w 31 5] else [])) 0 0 s.toGk1 && G.issues i.w && i.nsArgs.ok == good
    && !engineHeld i true (i.nsArgs.kind ≠ 2) && !i.C.pendFull (doneOf i.w 41 42).toList && !i.nsRefused i.nsArgs && !i.nsBlocked (op = 0) i.nsArgs

theorem witness_movers :
    ([0, 1].all fun op => mvRow op (mvG 1) true && mvRow op (mvG 0) false) = true ∧
    ([0, 1].all fun op => nsRow op { runner with sregs := [(1, 40928), (2, 32)] } true && nsRow op runner false) = true ∧
    (let q : Req := { kind := .mvGet, core := 0, slot := 0, kid := 0, ctx := 0, handed := true, done := some 3 }
     q.kind.byMover = true ∧ q.handed = true ∧ q.left = 0) := by decide +kernel

theorem witness_atomics_and_heap :
    ((List.range 13).all fun op =>
      let s := at_ [0x2D + op * 2 ^ 11 + 1 * 2 ^ 16 + 2 * 2 ^ 21 + 4 * 2 ^ 26 + 2 ^ 36]
      let i := fetched s.toGk1 0 0 false
      issues 0x2D (opIs op) (fun w _ => evenBase (fld w 21 5) && (op = 12 || fld w 31 5 = 0) && fld w 37 27 = 0)
        (fun w => [fld w 21 5, fld w 21 5 + 1, fld w 26 5] ++ (if op = 12 then [fld w 31 5] else [])
          ++ (if w.testBit 36 then [fld w 16 5] else [])) 0 0 s.toGk1 && i.G.issues i.w && !engineHeld i true true) = true ∧
    (let s := at_ [0x2C + 2 * 2 ^ 14 + 1 * 2 ^ 19]
     issues 0x2C (op3Is 0) (fun w _ => evenBase (fld w 14 5) && fld w 24 40 = 0) (fun w => [fld w 14 5, fld w 14 5 + 1, fld w 19 5]) 0 0
       s.toGk1 = true ∧ engineHeld (fetched s.toGk1 0 0 false) false true = false) ∧
    ([0, 65536, 65792].all fun a =>
      let s : State := { at_ [0x2C + 2 ^ 11 + 2 * 2 ^ 19] { runner with sregs := [(2, a)] } with
        ctxs := [(0, { state := 1, heapVA := 65536, heapCh := 1, blocks := [(65536, 8)], chunks := [(0, 8, 0)] })] }
      issues 0x2C (op3Is 1) (fun w _ => fld w 14 5 = 0 && evenBase (fld w 19 5) && fld w 24 40 = 0)
        (fun w => [fld w 19 5, fld w 19 5 + 1]) 0 0 s.toGk1 && !engineHeld (fetched s.toGk1 0 0 false) true true
        && ((s.group 0 0).pair 2 = a.toNat) && (((s.ctx 0).free a.toNat).isSome == decide (a = 65536))) = true := by decide +kernel

/-- A context with a heap of chunks from 1 MiB on. -/
def heapCtx : Ctx := { state := 1, heapVA := 2 ^ 20, heapCh := 16 }

theorem witness_heap_blocks :
    ((heapCtx.alloc 0 0 0).1 = 0 ∧ (heapCtx.alloc 0 0 (2 ^ 20 + 1)).1 = 0 ∧ 0 < heapCtx.heapVA) ∧
    (heapCtx.alloc 0 0 (2 ^ 20)).1 = 2 ^ 20 := by
  refine ⟨by decide +kernel, ?_⟩
  simp only [Ctx.alloc, pick, show heapClass (2 ^ 20) = some 20 by decide +kernel, show (heapCtx.freeChunks 20) = [0] by decide +kernel]
  simp [heapCtx, chunkBytes, Nat.mod_one]
  split <;> rfl

/-- A message of a kind on core 0 whose kernel still runs there. -/
def msgAt (m : Msg) (C : Core := { kid := some 7 }) : State := { msgs := [(4, { m with kid := 7 })], cores := [(0, C)], dtime := 5000 }

theorem witness_replies : ([MsgKind.atomReply, .heapReply, .ack, .readReply].all fun k =>
    let s := msgAt { kind := k, reg := 2 }
    (NMap.get? s.msgs 4).any (fun m => decide (m.kind = k) && decide ((s.core m.core).kid = some m.kid) && quiet s.toGk1 m.core)) = true := by
  decide +kernel

theorem witness_arriving_writes :
    (let m : Msg := { kind := .write, place := .store 5 40928, data := [(0, 1)], kid := 7 }
     let s := { msgAt m with regions := [(0, { owner := some 0 })] }
     NMap.get? s.msgs 4 = some m ∧ m.unsent = false ∧ m.returned = none ∧ m.closing = false ∧ m.late = false ∧ m.stream = none ∧
       m.pkt = none ∧ s.coreRails (clusterOf 5) = true ∧ s.drainBefore 4 m = false) ∧
    (let m : Msg := { kind := .write, place := .dev (2 ^ 50), data := [(0, 0)], kid := 7 }
     let s := msgAt m
     NMap.get? s.msgs 4 = some m ∧ s.snapOf m.ctx (2 ^ 50 / 32 * 32) = none ∧ s.drainBefore 4 m = false ∧
       (match s.translate m.ctx true m.enforced (2 ^ 50 / 32 * 32) with | .error _ => true | .ok _ => false) = true) ∧
    (let m : Msg := { kind := .write, place := .dev 0, returned := some 4000, kid := 7 }
     let s := msgAt m
     NMap.get? s.msgs 4 = some m ∧ 4000 + 1000 ≤ s.dtime ∧ m.place.isPeer = false) := by decide +kernel

theorem witness_feeder :
    (let s := at_ mmaW mmaG { mq := [mxq] }
     ((s.core 0).mq.find? fun x => !x.fed) = some (mxq) ∧ (s.core 0).queued < 8 ∧ (s.cluster 0).lost = false) ∧
    (let x : MxInstr := { mxq with w1 := 0x7F + 2 ^ 7, fillPass := 1 }
     let s := at_ mmaW mmaG { mq := [x] }
     (s.core 0).mx 1 = some x ∧ (mxOprel x.w1.toNat).isSome = true ∧ x.forms = true ∧ x.fed = true ∧ x.oprelDone = false) := by
  decide +kernel

/-- A cluster HELD for kernel 7. -/
def heldCluster : Cluster := { held := true, admitted := some 7 }

/-- The part in which instruction x may run on core 0. -/
def running (x : MxInstr) : State := { cores := [(0, { mq := [x] })], clusters := [(0, heldCluster)] }

theorem witness_array_steps :
    (let x := mxq
     (running x).mayRun 0 x = true ∧ x.entries = []) ∧
    (let x : MxInstr := { mxq with entries := [{ stall := 1 }] }
     (running x).mayRun 0 x = true) ∧
    (let x : MxInstr := { mxq with
       entries := [{}], aD := [BitVec.ofNat 64 (6 + 32 * 2 ^ 16), 1024, 0, 0], bD := [BitVec.ofNat 64 (6 + 32 * 2 ^ 16), 4096, 0, 0] }
     (running x).mayRun 0 x = true ∧ x.pace.1 ≤ x.sub + 1 ∧ (x.advance {} x.pace.2).2 = [] ∧ x.kpos + x.pace.2 < x.mnk.2.2) ∧
    (let x : MxInstr := { mxq with arrayDone := true, w1 := 0x7F + 2 ^ 14 }
     let s : State := { cores := [(0, { pipe := [x], totals := [(1, { m := 16, n := 8 })] })] }
     ((s.core 0).pipe.find? fun x => x.rid = 1) = some x ∧ s.promoteHeld 0 x = false ∧ x.kind = .mma ∧
       NMap.get? (s.core 0).totals x.tid = some { m := 16, n := 8 } ∧ x.drain = none ∧ (mxDone x.w1.toNat).isSome = true) ∧
    (let x : MxInstr := { mxq with arrayDone := true, kind := .mmaWg }
     let s : State := { cores := [(0, { pipe := [x] })] }
     ((s.core 0).pipe.find? fun x => x.rid = 1) = some x ∧ s.promoteHeld 0 x = false ∧ x.kind = .mmaWg) := by decide +kernel

/-- A drain in the pipeline of core 0. -/
def job (started : Bool) : DrainJob := { rid := 1, slot := 0, kid := 7, tid := 1, req := { release := true }, done := some 3, started := started }

theorem witness_drains :
    (let s : State := { cores := [(0, { drains := [job false], totals := [(1, { m := 16, n := 8 })] })] }
     (s.core 0).drains = job false :: [] ∧ NMap.get? (s.core 0).totals (job false).tid = some { m := 16, n := 8 } ∧
       s.drainReady 0 (job false) = true) ∧
    (let s : State := { cores := [(0, { drains := [job true] })] }
     (s.core 0).drains = job true :: [] ∧ (job true).started = true ∧ s.pendingWrites (job true).rid = []) ∧
    (let j : DrainJob := { job true with req := { release := true, words := [2 ^ 45] } }
     let m : Msg := { kind := .write, rid := 1, place := .dev 0, data := [(0, 0)] }
     let s : State := { msgs := [(4, m)], cores := [(0, { drains := [j] })] }
     s.pendingWrites j.rid = [(4, m)] ∧ j.req.dest ≠ 0 ∧ m.unsent = false ∧ s.wouldFault m = false) ∧
    (let m : Msg := { kind := .write, rid := 1, place := .store 0 64, data := [(0, 1)] }
     let s : State := { msgs := [(4, m)], nextId := 5, cores := [(0, { drains := [job true] })], regions := [(0, { owner := some 0 })] }
     s.pendingWrites (job true).rid = [(4, m)] ∧ 4 < s.nextId ∧ (job true).req.dest = 0 ∧ m.stream = none ∧ s.drainBefore 4 m = false ∧
       s.coreRails (clusterOf 0) = true) ∧
    (let j : DrainJob := { job true with req := { release := true, words := [2 ^ 45] } }
     let m : Msg := { kind := .write, rid := 1, place := .dev (2 ^ 50), data := [(0, 0)] }
     let s : State := { msgs := [(4, m)], nextId := 5, cores := [(0, { drains := [j] })] }
     s.pendingWrites j.rid = [(4, m)] ∧ 4 < s.nextId ∧ j.req.dest ≠ 0 ∧ s.drainBefore 4 m = false ∧ s.snapOf m.ctx (2 ^ 50 / 32 * 32) = none ∧
       (match s.translate m.ctx true m.enforced (2 ^ 50 / 32 * 32) with | .error _ => true | .ok _ => false) = true) ∧
    (let o : WOp := { rid := 2, gid := 5, kind := 1, core := 0 }
     let s : State := { clusters := [(0, { wgs := [(5, wg)], wops := [o] })] }
     (s.cluster 0).lost = false ∧ (s.cluster 0).commitDue = some o ∧ NMap.get? (s.cluster 0).wgs o.gid = some wg) := by decide +kernel

/-- A read or an atomic of device address 32. -/
def access (k : MsgKind) (va : Nat := 32) : Msg := { kind := k, place := .dev va, len := 32, kid := 7 }

theorem witness_region_cache :
    (let s := msgAt (access .read (2 ^ 50))
     NMap.get? s.msgs 4 = some (access .read (2 ^ 50)) ∧ quiet s.toGk1 0 = true ∧
       (match s.translate 0 false false (2 ^ 50) with | .error _ => true | .ok _ => false) = true) ∧
    (let s := msgAt (access .read)
     (match s.translate 0 false false 32 with
      | .ok (.dev loc ofs) => (match s.locate loc ofs with
        | .ok (gid, _) => decide (gid = 0) && decide (ofs = 32) && !(s.region (gStack gid)).stackLost && !NMap.has s.cache gid
        | .error _ => false)
      | _ => false) = true) ∧
    (let s : State := { msgAt (access .read) with cache := [(0, { valid := 2 })] }
     (match s.translate 0 false false 32 with
      | .ok (.dev loc ofs) => (match s.locate loc ofs with
        | .ok (gid, _) => (NMap.get? s.cache gid).any fun L => L.valid.getLsbD (ofs % 256 / 32) && !L.bad.getLsbD (ofs % 256 / 32)
        | .error _ => false)
      | _ => false) = true) ∧
    33 % 4 ≠ 0 := by decide +kernel

/-- An error of four symbols, which the code does not correct. -/
def fourSymbols : List (Nat × Byte) := [(0, 1), (1, 1), (2, 1), (3, 1)]

/-- A word read for another slot than its own fails its check (R395). -/
theorem test_wrong_slot :
    let data : List Byte := (List.range 32).map fun i => BitVec.ofNat 8 (7 * i + 1)
    wordSyn (wordSymbols data (wordAddr 5 2)) (wordAddr 5 2) = [0, 0, 0, 0] ∧
      guardDecode (wordSyn (wordSymbols data (wordAddr 5 2)) (wordAddr 6 2)) [] = none := by decide +kernel

theorem witness_fills :
    (let L : Line := {}
     let s : State := { cache := [(7, L)], fills := [(wordNo 7 5, 0, false)] }
     NMap.get? s.fills (wordNo 7 5) = some (0, false) ∧ ((s.region (gStack 7)).channel (gChannel 7)).retrained = none ∧
       (s.region (gStack 7)).stackLost = false ∧ NMap.get? s.cache 7 = some L ∧ L.valid.getLsbD 5 = false ∧ s.listed 7 5 = false ∧
       ((s.region (gStack 7)).channel (gChannel 7)).erasures = [] ∧ (s.region (gStack 7)).badWords.length < 1024 ∧ 7 < nGranules ∧
       5 < nSectors ∧
       readWord 7 5 (sectorBytes s.dram (7 * 256) 5) (noiseOf fourSymbols) ((((s.sweepOn (gStack 7) (gChannel 7)).region (gStack 7)).channel (gChannel 7)).erasuresAt (gSlot 7)) = none) := by decide +kernel

theorem witness_stacks :
    (let s : State := {}
     NMap.get? ((s.region 63).channel 31).refreshed 63 = none ∧ ((s.region 63).channel 31).retrained = none ∧
       s.scrubCtl.testBit 0 = true ∧ (s.region 0).stackLost = false ∧ (s.region 0).margining = false ∧
       NMap.has s.cache 0 = false ∧ ((s.region 0).channel 0).erasures = [] ∧ s.listed 0 0 = false ∧
       readWord 0 0 (sectorBytes s.dram 0 0) (noiseOf [(35, 9)]) [] = some ([], [35]) ∧ ((s.scrubPass (gStack 0)).region (gStack 0)).scrubbed.contains 0 = false) ∧
    (let s : State := { cache := [(0, {})] }
     NMap.has s.cache 0 = true) ∧
    (let s : State := { regions := [(3, { channels := [(2, { rebuild := some (5, 9) })] })] }
     (s.region 3).margining = false ∧ ((s.region 3).channel 2).rebuild = some (5, 9) ∧ ((s.region 3).channel 2).hasSpare = some 36 ∧
       ((s.region 3).channel 2).erased = []) ∧
    (let s : State := { regions := [(3, { channels := [(2, { rebuild := some (5, 9), erased := [7] })] })] }
     ({ (s.region 3).channel 2 with spared := [(5, 36)], rebuild := none } : Channel).hasSpare = some 37) ∧
    (let s : State := { part := .ready }
     s.blocksWork = true ∧ (0x80000003#32).getLsbD 31 = true ∧ (3#32).getLsbD 31 = false) := by decide +kernel

/-! ## Witnesses: the host link, queues and registers -/

/-- A part that works, its link open, 5 ms of device time. -/
def up : State := { part := .ready, edge := { linkUp := true }, dtime := 5000000 }

/-- A descriptor of words Q0, Q1 .... -/
def dsc (ws : List Nat) (seq : Nat := 0) : Desc := { ring := 0, seq := seq, q := ws.map (BitVec.ofNat 64) }

/-- A state with a queue that holds a fetched descriptor, and a register. -/
def fetchedAt (q : Nat) (d : Desc) (s : State := up) : State := { s with queues := [(q, { state := 1, fetched := [d] })] }

/-- A state in which queue q's descriptor has started. -/
def started (q : Nat) (d : Desc) (s : State := up) : State := { s with queues := [(q, { state := 1, cur := some { desc := d } })] }

theorem witness_host_link :
    (up.part ≠ .off ∧ up.part ≠ .powerRamp ∧ up.edge.d3hot = false ∧ up.edge.linkUp = true) ∧
    (let m : Msg := { kind := .hostRead, len := 2 }
     let s : State := { up with msgs := [(4, m)], dtime := 50000000 }
     NMap.get? s.msgs 4 = some m ∧ s.linkOpen = true ∧ ([1, 2] : List Byte).length = m.len ∧ m.sentAt + 50000000 ≤ s.dtime) ∧
    (let s : State := { up with regs := [(0x58, 1)] }
     s.linkOpen = true ∧ s.ptmCtl.testBit 0 = true ∧ s.edge.ptmAt = none ∧ 5 ≤ s.dtime) ∧
    (let s : State := { up with edge := { up.edge with msixWait := [(3, 7)] } }
     (s.edge.msixWait.any fun w => w.1 = 3 && decide (w.2 ≤ s.dtime)) = true ∧ s.msixMasked 3 = true) ∧
    (let s : State := { up with edge := { up.edge with msixWait := [(3, 7)], msixTable := [(3 * 4 + 3, 0)] } }
     (s.edge.msixWait.any fun w => w.1 = 3 && decide (w.2 ≤ s.dtime)) = true ∧ s.msixMasked 3 = false) := by decide +kernel

theorem witness_queue_engine_reset : up.regsWork = true ∧ isHlQe 0x60 = true ∧ 1 < 2 ^ 64 := by decide +kernel

theorem witness_polls :
    (let s : State := { up with regs := [(0x28, 1)], queues := [(0, { state := 1 })] }
     let bytes : List Byte := 1 :: List.replicate 511 0
     s.pollDue = true ∧ (List.range 512).all (fun k => decide (bytes.getD k 0 ≠ 0 ↔ k = 0)) = true ∧ s.postHeld = [] ∧
       ((1 : Nat) < s.sqSize 0 ∧ 0 < s.cqSize 0) ∧ s.sqSize 0 ≤ 65535 ∧ (s.queue 0).state = 1) ∧
    (let s : State := { up with queues := [(9, { state := 1, submitted := 2 })] }
     let ds : List (List (BitVec 64)) := [List.replicate 8 0, List.replicate 8 0]
     s.queuesRun = true ∧ s.linkOpen = true ∧ (s.queue 9).state = 1 ∧ ds.length ≤ (s.queue 9).submitted - (s.queue 9).fetchedN ∧
       ds.length ≤ 64 ∧ (s.queue 9).fetched.length + ds.length ≤ 256 ∧ (s.queue 9).sqHead + ds.length ≤ s.sqSize 9 ∧
       (∀ d ∈ ds, d.length = 8)) := by decide +kernel

/-- A record. -/
def rec0 : Rec := { ring := 0, utag := 0, status := 0, typ := 0, time := 0, irq := false }

theorem witness_records :
    (let s : State := { up with queues := [(2, { state := 1, recs := [rec0], cqTail := 255, cqHead := 0 })] }
     (s.queue 2).recs = rec0 :: [] ∧ s.cqRoom 2 = 0) ∧
    (let s : State := { up with queues := [(2, { state := 1, recs := [rec0] })] }
     s.cqRoom 2 ≠ 0 ∧ s.linkOpen = true ∧ s.postHeld = [] ∧ (s.queue 2).cqTail + 1 ≠ s.cqSize 2) ∧
    (let s : State := { up with queues := [(2, { state := 1, recs := [rec0], cqTail := 255, cqHead := 1 })] }
     s.cqRoom 2 ≠ 0 ∧ (s.queue 2).cqTail + 1 = s.cqSize 2) ∧
    ([dsc [0x200], dsc [7], dsc [0x10]].all fun d => starts (fetchedAt 2 d).toGk1 2 d && d.plain 2) = true := by decide +kernel

theorem witness_queue_commands :
    (up.queuesRun = true ∧ (up.queue 3).state = 0 ∧ up.ctxLive (up.qctx 3) = true ∧ 255 < up.sqSize 3 ∧ 255 < up.cqSize 3) ∧
    (let s : State := { up with regs := [(0x1000D8, 0x188)] }
     s.ctxLive (s.qctx 3) = false ∧ (s.queue 3).state = 0) ∧
    (let s : State := { up with queues := [(3, { state := 1 })] }
     (s.queue 3).state = 1 ∧ (s.queue 3).cur = none ∧ (s.queue 3).deferred = [] ∧ (s.queue 3).fetched = [] ∧ (s.queue 3).recs = []) ∧
    (let s := started 3 (dsc [1])
     (s.queue 3).cur = some { desc := dsc [1] } ∧ (∀ d ∈ (s.queue 3).fetched, d.seq ≠ 0)) ∧
    (up.queue 0).state ≠ 3 ∧ (({ status := 7 } : Fin_).status = 6 ∨ ({ status := 7 } : Fin_).status = 7) := by decide +kernel

theorem witness_registers :
    (let s : State := { up with queues := [(4095, { state := 3 })] }
     s.blocksWork = true ∧ (s.queue 4095).state ≠ 0 ∧ 0x100000 + 0x40 * 4095 ≤ 0x100018 + 0x40 * 4095 ∧
       accessOk (0x100018 + 0x40 * 4095) 4 = true) ∧
    (up.reg (0x300800 + 4 * 0) (b2n (decide (0 = 0)))).testBit 0 = true ∧
    (let s : State := { up with regs := [(0x300008, 7)] }
     (3#32).getLsbD 0 = true ∧ (bitsOf 64 (s.reg (0x300000 + 8 * 1) 0)).length ∉ [1, 2, 4, 8, 16, 32, 64]) ∧
    (let s : State := { up with regs := [(0x300008, 15)] }
     (bitsOf 64 (s.reg (0x300000 + 8 * 1) 0)).length ∈ [1, 2, 4, 8, 16, 32, 64] ∧ (s.reg (0x300800 + 4 * 1) 0).testBit 0 = false) ∧
    (up.queue 5).state = 0 ∧ accessOk 0x64 8 = false ∧ up.regsWork = true ∧ regAt 0x64 = none ∧
    (let s : State := {}
     (regAt 0x100000).any (fun r => !(if r.1.gated = true then s.blocksWork else s.regsWork)) = true) := by decide +kernel

/-! ## Witnesses: contexts, kernels and objects -/

/-- A MGMT descriptor of a subtype: RESULTLEN in Q2. -/
def mgm (sub : Nat) (q3 : Nat := 0) (q4 : Nat := 0) (len : Nat := 0) (q5 q6 q7 : Nat := 0) : Desc :=
  dsc [0x10 + sub * 2 ^ 32, 0, len, q3, q4, q5, q6, q7]

/-- It waits in queue 0. -/
def managing (d : Desc) (s : State := up) : State := fetchedAt 0 d s

theorem witness_regions :
    (let d := mgm 0xE 3 1
     let s := managing d { up with ctxs := [(1, { state := 1 })] }
     mgmt s.toGk1 0xE d = true ∧ d.raRelease = false ∧ s.assignRefused d = false) ∧
    (let d := mgm 0xE 3 1
     let s := managing d
     mgmt s.toGk1 0xE d = true ∧ s.assignRefused d = true) ∧
    (let d := mgm 0xE 3 (1 + 2 ^ 6)
     let s : State := managing d { up with
       ctxs := [(1, { state := 1 })], regions := [(0, { owner := some 1 }), (1, { owner := some 1 })] }
     mgmt s.toGk1 0xE d = true ∧ d.raRelease = true ∧ s.assignRefused d = false) ∧
    (let d := mgm 0xE 3 (1 + 2 ^ 6)
     let s := started 0 d { up with dtime := 10000000 }
     runs s.toGk1 0 { desc := d } = true ∧ s.heldRelease = some { desc := d } ∧ 0 + 10000000 ≤ s.dtime ∧
       (s.clusters.any fun e => (regionMask (d.w 3)).contains (regionOf e.1) && !e.2.free) = false ∧
       (s.handOver 64 (regionMask (d.w 3))).2 = true) ∧
    (let d := mgm 0xE 3 (1 + 2 ^ 6)
     let s : State := started 0 d { up with
       regions := [(0, { owner := some 1 }), (1, { owner := some 1 })], power := { handing := [(64, [8000])] } }
     runs s.toGk1 0 { desc := d } = true ∧ s.heldRelease = some { desc := d } ∧
       (s.clusters.any fun e => (regionMask (d.w 3)).contains (regionOf e.1) && !e.2.free) = false ∧
       (s.handOver 64 (regionMask (d.w 3))).2 = false) := by decide +kernel

theorem witness_contexts :
    (let d := mgm 0xC 63 0 8 0 0 4
     mgmt (managing d).toGk1 0xC d = true ∧ 8 ≤ d.w 2 ∧ d.createBad = false ∧ ((managing d).ctx (fld (d.w 3) 0 6)).state = 0) ∧
    (let d := mgm 0xC 63 0 8 0 0 4
     let s := managing d { up with ctxs := [(63, { state := 1 })] }
     mgmt s.toGk1 0xC d = true ∧ (s.ctx (fld (d.w 3) 0 6)).state ≠ 0) ∧
    (let d := mgm 0xC 0 0 8 0 0 4
     mgmt (managing d).toGk1 0xC d = true ∧ d.createBad = true) ∧
    (let d := mgm 0xD 0
     mgmt (managing d).toGk1 0xD d = true ∧ fld (d.w 3) 0 6 = 0) ∧
    (let d := mgm 0xD 63
     let s := managing d { up with ctxs := [(63, { state := 1 })] }
     mgmt s.toGk1 0xD d = true ∧ fld (d.w 3) 0 6 ≠ 0 ∧ (s.ctx 63).state = 1) ∧
    (let s : State := { up with ctxs := [(63, { state := 2 })] }
     (s.ctx 63).state = 2 ∧ (∀ e ∈ s.kernels, e.2.ctx ≠ 63) ∧ (∀ e ∈ s.msgs, e.2.copying 63 = false) ∧
     (s.handOver 63 (s.regionsOf 63)).2 = true) := by decide +kernel

/-- A KERNEL of one instruction word on a cluster of region 0, in a lane, with its grains. -/
def krn (deferred : Bool := false) (cl : Nat := 0) : Desc :=
  dsc [1 + b2n deferred * 2 ^ 35, 2 ^ 52, 0, cl + 2 ^ 18, 2 * b2n deferred + 5 * 2 ^ 32, 0, 0, 0]

/-- The part whose region 0 belongs to context 0 and works. -/
def owned : State := { up with regions := [(0, { owner := some 0, sbUp := true })] }

/-- A core that holds the kernel's code. -/
def coded : Core := { image := some { codeVA := 0, codeLen := 1, ctx := 0 } }

/-- The cores of cluster 0 hold it. -/
def loaded (s : State) : State := { s with cores := [(0, coded), (1, coded), (2, coded), (3, coded)] }

/-- Kernel 7 of queue 2. -/
def kern (deferred : Bool := false) : Kernel := { queue := 2, ctx := 0, desc := krn deferred }

theorem witness_kernels_start :
    (let s := fetchedAt 2 (dsc [1]) owned
     starts s.toGk1 2 (dsc [1]) = true ∧ (dsc [1]).normalKernel = true ∧ s.kernelRefusal 2 (dsc [1]) ≠ 0) ∧
    (let s := fetchedAt 2 (krn) owned
     starts s.toGk1 2 krn = true ∧ (krn).normalKernel = true ∧ s.kernelRefusal 2 krn = 0 ∧ (s.queue 2).plan = none) ∧
    (let s := fetchedAt 2 (krn true) owned
     s.mayStart 2 = true ∧ (s.queue 2).nextDeferred = some (krn true) ∧ s.kernelRefusal 2 (krn true) = 0) := by decide +kernel

theorem witness_launch :
    ([owned, loaded owned].all fun s0 =>
      let s : State := { s0 with kernels := [(7, kern)] }
      (NMap.get? s.kernels 7 = some (kern)) && s.kernelReady kern && (kern).taken.isNone && decide (s.nextTaken = some 7)
        && s.owns (kern).ctx (kern).desc) = true ∧
    (let s : State := { loaded owned with kernels := [(7, kern)] }
     let s1 : Gk1 := { s.toGk1 with nextId := s.nextId + 1, edge := { s.edge with rr := (kern).queue + 1 } }.modKernel 7 fun K =>
       { K with taken := some s.nextId }
     s1.canLaunch 7 { kern with taken := some s.nextId } = true ∧ (∀ r ∈ (kern).desc.regions, (s.region r).needsClear = false) ∧
       s.loadCores kern = []) ∧
    (let s : State := { owned with kernels := [(7, kern)], clusters := [(0, { admitted := some 5 })] }
     let s1 : Gk1 := { s.toGk1 with nextId := s.nextId + 1, edge := { s.edge with rr := (kern).queue + 1 } }.modKernel 7 fun K =>
       { K with taken := some s.nextId }
     s.kernelReady kern = true ∧ s1.canLaunch 7 { kern with taken := some s.nextId } = false) := by decide +kernel

theorem witness_admission :
    (let c : Cluster := { held := true, asking := some 7 }
     let s : State := { owned with kernels := [(7, kern)], clusters := [(0, c)] }
     NMap.get? s.power.slots 0 = none ∧ (s.region 0).sbUp = true ∧ (s.region 0).service = 0 ∧ regionOf 0 = 0 ∧ 0 < s.slotClusters ∧
       (s.clusters.filter fun e => regionOf e.1 = 0 && e.2.asking.isSome) = [(0, c)] ∧ s.cluster 0 = c ∧ c.admitted = none ∧
       c.lost = false ∧ NMap.get? s.kernels 7 = some (kern)) ∧
    (let s : State := { owned with
       clusters := [(0, { admitted := some 7 })], cores := [(0, { mq := [{ mxq with entries := [{}] }] })] }
     (s.cluster 0).admitted = some 7 ∧ (s.cluster 0).held = false ∧ (s.cluster 0).lost = false ∧ (s.cluster 0).asking = none ∧
       s.stepReady 0 = true) := by decide +kernel

theorem witness_grains :
    (let K : Kernel := { kern true with phase := 1 }
     let s : State := { loaded owned with kernels := [(7, K)], queues := [(2, { state := 1 })] }
     NMap.get? s.kernels 7 = some K ∧ s.mayHand 7 K 0 = true ∧ K.phase ≠ 0 ∧ s.owns K.ctx K.desc = true ∧ (s.region (regionOf 0)).needsClear = false ∧
       s.loadCores { K with desc := { K.desc with q := K.desc.q.set 3 (BitVec.ofNat 64 (0 + 2 ^ 18)) } } = []) ∧
    (let K : Kernel := { kern true with phase := 1, nextGrain := 1 }
     let s : State := { owned with
       kernels := [(7, K)], queues := [(2, { state := 1 })], clusters := [(0, { admitted := some 7, grain := some 0 })] }
     NMap.get? s.kernels 7 = some K ∧ K.stopped = false ∧ s.grainOver 7 0 = true ∧ K.doneGrains + 1 < K.desc.grains ∧
       (s.queue K.queue).state = 1 ∧ K.desc.deferred = true) := by decide +kernel

theorem witness_kernels_end :
    (let K : Kernel := { kern with phase := 1, admitted := [0], since := some 0, gfaults := [(0, 0, 0, 0x20)] }
     let s : State := { owned with
       kernels := [(7, K)], queues := [(2, { state := 1 })], clusters := [(0, { admitted := some 7, held := true })] }
     NMap.get? s.kernels 7 = some K ∧ K.stopped = false ∧ s.queuesRun = true ∧ s.mayComplete 7 K = true ∧
       (s.endEpochs 7 K.ctx).epochsDone 7 = true ∧ K.desc.deferred = false ∧ K.desc.covers 0 = true ∧ (s.cluster 0).admitted = some 7 ∧
       ((s.queue K.queue).recomp.bind Recomp.kid) ≠ some 7 ∧ K.desc.replayed = false ∧ (s.queue K.queue).state ≠ 0 ∧
       (K.status ≠ 0 ∨ K.desc.cmp = true) ∧ K.desc.tLimit ≠ 0 ∧ 0 + K.desc.tLimit * 1000 ≤ s.dtime) := by decide +kernel

theorem witness_copies :
    (let d := dsc [2, 2 ^ 52, 0, 4]
     starts (fetchedAt 2 d).toGk1 2 d = true ∧ (fetchedAt 2 d).copyRefusal 2 d ≠ 0) ∧
    (let d := dsc [2, 0, 0, 4]
     starts (fetchedAt 2 d).toGk1 2 d = true ∧ (fetchedAt 2 d).copyRefusal 2 d = 0 ∧ d.copyLen ≠ 0) ∧
    (let d := dsc [2 + 2 ^ 33, 0, 0, 4]
     let s := started 2 d
     runs s.toGk1 2 { desc := d } = true ∧ d.type = 2 ∧ d.srcHost = false ∧ d.dstHost = true ∧ s.linkOpen = true ∧ s.postHeld = [] ∧
       s.readUpTo (s.qctx 2) (s.qEnforced 2) (sectors (d.w 1) d.copyLen) = ([0, 0, 0, 0], none)) ∧
    (let d := dsc [2 + 2 ^ 33, 2 ^ 51, 0, 4]
     let s := started 2 d
     (s.readUpTo (s.qctx 2) (s.qEnforced 2) (sectors (d.w 1) d.copyLen)).2 ≠ none) ∧
    ([([] : List (Nat × Nat)), [(2, 1)]].all fun l =>
      let s := started 2 (dsc [4]) { up with ctxs := [(1, { state := 1, releases := [((true, 3), l)] })] }
      decide (((s.ctx 1).releases.find? fun r => r.1 = (true, 3)) = some ((true, 3), l)) && decide (s.mayRelease 1 true 3 l = l.isEmpty)) = true := by
  decide +kernel

/-- The part with a context 1 that has a fence 3, and queue 2 of it. -/
def fenced (value f1 : Nat) : State :=
  let s : State := { up with ctxs := [(1, { state := 1, cbFrame := 5 })], regs := [(0x100098, 0x188)] }
  { s with toGk1 := ((s.putCb 1 (fenceOfs 3 0) value).putCb 1 (fenceOfs 3 1) (1 + f1)).putCb 1 (fenceOfs 3 2) (1 + 2 ^ 16 + 2 ^ 18) }

/-- A FENCE_WAIT (4) or FENCE_SIGNAL (5) of fence 3 and a value. -/
def fenceD (type value : Nat) : Desc := dsc [type + 3 * 2 ^ 32, value]

theorem witness_fence_waits :
    (let s := fetchedAt 2 (fenceD 4 9) (fenced 9 0)
     starts s.toGk1 2 (fenceD 4 9) = true ∧ s.fenceRef (s.qctx 2) 3 = some (.local_ 1 3) ∧
       s.descBad 2 (fenceD 4 9) [span 32 24, span 0 64] = false) ∧
    ([(9, 0), (8, 0), (9, 4)].all fun x =>
      let s := started 2 (fenceD 4 9) (fenced x.1 x.2)
      runs s.toGk1 2 { desc := fenceD 4 9 } && decide (s.waitRef 2 = some (.local_ 1 3))
        && decide (s.fenceNow (.local_ 1 3) = (x.1, decide (x.2 = 4)))) = true := by decide +kernel

theorem witness_fence_signals :
    (let d := fenceD 5 9
     let s := fetchedAt 2 d (fenced 8 0)
     starts s.toGk1 2 d = true ∧ s.mySignal 2 d = true ∧ s.descBad 2 d [span 32 25, span 0 64] = false ∧ d.w 1 ≠ 2 ^ 64 - 1 ∧
       s.fenceRef (s.qctx 2) (fld (d.w 0) 32 24) = some (.local_ 1 3) ∧
       (match s.frameWord (s.ctx 1).cbFrame.toNat (fenceOfs 3 0) with | .ok v => decide (v = 8) | .error _ => false) = true) := by
  decide +kernel

theorem witness_watches :
    (let w : OwnerWatch := { part := 1, ctx := 1, gen := 0, fence := 3, check := 0, dirty := true }
     let s : State := { up with ownerWatches := [(4, w)] }
     NMap.get? s.ownerWatches 4 = some w ∧ w.dirty = true ∧ w.lastSent + 1000000 ≤ s.dtime) ∧
    (let w : ImportWatch := { lo := 1, check := 0, retryAt := some 7 }
     let s : State := { up with importWatches := [(4, w)] }
     NMap.get? s.importWatches 4 = some w ∧ w.retryAt = some 7 ∧ 7 + 1000000 ≤ s.dtime) := by decide +kernel

/-- A PLAN descriptor. -/
def planD (op : Nat) : Desc := dsc [0xA + op * 2 ^ 32, 64, 2]

/-- Queue 2 with a fetched descriptor and an open plan. -/
def planned (d : Desc) (P : Option Plan) : State := { up with queues := [(2, { state := 1, fetched := [d], plan := P })] }

theorem witness_plans :
    ([0, 1, 2].all fun op => [none, some { va := 64, capacity := 2, keep := false }].all fun P =>
      starts (planned (planD op) P).toGk1 2 (planD op) && decide ((planD op).planOp = op)
        && !(planned (planD op) P).descBad 2 (planD op) [span 32 3, span 0 52, span 0 16]) = true ∧
    (fld ((planD 0).w 1) 0 52 % 64 = 0 ∧ fld ((planD 0).w 2) 0 16 ≠ 0) ∧
    (let P : Plan := { va := 64, capacity := 2, keep := false }
     let s := planned (planD 2) (some P)
     P.segment + 1 < 65535 ∧ (((s.start 2 (planD 2)).modQueue 2 fun Q => { Q with plan := none }).writeRange (s.qctx 2) (s.qEnforced 2)
       (sectors P.va 64) P.header).2 = none ∧
     ∀ p ∈ sectors P.va 64, s.snapOf (s.qctx 2) p.1 = none) := by decide +kernel

/-- A plan at 64 with n entries, CLOSEd; its entries are at 128. -/
def planMem (n : Nat) : State :=
  let s : State := { fetchedAt 2 (dsc [0xB, 64, 2 ^ 16]) owned with nextId := 9 }
  match s.writeVA 0 false 64 (leBytes 4 n ++ leBytes 2 1 ++ [2]) with
  | .ok t => { s with toGk1 := t }
  | .error _ => s

theorem witness_recompute :
    ([0, 1].all fun n =>
      let s := planMem n
      let d := dsc [0xB, 64, 2 ^ 16]
      starts s.toGk1 2 d && decide (d.type = 0xB) && !s.descBad 2 d [span 32 1, span 0 52, span 0 32, span 0 64]
        && (match (s.start 2 d).planEntries 2 d with | .ok l => decide (l.length = n) | .error _ => false)) = true ∧
    (let c : Cur := { desc := dsc [0xB, 64] }
     let R : Recomp := { entries := [(krn).q], pdelta := 0, phase := 7 }
     let s : State := { owned with queues := [(2, { state := 1, cur := some c, recomp := some R })] }
     (s.queue 2).cur = some c ∧ (s.queue 2).recomp = some R ∧ R.kid = none ∧ R.entries = (krn).q :: [] ∧
       (replayDesc c.desc R (krn).q).normalKernel = true ∧ s.kernelRefusal 2 (replayDesc c.desc R (krn).q) = 0) := by decide +kernel

theorem witness_snapshots :
    (let d := dsc [0xD, 0, 65536, 0, 3 * 2 ^ 32]
     let s := fetchedAt 2 d
     starts s.toGk1 2 d = true ∧ d.type = 0xD ∧ s.snaps.length < 4 ∧ s.descBad 2 d (snapMasks (fld (d.w 0) 32 2)) = false ∧
       fld (d.w 0) 32 2 ≠ 3 ∧ fld (d.w 2) 0 41 % 65536 = 0 ∧ fld (d.w 2) 0 41 ≤ 2 ^ 40) ∧
    (let S : Snap := { queue := 2, ctx := 0, q := (dsc [0xD, 0, 131072]).q }
     let s : State := { up with snaps := [(4, S)] }
     NMap.get? s.snaps 4 = some S ∧ S.kind = 0 ∧ s.linkOpen = true ∧ s.postHeld = [] ∧ S.wanted = [] ∧
       ((List.range S.blocks).find? fun b => !S.read.contains b) = some 0 ∧ ({ S with wanted := [1] } : Snap).wanted.head? = some 1) ∧
    (let S : Snap := { queue := 2, ctx := 0, q := (dsc [0xD, 0, 65536]).q, read := [0] }
     let s : State := { up with snaps := [(4, S)] }
     NMap.get? s.snaps 4 = some S ∧ S.blocks ≤ S.read.length ∧ (∀ m ∈ s.msgs, m.2.rid = 4 → m.2.core ≠ noCore)) := by decide +kernel

/-- The part with a snapshot of two blocks, of which the first is to be read. -/
def snapping : State := { up with snaps := [(4, { queue := 2, ctx := 0, q := (dsc [0xD, 0, 131072]).q })] }

/-- Its memory can be read. -/
theorem snapping_reads (a k : Nat) (ha : a < 2 ^ 21) : ∃ bs, snapping.toGk1.readVA 0 false a k = .ok bs := by
  have h1 : a >>> 21 = 0 := by rw [Nat.shiftRight_eq_div_pow]; omega
  have h2 : a % 2 ^ 21 = a := by omega
  have h3 : ¬(2 ^ 50 ≤ a) := by omega
  have h4 : (!(snapping.toGk1.placeAttr (fld 0 21 8)).testBit 0 || decide (fld 0 29 3 ≠ 0) || decide (1464831 < fld 0 0 21 + 64 /
      (bitsOf 64 (snapping.toGk1.placeMask (fld 0 21 8))).length - 1)) = false := by decide +kernel
  have h6 : ∀ g o n, snapping.toGk1.peek g o n = .ok (Mem.bytes [] (g * 256 + o) n) := fun _ _ _ => rfl
  have h7 : snapping.toGk1.translate 0 false false a = .ok (.dev 0 a) := by
    simp only [Gk1.translate, h1, h2, if_true, if_neg h3]
  simp only [Gk1.readVA, h7, Gk1.locate, h4, h6, Bool.false_eq_true, if_false]
  exact ⟨_, rfl⟩

theorem witness_snapshot_read : ∃ bs, snapping.toGk1.snapRead { queue := 2, ctx := 0, q := (dsc [0xD, 0, 131072]).q } (sectors 0 65536) = .ok bs := by
  have hall : ∀ l : List (Nat × Nat), (∀ e ∈ l, e.1 < 2 ^ 21) →
      ∃ bs, snapping.toGk1.snapRead { queue := 2, ctx := 0, q := (dsc [0xD, 0, 131072]).q } l = .ok bs := by
    intro l
    induction l with
    | nil => exact fun _ => ⟨[], rfl⟩
    | cons e l ih =>
      intro h
      obtain ⟨b, hb⟩ := snapping_reads e.1 e.2 (h e (by simp))
      obtain ⟨bs, hbs⟩ := ih fun x hx => h x (by simp [hx])
      have h3 : ¬(2 ^ 50 ≤ e.1) := by have := h e (by simp); omega
      refine ⟨b ++ bs, ?_⟩
      simp only [Gk1.snapRead, Gk1.translate, if_true, if_neg h3, hb, hbs]
  exact hall _ (by decide +kernel)

/-! ## Witnesses: the exchange -/

/-- A JOB of P members with 2 chunks, one a bucket: OP 0 CREATE, 1 DESTROY. -/
def jobD (op p : Nat) : Desc := dsc [8 + 5 * 2 ^ 32 + op * 2 ^ 44, 64, 64, 0, 0, 0, 2 + (p - 1) * 2 ^ 32, 1]

/-- The job of it, on a part with address 0. -/
def jobOf (p : Nat) : Job := { ctx := 0, q := (jobD 0 p).q, members := List.range p }

/-- A bucket of job 5. -/
def bkt (reserved : Bool) (number : Nat := 0) (chunks : List Chunk := []) : Bucket :=
  { job := 5, ctx := 0, queue := 2, number := number, step := 0, src := 0, hp := 0, fence := 0, value := 0, started := 0
    reserved := reserved, chunks := chunks }

/-- A packet of a type that the part sent to itself, with a TAG. -/
def own (type : Nat) (tag : Nat := 0) (payload : List Byte := []) : Packet :=
  ({ type := type, dst := 0, src := 0, job := 5, tag := tag } : Hdr).packet payload

/-- The exchange packets that the part has sent to itself. -/
def onWay : NMap Port := [(selfPort, { sent := [0x10, 0x11, 0x12, 0x13, 0x14, 0x15].map fun type => own type })]

/-- The part with the job and a bucket. -/
def jobbed (p : Nat) (bs : NMap Bucket) (s : State := up) : State :=
  { s with jobs := [(5, jobOf p)], buckets := bs, ports := onWay }

/-- A BUCKET_READY of bucket 0. -/
def bucketD : Desc := dsc [9 + 5 * 2 ^ 32, 0, 0, 0]

theorem witness_jobs :
    (let d := jobD 0 1
     let s := fetchedAt 2 d
     let J : Job := { ctx := s.qctx 2, q := d.q, members := [] }
     starts s.toGk1 2 d = true ∧ d.type = 8 ∧ (d.w 0).testBit 44 = false ∧ s.descBad 2 d jobMasks = false ∧
       NMap.has s.jobs d.job = false ∧ J.bad = false ∧ J.qcwBad = false ∧
       (match (s.start 2 d).readRange (s.qctx 2) (s.qEnforced 2) (sectors J.memberVA (4 * J.p)) with
        | .ok bs => decide ((words4 bs J.p).getD J.rank 0 = s.self) && decide ((words4 bs J.p).eraseDups.length = (words4 bs J.p).length)
        | .error _ => false) = true) ∧
    (let d := jobD 0 1
     starts (jobbed 1 [] (fetchedAt 2 d)).toGk1 2 d = true ∧ NMap.has (jobbed 1 [] (fetchedAt 2 d)).jobs d.job = true) ∧
    (let d := jobD 1 1
     let s := jobbed 1 [] (fetchedAt 2 d)
     starts s.toGk1 2 d = true ∧ d.type = 8 ∧ (d.w 0).testBit 44 = true ∧ s.inFlight d.job = [] ∧
       NMap.get? s.jobs d.job = some (jobOf 1) ∧ s.descBad 2 d jobMasks = false ∧ (jobOf 1).ctx = s.qctx 2) := by decide +kernel

theorem witness_buckets :
    (let s := fetchedAt 2 bucketD
     starts s.toGk1 2 bucketD = true ∧ s.myBucket 2 bucketD = true ∧ NMap.get? s.jobs bucketD.job = none) ∧
    (let s := jobbed 1 [] (fetchedAt 2 bucketD)
     starts s.toGk1 2 bucketD = true ∧ s.myBucket 2 bucketD = true ∧ NMap.get? s.jobs bucketD.job = some (jobOf 1) ∧
       s.descBad 2 bucketD [span 32 13, span 0 64, span 0 52, span 0 52, span 0 24, span 0 64] = false ∧ (jobOf 1).ctx = s.qctx 2 ∧
       (jobOf 1).chunksOf bucketD.bucket ≠ [] ∧ s.bucketOf bucketD.job bucketD.bucket = none ∧ (jobOf 1).gradVA ≠ 0 ∧
       fld (bucketD.w 3) 0 52 % 64 = 0) ∧
    (let s := jobbed 2 [(9, bkt false)] { up with dtime := 1000000000 }
     NMap.get? s.buckets 9 = some (bkt false) ∧ NMap.get? s.jobs (bkt false).job = some (jobOf 2) ∧ s.slotsBefore 9 = false ∧
       (s.wantedSlots (bkt false) (jobOf 2)).length = 1 ∧
       ((s.wantedSlots (bkt false) (jobOf 2)).any fun c =>
          decide (engineSlots < s.slotsUsed c.engine + ((s.wantedSlots (bkt false) (jobOf 2)).filter fun x => x.engine = c.engine).length))
         = false ∧ (bkt false).started + (jobOf 2).btime ≤ s.dtime) ∧
    (let s := jobbed 2 [(9, bkt true 0 [{ chunk := 0, engine := 3 }])]
     3 < nEngines ∧ 3 ∉ s.held.engines ∧
       Gk1.engineFor { s.toGk1 with held := { s.held with engines := s.held.engines ++ [3] } } 3 = some 0 ∧
       (∀ b ∈ s.buckets, NMap.has s.jobs b.2.job = true)) := by decide +kernel

/-- What the exchange statements ask of a state, job and packet of a type. -/
def exch (s : State) (J : Job) (type tag : Nat) : Bool :=
  let p := own type tag
  delivered s.toGk1 selfPort p type && decide (s.part ≠ .maintenance) && decide (NMap.get? s.jobs (pJob p) = some J)
    && decide (J.rankOf (pSrc p) = some 0)

/-- A chunk of the bucket. -/
def chunk0 : Chunk := { chunk := 0, engine := 0 }

theorem witness_contributions :
    ([0x10, 0x11, 0x12].all fun type =>
      exch (jobbed 2 [(9, bkt false)]) (jobOf 2) type 0 && exch (jobbed 2 [(9, { bkt true with dispatch := 3 })]) (jobOf 2) type 0
        && exch (jobbed 2 [(9, bkt true 0 [chunk0])]) (jobOf 2) type 0
        && decide (pEpoch (own type) = 0) && decide (tagChunk (own type) = 0)) = true ∧
    ((jobOf 2).ownerOf 0 = (jobOf 2).rank ∧ (bkt false).reserved = false ∧ (bkt true).reserved = true ∧ (bkt true).dispatch = 0) ∧
    (let B := bkt true 0 [chunk0]
     let s := jobbed 2 [(9, B)]
     s.bucketOf 5 (0 / (jobOf 2).bchunk) = some (9, B) ∧ B.applied = false ∧ chunk0 ∈ B.chunks ∧ chunk0.chunk = 0 ∧
       (∀ k ∈ B.chunks, k.ends.length + 1 < (jobOf 2).p)) := by decide +kernel

/-- A job of two chunks in one bucket. -/
def wideJob : Job := { jobOf 1 with q := (dsc [8 + 5 * 2 ^ 32, 64, 64, 0, 0, 0, 2, 2]).q }

theorem witness_parameters :
    (let s := jobbed 1 []
     exch s (jobOf 1) 0x13 0 = true ∧ (jobOf 1).ownerOf 0 = 0 ∧
       ((s.counted selfPort (own 0x13)).landParam 0 0 []).2 = none ∧
       ((s.counted selfPort (own 0x13)).landParam 0 0 []).1.bucketOf 5 (0 / (jobOf 1).bchunk) = none) ∧
    (let s : State := { up with jobs := [(5, wideJob)], buckets := [(9, bkt true)], ports := onWay }
     exch s wideJob 0x14 0 = true ∧ wideJob.ownerOf 0 = 0 ∧ s.bucketOf 5 (0 / wideJob.bchunk) = some (9, bkt true) ∧
       NMap.get? s.buckets 9 = some (bkt true) ∧ 1 ∈ wideJob.chunksOf 0 ∧ 1 ∉ (bkt true).landed) ∧
    (exch (jobbed 1 []) (jobOf 1) 0x15 0 = true ∧ (jobbed 1 []).bucketOf 5 (0 / (jobOf 1).bchunk) = none) ∧
    (exch (jobbed 1 [(9, bkt true)]) (jobOf 1) 0x15 0 = true ∧
      (jobbed 1 [(9, bkt true)]).bucketOf 5 (0 / (jobOf 1).bchunk) = some (9, bkt true)) := by decide +kernel

/-! ## Witnesses: faults and the fabric -/

theorem witness_cluster_faults :
    (up.regionsRun = true ∧ (up.region 63).service = 0 ∧ 3999 ∉ (up.region 63).failed ∧ (up.region 63).indexOf 3999 = some 3999 ∧
      (up.cluster (4000 * 63 + 3999)).lost = false) ∧
    (let f : Failing := { region := 2, index := 7, rank := 7, status := 0, ctx := 0, queue := 0 }
     let s : State := { up with held := { failing := [f] }, regions := [(2, { failed := [7], subs := [{ index := 0, rank := 4000 }] })] }
     (s.held.failing.find? fun f => f.region = 2 && f.index = 7) = some f ∧ ((s.region 2).substitute 7).isSome = true) ∧
    (let f : Failing := { region := 2, index := 7, rank := 7, status := 0, ctx := 0, queue := 0 }
     let s : State := { up with held := { failing := [f] }, regions := [(2, {
       failed := [7], subs := (List.range 32).map fun i => { index := 8 + i, rank := 4000 + i } })] }
     (s.held.failing.find? fun f => f.region = 2 && f.index = 7) = some f ∧ (s.region 2).substitute 7 = none) ∧
    (let s : State := { up with held := { background := [(2, 7)] } }
     (2, 7) ∈ s.held.background ∧ (s.held.failing.any fun f => f.region = 2 && f.rank = 7) = false) := by decide +kernel

theorem witness_replays :
    (let K : Kernel := { kern with phase := 1, shares := [(0, { lost := some false })] }
     let s : State := { loaded owned with kernels := [(7, K)] }
     NMap.get? s.kernels 7 = some K ∧ K.stopped = false ∧ K.rerun = false ∧ (NMap.getD K.shares 0 {}).lost ≠ none ∧ s.serves 0 = true ∧
       (s.enginesDone 7 fun c => clusterOf c = 0) = true ∧ (s.cluster 0).grain = none ∧
       s.loadCores { K with desc := { K.desc with q := K.desc.q.set 3 (BitVec.ofNat 64 (0 + 2 ^ 18)) } } = []) ∧
    (let K : Kernel := { kern with phase := 1, rerun := true }
     let s : State := { loaded owned with kernels := [(7, K)] }
     NMap.get? s.kernels 7 = some K ∧ K.rerun = true ∧ K.stopped = false ∧ (s.enginesDone 7 fun _ => true) = true ∧
       s.stoppedDone 7 K = true ∧ ((s.kernelClusters K).all fun cl => s.serves cl) = true ∧ K.desc.regions.all s.boxUp = true ∧
       K.desc.deferred = false ∧ s.loadCores K = []) := by decide +kernel

/-- The part with a dispatcher in region 3 and a follower in region 4. -/
def dispatched : State :=
  { up with boot := { dvalid := true }, regions := [(3, { sbUp := true }), (4, { sbUp := true }), (9, { bootDone := true })] }

theorem witness_regions_faults :
    (dispatched.boot.dvalid = true ∧ dispatched.boxUp 3 = true ∧ dispatched.boxUp 4 = true ∧ dispatched.regionsRun = true ∧
      (dispatched.boot.follow.find? fun r => r ≠ dispatched.boot.disp && dispatched.boxUp r) = some 4 ∧
      dispatched.regionFaulty 9 = true ∧ dispatched.boot.disp ≠ 9) ∧
    (let s : State := { dispatched with regions := [(9, { service := 1 })] }
     (s.region 9).service = 1) ∧
    (dispatched.part = .ready ∧ dispatched.boxUp dispatched.boot.disp = true ∧
      (dispatched.reg 0x780308 0).testBit dispatched.boot.disp = false ∧ dispatched.boot.disp < 64) := by decide +kernel

theorem witness_unit_faults :
    ((511, 511) ∉ up.held.planes ∧ up.powered = true ∧ up.edge.standbyFailed = false ∧ up.part ≠ .faulted) ∧
    (let s : State := { up with held := { planes := [(511, 511)] }, cache := [(3, {})] }
     (511, 511) ∈ s.held.planes ∧ NMap.get? s.cache 3 = some {}) := by decide +kernel

/-- The part with context 1 in partition 7 of parts 2 and 3, and port 0 UP. -/
def parted : State := { up with
  ctxs := [(1, { state := 1 })], regs := [(0x402008, BitVec.ofNat 64 (7 + 2 * 2 ^ 16 + 2 * 2 ^ 32 + 2 ^ 49))]
  ports := [(0, { state := 2, partner := 2 })] }

/-- A packet from part 2. -/
def from2 (type : Nat) (pid : Nat := 7) (addr : Nat := 0) : Packet := ({ type := type, pid := pid, dst := 0, src := 2, addr := addr } : Hdr).packet []

theorem witness_peer_requests :
    ([1, 2, 3, 4].all fun type => delivered parted.toGk1 0 (from2 type) type
      && decide (parted.acceptCtx (hop 0 (from2 type)) = some 1) && decide (parted.acceptCtx (hop 0 (from2 type 8)) = none)
      && delivered parted.toGk1 0 (from2 type 8) type && delivered { parted.toGk1 with part := .maintenance } 0 (from2 type) type) = true ∧
    (let t0 := parted.counted 0 (from2 1)
     t0.epochFull (t0.peerMsg (hop 0 (from2 1)) 1 false) = false) ∧
    (let t0 := parted.counted 0 (from2 4)
     let q := hop 0 (from2 4)
     (match t0.readPeer 1 (sectors (pAddr q) (32 * (pLen q + 1))) with | .error _ => true | .ok _ => false) = true) ∧
    unknownType 7 = true ∧ pType (from2 7) = 7 ∧ (parted.port 0).skip = 0 ∧
    (let s : State := { parted with ports := [(0, { state := 2, partner := 2, skip := 3 })] }
     s.portUp 0 = true ∧ (s.port 0).skip ≠ 0) := by decide +kernel

/-- Context 1 with a table that maps its first 64 KiB pages: root at 0, tables at 64 KiB, 68 KiB and 72 KiB of its frame. -/
def mapped : State :=
  let s : State := { parted with ctxs := [(1, { state := 1, cbFrame := 5 })] }
  let e := fun (off : Nat) => 1 + off * 2 ^ 16 + 5 * 2 ^ 32
  { s with toGk1 := ((((s.putCb 1 0 (e 0x100)).putCb 1 0x10000 (e 0x110)).putCb 1 0x11000 (e 0x120)).putCb 1 0x12000
      (1 + 2 + 4 + 6 * 2 ^ 32)) }

theorem witness_read_req :
    (let t0 := mapped.counted 0 (from2 4)
     let q := hop 0 (from2 4)
     delivered mapped.toGk1 0 (from2 4) 4 = true ∧ mapped.acceptCtx q = some 1 ∧
       (match t0.readPeer 1 (sectors (pAddr q) (32 * (pLen q + 1))) with | .ok bs => decide (bs.length = 32) | .error _ => false)
         = true) := by decide +kernel

/-- A message to part 2 that waits for an answer. -/
def outMsg (k : MsgKind) : Msg := { kind := k, kid := 7, place := .peer 2 0, len := 32, sentAt := 0 }

/-- The answer to it, of a type with a RESULT. -/
def answer (s : State) (k : MsgKind) (type result : Nat) : Packet :=
  let q := s.packetOf 4 (outMsg k)
  ({ type := type, dst := 0, src := 2, tag := pTag q, score := pScore q, stream := pStream q, epoch := pEpoch q, result := result } : Hdr).packet []

/-- The part that waits. -/
def waiting (k : MsgKind) : State := { msgAt (outMsg k) with ports := parted.ports, part := .ready }

theorem witness_answers :
    ([(MsgKind.read, 5, 0), (.write, 6, 1)].all fun x =>
      let s := waiting x.1
      let p := answer s x.1 x.2.1 x.2.2
      delivered s.toGk1 0 p x.2.1 && decide (pResult (hop 0 p) = x.2.2)
        && decide (({ s.counted 0 p with unreachable := s.unreachable.filter (· ≠ pSrc (hop 0 p)) } : Gk1).answeredMsg (hop 0 p)
          = some (4, outMsg x.1)) && decide ((s.core 0).kid = some 7)) = true ∧
    (let s : State := { waiting .write with dtime := 2000000000 }
     (outMsg .write).place.isPeer = true ∧ 0 + 1000 ≤ s.dtime ∧ 0 + max (fld s.fabCtl 16 8) 1 * 10000 ≤ s.dtime ∧
       2 ∉ s.unreachable ∧ s.silent 2 = true) := by decide +kernel

/-- A fence-watch packet from part 2. -/
def watch2 (type lo check value wseq : Nat) : Packet := ({ type := type, dst := 0, src := 2 } : Hdr).packet (watchPayload lo check value wseq false)

theorem witness_watch_packets :
    (let s : State := { fenced 9 0 with ports := parted.ports }
     let p := watch2 8 (handleLo 0 1 0 3) 0 0 0
     delivered s.toGk1 0 p 8 = true ∧ (s.counted 0 p).heldWatch (hop 0 p) = none ∧ s.ownerWatches.length < watchPlaces ∧
       (s.counted 0 p).watchGood (fld (pWord (hop 0 p) 0) 32 6) (fld (pWord (hop 0 p) 0) 38 8) (fld (pWord (hop 0 p) 0) 46 14)
         (pWord (hop 0 p) 1 % 2 ^ 64) = true ∧
       ((s.counted 0 p).fenceNow (.local_ 1 3)).2 = false) ∧
    (let w : ImportWatch := { lo := BitVec.ofNat 64 (handleLo 2 1 0 3), check := 5, wseq := some 4 }
     let s : State := { parted with importWatches := [(6, w)] }
     ([5, 4].all fun n => let p := watch2 9 (handleLo 2 1 0 3) 5 77 n
       delivered s.toGk1 0 p 9 && decide (w.lo.toNat = pWord (hop 0 p) 0) && decide (w.check.toNat = pWord (hop 0 p) 1)
         && decide (pWord (hop 0 p) 3 % 2 ^ 32 = n)) = true ∧
     fld w.lo.toNat 0 32 = pSrc (hop 0 (watch2 9 0 0 0 0))) ∧
    (let w : OwnerWatch := { part := 2, ctx := 1, gen := 0, fence := 3, check := 5 }
     let s : State := { parted with ownerWatches := [(6, w)] }
     let p := watch2 0xA (handleLo 0 1 0 3) 5 0 0
     delivered s.toGk1 0 p 0xA = true ∧ (s.counted 0 p).heldWatch (hop 0 p) = some (6, w)) ∧
    (delivered parted.toGk1 0 (from2 0xC) 0xC = true ∧ (parted.counted 0 (from2 0xC)).portsToward (pSrc (hop 0 (from2 0xC))) = [0]) := by
  decide +kernel

/-- The part with port 5 in a state. -/
def ported (P : Port) : State := { up with ports := [(5, P)], regs := [(0x400008, BitVec.ofNat 64 (1 + 0xA0A00))] }

theorem witness_ports :
    (let s := ported { state := 1 }
     s.mayTrain 5 = true ∧ (s.port 5).state = 1 ∧ 0 = fld s.self 16 16 ∧ (0x1FFFF#17).toNat % 2 ^ 16 = 0xFFFF ∧
       (0x1FFFE#17).toNat % 2 ^ 16 ≠ 0xFFFF ∧ s.fabCtl.testBit 0 = true) ∧
    (let s := ported { state := 2 }
     s.portUp 5 = true ∧ (s.port 5).waiting = [] ∧ 15 ∉ (s.port 5).erased ∧
       (s.port 5).erased.length + 1 - b2n (s.port 5).rxSpare.isNone < 2 ∧
       flitDecode (s.port 5).erased 1 [(0, 7)] = some [4]) ∧
    (let s := ported { state := 2, erased := [4], noisy := [15] }
     s.portUp 5 = true ∧ 15 ∈ (s.port 5).noisy ∧ 15 ∉ (s.port 5).erased ∧ flitDecode (s.port 5).erased 1 [(1, 7)] = none) ∧
    (let f : LinkFlit := { h0 := 0x1F, h1 := 0, h2 := 0, h3 := 0 }
     fld f.h0.toNat 0 5 = 0x1F ∧ f.h1.toNat.testBit 32 = false ∧ f.h3.toNat.testBit 5 = false ∧ f.h3.toNat.testBit 6 = false) ∧
    (let s := ported { state := 2, rxSpare := some 3, erased := [2] }
     s.portUp 5 = true ∧ 2 ≤ (s.port 5).erased.length + 1 - b2n (s.port 5).rxSpare.isNone) ∧
    (let s := ported { state := 2, trainedAt := 5000000, switching := [(15, 0)], erased := [15] }
     s.portUp 5 = true ∧ ((s.port 5).switching.find? fun e => e.1 = 15) = some (15, 0) ∧ s.frameReached 5 0 = true ∧
       15 ∈ (s.port 5).erased ∧ (s.port 5).rxSpare = none ∧ (s.port 5).erased.length ≤ 1) ∧
    (up.blocksWork = true ∧ (0#32).getLsbD 0 = false ∧ (1#32).getLsbD 0 = true ∧ ((ported { state := 2 }).port 5).state ≠ 0 ∧
      ((ported {}).port 5).state = 0) := by decide +kernel

/-! ## Witnesses: power, clocks, bring-up, observation -/

theorem witness_budgets :
    (mgmt (managing (mgm 2 5)).toGk1 2 (mgm 2 5) = true ∧ up.power.disturb = none ∧ up.power.rackCap = 0 ∧ up.power.coolCap = 0 ∧
      up.power.eff ≤ 1000 * presetBudget 0) ∧
    (mgmt (managing (mgm 5 (8000 + 40000 * 2 ^ 16))).toGk1 5 (mgm 5 (8000 + 40000 * 2 ^ 16)) = true ∧ 7999 ≠ 0 ∧ 7999 < 8000) ∧
    (mgmt (managing (mgm 5 7999)).toGk1 5 (mgm 5 7999) = true) ∧
    ([3 + 40000 * 2 ^ 16, 4, 40001 * 2 ^ 16, 7].all fun q => mgmt (managing (mgm 4 q)).toGk1 4 (mgm 4 q)) = true ∧
    ((mgm 4 (3 + 40000 * 2 ^ 16)).distKind ≤ 3 ∧ 3 < (mgm 4 4).distKind ∧ (mgm 4 4).distKind ≠ 7 ∧ (mgm 4 7).distKind = 7) ∧
    (let D : Disturb := { budget := 0, holdCyc := 3, endCycle := 7, endFrac := 0, endSpan := 1, startAt := 0 }
     let s : State := { up with power := { disturb := some D }, line := { cycle := 7 } }
     s.power.disturb = some D ∧ D.holdCyc ≠ 0 ∧ (D.endCycle = s.line.cycle ∧ D.endFrac * (8 * s.line.period) ≤ s.line.frac * D.endSpan) ∧
       6 < D.endCycle) := by
  decide +kernel

/-- A TIMETABLE_LOAD of one entry, its gap and hold budgets 8,000 W, and an ACTIVATE. -/
def loadD (activate : Nat) : Desc := mgm 1 64 1 64 (8000 + 8000 * 2 ^ 16) activate

/-- One entry: START 0, the bytes that entryOf reads. -/
def entryBytes : List Byte := leBytes 8 0 ++ leBytes 8 (3000 + 20000 * 2 ^ 32) ++ leBytes 8 (1000 + 1000 * 2 ^ 16) ++ leBytes 8 0

/-- A table of no entry. -/
def table0 (activate : Nat) : Table := { gap := 8000, hold := 8000, activate := activate, entries := [], digest := 0 }

theorem witness_timetables :
    ([0, 9].all fun a => mgmt (managing (loadD a)).toGk1 1 (loadD a) && decide (64 ≤ (loadD a).w 2)
      && decide (1 ≤ fld ((loadD a).w 4) 0 11) && decide (fld ((loadD a).w 4) 0 11 ≤ 1024) && decide (8000 ≤ fld ((loadD a).w 5) 0 16)
      && decide (fld ((loadD a).w 5) 16 16 ≤ 40000) && decide ((loadD a).w 3 % 64 = 0)) = true ∧
    (entryBytes.length = 32 ∧ entriesOk (entriesOf 1 entryBytes) = true ∧ entriesOk (entriesOf 1 (List.replicate 32 255)) = false) ∧
    (let s : State := { up with power := { pendingTable := some (table0 9) } }
     s.power.pendingTable = some (table0 9) ∧ s.tableDue (table0 9) = false ∧ s.tableDue (table0 0) = true) ∧
    (up.entryNow = up.power.entry ∧ ({ up with power := { entry := some 0 } } : State).entryNow ≠ some 0) := by decide +kernel

theorem witness_line_clock :
    (mgmt (managing (mgm 3 5 20000000000)).toGk1 3 (mgm 3 5 20000000000) = true ∧ up.noticeBad 5 20000000000 0 = false ∧
      up.ptmValid = false ∧ up.noticeBad 5 1 0 = true) ∧
    (let s : State := { up with edge := { up.edge with ptmAt := some 5000000, ptm := [(0, 0)] } }
     s.ptmValid = true ∧ s.noticeBad 5 20000000000 5000000 = false ∧ s.line.state = 0 ∧ s.deviceTime 5000000 = s.dtime) ∧
    (let s : State := { up with line := { state := 1, notice := some (1, 2, 3), slew := 1000 }, dtime := 3000000003 }
     s.line.notice = some (1, 2, 3) ∧ s.line.state = 1 ∧ 3 + 3000000000 ≤ s.dtime ∧ 0 < s.line.slew ∧ s.line.slew ≤ 1000) := by
  decide +kernel

theorem witness_ledger :
    (let s : State := { up with line := { cycle := 3000 } }
     s.powered = true ∧ s.ledger.period.cstart / s.ledgerCycles < s.line.cycle / s.ledgerCycles) ∧
    ([0, 1, 1024].all fun n => mgmt (managing (mgm 6 0 n (5120 * n))).toGk1 6 (mgm 6 0 n (5120 * n))
      && decide (5120 * fld ((mgm 6 0 n (5120 * n)).w 4) 0 11 ≤ (mgm 6 0 n (5120 * n)).w 2)) = true ∧
    ([7743, 7744].all fun n => mgmt (managing (mgm 0xF 0 0 n)).toGk1 0xF (mgm 0xF 0 0 n)) = true ∧ up.linkOpen = true ∧ up.postHeld = [] := by
  decide +kernel

theorem witness_measurement :
    (let s : State := { up with regions := [(63, { sbUp := true, estimatedAt := some 4999000 })] }
     (s.region 63).sbUp = true ∧ s.due (s.region 63).estimatedAt 1000 = true) ∧
    (let s : State := { up with regions := [(63, { sbUp := true, estimatedAt := some 4999001 })] }
     s.due (s.region 63).estimatedAt 1000 = false) ∧
    (({ dispatched with regions := [] } : State).dispatcherRuns = false ∧ up.dispatcherRuns = true) ∧
    (up.due up.power.railAt 10000 = true ∧ up.powerOn = true ∧ [0, 0, 0, 0] = up.measured ∧ up.due up.power.calAt 10000000 = true ∧
      up.due up.power.tickAt 1000 = true) := by decide +kernel

/-- The part with a region at a point, its PLL locked. -/
def pointed (R : Region) (allowance : Int := 0) : State :=
  { up with regions := [(2, { R with aLock := true })], power := { allowance := allowance } }

theorem witness_points :
    ((pointed {}).powerOn = true ∧ (pointed {}).moveDue 2 = true ∧ (pointed {}).pointFor 2 = ((pointed {}).region 2).point) ∧
    ((pointed { point := 3 }).moveDue 2 = true ∧ (pointed { point := 3 }).pointFor 2 < ((pointed { point := 3 }).region 2).point ∧
      (pointed { point := 3 }).heldIn 2 = [] ∧ (pointed { point := 3 }).due ((pointed { point := 3 }).region 2).throttledAt 10000 = true) ∧
    (let s : State := { pointed {} with regs := [(0x500108, 7)] }
     s.moveDue 2 = true ∧ (s.region 2).point < s.pointFor 2) ∧
    (((pointed { moving := true }).region 2).moving = true ∧ ((pointed { moving := true }).region 2).moveAt + 8000 ≤ (pointed {}).dtime) ∧
    (((pointed { stretch := true }).region 2).stretch = true ∧ ((pointed {}).region 2).aLock = true) ∧
    ((pointed {}).dispatcherRuns = true ∧ NMap.get? (pointed {}).power.parked 2 = none ∧ (pointed {}).power.parkDue = [] ∧ ((pointed {}).heldIn 2).length ≤ (pointed {}).slotClusters) := by decide +kernel

theorem witness_point_cost (a : Int) : (pointed { point := 3 } a).power.allowance < ((pointed { point := 3 } a).heldIn 2).length
    * ((pointed { point := 3 } a).drawAt 2 2 - (pointed { point := 3 } a).drawAt 2 3 : Int) ↔ a < 0 := by
  have h : (pointed { point := 3 } a).heldIn 2 = [] := rfl
  simp only [h, List.length_nil, Nat.cast_zero, Int.zero_mul]
  exact Iff.rfl

theorem witness_supplement :
    (mgmt (managing (mgm 7)).toGk1 7 (mgm 7) = true ∧ suppOf [] = none) ∧
    suppOf (leBytes 8 1 ++ leBytes 8 (63 + 31 * 2 ^ 9 + 2 ^ 18 + 35 * 2 ^ 20)) = some [.lane 63 31 35] ∧
    suppOf (leBytes 8 1 ++ leBytes 8 0) = some [.cluster 0 0] ∧
    ((({ up with regions := [(0, { owner := some 0 })] } : State).region 0).owner.isSome = true ∧ (up.region 63).owner = none ∧
      (up.region 63).service = 0 ∧ ((up.region 63).channel 31).rebuild = none ∧ ((up.region 63).channel 31).hasSpare ≠ none) := by
  decide +kernel

theorem witness_selftest :
    ([(3, 1, 0), (1, 3, 32), (0, 1, 16), (2, 1, 16)].all fun x => let d := mgm 8 x.1 x.2.1 x.2.2
      mgmt (managing d).toGk1 8 d && decide (d.testKind = x.1)) = true ∧
    16 * (mgm 8 1 3 32).testUnits.length ≤ (mgm 8 1 3 32).w 2 ∧
    ([(0, 1), (1, 3), (2, 1)].all fun x => let d := mgm 8 x.1 x.2 64
      let s := started 0 d { up with dtime := 2000000000 }
      runs s.toGk1 0 { desc := d } && decide (s.heldMgmt 8 = some { desc := d }) && decide (0 + timeoutNs (fld (d.w 5) 0 16) ≤ s.dtime)) = true ∧
    (let s := started 0 (mgm 8 0 1 64)
     (mgm 8 0 1 64).testUnits.all (s.testFree 0) = true ∧
       (mgm 8 0 1 64).testUnits.all (({ s with regions := [(0, { owner := some 0 })] } : State).testFree 0) = false) := by decide +kernel

/-- The part in MAINTENANCE. -/
def serviced : State := { up with part := .maintenance }

theorem witness_maintenance :
    mgmt (managing (mgm 10)).toGk1 10 (mgm 10) = true ∧
    (let s := started 0 (mgm 10) { up with dtime := 2000000000 }
     runs s.toGk1 0 { desc := mgm 10 } = true ∧ s.heldMgmt 10 = some { desc := mgm 10 } ∧ s.workless = true ∧
       0 + timeoutNs (fld ((mgm 10).w 3) 0 16) ≤ s.dtime ∧ ({ s with kernels := [(7, kern)] } : State).workless = false) ∧
    (mgmt (managing (mgm 11)).toGk1 11 (mgm 11) = true ∧ mgmt (managing (mgm 11) serviced).toGk1 11 (mgm 11) = true ∧
      serviced.held.margin = none ∧ ({ serviced with held := { margin := some (mgm 9 1) } } : State).held.margin ≠ none) ∧
    (let d := mgm 9 1 0 19456
     mgmt (managing d).toGk1 9 d = true ∧ mgmt (managing d serviced).toGk1 9 d = true ∧ 19456 * (regionMask (d.w 3)).length ≤ d.w 2 ∧
       (∀ r ∈ regionMask (d.w 3), (serviced.region r).service = 0 ∧ (serviced.region r).stackLost = false)) ∧
    (let d := mgm 9 1 0 19456
     let s : State := { serviced with held := { margin := some d }, queues := [(0, { state := 1 })] }
     s.held.margin = some d ∧ s.part = .maintenance ∧ (s.queue 0).state = 1 ∧ (s.queue 0).cur = none ∧ d.replayed = false ∧ (regionMask (d.w 3)).length = 1) := by
  decide +kernel

/-- The part with its reference clocks. -/
def clocked (c : Clocks) (s : State := up) : State := { s with clocks := c }

theorem witness_clocks :
    (up.powered = true ∧ (clocked { linkReady := true }).srcReady false = true ∧ (clocked { pinReady := true }).srcReady true = true ∧
      (clocked {}).refAuto = true ∧ (clocked {}).clocks.switching = none ∧ (clocked {}).clocks.cur = false) ∧
    (let s := clocked { pinReady := true } { up with dtime := 20000000 }
     s.clocks.since + 20000000 ≤ s.dtime ∧ s.clocks.cur = s.clocks.refsel ∧ s.srcReady s.clocks.cur = false ∧ s.clocks.holdover = false ∧
       s.srcReady (!s.clocks.cur) = true) ∧
    ((clocked { switching := some true }).clocks.switching = some true ∧ (clocked { switching := some true }).clocks.selAfter = none) ∧
    (up.regsWork = true ∧ (1#32).getLsbD 0 = true ∧ (2#32).getLsbD 0 = false ∧ (2#32).getLsbD 1 = true) ∧
    (up.boot.locked = false ∧ fld 0x11 1 3 < 6 ∧ up.pllReady 1 0 = false ∧ up.pllReady 0 0 = true ∧ fld 3 1 3 = 1 ∧ fld 1 1 3 = 0) ∧
    (let s : State := { up with regions := [(63, { aLock := true, fLock := true, dLock := true })], ports := [(47, { state := 2, lock := true })]
                                clocks := { hLock := true } }
     (s.region 63).aLock = true ∧ (s.region 63).fLock = true ∧ (s.region 63).dLock = true ∧ (s.port 47).lock = true ∧ s.portUp 47 = true ∧
       s.clocks.hLock = true ∧ s.edge.standbyFailed = false) := by decide +kernel

theorem witness_power :
    (let s : State := { up with edge := { pwrEn := false, fellAt := some 0 }, dtime := 100000000 }
     s.edge.pwrEn = false ∧ s.enDue = true) ∧
    (let s : State := { up with edge := { pwrEn := false, fellAt := some 1, riseDue := true }, dtime := 100000000 }
     s.edge.pwrEn = false ∧ s.enDue = false ∧ s.edge.riseDue = true) ∧
    (({ part := .powerRamp } : State).part = .powerRamp ∧ up.regsWork = true) := by decide +kernel

theorem witness_boot :
    (State.reset.part = .rom ∧ State.reset.edge.linkUp = false ∧ ({ edge := { linkUp := true } } : State).edge.linkUp = true) ∧
    (({ part := .linkUp } : State).part = .linkUp ∧ ({ part := .loading } : State).bundleErr none none ≠ 0) ∧
    (up.part = .ready ∧ up.boot.blowing = none ∧ up.powered = true) := by decide +kernel

/-- An ARB of fuses is at most 64, so SVN 65 commits. -/
theorem witness_commit : ({ up with boot := { svn := 65, blowing := some 65 } } : State).arb < 65 := by
  show Config.arbFuses % 65 + 0 < 65
  omega

/-- A bundle passes when each check of R663 does; what the digests and the signature are is the configuration's. -/
theorem witness_bundle (s : State) (b : List Byte) (h : s.suppRead none = some []) (h1 : 8192 ≤ b.length) (h2 : bnum b 16 8 ≤ b.length)
    (h3 : formatOk b = true) (h4 : Config.sha3 (bsub b 32 2592) = Config.fwKey)
    (h5 : Config.verify (bsub b 32 2592) (bundleDigest b) (bsub b 3008 4627) = true) (h6 : s.arb ≤ bnum b 10 1)
    (h7 : secDigest b 0 = true ∧ secDigest b 1 = true) : s.bundleErr (some b) none = if (suppOf []).isNone then 7 else 0 := by
  have a1 : ¬(b.length < 8192) := by omega
  have a2 : ¬(b.length < bnum b 16 8) := by omega
  have a6 : ¬(bnum b 10 1 < s.arb) := by omega
  simp [Gk1.bundleErr, h, a1, a2, h3, h4, h5, a6, h7]

/-- What a good wave finds in a region. -/
def good (r : Nat) : RegionWave := { region := r, trained := true, badLanes := [], staged := true, started := true, failed := [] }

/-- The part in a wave. -/
def waving (n : Nat) : State := { up with part := .waves, boot := { waves := n }, regions := [(3, { sbUp := true })] }

theorem witness_waves :
    ([0, 15].all fun n => decide (((waveRegions n).map good).map RegionWave.region = waveRegions n)
      && decide ((waving n).boot.waves < 16) && decide ((waving n).boot.supplement = []) && (waving n).boxUp (waving n).boot.disp
      && ((waveRegions n).map good).all fun f => f.badLanes.isEmpty && f.failed.isEmpty && decide (((waving n).region f.region).service = 0)) = true ∧
    (∀ r, ∀ c ∈ ((waving 0).region r).channels, c.2.lost ≤ 4) ∧
    ({ good 0 with trained := false } : RegionWave).trained = false ∧ ({ good 0 with staged := false } : RegionWave).staged = false ∧
    ({ good 0 with started := false } : RegionWave).started = false := by
  refine ⟨by decide +kernel, fun r c hc => ?_, rfl, rfl, rfl⟩
  have h : ((waving 0).region r).channels = [] := by
    by_cases h : r = 3
    · subst h; rfl
    · have h' : 3 ≠ r := fun e => h e.symm
      simp [waving, Gk1.region, NMap.getD, NMap.get?, h']
  rw [h] at hc
  cases hc

theorem witness_observation :
    (up.viewsOpen = true ∧ ({ up with boot := { locked := true } } : State).viewsOpen = false) ∧
    (let s : State := { up with obs := { corePending := true, barPending := true } }
     s.obs.corePending = true ∧ s.obs.barPending = true ∧ fld (s.reg 0x700400 0) 0 20 < nCores ∧ fld (s.reg 0x700500 0) 0 20 < nCores) ∧
    (let s : State := { up with regs := [(0x700008, BitVec.ofNat 64 (0x61 + 2 ^ 10 + 2 ^ 16))] }
     s.blocksWork = true ∧ s.traceCtl.testBit 0 = true ∧ s.due s.obs.tickAt 100000 = true ∧ s.traceCtl.testBit 10 = true ∧
       s.sampleCore < nCores ∧ s.due s.obs.sampleAt s.samplePeriod = true ∧ s.kernelOf s.sampleCore = none ∧ s.traceCtl.testBit 16 = true) := by
  decide +kernel

/-! ## What the checks of WellFormed refuse: a unit that the part does not have, of each kind -/

theorem test_no_core : (Instr.sintAdd 1024000 0).wf = false ∧ (Instr.sintAdd 1023999 7).wf = true := by decide
theorem test_no_group : (Instr.sintAdd 0 8).wf = false := by decide
theorem test_no_cluster : (Instr.readmissionRequest 256000).wf = false := by decide
theorem test_no_granule : (Instr.regionCacheFill 12000000000 0 []).wf = false := by decide
theorem test_no_sector : (Instr.regionCacheFill 0 8 []).wf = false := by decide
theorem test_no_region : (Instr.regionReset 64).wf = false := by decide
theorem test_no_channel : (Instr.dramRetrain 0 32).wf = false := by decide
theorem test_no_bank : (Instr.dramRefresh 0 0 64).wf = false := by decide
theorem test_no_queue : (Instr.queueStop 4096).wf = false := by decide
theorem test_no_context : (Instr.teardownComplete 64).wf = false := by decide
theorem test_no_engine : (Instr.engineFault 16).wf = false := by decide
theorem test_no_rank : (Instr.clusterFault 0 4096 false).wf = false := by decide
theorem test_no_index : (Instr.sidingSubstitution 0 4000).wf = false := by decide
theorem test_no_lane : (Instr.laneErase 0 { lane := 16 }).wf = false := by decide
theorem test_no_port : (Instr.portDown 48).wf = false := by decide
theorem test_no_pseudo_port : (Instr.fabAck 49 (own 6)).wf = false := by decide
theorem test_no_entry : (Instr.memPlaceAttrWrite 256 0).wf = false := by decide
theorem test_no_power_entry : (Instr.entryVoltageFault 4).wf = false := by decide
theorem test_no_wafer_position : (Instr.routerPlaneSwitch 512 0).wf = false ∧ (Instr.routerPlaneSwitch 0 512).wf = false := by decide
theorem test_no_pll : (Instr.pllLockLoss 0 0).wf = false ∧ (Instr.pllLockLoss 4 48).wf = false ∧ (Instr.pllLockLoss 6 0).wf = false := by decide
theorem test_missing_unit_stops : (match exec (.regionReset 64) State.reset with | .fault .noSuchUnit => true | _ => false) = true := by decide +kernel

/-! ## Results: the examples of the spec, and results worked out by hand from its rules -/

/-- The state that a command leaves. -/
def after (c : Instr) (s : State) : State := match exec c s with
  | .next t => t
  | .fault _ => {}
  | .refused _ => {}

/-- Region 36 with the rank-skip entries of spec/01_architecture.md, "Locating logical core 587,213". -/
def region36 : Region := { skips := [17, 900, 2790, 3500] }

theorem test_locating_a_core : clusterOf 587213 = 146803 ∧ regionOf 146803 = 36 ∧ region36.rank 2803 = 2806 ∧ waferOf 36 2806 = (310, 299) ∧
    region36.rank 3999 = 4003 ∧ region36.indexOf 2806 = some 2803 ∧
    ({ region36 with subs := [{ index := 2803, rank := 4004 }] } : Region).rank 2803 = 4004 ∧ waferOf 36 4004 = (292, 318) := by decide +kernel

/-- spec/10_dram.md, "Offset 0x12_3456 of a frame with U0 = 1,000". -/
theorem test_placement : place 0x123456 1000 (2 ^ 64 - 1) = (1, 17, 4002) ∧ bankRow 4002 = (39, 15) ∧
    gSlice (gidOf 1 17 4002) = 34 ∧ gSet (gidOf 1 17 4002) = 209 ∧ place 0x123456 1000 0xFF00 = (8, 1, 4018) := by decide +kernel

/-- spec/02_olpel_formats.md, "Locating element (37, 1,000) of an OB4 tensor with Nc = 4,096". -/
theorem test_olpel_place :
    (let t : Planes := { fmt := .ob4, patch := false, cap := 0, nc := 4096, ebase := 0, sbase := 0, xbase := 0 }
     t.place 37 1000 = (4767, 8) ∧ ({ t with patch := true } : Planes).place 37 1000 = (4733, 8)) := by decide

/-- spec/02_olpel_formats.md, "One OB4 block quantised": 0.30, -0.85, 41.0, 1.20, -0.05, then zeros; C = 2, t = 3. -/
theorem test_quantiser :
    (let xs := ([0x3E99999A, 0xBF59999A, 0x42240000, 0x3F99999A, 0xBD4CCCCD] ++ List.replicate 27 0).map (decodeF .fp32)
     let q := quantise .ob4 (Qcw.ofNat (3 + 2 * 2 ^ 16 + 3 * 2 ^ 19)) 0 xs (List.range 32)
     (packCodes .ob4 q.codes, q.scale, q.slots, q.ev.esc, q.ev.sat, q.ev.nonfin)
       = ([0xD2, 0x68] ++ List.replicate 14 0, 0x7D, [0x5920, 0], 1, 0, 0)) := by decide +kernel

/-- spec/03_matrix_arrays.md, "48 x 24 x 64 in OB4, ganged". -/
theorem test_folds : passes 48 24 1 = 4 ∧ passes 48 24 2 = 3 ∧ passes 48 24 3 = 3 ∧ pickFold 48 24 = 2 ∧ pickFold 32 16 = 1 := by decide

/-- spec/07_instruction_encoding.md, "Encoding a ganged product". -/
theorem test_ganged_product_word :
    (let w := 0x00400E3025012860
     let w1 := 0x00000000266345FF
     mxM w = 32 ∧ mxN w = 16 ∧ mxK w = 64 ∧ fld w 21 5 = 8 ∧ fld w 26 5 = 9 ∧ mxAH w = 3 ∧ mxInit w = true ∧ mxTfmt w = 3 ∧ mxMode w = 1 ∧
       mxOprel w1 = some 5 ∧ mxDone w1 = some 6 ∧ mxDrn w1 = true ∧ mxRel w1 = true ∧ mxSD w1 = 12 ∧ mxCls w1 = 2 ∧ mmaOk w w1 = true) := by
  decide

/-- spec/06_thread_groups.md, "A group runs if p2 ... and then executes red.max.f32 s7, v4". -/
theorem test_reduction_of_inactive_lanes :
    (let v := (List.range 10).map fun l => (64 + l, if l = 9 then 0xBE800000#32 else 0xC0600000#32)
     let s := at_ [vw 13 6 (d := 7) (a := 4) (imm := 0x2000)] { runner with active := 0x3FF, vregs := v }
     let G := (after (.laneRed 0 0) s).group 0 0
     (G.s 7, G.diverged)) = (0, true) := by decide +kernel

/-- spec/08_memory_model.md, "Lanes 0-15 of one group execute vatom add.f32 with RET to one word that holds old = 1.0". -/
theorem test_atomic_sum :
    (let s := at_ [vw 15 1 (d := 1) (a := 2) (b := 3) (ty := 3) + 2 ^ 41]
       { runner with vregs := (List.range 16).map fun l => (48 + l, 0x33800000#32) }
       { store := Mem.writeLE [] 0 4 0x3F800000 }
     let t := after (.vatomAddF32 0 0) s
     (Mem.le (t.core 0).store 0 4, (t.group 0 0).v 1 3)) = (0x3F800008, 0x3F800002#32) := by decide +kernel

/-- spec/09_barriers.md, the view word of the example of bar.insp. -/
theorem test_barrier_view :
    ({ count := 4, arrived := 3, waiters := 0x0B, gen := 5, lsrc := 1, lslot := 3 } : Bar).view = 0x00001900050B0304 := by decide

/-- spec/11_host_link.md, the KERNEL of queue 37: its fields. -/
theorem test_kernel_descriptor :
    (let d := dsc [0x0000006300420301, 0x2580000400100000, 0x400200000, 0x3E80BB80, 0x138800000000, 0, 0, 0]
     d.type = 1 ∧ d.irq = true ∧ d.cmp = true ∧ d.phase = 0 ∧ d.utag = 0x42 ∧ d.groups = 4 ∧ d.reload = true ∧ d.entry = 0 ∧
       d.codeVA = 0x400100000 ∧ d.codeLen = 600 ∧ d.paramVA = 0x400200000 ∧ d.cFirst = 48000 ∧ d.cCount = 4000 ∧ d.grains = 0 ∧
       d.tLimit = 5000 ∧ d.kernelBad = false ∧ d.regions = [12]) := by decide +kernel

/-- spec/12_objects.md, "Translation of CODEVA 0x4_0010_0000": the index of each level. -/
theorem test_levels : levels.map (fun l => fld 0x400100000 l.1 l.2) = [0, 16, 0, 16] := by decide

/-- spec/17_bringup.md: the supplement entry 0x2_5736 names rank 2,806 of region 36. -/
theorem test_supplement_entry : suppOf (leBytes 8 1 ++ leBytes 8 0x25736) = some [.cluster 36 2806] := by decide +kernel

/-- R232: integer arithmetic wraps; a shift count is taken modulo 32. -/
theorem test_add_wraps :
    ((after (.sintAdd 0 0) (at_ [sw 1 0 1 2 3] { runner with sregs := [(2, 0xFFFFFFFF), (3, 2)] })).group 0 0).s 1 = 1 := by decide +kernel
theorem test_sra_count :
    ((after (.sintSra 0 0) (at_ [sw 1 14 1 2 3] { runner with sregs := [(2, 0x80000000), (3, 36)] })).group 0 0).s 1 = 0xF8000000 := by
  decide +kernel

/-- R231: 1 + 2^-24 rounds to even; of two FP32 numbers the fused product is not rounded. -/
theorem test_fp_add_to_even :
    ((after (.sfpAdd 0 0) (at_ [sw 2 0 1 2 3] { runner with sregs := [(2, 0x3F800000), (3, 0x33800000)] })).group 0 0).s 1 = 0x3F800000 := by
  decide +kernel
theorem test_fma_once :
    ((after (.sfpFma 0 0) (at_ [sw 2 3 1 2 2 3] { runner with sregs := [(2, 0x3F800001), (3, 0xBF800002)] })).group 0 0).s 1 = 0x28800000 := by
  decide +kernel

/-- R233: p0 is constant, and a lane that is off keeps its bit. -/
theorem test_compare_in_active_lanes :
    (let s := at_ [vw 10 0 (d := 1) (ty := 2)] { runner with active := 0x0F0F, preds := [(1, 0xF000)] }
     ((after (.vcmpEq 0 0) s).group 0 0).p 1) = 0xFF0F := by decide +kernel

/-- R289, R321: an address that is not aligned, or past 40 KiB, faults the group with OPERAND_RANGE. -/
theorem test_store_out_of_range :
    (let G := (after (.sLd 0 0) (at_ [vw 14 2 (d := 2) (a := 1) (ty := 3)] (withS1 40960))).group 0 0
     (G.status, G.fault)) = (.halted, 0x22) := by decide +kernel

/-- R312: a free of an address that is no block counts as misuse. -/
theorem test_heap_misuse :
    (let s := at_ [0x2C + 2 ^ 11 + 2 * 2 ^ 19] (withS1 0)
     ((after (.hFree 0 0) { s with cores := [(0, coreOf [0x2C + 2 ^ 11 + 2 * 2 ^ 19] { runner with sregs := [(2, 256)] })] }).ctx 0).counters)
      = [(12, 1)] := by decide +kernel

/-- R421: HL_ERR.BADACC for an 8-byte write at an offset that is no multiple of 8. -/
theorem test_bad_access : ((after (.registerWrite 0x64 8 1) up).reg 0x60 0) = 1 := by decide +kernel

/-- R382: three stacks are no placement. -/
theorem test_placement_of_three :
    ((after (.memPlaceAttrWrite 1 1) { up with regs := [(0x300008, 7)] }).reg 0x300804 0) = 0 := by decide +kernel

/-- R449, R472: a NOP with CMP leaves a record; a descriptor of no type takes the queue to ERROR. -/
theorem test_nop : (((after (.nopDescriptor 2) (fetchedAt 2 (dsc [0x200]))).queue 2).recs.map fun r => r.status) = [0] := by decide +kernel
theorem test_unknown_type :
    (let Q := (after (.nopDescriptor 2) (fetchedAt 2 (dsc [7]))).queue 2
     (Q.recs.map (fun r => r.status), Q.state, Q.lastErr)) = ([1], 3, 1) := by decide +kernel

/-- R590: preset 1 is 34,000 W. -/
theorem test_preset : (after .capPreset (managing (mgm 2 1))).power.preset = 1 ∧ presetBudget 1 = 34000 := by decide +kernel

/-- R655: the host link trained in ROM, the part goes to LINK_UP. -/
theorem test_link_up : (after (.linkUp true) { edge := { linkUp := true } }).part = .linkUp := by decide +kernel

end Sys2Proof.Tests
end

/-! Two's complement and machine words: the model's numbers as bit vectors. -/

namespace Sys2Proof

/-! ## Two's complement -/

/-- A number read as two's complement is the signed reading of its bit vector. -/
theorem sgn_eq_toInt (n v : Nat) : sgn n v = (BitVec.ofNat n v).toInt := by
  simp only [sgn, BitVec.toInt_eq_msb_cond, BitVec.msb_eq_getLsbD_last, BitVec.toNat_ofNat, BitVec.getLsbD]

/-- Two's complement of n bits is the number of the bit vector of an integer. -/
theorem twos_eq_toNat (n : Nat) (i : Int) : twos n i = (BitVec.ofInt n i).toNat := by
  rw [twos, BitVec.toNat_ofInt]

theorem twos_lt (n : Nat) (i : Int) : twos n i < 2 ^ n := twos_eq_toNat n i ▸ (BitVec.ofInt n i).isLt

theorem ofNat_twos (n : Nat) (i : Int) : BitVec.ofNat n (twos n i) = BitVec.ofInt n i := by
  rw [twos_eq_toNat, BitVec.ofNat_toNat, BitVec.setWidth_eq]

theorem fld_lt (w lo len : Nat) : fld w lo len < 2 ^ len := Nat.mod_lt _ (Nat.two_pow_pos len)

/-- The sign extension of a word, computed through its signed value. -/
theorem ofNat_twos_sgn (m n v : Nat) : BitVec.ofNat m (twos m (sgn n v)) = (BitVec.ofNat n v).signExtend m := by
  rw [ofNat_twos, sgn_eq_toInt, BitVec.signExtend]

/-! ## Words: the model's numbers against bit-vector operations (R232) -/

section Words
variable {n : Nat} (a b : BitVec n)

@[simp] theorem sgn_toNat : sgn n a.toNat = a.toInt := by rw [sgn_eq_toInt, BitVec.ofNat_toNat, BitVec.setWidth_eq]

/-- The choice of one of two words, made on their numbers. -/
theorem ofNat_ite_word (p : Prop) [Decidable p] :
    BitVec.ofNat n (if p then a.toNat else b.toNat) = if p then a else b := by
  rw [apply_ite (BitVec.ofNat n), BitVec.ofNat_toNat, BitVec.ofNat_toNat, BitVec.setWidth_eq, BitVec.setWidth_eq]

theorem ofNat_sub_word : BitVec.ofNat n (a.toNat + (2 ^ n - b.toNat)) = a - b := by
  apply BitVec.eq_of_toNat_eq
  rw [BitVec.toNat_ofNat, BitVec.toNat_sub, Nat.add_comm]

theorem ofNat_sra_word (k : Nat) : BitVec.ofNat n (twos n (a.toInt / (2 ^ k : Nat))) = a.sshiftRight k := by
  rw [ofNat_twos, ← Int.shiftRight_eq_div_pow, BitVec.sshiftRight]

theorem ofNat_shl_word (k : Nat) : BitVec.ofNat n (a.toNat <<< k) = a <<< k :=
  BitVec.eq_of_toNat_eq (by simp)

theorem ofNat_shr_word (k : Nat) : BitVec.ofNat n (a.toNat >>> k) = a >>> k :=
  BitVec.eq_of_toNat_eq (by
    rw [BitVec.toNat_ofNat, BitVec.toNat_ushiftRight, Nat.mod_eq_of_lt]
    exact Nat.lt_of_le_of_lt (Nat.shiftRight_le _ _) a.isLt)

end Words

/-- Exclusive or with all ones is the complement. -/
theorem ofNat_not_word (a : BitVec 32) : BitVec.ofNat 32 (a.toNat ^^^ 0xFFFFFFFF) = ~~~a := by
  apply BitVec.eq_of_toNat_eq
  have h : 0xFFFFFFFF = (BitVec.allOnes 32).toNat := rfl
  rw [h, ← BitVec.toNat_xor, BitVec.xor_allOnes, BitVec.ofNat_toNat, BitVec.setWidth_eq]

/-- A truth value as a register's word. -/
theorem ofNat_b2n (b : Bool) : BitVec.ofNat 32 (b2n b) = if b then 1 else 0 := by cases b <;> rfl

end Sys2Proof

/-! How a command that meets `issues` runs (R271, R272). -/

namespace Sys2Proof.Claims

open Sys2Proof.Machine

/-! ## The state a command leaves -/

/-- An issued instruction that takes effect leaves its effect, passed. -/
theorem act_issue_ok {maj vport core grp : Nat} {isOp : Nat → Bool} {ok : Nat → Nat → Bool} {regs : Nat → List Nat}
    {run : GI → Iss} {s : State} {p : Gk1} (h : issues maj isOp ok regs core grp s.toGk1 = true)
    (hrun : run (fetched s.toGk1 core grp (isLong maj)) = .ok p) :
    s.act (issue maj isOp ok regs vport run core grp) = .next (passed s core grp (if isLong maj then 2 else 1) vport p) := by
  simp only [issues, Bool.and_eq_true, decide_eq_true_eq, Bool.not_eq_true'] at h
  obtain ⟨⟨⟨⟨⟨⟨⟨hcore, hgrp⟩, hready⟩, hplaced⟩, hmaj⟩, hop⟩, hok⟩, hregs⟩ := h
  have hunits : (coreOk core && decide (grp < 8)) = true := by
    rw [Bool.and_eq_true, coreOk, decide_eq_true_eq, decide_eq_true_eq]; exact ⟨hcore, hgrp⟩
  apply State.act_of_next
  simp only [fetched] at hmaj hop hok hregs hrun
  simp only [Gk1.group] at *
  simp [issue, hunits, hready, hplaced, hmaj, hop, hok, hregs, hrun]

/-- The issue of a 64-bit instruction that takes effect. -/
theorem act_issue_short {maj vport core grp : Nat} {isOp : Nat → Bool} {ok : Nat → Nat → Bool} {regs : Nat → List Nat}
    {run : GI → Iss} {s : State} {p : Gk1} (hshort : isLong maj = false)
    (h : issues maj isOp ok regs core grp s.toGk1 = true) (hrun : run (fetched s.toGk1 core grp false) = .ok p) :
    s.act (issue maj isOp ok regs vport run core grp) = .next (passed s core grp 1 vport p) := by
  rw [act_issue_ok h (hshort ▸ hrun), hshort]; rfl

end Sys2Proof.Claims

/-! Reads of a group's registers after writes, and its second source. -/

namespace Sys2Proof.Machine

/-! ## Registers (R228, R233, R234) -/

/-- A fold of lane writes reads back lane by lane. -/
theorem Group.v_foldl_setLane (ls : List Nat) (G : Group) (n m l : Nat) (on : Nat → Bool) (f : Nat → Nat)
    (hls : ∀ k ∈ ls, k < 16) (hl : l < 16) :
    (ls.foldl (fun G k => if on k then G.setLane n k (BitVec.ofNat 32 (f k)) else G) G).v m l
      = if n = m ∧ l ∈ ls ∧ on l = true then BitVec.ofNat 32 (f l) else G.v m l := by
  induction ls generalizing G with
  | nil => simp
  | cons k ls ih =>
    obtain ⟨hk, hls⟩ := List.forall_mem_cons.1 hls
    have hlane : 16 * n + k = 16 * m + l ↔ n = m ∧ k = l := by omega
    have hhead : (if on k then G.setLane n k (BitVec.ofNat 32 (f k)) else G).v m l
        = if n = m ∧ k = l ∧ on k = true then BitVec.ofNat 32 (f k) else G.v m l := by
      by_cases hon : on k = true <;> simp [hon, hlane]
    rw [List.foldl_cons, ih _ hls, hhead]
    by_cases hkl : k = l
    · subst hkl; by_cases hnm : n = m <;> by_cases hon : on k = true <;> simp [hnm, hon]
    · simp [hkl, Ne.symm hkl]

/-- A vector register reads as written in the lanes that are on. -/
theorem Group.v_setV (G : Group) (n m l : Nat) (on : Nat → Bool) (f : Nat → Nat) (hl : l < 16) :
    (G.setV n on f).v m l = if n = m ∧ on l = true then BitVec.ofNat 32 (f l) else G.v m l := by
  have hmem : l ∈ lanes := List.mem_range.2 hl
  simp [Group.setV, Group.v_foldl_setLane lanes G n m l on f (fun _ => List.mem_range.1) hl, hmem]

/-- Only the values modulo 2^32 count in a vector write (R232). -/
theorem Group.setV_congr (G : Group) (n : Nat) (on : Nat → Bool) {f g : Nat → Nat}
    (h : ∀ l, BitVec.ofNat 32 (f l) = BitVec.ofNat 32 (g l)) : G.setV n on f = G.setV n on g := by
  simp only [Group.setV, h]

/-- A predicate reads as written, unless it is p0 (R233). -/
theorem Group.p_setP (G : Group) (n m : Nat) (v : BitVec 16) :
    (G.setP n v).p m = if n = m ∧ n ≠ 0 then v else G.p m := by
  by_cases hn : n = 0
  · simp [Group.setP, hn]
  · by_cases hm : m = 0 <;> simp [Group.setP, Group.p, hn, hm]

/-- Only the value modulo 2^64 counts in a write of a pair (R229). -/
theorem Group.setPair_mod (G : Group) (n v : Nat) : G.setPair n (v % 2 ^ 64) = G.setPair n v := by
  have hlo : BitVec.ofNat 32 (v % 2 ^ 64) = BitVec.ofNat 32 v := BitVec.eq_of_toNat_eq (by simp)
  have hhi : BitVec.ofNat 32 (v % 2 ^ 64 / 2 ^ 32) = BitVec.ofNat 32 (v / 2 ^ 32) := BitVec.eq_of_toNat_eq (by simp; omega)
  rw [Group.setPair, Group.setPair, hlo, hhi]

theorem Group.pair_lt (G : Group) (n : Nat) : G.pair n < 2 ^ 64 := by
  have hlo := (G.s n).isLt
  have hhi := (G.s (n + 1)).isLt
  simp only [Group.pair, Group.sn]; omega

/-- A pair is a 64-bit value. -/
theorem Group.toNat_pair (G : Group) (n : Nat) : (BitVec.ofNat 64 (G.pair n)).toNat = G.pair n := by
  rw [BitVec.toNat_ofNat, Nat.mod_eq_of_lt (G.pair_lt n)]

/-- No sticky flag of a result leaves the group as it is. -/
@[simp] theorem Group.flag_none (G : Group) : G.flag {} = G := by simp [Group.flag]

/-! ## The second source (R230, R279, R282) -/

theorem immOf_lt (ty : Nat) {imm : Nat} (h : imm < 2 ^ 16) : immOf ty imm < 2 ^ 32 := by
  unfold immOf
  split
  · omega
  · omega
  · omega
  · exact twos_lt _ _

/-- The second source of the V form is a word. -/
theorem Group.vb_lt (G : Group) (w ty l : Nat) : G.vb w ty l < 2 ^ 32 := by
  unfold Group.vb
  split
  · exact (G.s _).isLt
  · exact immOf_lt ty (fld_lt _ _ _)
  · exact (G.v _ _).isLt

/-- The second source of the S form is a word. -/
theorem Group.sb_lt (G : Group) (w : Nat) : G.sb w < 2 ^ 32 := by
  unfold Group.sb
  split
  · exact fld_lt _ _ _
  · exact (G.s _).isLt

end Sys2Proof.Machine

/-! The integer rows of the S and V forms: what a command of their shape leaves, then row by row the operation. -/

namespace Sys2Proof.Claims

open Sys2Proof.Machine

/-! ## Shapes -/

/-- A scalar command writes SD, and the flags, when its guard holds in the issuing lane (R275). -/
theorem act_scalar {maj op core grp : Nat} {u : SUse} {f : Nat → Nat → Nat → Nat × Flg} {s : State} (hshort : isLong maj = false)
    (h : issues maj (opIs op) (fun w _ => sOk u w) (sRegs u) core grp s.toGk1 = true) :
    let G := s.group core grp
    let w := (fetched s.toGk1 core grp false).w
    let r := f (G.sn (wA w)) (G.sb w) (G.sn (wSc w))
    s.act (scalar maj op u f core grp) = .next (passed s core grp 1 0 (if G.issues w
      then groupIs s core grp ((G.setS (wD w) (BitVec.ofNat 32 r.1)).flag r.2) else s.toGk1)) := by
  intro G w r
  refine act_issue_short hshort h ?_
  change (if !G.issues w then _ else _) = _
  cases G.issues w <;> rfl

/-- add64 and sub64 write the pair SD when their guard holds in the issuing lane (R229, R275). -/
theorem act_sint64 {op core grp : Nat} {f : Nat → Nat → Nat} {s : State}
    (h : issues 1 (opIs op) (fun w _ => sOk {} w && wD w % 2 = 0 && wA w % 2 = 0 && (wImmB w || wB w % 2 = 0))
      (fun w => [wD w, wD w + 1, wA w, wA w + 1] ++ (if wImmB w then [] else [wB w, wB w + 1])) core grp s.toGk1 = true) :
    let G := s.group core grp
    let w := (fetched s.toGk1 core grp false).w
    let b := if wImmB w then twos 64 (sgn 32 (wImm32 w)) else G.pair (wB w)
    s.act (sint64 op f core grp) = .next (passed s core grp 1 0 (if G.issues w
      then groupIs s core grp (G.setPair (wD w) (f (G.pair (wA w)) b)) else s.toGk1)) := by
  intro G w b
  refine act_issue_short rfl h ?_
  rw [← Group.setPair_mod]
  change (if !G.issues w then _ else _) = _
  cases G.issues w <;> rfl

/-- A vector command writes VD in the lanes that are on, and their flags (R234, R244). -/
theorem act_vec {maj op vport core grp : Nat} {u : VUse} {f : GI → Nat → Nat → Nat → Nat → Nat × Flg} {s : State}
    (hshort : isLong maj = false)
    (h : issues maj (opIs op) (fun w _ => vOk u w) (fun w => vRegs w false false u.sx false) core grp s.toGk1 = true) :
    let G := s.group core grp
    let i := fetched s.toGk1 core grp false
    let r := fun l => f i l (G.vn (wA i.w) l) (G.vb i.w (wType i.w) l) (G.vn (wC i.w) l)
    s.act (vec maj op vport u f core grp) = .next (passed s core grp 1 vport (groupIs s core grp
      ((G.setV (wD i.w) (G.on i.w) fun l => (r l).1).flag (laneFlags (G.on i.w) fun l => (r l).2)))) :=
  act_issue_short hshort h rfl

/-- Lanes whose results set no flag set none together. -/
@[simp] theorem laneFlags_none (on : Nat → Bool) : laneFlags on (fun _ => {}) = {} := by
  have hstep : ∀ l, (if on l then Flg.or {} {} else ({} : Flg)) = {} := fun l => by cases on l <;> rfl
  exact List.foldl_fixed' hstep lanes

/-! ## Scalar rows -/

/-- A scalar integer row is the command of an operation on numbers, which is the row's modulo 2^32. -/
def SRow.Is (r : SRow) (f : Nat → Nat → Nat → Nat) : Prop :=
  (∀ core grp s, exec (r.row core grp) s = s.act (sint r.op r.use f core grp)) ∧
  ∀ a b c : BitVec 32, BitVec.ofNat 32 (f a.toNat b.toNat c.toNat) = r.f a b c

/-- A row of the scalar integer shape writes its result modulo 2^32. -/
theorem SRow.Is.exec_row {r : SRow} {f : Nat → Nat → Nat → Nat} (hr : r.Is f) {core grp : Nat} {s : State}
    (h : issues 1 (opIs r.op) (fun w _ => sOk r.use w) (sRegs r.use) core grp s.toGk1 = true) :
    let G := s.group core grp
    let w := (fetched s.toGk1 core grp false).w
    exec (r.row core grp) s = .next (passed s core grp 1 0 (if G.issues w
      then groupIs s core grp (G.setS (wD w) (r.f (G.s (wA w)) (BitVec.ofNat 32 (G.sb w)) (G.s (wSc w)))) else s.toGk1)) := by
  intro G w
  obtain ⟨hexec, hf⟩ := hr
  have hsb : (BitVec.ofNat 32 (G.sb w)).toNat = G.sb w := Nat.mod_eq_of_lt (G.sb_lt w)
  have hact := act_scalar (f := fun a b c => (f a b c, {})) rfl h
  simp only [Group.flag_none] at hact
  rw [hexec, ← hf, hsb]
  exact hact

/-- Every scalar integer row is its operation on words (R232, R284). -/
theorem sintRows_is : ∀ r ∈ sintRows, ∃ f, r.Is f := by
  simp only [sintRows, List.cons_append, List.nil_append, List.forall_mem_cons]
  exact
   ⟨⟨_, fun _ _ _ => rfl, fun a b _ => by simp [BitVec.ofNat_add]⟩,
    ⟨_, fun _ _ _ => rfl, fun a b _ => ofNat_sub_word a b⟩,
    ⟨_, fun _ _ _ => rfl, fun a b _ => by simp [BitVec.ofNat_mul]⟩,
    ⟨_, fun _ _ _ => rfl, fun a b c => by simp [BitVec.ofNat_add, BitVec.ofNat_mul]⟩,
    ⟨_, fun _ _ _ => rfl, fun a b _ => by simp [sg, ofNat_ite_word, BitVec.sle_iff_toInt_le]⟩,
    ⟨_, fun _ _ _ => rfl, fun a b _ => by simp [sg, ofNat_ite_word, BitVec.sle_iff_toInt_le]⟩,
    ⟨_, fun _ _ _ => rfl, fun a b _ => by simp [Nat.min_def, ofNat_ite_word, BitVec.le_def]⟩,
    ⟨_, fun _ _ _ => rfl, fun a b _ => by simp [Nat.max_def, ofNat_ite_word, BitVec.le_def]⟩,
    ⟨_, fun _ _ _ => rfl, fun a b _ => by simp [BitVec.ofNat_and]⟩,
    ⟨_, fun _ _ _ => rfl, fun a b _ => by simp [BitVec.ofNat_or]⟩,
    ⟨_, fun _ _ _ => rfl, fun a b _ => by simp [BitVec.ofNat_xor]⟩,
    ⟨_, fun _ _ _ => rfl, fun a _ _ => ofNat_not_word a⟩,
    ⟨_, fun _ _ _ => rfl, fun a b _ => ofNat_shl_word a _⟩,
    ⟨_, fun _ _ _ => rfl, fun a b _ => ofNat_shr_word a _⟩,
    ⟨_, fun _ _ _ => rfl, fun a b _ => by simpa only [sg, sgn_toNat] using ofNat_sra_word a _⟩,
    ⟨_, fun _ _ _ => rfl, fun _ b _ => by simp⟩,
    ⟨_, fun _ _ _ => rfl, fun a b _ => by simp [ofNat_b2n, BitVec.toNat_inj]⟩,
    ⟨_, fun _ _ _ => rfl, fun a b _ => by simp [ofNat_b2n, BitVec.toNat_inj]⟩,
    ⟨_, fun _ _ _ => rfl, fun a b _ => by simp [sg, ofNat_b2n, BitVec.slt_iff_toInt_lt]⟩,
    ⟨_, fun _ _ _ => rfl, fun a b _ => by simp [sg, ofNat_b2n, BitVec.sle_iff_toInt_le]⟩,
    ⟨_, fun _ _ _ => rfl, fun a b _ => by simp [ofNat_b2n, BitVec.lt_def]⟩,
    ⟨_, fun _ _ _ => rfl, fun a b _ => by simp [ofNat_b2n, BitVec.le_def]⟩,
    fun _ h => absurd h List.not_mem_nil⟩

/-! ## Vector rows -/

/-- A lane's second source, as the model reads it. -/
theorem toNat_vb (G : Group) (w l : Nat) : (vb G w l).toNat = G.vb w (wType w) l := Nat.mod_eq_of_lt (G.vb_lt w _ l)

/-- The model's order of two words by TYPE. -/
theorem intLe_toNat (w : Nat) (a b : BitVec 32) : intLe (wType w) a.toNat b.toNat = leBy w a b := by
  simp only [intLe, leBy, sgn_toNat, BitVec.sle_eq_decide, BitVec.le_def]

/-- A vector integer row is the command of an operation on numbers, which is the row's modulo 2^32 in every lane. -/
def VRow.Is (r : VRow) (f : GI → Nat → Nat → Nat → Nat → Nat) : Prop :=
  (∀ core grp s, exec (r.row core grp) s = s.act (vec 9 r.op 2 r.use (fun i l a b c => (f i l a b c, {})) core grp)) ∧
  r.use.sx = false ∧
  ∀ i l, BitVec.ofNat 32 (f i l (va i.G i.w l).toNat (vb i.G i.w l).toNat (vc i.G i.w l).toNat) = r.f i.G i.w l

/-- A row of the vector integer shape writes its result modulo 2^32 in the lanes that are on. -/
theorem VRow.Is.exec_row {r : VRow} {f : GI → Nat → Nat → Nat → Nat → Nat} (hr : r.Is f) {core grp : Nat} {s : State}
    (h : issues 9 (opIs r.op) (fun w _ => vOk r.use w) (fun w => vRegs w false false false false) core grp s.toGk1 = true) :
    let G := s.group core grp
    let w := (fetched s.toGk1 core grp false).w
    exec (r.row core grp) s = .next (passed s core grp 1 2
      (groupIs s core grp (G.setV (wD w) (G.on w) fun l => (r.f G w l).toNat))) := by
  intro G w
  obtain ⟨hexec, hsx, hf⟩ := hr
  have hact := act_vec (vport := 2) (u := r.use) (f := fun i l a b c => (f i l a b c, {})) rfl (by rwa [hsx])
  simp only [laneFlags_none, Group.flag_none] at hact
  rw [hexec, hact, Group.setV_congr]
  intro l
  have hlane := hf (fetched s.toGk1 core grp false) l
  rw [toNat_vb] at hlane
  rw [BitVec.ofNat_toNat, BitVec.setWidth_eq]
  exact hlane

/-- Every vector integer row is its operation on words, by TYPE where it orders them (R232, R284). -/
theorem vintRows_is : ∀ r ∈ vintRows, ∃ f, r.Is f := by
  simp only [vintRows, List.cons_append, List.nil_append, List.forall_mem_cons]
  exact
   ⟨⟨_, fun _ _ _ => rfl, rfl, fun i l => by simp [BitVec.ofNat_add]⟩,
    ⟨_, fun _ _ _ => rfl, rfl, fun i l => ofNat_sub_word _ _⟩,
    ⟨_, fun _ _ _ => rfl, rfl, fun i l => by simp [BitVec.ofNat_mul]⟩,
    ⟨_, fun _ _ _ => rfl, rfl, fun i l => by simp [BitVec.ofNat_add, BitVec.ofNat_mul]⟩,
    ⟨_, fun _ _ _ => rfl, rfl, fun i l => by simp only [intLe_toNat, ofNat_ite_word]⟩,
    ⟨_, fun _ _ _ => rfl, rfl, fun i l => by simp only [intLe_toNat, ofNat_ite_word]⟩,
    ⟨_, fun _ _ _ => rfl, rfl, fun i l => by simp [BitVec.ofNat_and]⟩,
    ⟨_, fun _ _ _ => rfl, rfl, fun i l => by simp [BitVec.ofNat_or]⟩,
    ⟨_, fun _ _ _ => rfl, rfl, fun i l => by simp [BitVec.ofNat_xor]⟩,
    ⟨_, fun _ _ _ => rfl, rfl, fun i l => ofNat_not_word _⟩,
    ⟨_, fun _ _ _ => rfl, rfl, fun i l => ofNat_shl_word _ _⟩,
    ⟨_, fun _ _ _ => rfl, rfl, fun i l => ofNat_shr_word _ _⟩,
    ⟨_, fun _ _ _ => rfl, rfl, fun i l => by simpa only [sgn_toNat] using ofNat_sra_word _ _⟩,
    ⟨_, fun _ _ _ => rfl, rfl, fun i l => by simp⟩,
    ⟨_, fun _ _ _ => rfl, rfl, fun i l => by simp only [ofNat_ite_word]⟩,
    fun _ h => absurd h List.not_mem_nil⟩

/-! ## Pairs -/

/-- The second source of add64 and sub64: an immediate is sign-extended, else a pair (R229, R282). -/
def pairSource (G : Group) (w : Nat) : BitVec 64 :=
  if wImmB w then (BitVec.ofNat 32 (wImm32 w)).signExtend 64 else BitVec.ofNat 64 (G.pair (wB w))

/-- The model's number for that source. -/
theorem toNat_pairSource (G : Group) (w : Nat) :
    (pairSource G w).toNat = if wImmB w then twos 64 (sgn 32 (wImm32 w)) else G.pair (wB w) := by
  unfold pairSource
  split
  · rw [← ofNat_twos_sgn, BitVec.toNat_ofNat, Nat.mod_eq_of_lt (twos_lt _ _)]
  · rw [Group.toNat_pair]

/-- A pair takes a number and its 64-bit value alike. -/
theorem setPair_word (G : Group) (n : Nat) {v : Nat} {x : BitVec 64} (h : BitVec.ofNat 64 v = x) :
    G.setPair n v = G.setPair n x.toNat := by
  rw [← h, BitVec.toNat_ofNat, Group.setPair_mod]

/-- A command of the pair shape writes the result of its 64-bit operation. -/
theorem act_sint64_word {op core grp : Nat} {f : Nat → Nat → Nat} {g : BitVec 64 → BitVec 64 → BitVec 64} {s : State}
    (hf : ∀ a b : BitVec 64, BitVec.ofNat 64 (f a.toNat b.toNat) = g a b)
    (h : issues 1 (opIs op) (fun w _ => sOk {} w && wD w % 2 = 0 && wA w % 2 = 0 && (wImmB w || wB w % 2 = 0))
      (fun w => [wD w, wD w + 1, wA w, wA w + 1] ++ (if wImmB w then [] else [wB w, wB w + 1])) core grp s.toGk1 = true) :
    let G := s.group core grp
    let w := (fetched s.toGk1 core grp false).w
    s.act (sint64 op f core grp) = .next (passed s core grp 1 0 (if G.issues w
      then groupIs s core grp (G.setPair (wD w) (g (BitVec.ofNat 64 (G.pair (wA w))) (pairSource G w)).toNat) else s.toGk1)) := by
  intro G w
  have hres := hf (BitVec.ofNat 64 (G.pair (wA w))) (pairSource G w)
  rw [Group.toNat_pair, toNat_pairSource] at hres
  rw [← setPair_word G (wD w) hres]
  exact act_sint64 h

/-! ## The statement -/

/-- Settles O8: each row is a command of its shape, and its operation on numbers is the row's on words. -/
theorem integerResults : Obligations.IntegerResults := by
  refine ⟨fun r hr core grp s h => ?_, fun r hr core grp s h => ?_, ?_⟩
  · obtain ⟨f, hf⟩ := sintRows_is r hr
    exact hf.exec_row h
  · obtain ⟨f, hf⟩ := vintRows_is r hr
    exact hf.exec_row h
  · simp only [List.forall_mem_cons]
    exact ⟨fun _ _ _ h => act_sint64_word (fun a b => by simp [BitVec.ofNat_add]) h,
      fun _ _ _ h => act_sint64_word ofNat_sub_word h, fun _ h => absurd h List.not_mem_nil⟩

end Sys2Proof.Claims

/-! The rows that write a predicate: compares by TYPE and the logic of two predicates. -/

namespace Sys2Proof.Claims

open Sys2Proof.Machine

/-! ## Shapes -/

/-- A compare command writes predicate VD with the compare of each lane (R233, R284). -/
theorem act_vcmp {op core grp : Nat} {types : List Nat} {c : Cmp} {s : State}
    (h : issues 0x0A (opIs op) (fun w _ => vOk { vd := 7, bs := [0, 1, 2], types := types } w)
      (fun w => vRegs w false false false false) core grp s.toGk1 = true) :
    let G := s.group core grp
    let w := (fetched s.toGk1 core grp false).w
    s.act (vcmp op types c core grp) = .next (passed s core grp 1 2 (groupIs s core grp
      (predIs G w fun l => cmpLane c (wType w) (G.vn (wA w) l) (G.vb w (wType w) l)))) :=
  act_issue_short rfl h rfl

/-- A logic command writes predicate VD from predicates VA and VB, lane by lane (R284). -/
theorem act_predOp {op vb core grp : Nat} {f : Bool → Bool → Bool} {s : State}
    (h : issues 0x0A (opIs op) (fun w _ => vOk { vd := 7, va := 7, bs := [0], vb := vb } w) (fun _ => []) core grp s.toGk1 = true) :
    let G := s.group core grp
    let w := (fetched s.toGk1 core grp false).w
    s.act (predOp op vb f core grp) = .next (passed s core grp 1 2 (groupIs s core grp
      (predIs G w fun l => f ((G.p (wA w)).getLsbD l) ((G.p (wB w)).getLsbD l)))) :=
  act_issue_short rfl h rfl

/-! ## Compare rows -/

/-- A compare row is a command whose compare is the row's, on exact numbers and on words. -/
def CRow.Is (r : CRow) (c : Cmp) : Prop :=
  (∀ core grp s, exec (r.row core grp) s = s.act (vcmp r.op r.types c core grp)) ∧
  c.fp = r.fp ∧ ∀ w a b, c.int (wType w) a.toNat b.toNat = r.int w a b

/-- A word has no bits above its high half. -/
theorem halves_toNat (x : BitVec 32) : halves x.toNat = (x.toNat % 2 ^ 16, x.toNat / 2 ^ 16) := by
  have hx := x.isLt
  rw [halves, Nat.mod_eq_of_lt (a := x.toNat / 2 ^ 16) (by omega)]

/-- The compare of a lane by TYPE is the row's. -/
theorem CRow.Is.cmpLane_eq_holds {r : CRow} {c : Cmp} (hr : r.Is c) (G : Group) (w l : Nat) :
    cmpLane c (wType w) (G.vn (wA w) l) (G.vb w (wType w) l) = r.holds G w l := by
  obtain ⟨-, hfp, hint⟩ := hr
  rw [← toNat_vb, show G.vn (wA w) l = (va G w l).toNat from rfl]
  simp only [cmpLane, CRow.holds, hfp, hint, halves_toNat]
  have htype : wType w < 8 := fld_lt w 38 3
  generalize wType w = ty at htype
  interval_cases ty <;> rfl

/-- A row of the compare shape writes predicate VD with its compare. -/
theorem CRow.Is.exec_row {r : CRow} {c : Cmp} (hr : r.Is c) {core grp : Nat} {s : State}
    (h : issues 0x0A (opIs r.op) (fun w _ => vOk { vd := 7, bs := [0, 1, 2], types := r.types } w)
      (fun w => vRegs w false false false false) core grp s.toGk1 = true) :
    let G := s.group core grp
    let w := (fetched s.toGk1 core grp false).w
    exec (r.row core grp) s = .next (passed s core grp 1 2 (groupIs s core grp (predIs G w (r.holds G w)))) := by
  intro G w
  have hlane := hr.cmpLane_eq_holds G w
  obtain ⟨hexec, -, -⟩ := hr
  rw [hexec, act_vcmp h]
  simp only [G, w, hlane]

/-- Every compare row is the model's compare, the integer ones ordered by TYPE (R284). -/
theorem cmpRows_is : ∀ r ∈ cmpRows, ∃ c, r.Is c := by
  simp only [cmpRows, List.forall_mem_cons]
  exact
   ⟨⟨_, fun _ _ _ => rfl, rfl, fun w a b => by simp only [BitVec.toNat_inj]⟩,
    ⟨_, fun _ _ _ => rfl, rfl, fun w a b => by simp only [ne_eq, BitVec.toNat_inj]⟩,
    ⟨_, fun _ _ _ => rfl, rfl, fun w a b => by simp only [intLe_toNat]⟩,
    ⟨_, fun _ _ _ => rfl, rfl, fun w a b => intLe_toNat w a b⟩,
    ⟨_, fun _ _ _ => rfl, rfl, fun w a b => by simp only [intLe_toNat]⟩,
    ⟨_, fun _ _ _ => rfl, rfl, fun w a b => intLe_toNat w b a⟩,
    fun _ h => absurd h List.not_mem_nil⟩

/-! ## Logic rows -/

/-- Every predicate logic row is the model's command with the row's operator (R284, log 12). -/
theorem exec_predRow : ∀ r ∈ predRows, ∀ core grp s, exec (r.row core grp) s = s.act (predOp r.op r.vb r.f core grp) := by
  simp only [predRows, List.forall_mem_cons]
  exact ⟨fun _ _ _ => rfl, fun _ _ _ => rfl, fun _ _ _ => rfl, fun _ _ _ => rfl, fun _ _ _ => rfl,
    fun _ h => absurd h List.not_mem_nil⟩

/-! ## The statement -/

/-- Settles O10: the reads after writes of Registers, and every row's command through its shape. -/
theorem predicatesAndCompares : Obligations.PredicatesAndCompares := by
  refine ⟨⟨Group.s_setS, fun G n m l on f hl => G.v_setV n m l on f hl, Group.p_setP, Group.p_zero⟩,
    fun r hr core grp s h => ?_, fun r hr core grp s h => ?_⟩
  · obtain ⟨c, hc⟩ := cmpRows_is r hr
    exact hc.exec_row h
  · rw [exec_predRow r hr]
    exact act_predOp h

end Sys2Proof.Claims

/-! Writes to the placement entries: MEM_PLACE_MASK and MEM_PLACE_ATTR (R382, R386). -/

namespace Sys2Proof.Machine

/-- Only entry 0 is VALID at reset. -/
theorem Gk1.placeAttr_of_ne_zero (s : Gk1) {i : Nat} (hne : i ≠ 0) : s.placeAttr i = s.reg (0x300800 + 4 * i) 0 := by
  rw [Gk1.placeAttr, decide_eq_false hne]
  rfl

/-! ## The mask of an entry -/

/-- A placement entry whose VALID is set ignores a write to its mask, whether or not the MEM_ registers work yet (R386, R658). -/
theorem Gk1.writeReg_placeMask_of_valid {s : Gk1} {i : Nat} (hvalid : (s.placeAttr i).testBit 0 = true) (m v : Nat) :
    s.writeReg (.placeMask i) m v = s := by
  have hkept : s.writePtMem m v (.placeMask i) = s := by
    by_cases hi : i = 0
    · simp [Gk1.writePtMem, hi]
    · rw [Gk1.placeAttr_of_ne_zero s hi] at hvalid
      simp [Gk1.writePtMem, hvalid]
  rw [Gk1.writeReg, hkept, ite_self]

/-! ## VALID of an entry -/

/-- Once the MEM_ registers work, a write to an entry's MEM_PLACE_ATTR acts on its VALID and STREAM (R658). -/
theorem Gk1.writeReg_placeAttr {s : Gk1} (hwork : s.blocksWork = true) (i m v : Nat) :
    s.writeReg (.placeAttr i) m v = s.writeAttr i v := by
  simp [Gk1.writeReg, Reg.gated, hwork, Gk1.writePtMem]

/-- After a write of MEM_PLACE_ATTR entry 0 is VALID, any other as it was written over an allowed mask (R382, R386). -/
theorem Gk1.testBit_placeAttr_writeAttr (s : Gk1) (i v : Nat) :
    ((s.writeAttr i v).placeAttr i).testBit 0 =
      (decide (i = 0) || (v.testBit 0 && maskOk (s.reg (0x300000 + 8 * i) 0))) := by
  rw [Gk1.placeAttr, Gk1.writeAttr, Gk1.reg_setReg, if_pos rfl]
  generalize (decide (i = 0) || (v.testBit 0 && maskOk (s.reg (0x300000 + 8 * i) 0))) = valid
  rw [Nat.testBit_mod_two_pow]
  cases valid <;> simp [b2n]

end Sys2Proof.Machine

namespace Sys2Proof.Claims

open Sys2Proof.Machine

/-! ## The two rows -/

/-- MEM_PLACE_MASK_WRITE of the whole mask or of a half is the register's write. -/
theorem exec_memPlaceMaskWrite {s : State} {i size half : Nat} (hi : i < 256) (hsize : size = 8 ∨ (size = 4 ∧ half < 2))
    (v : BitVec 64) : exec (.memPlaceMaskWrite i size half v) s =
      .next (became s (s.writeReg (.placeMask i) (reach size half) (present size half v.toNat))) := by
  change execMemPlaceMaskWrite i size half v s = _
  apply State.act_of_next
  rw [if_neg (by omega), if_pos (by simpa using hsize)]

/-- MEM_PLACE_ATTR_WRITE is the register's write. -/
theorem exec_memPlaceAttrWrite {s : State} {i : Nat} (hi : i < 256) (v : BitVec 32) :
    exec (.memPlaceAttrWrite i v) s = .next (became s (s.writeReg (.placeAttr i) (reach 4 0) v.toNat)) := by
  change execMemPlaceAttrWrite i v s = _
  apply State.act_of_next
  rw [if_neg (by omega)]

/-! ## The statement -/

/-- Settles O36: a mask write leaves the whole part as it is, and the VALID that MEM_PLACE_ATTR takes follows the mask. -/
theorem placementEntriesAreGuarded : Obligations.PlacementEntriesAreGuarded := by
  intro s i hi
  constructor
  · intro size half v hsize hvalid
    rw [exec_memPlaceMaskWrite hi hsize, Gk1.writeReg_placeMask_of_valid hvalid]
    rfl
  · intro v hne hwork _ hcount
    have hmask : maskOk (s.reg (0x300000 + 8 * i) 0) = false := by
      rw [maskOk, List.contains_eq_mem, decide_eq_false hcount]
    refine ⟨_, exec_memPlaceAttrWrite hi v, ?_⟩
    rw [became, Gk1.writeReg_placeAttr hwork, ← Gk1.placeAttr_of_ne_zero _ hne, Gk1.testBit_placeAttr_writeAttr,
      hmask, Bool.and_false, Bool.or_false, decide_eq_false hne]

end Sys2Proof.Claims

/-! Writes to the configuration registers of a queue that is not DISABLED (R425). -/

namespace Sys2Proof.Machine

/-! ## The register at an offset (R422) -/

/-- The register that begins at an offset within the 64 bytes of queue q. -/
def queueReg (q : Nat) : Nat → Option Reg
  | 0x00 => some (.sqBase q)
  | 0x08 => some (.cqBase q)
  | 0x10 => some (.dbell q)
  | 0x18 => some (.qCtl q)
  | 0x1C => some (.qIrq q)
  | 0x20 => some (.qCmd q)
  | 0x28 => some (.qStat q)
  | 0x30 => some (.qReplay q)
  | _ => none

/-- An array whose register stands i bytes into each queue's registers has none elsewhere in them. -/
theorem arr_queue {i j q : Nat} (hi : i < 0x40) (hj : j < 0x40) (hq : q < 4096) (mk : Nat → Reg) :
    arr (i + 0x100000) 0x40 4096 mk (0x100000 + 0x40 * q + j) = if j = i then some (mk q) else none := by
  rw [arr]
  by_cases hji : j = i
  · have hdist : 0x100000 + 0x40 * q + i - (i + 0x100000) = 0x40 * q := by omega
    have hle : i + 0x100000 ≤ 0x100000 + 0x40 * q + i := by omega
    simp [hji, hdist, hle, hq]
  · have hoff : ¬ (i + 0x100000 ≤ 0x100000 + 0x40 * q + j ∧ (0x100000 + 0x40 * q + j - (i + 0x100000)) % 0x40 = 0) := by omega
    simp [hji, ← Bool.decide_and, hoff]

/-- From 0x100000 on the QE_ block holds the registers of the queues, 64 bytes for each. -/
theorem regBase_queue {q j : Nat} (hq : q < 4096) (hj : j < 0x40) :
    regBase (0x100000 + 0x40 * q + j) = queueReg q j := by
  rw [regBase, if_pos (by omega), regHlQe]
  · simp only [firstReg, List.findSome?, arr_queue, hq, hj, Nat.reduceLT]
    fun_cases queueReg q j
    case case9 h00 h08 h10 h18 h1C h20 h28 h30 =>
      simp only [if_neg h00, if_neg h08, if_neg h10, if_neg h18, if_neg h1C, if_neg h20, if_neg h28, if_neg h30]
    all_goals rfl
  all_goals omega

/-- A 4-byte access at the first byte of a queue's register reaches its lower half. -/
theorem regAt_queue_lower {q j : Nat} {r : Reg} (hq : q < 4096) (hj : j < 0x40) (hr : queueReg q j = some r) :
    regAt (0x100000 + 0x40 * q + j) = some (r, 0) := by
  simp [regAt, regBase_queue hq hj, hr]

/-- A 4-byte access in the middle of a queue's 64-bit register reaches its upper half. -/
theorem regAt_queue_upper {q j : Nat} {r : Reg} (hq : q < 4096) (hj : j + 4 < 0x40) (h8 : j % 8 = 0)
    (hr : queueReg q j = some r) (hwide : r.wide = true) (hnone : queueReg q (j + 4) = none) :
    regAt (0x100000 + 0x40 * q + (j + 4)) = some (r, 1) := by
  have hmiddle : (0x100000 + 0x40 * q + (j + 4)) % 8 = 4 := by omega
  have hback : 0x100000 + 0x40 * q + (j + 4) - 4 = 0x100000 + 0x40 * q + j := by omega
  rw [regAt, regBase_queue hq hj, hnone]
  simp only [hmiddle, hback, regBase_queue hq (show j < 0x40 by omega), hr, Option.bind_some, hwide, if_true]

/-- The configuration registers of a queue (R425). -/
def queueConfig (q : Nat) : List Reg := [.sqBase q, .cqBase q, .dbell q, .qCtl q]

@[simp] theorem mem_queueConfig {q : Nat} {r : Reg} :
    r ∈ queueConfig q ↔ r = .sqBase q ∨ r = .cqBase q ∨ r = .dbell q ∨ r = .qCtl q := by simp [queueConfig]

/-- Every 4-byte access below QE_Q_IRQ reaches a configuration register of the queue. -/
theorem regAt_queueConfig {q j : Nat} (hq : q < 4096) (hj : j < 0x1C) (h4 : j % 4 = 0) :
    ∃ r ∈ queueConfig q, ∃ half, regAt (0x100000 + 0x40 * q + j) = some (r, half) := by
  have hword : j = 0 ∨ j = 4 ∨ j = 8 ∨ j = 0xC ∨ j = 0x10 ∨ j = 0x14 ∨ j = 0x18 := by omega
  obtain rfl | rfl | rfl | rfl | rfl | rfl | rfl := hword
  · exact ⟨.sqBase q, by simp, 0, regAt_queue_lower hq (by decide) rfl⟩
  · exact ⟨.sqBase q, by simp, 1, regAt_queue_upper (j := 0) hq (by decide) rfl rfl rfl rfl⟩
  · exact ⟨.cqBase q, by simp, 0, regAt_queue_lower hq (by decide) rfl⟩
  · exact ⟨.cqBase q, by simp, 1, regAt_queue_upper (j := 8) hq (by decide) rfl rfl rfl rfl⟩
  · exact ⟨.dbell q, by simp, 0, regAt_queue_lower hq (by decide) rfl⟩
  · exact ⟨.dbell q, by simp, 1, regAt_queue_upper (j := 0x10) hq (by decide) rfl rfl rfl rfl⟩
  · exact ⟨.qCtl q, by simp, 0, regAt_queue_lower hq (by decide) rfl⟩

/-- QE_CONFIG_WRITE acts at every 4-byte offset below QE_Q_IRQ. -/
theorem isQeConfig_queue {q j : Nat} (hq : q < 4096) (hj : j < 0x1C) (h4 : j % 4 = 0) :
    isQeConfig (0x100000 + 0x40 * q + j) = true := by
  obtain ⟨r, hr, half, hat⟩ := regAt_queueConfig hq hj h4
  obtain rfl | rfl | rfl | rfl := mem_queueConfig.1 hr <;> simp [isQeConfig, hat]

/-! ## BAR0 writes by size (R421) -/

/-- An access of R421 is of an aligned word or of an aligned pair of words. -/
theorem accessOk_iff (off size : Nat) : accessOk off size = true ↔ size = 4 ∧ off % 4 = 0 ∨ size = 8 ∧ off % 8 = 0 := by
  simp [accessOk]

/-- An aligned 4-byte write. -/
theorem Gk1.barWrite_four (s : Gk1) {off : Nat} (h : off % 4 = 0) (v : Nat) : s.barWrite off 4 v = s.write4 off v := by
  simp [Gk1.barWrite, accessOk, h]

/-- An aligned 8-byte write of a 64-bit register writes it whole. -/
theorem Gk1.barWrite_eight_wide (s : Gk1) {off : Nat} {r : Reg} (h : off % 8 = 0) (hr : regBase off = some r)
    (hwide : r.wide = true) (v : Nat) : s.barWrite off 8 v = s.writeReg r (reach 8 0) v := by
  simp [Gk1.barWrite, accessOk, h, hr, hwide]

/-- An aligned 8-byte write at a 32-bit register writes two words, the lower first. -/
theorem Gk1.barWrite_eight_narrow (s : Gk1) {off : Nat} {r : Reg} (h : off % 8 = 0) (hr : regBase off = some r)
    (hnarrow : r.wide = false) (v : Nat) :
    s.barWrite off 8 v = (s.write4 off (v % 2 ^ 32)).write4 (off + 4) (v / 2 ^ 32) := by
  simp [Gk1.barWrite, accessOk, h, hr, hnarrow]

/-! ## The ignored write -/

section
variable {s : Gk1} {q : Nat}

/-- A configuration register of a queue that is not DISABLED takes no write, which sets CFGDROP (R425). -/
theorem Gk1.writeReg_queueConfig (hwork : s.blocksWork = true) (hrun : (s.queue q).state ≠ 0) {r : Reg}
    (hr : r ∈ queueConfig q) (m v : Nat) : s.writeReg r m v = s.setErr hlErr 1 := by
  obtain rfl | rfl | rfl | rfl := mem_queueConfig.1 hr <;> simp [Gk1.writeReg, Reg.gated, hwork, Gk1.writeHlQe, Gk1.putQe, hrun]

/-- A 4-byte write below QE_Q_IRQ of a queue that is not DISABLED only sets CFGDROP. -/
theorem Gk1.write4_queueConfig (hq : q < 4096) (hwork : s.blocksWork = true) (hrun : (s.queue q).state ≠ 0) {j : Nat}
    (hj : j < 0x1C) (h4 : j % 4 = 0) (v : Nat) : s.write4 (0x100000 + 0x40 * q + j) v = s.setErr hlErr 1 := by
  obtain ⟨r, hr, half, hat⟩ := regAt_queueConfig hq hj h4
  rw [Gk1.write4, hat]
  exact Gk1.writeReg_queueConfig hwork hrun hr _ _

/-- A 4-byte write of QE_Q_IRQ, which stays writable beside a running queue, stores its RW bits. -/
theorem Gk1.write4_qIrq (hq : q < 4096) (hwork : s.blocksWork = true) (v : Nat) :
    s.write4 (0x100000 + 0x40 * q + 0x1C) v = s.putRw (0x10001C + 0x40 * q) 0 0xFF (reach 4 0) (present 4 0 v) := by
  have hat : regAt (0x100000 + 0x40 * q + 0x1C) = some (.qIrq q, 0) := regAt_queue_lower hq (by decide) rfl
  simp [Gk1.write4, hat, Gk1.writeReg, Reg.gated, hwork, Gk1.writeHlQe]

/-- A write that begins below QE_Q_IRQ of a queue that is not DISABLED sets CFGDROP and stores at most QE_Q_IRQ, which 8 bytes
at QE_Q_CTL reach too (R421, R425). -/
theorem Gk1.barWrite_queueConfig (hq : q < 4096) (hwork : s.blocksWork = true) (hrun : (s.queue q).state ≠ 0) {j size : Nat}
    (hj : j < 0x1C) (hok : accessOk (0x100000 + 0x40 * q + j) size = true) (v : Nat) :
    s.barWrite (0x100000 + 0x40 * q + j) size v = s.setErr hlErr 1 ∨
      ∃ n, s.barWrite (0x100000 + 0x40 * q + j) size v = (s.setErr hlErr 1).setReg (0x10001C + 0x40 * q) 0 n := by
  obtain ⟨rfl, h4⟩ | ⟨rfl, h8⟩ := (accessOk_iff _ _).1 hok
  · left
    rw [Gk1.barWrite_four s h4, Gk1.write4_queueConfig hq hwork hrun hj (by omega)]
  · have hwide : ∀ r ∈ queueConfig q, queueReg q j = some r → r.wide = true →
        s.barWrite (0x100000 + 0x40 * q + j) 8 v = s.setErr hlErr 1 := fun r hr hat hw => by
      rw [Gk1.barWrite_eight_wide s h8 ((regBase_queue hq (by omega)).trans hat) hw, Gk1.writeReg_queueConfig hwork hrun hr]
    have hpair : j = 0 ∨ j = 8 ∨ j = 0x10 ∨ j = 0x18 := by omega
    obtain rfl | rfl | rfl | rfl := hpair
    · exact .inl (hwide (.sqBase q) (by simp) rfl rfl)
    · exact .inl (hwide (.cqBase q) (by simp) rfl rfl)
    · exact .inl (hwide (.dbell q) (by simp) rfl rfl)
    · right
      rw [Gk1.barWrite_eight_narrow s h8 (regBase_queue hq (by decide)) rfl,
        Gk1.write4_queueConfig hq hwork hrun (by decide) rfl]
      exact ⟨_, Gk1.write4_qIrq (s := s.setErr hlErr 1) hq hwork _⟩

end

/-! ## What the ignored write leaves -/

/-- A write of one register keeps every other one. -/
theorem Gk1.reg_setReg_of_ne (s : Gk1) {off o2 : Nat} (hne : off ≠ o2) (reset v d : Nat) :
    (s.setReg off reset v).reg o2 d = s.reg o2 d := by
  have hget : NMap.get? (s.setReg off reset v).regs o2 = NMap.get? s.regs o2 := by
    simp only [Gk1.setReg, NMap.put]
    split <;> simp [NMap.get?_erase, hne]
  simp only [Gk1.reg, NMap.getD, hget]

/-- The bit of a 64-bit error register that is set reads 1. -/
theorem Gk1.testBit_reg_setErr (s : Gk1) (off : Nat) {bit : Nat} (hbit : bit < 64) :
    ((s.setErr off bit).reg off 0).testBit bit = true := by
  rw [Gk1.setErr, Gk1.reg_setReg, if_pos rfl, Nat.testBit_mod_two_pow, Nat.testBit_or, Nat.testBit_two_pow_self]
  simp [hbit]

/-- The four configuration registers of queue q and the queues are those of s, and CFGDROP is set. -/
structure CfgDropped (q : Nat) (s t : Gk1) : Prop where
  flag : (t.reg hlErr 0).testBit 1 = true
  kept : ∀ o ∈ [0x00, 0x08, 0x10, 0x18], ∀ d, t.reg (0x100000 + 0x40 * q + o) d = s.reg (0x100000 + 0x40 * q + o) d
  queues : t.queues = s.queues

/-- Setting CFGDROP keeps the configuration. -/
theorem CfgDropped.setErr (q : Nat) (s : Gk1) : CfgDropped q s (s.setErr hlErr 1) where
  flag := s.testBit_reg_setErr hlErr (by decide)
  kept _ _ _ := s.reg_setReg_of_ne (by rw [hlErr]; omega) _ _ _
  queues := rfl

/-- QE_Q_IRQ is none of the configuration registers. -/
theorem CfgDropped.setReg_qIrq {q : Nat} {s t : Gk1} (h : CfgDropped q s t) (n : Nat) :
    CfgDropped q s (t.setReg (0x10001C + 0x40 * q) 0 n) where
  flag := by rw [Gk1.reg_setReg_of_ne _ (by rw [hlErr]; omega)]; exact h.flag
  kept o ho d := by
    have hne : 0x10001C + 0x40 * q ≠ 0x100000 + 0x40 * q + o := by
      simp only [List.mem_cons, List.not_mem_nil, or_false] at ho; omega
    rw [Gk1.reg_setReg_of_ne _ hne, h.kept o ho]
  queues := h.queues

end Sys2Proof.Machine

namespace Sys2Proof.Claims

open Sys2Proof.Machine

/-! ## The statement -/

/-- Settles O35: both rows are the BAR0 write, which the queue's registers drop. -/
theorem configurationOfARunningQueueIsKept : Obligations.ConfigurationOfARunningQueueIsKept := by
  intro s q off size v hq hwork hrun hlo hhi hok row hrow
  obtain ⟨j, rfl⟩ := Nat.exists_eq_add_of_le hlo
  have hj : j < 0x1C := by omega
  have h4 : j % 4 = 0 := by
    have hsize := (accessOk_iff _ _).1 hok
    omega
  have hexec : exec (row (0x100000 + 0x40 * q + j) size v) s =
      .next (became s (s.barWrite (0x100000 + 0x40 * q + j) size v.toNat)) := by
    simp only [List.mem_cons, List.not_mem_nil, or_false] at hrow
    obtain rfl | rfl := hrow
    · change execQeConfigWrite _ size v s = _
      exact State.act_of_next _ _ _ (by rw [isQeConfig_queue hq hj h4, if_pos rfl])
    · rfl
  have hdrop : CfgDropped q s.toGk1 (s.barWrite (0x100000 + 0x40 * q + j) size v.toNat) := by
    obtain heq | ⟨n, heq⟩ := Gk1.barWrite_queueConfig hq hwork hrun hj hok v.toNat
    · rw [heq]; exact .setErr q s.toGk1
    · rw [heq]; exact (CfgDropped.setErr q s.toGk1).setReg_qIrq n
  exact ⟨_, hexec, hdrop.flag, hdrop.kept, hdrop.queues⟩

end Sys2Proof.Claims

/-! Completion records, the start and the completion of a descriptor, and ENABLE, STOP and ABORT (R426, R435, R449-R451,
R472-R474). -/

namespace Sys2Proof.Machine

/-! ## Steps that keep the queues and device memory -/

/-- The queues and device memory of t are those of s. -/
structure QueuesKept (s t : Gk1) : Prop where
  queues : t.queues = s.queues
  dram : t.dram = s.dram

namespace QueuesKept

theorem refl (s : Gk1) : QueuesKept s s := ⟨rfl, rfl⟩

theorem trans {s t u : Gk1} (h : QueuesKept s t) (h' : QueuesKept t u) : QueuesKept s u :=
  ⟨h'.queues.trans h.queues, h'.dram.trans h.dram⟩

/-- The last step first: what it steps from is then known by its name. -/
theorem after {s t u : Gk1} (h' : QueuesKept t u) (h : QueuesKept s t) : QueuesKept s u := h.trans h'

/-- A fold keeps what each of its steps keeps. -/
theorem foldl {α : Type} (l : List α) {f : Gk1 → α → Gk1} (hf : ∀ s a, QueuesKept s (f s a)) (s : Gk1) :
    QueuesKept s (l.foldl f s) :=
  List.foldlRecOn l f (.refl s) fun t h a _ => h.trans (hf t a)

theorem queue {s t : Gk1} (h : QueuesKept s t) (q : Nat) : t.queue q = s.queue q := by rw [Gk1.queue, h.queues, Gk1.queue]

variable (s : Gk1)

theorem modCore (c : Nat) (f : Core → Core) : QueuesKept s (s.modCore c f) := ⟨rfl, rfl⟩

theorem modCluster (n : Nat) (f : Cluster → Cluster) : QueuesKept s (s.modCluster n f) := ⟨rfl, rfl⟩

theorem modKernel (k : Nat) (f : Kernel → Kernel) : QueuesKept s (s.modKernel k f) := ⟨rfl, rfl⟩

theorem setObs (o : Obs) : QueuesKept s { s with obs := o } := ⟨rfl, rfl⟩

theorem setHeld (h : Held) : QueuesKept s { s with held := h } := ⟨rfl, rfl⟩

theorem setKernels (m : NMap Kernel) : QueuesKept s { s with kernels := m } := ⟨rfl, rfl⟩

/-! Reports and the trace -/

theorem post (a : Nat) (bs : List Byte) : QueuesKept s (s.post a bs) := by
  rw [Gk1.post]; split <;> exact ⟨rfl, rfl⟩

theorem irq (v h : Nat) : QueuesKept s (s.irq v h) := ⟨rfl, rfl⟩

theorem trace (kind ctx queue unit : Nat) (data : List Byte) : QueuesKept s (s.trace kind ctx queue unit data) := by
  rw [Gk1.trace]
  split
  · dsimp only
    split
    · exact ⟨(post s _ _).queues, (post s _ _).dram⟩
    · exact ⟨rfl, rfl⟩
  · exact .refl s

theorem report (r : Report) : QueuesKept s (s.report r) := by
  rw [Gk1.report]
  dsimp only
  split
  · refine .after (irq _ _ _) (.after (setObs _ _) (.after (post _ _ _) (.after (post _ _ _) ?_)))
    exact .after (trace _ _ _ _ _ _) ⟨rfl, rfl⟩
  · exact .after (trace _ _ _ _ _ _) ⟨rfl, rfl⟩

theorem countCtx (c i n : Nat) : QueuesKept s (s.countCtx c i n) := by
  rw [Gk1.countCtx]; split <;> exact ⟨rfl, rfl⟩

/-! Packets -/

theorem sendOn (n : Nat) (w : Option Nat × Packet) : QueuesKept s (s.sendOn n w) := by
  rw [Gk1.sendOn]; split <;> exact ⟨rfl, rfl⟩

theorem sendPacket (p : Packet) : QueuesKept s (s.sendPacket p).1 := by
  rw [Gk1.sendPacket, Gk1.sendFrom]
  split
  · exact ⟨rfl, rfl⟩
  · exact ⟨rfl, rfl⟩
  · exact .refl s
  · exact sendOn s _ _

theorem sendKept (p : Packet) : QueuesKept s (s.sendKept p) := by
  rw [Gk1.sendKept]
  split
  · exact sendPacket s p
  · exact ⟨rfl, rfl⟩

theorem sendPeer (id : Nat) (m : Msg) : QueuesKept s (s.sendPeer id m) :=
  (sendPacket s (s.packetOf id m)).trans ⟨rfl, rfl⟩

theorem pruneWatches : QueuesKept s s.pruneWatches := by
  refine foldl _ (fun s w => ?_) s
  dsimp only
  split
  · exact ⟨rfl, rfl⟩
  · exact .after (sendKept _ _) ⟨rfl, rfl⟩

/-! Epochs, requests and the work of a kernel -/

theorem performed (rid n here : Nat) : QueuesKept s (s.performed rid n here) := by
  rw [Gk1.performed, Gk1.dropReq]
  split
  · exact ⟨rfl, rfl⟩
  · split <;> exact ⟨rfl, rfl⟩

theorem endEpoch (core : Nat) (r : EpochRec) (ctx kid : Nat) (last : Bool) : QueuesKept s (s.endEpoch core r ctx kid last) := by
  rw [Gk1.endEpoch]
  split
  · exact .after (sendPeer _ _ _) ⟨rfl, rfl⟩
  · exact ⟨rfl, rfl⟩

theorem closeEpochs (core ctx kid : Nat) : QueuesKept s (s.closeEpochs core ctx kid) := by
  refine foldl _ (fun s r => ?_) s
  split
  · exact modCore s _ _
  · split
    · exact .refl s
    · exact endEpoch s _ _ _ _ _

theorem endEpochs (kid ctx : Nat) : QueuesKept s (s.endEpochs kid ctx) :=
  foldl _ (fun s c => closeEpochs s c ctx kid) s

theorem leaveStreams (kid : Nat) : QueuesKept s (s.leaveStreams kid) :=
  .after (foldl _ (fun s c => modCore s c _) _) ⟨rfl, rfl⟩

theorem leaveCluster (kid cl : Nat) : QueuesKept s (s.leaveCluster kid cl) :=
  (foldl (coresOf cl) (fun s c => modCore s c Core.ended) s).trans ⟨rfl, rfl⟩

theorem dropMsgs (kid : Nat) (here : Nat → Bool) : QueuesKept s (s.dropMsgs kid here) := by
  refine foldl _ (fun s e => .after (performed _ _ _ _) ?_) s
  split <;> split <;> exact ⟨rfl, rfl⟩

theorem stopCluster (kid cl : Nat) : QueuesKept s (s.stopCluster kid cl) := by
  rw [Gk1.stopCluster]
  refine .after (modCluster _ _ _) ?_
  split
  · exact foldl _ (fun s c => modCore s c _) s
  · exact .refl s

theorem stopWork (kid : Nat) : QueuesKept s (s.stopWork kid) := by
  rw [Gk1.stopWork]
  split
  · exact .refl s
  · exact .after (dropMsgs _ _ _) ((foldl _ (fun s cl => stopCluster s kid cl) s).trans ⟨rfl, rfl⟩)

theorem stopKernel (kid code : Nat) (always : Bool) : QueuesKept s (s.stopKernel kid code always) :=
  (stopWork s kid).trans ⟨rfl, rfl⟩

end QueuesKept

/-! ## The completion of a descriptor -/

/-- Settling touches only a STOPPING queue of which nothing runs, and of it only the state (R472). -/
theorem Gk1.queue_settle (s : Gk1) (q p : Nat) :
    (s.settle q).queue p = { s.queue p with
      state := if q = p ∧ (s.queue p).state = 2 ∧ (s.queue p).idle = true then 0 else (s.queue p).state } := by
  rw [Gk1.settle]
  by_cases hp : q = p
  · subst hp
    by_cases hs : (s.queue q).state = 2 ∧ (s.queue q).idle = true
    · simp [hs]
    · simp [hs]
  · split <;> simp [hp]

/-- Settling takes a queue to DISABLED or keeps its state. -/
theorem Gk1.state_settle (s : Gk1) (q p : Nat) :
    ((s.settle q).queue p).state = 0 ∨ ((s.settle q).queue p).state = (s.queue p).state := by
  rw [Gk1.queue_settle]; dsimp only; split
  · exact .inl rfl
  · exact .inr rfl

/-- Only a STOPPING queue settles. -/
theorem Gk1.settle_of_state_ne {s : Gk1} {q : Nat} (h : (s.queue q).state ≠ 2) : s.settle q = s := by
  simp [Gk1.settle, h]

@[simp] theorem Gk1.settle_dram (s : Gk1) (q : Nat) : (s.settle q).dram = s.dram := by
  rw [Gk1.settle]; split <;> rfl

@[simp] theorem Gk1.settle_kernels (s : Gk1) (q : Nat) : (s.settle q).kernels = s.kernels := by
  rw [Gk1.settle]; split <;> rfl

@[simp] theorem Gk1.settle_posted (s : Gk1) (q : Nat) : (s.settle q).posted = s.posted := by
  rw [Gk1.settle]; split <;> rfl

section Finish

variable (s : Gk1) (q : Nat) (d : Desc) (f : Fin_)

@[simp] theorem Gk1.finish_dram : (s.finish q d f).dram = s.dram := by simp [Gk1.finish]

@[simp] theorem Gk1.finish_kernels : (s.finish q d f).kernels = s.kernels := by simp [Gk1.finish]

/-- A completion is of its own queue. -/
theorem Gk1.queue_finish_of_ne {p : Nat} (hne : p ≠ q) : (s.finish q d f).queue p = s.queue p := by
  simp [Gk1.finish, Gk1.queue_settle, hne.symm]

@[simp] theorem Gk1.fetched_finish : ((s.finish q d f).queue q).fetched = (s.queue q).fetched := by
  simp [Gk1.finish, Gk1.queue_settle]

@[simp] theorem Gk1.deferred_finish : ((s.finish q d f).queue q).deferred = (s.queue q).deferred := by
  simp [Gk1.finish, Gk1.queue_settle]

/-- A completion ends the started descriptor when it is its own. -/
theorem Gk1.cur_finish : ((s.finish q d f).queue q).cur =
    if ((s.queue q).cur.map fun c => c.desc.seq) = some d.seq then none else (s.queue q).cur := by
  simp [Gk1.finish, Gk1.queue_settle]

/-- A DISABLED queue stays DISABLED. -/
theorem Gk1.state_finish_of_disabled (h : (s.queue q).state = 0) : ((s.finish q d f).queue q).state = 0 := by
  simp [Gk1.finish, Gk1.queue_settle, h]

/-- An ACTIVE queue goes to ERROR or stays ACTIVE (R472, R473). -/
theorem Gk1.state_finish_of_active (h : (s.queue q).state = 1) (hd : d.replayed = false) : ((s.finish q d f).queue q).state =
    if f.status ≠ 0 ∧ ¬ (q = 0 ∧ (f.status = 6 ∨ f.status = 7)) then 3 else 1 := by
  rw [Gk1.finish, Gk1.settle_of_state_ne]
  · simp [h, hd, not_or, imp_iff_not_or]
  · simp only [Gk1.queue_modQueue, if_true]
    split <;> simp [h]

/-- The record of an ACTIVE queue waits when CMP is set or the status is not OK (R449). -/
theorem Gk1.recs_finish_of_active (h : (s.queue q).state = 1) (hd : d.replayed = false) : ((s.finish q d f).queue q).recs =
    (s.queue q).recs ++ (if f.status ≠ 0 ∨ d.cmp = true then [d.record s.dtime f] else []) := by
  simp only [Gk1.finish, Gk1.queue_settle, Gk1.queue_modQueue, if_true]
  by_cases hrec : f.status ≠ 0 ∨ d.cmp = true
  · simp [h, hd, hrec]
  · simp [hrec]

/-- While another descriptor runs, a completion leaves a STOPPING queue STOPPING (R472). -/
theorem Gk1.state_finish_of_stopping (h : (s.queue q).state = 2) {c : Cur} (hcur : (s.queue q).cur = some c)
    (hne : c.desc.seq ≠ d.seq) : ((s.finish q d f).queue q).state = 2 := by
  simp [Gk1.finish, Gk1.queue_settle, Queue.idle, h, hcur, hne]

/-- MGMT_REFUSED and MGMT_TIMEOUT do not take queue 0 to ERROR (R473). -/
theorem Gk1.state_finish_zero_ne_error (hf : f.status = 6 ∨ f.status = 7) (h : (s.queue 0).state ≠ 3) :
    ((s.finish 0 d f).queue 0).state ≠ 3 := by
  rw [Gk1.finish]
  obtain hzero | hkept := Gk1.state_settle (s.modQueue 0 _) 0 0
  · rw [hzero]; decide
  · rw [hkept]; obtain hf | hf := hf <;> simpa [hf] using h

end Finish

/-! ## Steps that leave DISABLED queues DISABLED -/

/-- Device memory of t is that of s, and a queue DISABLED in s is so in t. -/
structure DisabledKept (s t : Gk1) : Prop where
  disabled : ∀ q, (s.queue q).state = 0 → (t.queue q).state = 0
  dram : t.dram = s.dram

theorem QueuesKept.disabledKept {s t : Gk1} (h : QueuesKept s t) : DisabledKept s t where
  disabled q hq := by rw [h.queue, hq]
  dram := h.dram

namespace DisabledKept

theorem trans {s t u : Gk1} (h : DisabledKept s t) (h' : DisabledKept t u) : DisabledKept s u :=
  ⟨fun q hq => h'.disabled q (h.disabled q hq), h'.dram.trans h.dram⟩

/-- A fold leaves DISABLED what each of its steps does. -/
theorem foldl {α : Type} (l : List α) {f : Gk1 → α → Gk1} (hf : ∀ s a, DisabledKept s (f s a)) (s : Gk1) :
    DisabledKept s (l.foldl f s) :=
  List.foldlRecOn l f (QueuesKept.refl s).disabledKept fun t h a _ => h.trans (hf t a)

variable (s : Gk1)

/-- A change of a queue that keeps its state. -/
theorem modQueue (q : Nat) {f : Queue → Queue} (hf : ∀ Q, (f Q).state = Q.state) : DisabledKept s (s.modQueue q f) where
  disabled p hp := by
    rw [Gk1.queue_modQueue]
    split
    · next heq => rw [hf, heq, hp]
    · exact hp
  dram := rfl

theorem finish (q : Nat) (d : Desc) (f : Fin_) : DisabledKept s (s.finish q d f) where
  disabled p hp := by
    by_cases hpq : p = q
    · subst hpq; exact s.state_finish_of_disabled p d f hp
    · rw [Gk1.queue_finish_of_ne s q d f hpq, hp]
  dram := s.finish_dram q d f

theorem recompDone (q : Nat) (f : Fin_) : DisabledKept s (s.recompDone q f) := by
  rw [Gk1.recompDone]
  split
  · split
    · refine .trans ?_ (finish _ _ _ _)
      exact modQueue s q fun _ => rfl
    · exact modQueue s q fun _ => rfl
  · exact (QueuesKept.refl s).disabledKept

/-- The end of a kernel's descriptor, or of its entry in a RECOMPUTE. -/
theorem recompDone_or_finish {s t : Gk1} (h : DisabledKept s t) (entry : Bool) (q : Nat) (d : Desc) (f : Fin_) :
    DisabledKept s (if entry then t.recompDone q f else t.finish q d f) := by
  cases entry
  · exact h.trans (finish t q d f)
  · exact h.trans (recompDone t q f)

theorem completeKernel (kid : Nat) : DisabledKept s (s.completeKernel kid) := by
  rw [Gk1.completeKernel]
  split
  · exact (QueuesKept.refl s).disabledKept
  · next K0 _ =>
    refine recompDone_or_finish ?_ _ _ _ _
    refine .trans (QueuesKept.disabledKept ?_) (modQueue _ _ fun _ => rfl)
    refine .after (.setKernels _ _) (.after (.setHeld _ _) (.after (.trace _ _ _ _ _ _) ?_))
    refine .after (.countCtx _ _ _ _) (.after (.countCtx _ _ _ _) ?_)
    exact .after (.foldl _ (fun s _ => .leaveCluster s _ _) _) (.after (.leaveStreams _ _) (.endEpochs _ _ _))

theorem failKernel (kid code : Nat) : DisabledKept s (s.failKernel kid code) :=
  (QueuesKept.modKernel s kid _).disabledKept.trans (completeKernel _ kid)

theorem stopKernels (q : Nat) : DisabledKept s (s.stopKernels q) := by
  refine foldl _ (fun s e => ?_) s
  split
  · exact (QueuesKept.stopKernel s _ _ _).disabledKept
  · exact failKernel s _ _

end DisabledKept

/-! ## Posted writes and records -/

/-- Two writes go out in their order while the link is open and nothing is held (R37, R451). -/
theorem Gk1.post_post {s : Gk1} (hopen : s.linkOpen = true) (hheld : s.postHeld = []) (a b : Nat) (xs ys : List Byte) :
    (s.post a xs).post b ys = { s with posted := s.posted ++ [(a, xs), (b, ys)] } := by
  simp only [Gk1.linkOpen] at hopen
  simp [Gk1.post, Gk1.linkOpen, hopen, hheld]

/-- Where the next record of a queue goes in host memory (R424, R450). -/
def Gk1.recordAddr (s : Gk1) (q : Nat) : Nat :=
  fld (s.reg (0x100008 + 0x40 * q) 0) 12 52 * 4096 + 32 * (s.queue q).cqTail

/-- The oldest record is posted, its last 24 bytes first, and leaves the queue; its interrupt is requested (R449-R451, R453). -/
def Gk1.writeRecord (s : Gk1) (q : Nat) (r : Rec) (rest : List Rec) : Gk1 :=
  let bs := r.bytes (s.queue q).cqPh (s.queue q).sqHead
  let wrap := decide ((s.queue q).cqTail + 1 = s.cqSize q)
  let t := { s with posted := s.posted ++ [(s.recordAddr q + 8, bs.drop 8), (s.recordAddr q, bs.take 8)] }.modQueue q fun Q =>
    { Q with recs := rest, cqTail := if wrap then 0 else Q.cqTail + 1, cqPh := Q.cqPh != wrap }
  let v := fld (s.qctl q) 16 11
  (if r.irq && v ≠ 0 then t.irq v (fld (s.reg (0x10001C + 0x40 * q) 0) 0 8) else t).settle q

section WriteRecord

variable (s : Gk1) (q : Nat) (r : Rec) (rest : List Rec)

theorem Gk1.writeRecord_posted : (s.writeRecord q r rest).posted =
    s.posted ++ [(s.recordAddr q + 8, (r.bytes (s.queue q).cqPh (s.queue q).sqHead).drop 8),
      (s.recordAddr q, (r.bytes (s.queue q).cqPh (s.queue q).sqHead).take 8)] := by
  rw [Gk1.writeRecord, Gk1.settle_posted]; split <;> rfl

theorem Gk1.writeRecord_dram : (s.writeRecord q r rest).dram = s.dram := by
  rw [Gk1.writeRecord, Gk1.settle_dram]; split <;> rfl

/-- What the write changes of the queue. -/
theorem Gk1.queue_writeRecord : (s.writeRecord q r rest).queue q = { s.queue q with
    state := ((s.writeRecord q r rest).queue q).state
    recs := rest
    cqTail := if (s.queue q).cqTail + 1 = s.cqSize q then 0 else (s.queue q).cqTail + 1
    cqPh := (s.queue q).cqPh != decide ((s.queue q).cqTail + 1 = s.cqSize q) } := by
  have hposted : ∀ ws, Gk1.queue { s with posted := ws } q = s.queue q := fun _ => rfl
  rw [Gk1.writeRecord, Gk1.queue_settle]
  split <;> simp [(QueuesKept.irq _ _ _).queue, hposted]

theorem Gk1.recs_writeRecord : ((s.writeRecord q r rest).queue q).recs = rest := by rw [Gk1.queue_writeRecord]

variable {s q}

/-- Within the ring CQTAIL goes on by one (R450). -/
theorem Gk1.writeRecord_within (h : (s.queue q).cqTail + 1 ≠ s.cqSize q) :
    ((s.writeRecord q r rest).queue q).cqTail = (s.queue q).cqTail + 1 ∧
      ((s.writeRecord q r rest).queue q).cqPh = (s.queue q).cqPh := by
  rw [Gk1.queue_writeRecord]; simp [h]

/-- At the ring's end CQTAIL goes back to index 0 and the phase bit changes (R450, R451). -/
theorem Gk1.writeRecord_wrapped (h : (s.queue q).cqTail + 1 = s.cqSize q) :
    ((s.writeRecord q r rest).queue q).cqTail = 0 ∧ ((s.writeRecord q r rest).queue q).cqPh = !(s.queue q).cqPh := by
  rw [Gk1.queue_writeRecord]; simp [h]

end WriteRecord

/-- The rows of a queue that the part has do not stop for want of the unit. -/
theorem not_queueCount_le {q : Nat} (hq : q < nQueues) : ¬ queueCount ≤ q := Nat.not_le.2 hq

/-! ## ENABLE, STOP and ABORT -/

/-- Words within the rings: ENABLE starts the rings from index 0 and takes SQTAIL and CQHEAD from the doorbell word (R426). -/
theorem Gk1.doorbell_enable {s : Gk1} {q : Nat} {w : BitVec 64} (htail : fld w.toNat 0 16 < s.sqSize q)
    (hhead : fld w.toNat 32 16 < s.cqSize q) : (s.enable q).doorbell q (some w) =
      (s.enable q).modQueue q fun Q => { Q with
        submitted := Q.submitted + (fld w.toNat 0 16 + s.sqSize q - Q.sqTail) % s.sqSize q
        sqTail := fld w.toNat 0 16, cqHead := fld w.toNat 32 16 } := by
  have hsq : (s.enable q).sqSize q = s.sqSize q := rfl
  have hcq : (s.enable q).cqSize q = s.cqSize q := rfl
  simp [Gk1.doorbell, hsq, hcq, Nat.not_le.2 htail, Nat.not_le.2 hhead]

/-- ENABLE in a LIVE context reads the doorbell word; the reports that it lets out on queue 0 touch no queue (R426, R674). -/
theorem doQueueEnable_live {s : Gk1} {q : Nat} (hq : q < nQueues) (hrun : s.queuesRun = true) (hstate : (s.queue q).state = 0)
    (hlive : s.ctxLive (s.qctx q) = true) (w : Option (BitVec 64)) :
    ∃ t, doQueueEnable q w s = .next t ∧ QueuesKept ((s.enable q).doorbell q w) t := by
  rw [doQueueEnable, if_neg (not_queueCount_le hq), if_neg (by simp [hrun, hstate]), if_neg (by simp [hlive])]
  refine ⟨_, rfl, ?_⟩
  split
  · exact .after (.setHeld _ _) (.foldl _ (fun s r => .report s _) _)
  · exact .refl _

section Cancel

variable {s : Gk1} {q : Nat}

@[simp] theorem Gk1.cancelAll_dram (s : Gk1) (q : Nat) (ds : List Desc) : (s.cancelAll q ds).dram = s.dram :=
  List.foldlRecOn (motive := fun t : Gk1 => t.dram = s.dram) ds _ rfl fun t h d _ => (Gk1.finish_dram t q d _).trans h

@[simp] theorem Gk1.cancelAll_kernels (s : Gk1) (q : Nat) (ds : List Desc) : (s.cancelAll q ds).kernels = s.kernels :=
  List.foldlRecOn (motive := fun t : Gk1 => t.kernels = s.kernels) ds _ rfl fun t h d _ => (Gk1.finish_kernels t q d _).trans h

/-- A STOPPING queue of which c runs on and nothing else is to start (R472). -/
structure Draining (q : Nat) (c : Cur) (s : Gk1) : Prop where
  state : (s.queue q).state = 2
  cur : (s.queue q).cur = some c
  fetched : (s.queue q).fetched = []

/-- Cancelling other descriptors leaves the queue STOPPING behind the one that runs. -/
theorem Draining.cancelAll {c : Cur} (h : Draining q c s) {ds : List Desc} (hds : ∀ d ∈ ds, d.seq ≠ c.desc.seq) :
    Draining q c (s.cancelAll q ds) :=
  List.foldlRecOn ds _ h fun t ht d hd => {
    state := t.state_finish_of_stopping q d _ ht.state ht.cur (hds d hd).symm
    cur := by rw [Gk1.finishWith, Gk1.cur_finish, ht.cur, if_neg (by simpa using (hds d hd).symm)]
    fetched := by rw [Gk1.finishWith, Gk1.fetched_finish, ht.fetched] }

/-- A STOPPING queue does not settle while a descriptor runs. -/
theorem Draining.settle {c : Cur} (h : Draining q c s) : s.settle q = s := by
  simp [Gk1.settle, Queue.idle, h.cur]

/-- A DISABLED queue that holds no descriptor and no kernel (R474). -/
structure Emptied (q : Nat) (s : Gk1) : Prop where
  state : (s.queue q).state = 0
  cur : (s.queue q).cur = none
  fetched : (s.queue q).fetched = []
  deferred : (s.queue q).deferred = []

/-- Completing descriptors of an emptied queue brings nothing back. -/
theorem Emptied.cancelAll (h : Emptied q s) (ds : List Desc) : Emptied q (s.cancelAll q ds) :=
  List.foldlRecOn ds _ h fun t ht d _ => {
    state := t.state_finish_of_disabled q d _ ht.state
    cur := by rw [Gk1.finishWith, Gk1.cur_finish, ht.cur, ite_self]
    fetched := by rw [Gk1.finishWith, Gk1.fetched_finish, ht.fetched]
    deferred := by rw [Gk1.finishWith, Gk1.deferred_finish, ht.deferred] }

/-- A step that keeps the queues keeps a queue emptied. -/
theorem Emptied.kept {t : Gk1} (h : Emptied q s) (hk : QueuesKept s t) : Emptied q t := by
  obtain ⟨hstate, hcur, hfetched, hdeferred⟩ := h
  constructor <;> rwa [hk.queue]

end Cancel

/-- A queue whose kernels have been stopped, DISABLED before it and without its descriptors after it (R472, R474). -/
def Gk1.stripQueue (s : Gk1) (q : Nat) : Gk1 :=
  ((s.modQueue q fun Q => { Q with state := 0, recomp := none }).stopKernels q).modQueue q fun Q =>
    { Q with cur := none, fetched := [], deferred := [] }

theorem Gk1.stripQueue_dram (s : Gk1) (q : Nat) : (s.stripQueue q).dram = s.dram :=
  (DisabledKept.stopKernels _ q).dram

/-- Stopping its kernels completes some on the queue, which stays DISABLED. -/
theorem Gk1.stripQueue_emptied (s : Gk1) (q : Nat) : Emptied q (s.stripQueue q) := by
  have hstate := (DisabledKept.stopKernels (s.modQueue q fun Q => { Q with state := 0, recomp := none }) q).disabled q (by simp)
  constructor <;> simp [Gk1.stripQueue, hstate]

/-- ABORT strips its queue, completes the descriptors that ended with no kernel CANCELLED, and of queue 0 ends the held work
(R471, R472, R474). -/
theorem Gk1.closeQueue_false (s : Gk1) (q : Nat) :
    ∃ ds, s.closeQueue q false =
      (if q = 0 then ((s.stripQueue q).cancelAll q ds).dropHeld else (s.stripQueue q).cancelAll q ds).pruneWatches :=
  ⟨_, rfl⟩

/-- What ABORT leaves of its queue, and of device memory. -/
theorem Gk1.closeQueue_emptied (s : Gk1) (q : Nat) :
    Emptied q (s.closeQueue q false) ∧ (s.closeQueue q false).dram = s.dram := by
  obtain ⟨ds, heq⟩ := s.closeQueue_false q
  have hkept : QueuesKept ((s.stripQueue q).cancelAll q ds) (s.closeQueue q false) := by
    rw [heq]
    refine .after (.pruneWatches _) ?_
    split
    · exact ⟨rfl, rfl⟩
    · exact .refl _
  exact ⟨((s.stripQueue_emptied q).cancelAll ds).kept hkept, by rw [hkept.dram, Gk1.cancelAll_dram, Gk1.stripQueue_dram]⟩

end Sys2Proof.Machine

namespace Sys2Proof.Claims

open Sys2Proof.Machine

/-! ## Rows -/

/-- When a descriptor may start, part by part. -/
theorem starts_iff {s : Gk1} {q : Nat} {d : Desc} : starts s q d = true ↔
    q < nQueues ∧ s.mayStart q = true ∧ (s.queue q).cur = none ∧ (s.queue q).nextNormal = some d ∧ d.replayed = false := by
  simp [starts, and_assoc]

/-- The descriptor that may start does so on a row of its kind (R435). -/
theorem onStart_of_starts {s : Gk1} {q : Nat} {d : Desc} (h : starts s q d = true) {isRow : Desc → Bool} (hrow : isRow d = true)
    (run : Desc → Gk1 → Gk1) : onStart q isRow run s = .next (run d (s.start q d)) := by
  obtain ⟨hq, hmay, hcur, hnext, _⟩ := starts_iff.1 h
  rw [onStart, if_neg (not_queueCount_le hq), if_neg (by simp [hmay, hcur]), hnext]
  simp [hrow]

/-- A descriptor that completes as it starts has completed on its queue as it stood before (R437, R449, R472, R473). -/
theorem completed_finish_start {s : Gk1} {q : Nat} {d : Desc} (h : starts s q d = true) (f : Fin_) :
    completed s ((s.start q d).finish q d f) q d f := by
  obtain ⟨hq, hmay, hcur, hnext, hnew⟩ := starts_iff.1 h
  have hactive : ((s.start q d).queue q).state = 1 := by
    simp only [Gk1.mayStart, Bool.and_eq_true, decide_eq_true_eq] at hmay
    obtain ⟨⟨⟨-, hactive⟩, -⟩, -⟩ := hmay
    simp [Gk1.start, Queue.take, hactive]
  refine ⟨?_, ?_, Gk1.state_finish_of_active _ q d f hactive hnew⟩
  · simp [Gk1.cur_finish, Gk1.start]
  · rw [Gk1.recs_finish_of_active _ q d f hactive hnew]
    simp [Gk1.start, Queue.take]

/-- A record that finds room and an open link is written (R450, R451). -/
theorem exec_completionRecord {s : State} {q : Nat} {r : Rec} {rest : List Rec} (hq : q < nQueues)
    (hrecs : (s.queue q).recs = r :: rest) (hroom : s.cqRoom q ≠ 0) (hopen : s.linkOpen = true) (hheld : s.postHeld = []) :
    exec (.completionRecord q) s = .next (became s (s.writeRecord q r rest)) := by
  change execCompletionRecord q s = _
  apply State.act_of_next
  rw [if_neg (not_queueCount_le hq)]
  dsimp only
  rw [hrecs]
  dsimp only
  rw [if_neg (by simp [hroom, hopen]), Gk1.post_post hopen hheld]
  rfl

/-- A record that finds no room waits (R450). -/
theorem exec_completionRecord_of_full {s : State} {q : Nat} (hq : q < nQueues) (hroom : s.cqRoom q = 0) :
    exec (.completionRecord q) s = .next s := by
  change execCompletionRecord q s = _
  refine State.act_of_next _ _ s.toGk1 ?_
  rw [if_neg (not_queueCount_le hq)]
  dsimp only
  split
  · rfl
  · rw [if_pos (by simp [hroom])]

/-- A descriptor without an effect completes as it starts (R439, R446). -/
theorem exec_nopDescriptor {s : State} {q : Nat} {d : Desc} (h : starts s.toGk1 q d = true) (hplain : d.plain q = true) :
    exec (.nopDescriptor q) s = .next (became s ((s.start q d).finishWith q d
      (if d.type = 0x10 ∧ q ≠ 0 then 8 else if d.type ≠ 0 ∨ s.descBad q d [] = true then 1 else 0))) := by
  change execNopDescriptor q s = _
  apply State.act_of_next
  rw [onStart_of_starts h hplain]
  have hbad : (s.start q d).descBad q d [] = s.descBad q d [] := rfl
  simp [hbad]

/-- ENABLE of a queue whose context is not LIVE only sets QCTX (R426). -/
theorem exec_queueEnable_notLive {s : State} {q : Nat} (hq : q < nQueues) (hrun : s.queuesRun = true)
    (hstate : (s.queue q).state = 0) (hlive : s.ctxLive (s.qctx q) = false) (w : Option (BitVec 64)) :
    exec (.queueEnable q w) s = .next (became s (s.setErr hlErr 1)) := by
  change execQueueEnable q w s = _
  apply State.act_of_next
  rw [doQueueEnable, if_neg (not_queueCount_le hq), if_neg (by simp [hrun, hstate]), if_pos (by simp [hlive])]

/-- STOP of an ACTIVE queue (R472). -/
theorem exec_queueStop {s : State} {q : Nat} (hq : q < nQueues) (hrun : s.queuesRun = true) (hstate : (s.queue q).state = 1) :
    exec (.queueStop q) s = .next (became s
      (((s.modQueue q fun Q => { Q with state := 2, fetched := [] }).cancelAll q (s.queue q).fetched).settle q)) := by
  change execQueueStop q s = _
  apply State.act_of_next
  rw [doQueueStop, if_neg (not_queueCount_le hq), if_neg (by simp [hrun, hstate])]

/-- ABORT of a queue that is not DISABLED (R472, R474). -/
theorem exec_queueAbort {s : State} {q : Nat} (hq : q < nQueues) (hrun : s.queuesRun = true) (hstate : (s.queue q).state ≠ 0) :
    exec (.queueAbort q) s = .next (became s (s.closeQueue q false)) := by
  change execQueueAbort q s = _
  apply State.act_of_next
  rw [doQueueAbort, if_neg (not_queueCount_le hq), if_neg (by simp [hrun, hstate])]

/-! ## The statement -/

/-- Settles O34: every row's state by its named step, and the two statuses of R473 by what a completion makes of the state. -/
theorem recordsAndQueueCommands : Obligations.RecordsAndQueueCommands := by
  refine ⟨⟨?_, ?_⟩, ?_, fun s d f => s.state_finish_zero_ne_error d f⟩
  · intro s q r rest hq hrecs
    refine ⟨exec_completionRecord_of_full hq, fun hroom hopen hheld => ?_⟩
    exact ⟨_, exec_completionRecord hq hrecs hroom hopen hheld, Gk1.writeRecord_posted _ _ _ _, Gk1.recs_writeRecord _ _ _ _,
      fun h => Gk1.writeRecord_within r rest h, fun h => Gk1.writeRecord_wrapped r rest h, Gk1.writeRecord_dram _ _ _ _⟩
  · intro s q d hstarts hplain
    exact ⟨_, exec_nopDescriptor hstarts hplain, Gk1.finish_dram _ _ _ _, Gk1.finish_kernels _ _ _ _,
      completed_finish_start hstarts _⟩
  · intro s q hq hrun
    refine ⟨?_, ?_, ?_, ?_, ?_⟩
    · intro w hstate hlive htail hhead
      obtain ⟨t, hnext, hkept⟩ := doQueueEnable_live hq hrun hstate hlive (some w)
      rw [Gk1.doorbell_enable htail hhead] at hkept
      refine ⟨became s t, State.act_of_next _ _ _ hnext, ?_⟩
      simp only [became, hkept.queue, hkept.dram]
      simp +contextual [Gk1.enable, @eq_comm _ q]
    · intro w hstate hlive
      exact exec_queueEnable_notLive hq hrun hstate hlive w
    · intro hstate hcur hdeferred hfetched hrecs
      refine ⟨_, exec_queueStop hq hrun hstate, ?_⟩
      rw [hfetched]
      refine ⟨?_, fun k hk => ?_, ?_⟩
      · simp [became, Gk1.cancelAll, Gk1.queue_settle, Queue.idle, hcur, hdeferred, hrecs]
      · simp [became, Gk1.cancelAll, Gk1.queue_settle, hk.symm]
      · simp [became]
    · intro c hstate hcur hother
      have hdrain : Draining q c (s.modQueue q fun Q => { Q with state := 2, fetched := [] }) := by
        constructor <;> simp [hcur]
      have hstill := hdrain.cancelAll hother
      refine ⟨_, exec_queueStop hq hrun hstate, ?_⟩
      rw [hstill.settle]
      exact ⟨hstill.state, hstill.fetched, hstill.cur, Gk1.cancelAll_kernels _ _ _, Gk1.cancelAll_dram _ _ _⟩
    · intro hstate
      obtain ⟨hempty, hdram⟩ := s.closeQueue_emptied q
      exact ⟨_, exec_queueAbort hq hrun hstate, hempty.state, hempty.cur, hempty.fetched, hempty.deferred, hdram⟩

end Sys2Proof.Claims

namespace Sys2Proof.Machine

/-! ## Steps that keep device memory -/

theorem foldl_keeps {σ α β : Type} (π : σ → β) {f : σ → α → σ} (hf : ∀ a x, π (f a x) = π a) (l : List α) (a : σ) :
    π (l.foldl f a) = π a :=
  List.foldlRecOn l f (motive := fun b => π b = π a) rfl fun b h x _ => (hf b x).trans h

namespace Gk1

@[simp] theorem dram_ite (p : Prop) [Decidable p] (s t : Gk1) :
    (if p then s else t).dram = if p then s.dram else t.dram := apply_ite Gk1.dram p s t

end Gk1

@[simp] theorem foldl_dram {α : Type} {f : Gk1 → α → Gk1} (hf : ∀ s a, (f s a).dram = s.dram) (l : List α) (s : Gk1) :
    (l.foldl f s).dram = s.dram := foldl_keeps Gk1.dram hf l s

@[simp] theorem Gk1.setErr_dram (s : Gk1) (off bit : Nat) : (s.setErr off bit).dram = s.dram := by simp [Gk1.setErr]
@[simp] theorem Gk1.countCtx_dram (s : Gk1) (c i n : Nat) : (s.countCtx c i n).dram = s.dram := by simp [Gk1.countCtx]
@[simp] theorem Gk1.countCore_dram (s : Gk1) (core i n : Nat) : (s.countCore core i n).dram = s.dram := by
  rw [Gk1.countCore]
  split
  · rfl
  · dsimp only
    split
    · split <;> simp
    · rfl

@[simp] theorem Gk1.post_dram (s : Gk1) (addr : Nat) (bytes : List Byte) :
    (s.post addr bytes).dram = s.dram := by simp [Gk1.post]
@[simp] theorem Gk1.flush_dram (s : Gk1) : s.flush.dram = s.dram := by simp [Gk1.flush]
@[simp] theorem Gk1.trace_dram (s : Gk1) (kind ctx queue unit : Nat) (data : List Byte) :
    (s.trace kind ctx queue unit data).dram = s.dram := by
  rw [Gk1.trace]
  split
  · dsimp only
    split
    · exact post_dram s _ _
    · rfl
  · rfl

@[simp] theorem Gk1.report_dram (s : Gk1) (r : Report) : (s.report r).dram = s.dram := by
  rw [Gk1.report]
  dsimp only
  split
  · rw [irq_dram]
    exact (post_dram _ _ _).trans ((post_dram _ _ _).trans (trace_dram _ _ _ _ _ _))
  · exact trace_dram _ _ _ _ _ _

@[simp] theorem Gk1.draw_dram (s : Gk1) : s.draw.2.dram = s.dram := by simp [Gk1.draw]
@[simp] theorem Gk1.openBit_dram (s : Gk1) : s.openBit.2.dram = s.dram := by simp [Gk1.openBit]
@[simp] theorem Gk1.openBytes_dram (s : Gk1) (n : Nat) : (s.openBytes n).2.dram = s.dram := by simp [Gk1.openBytes]
@[simp] theorem Gk1.groupFault_dram (s : Gk1) (core grp code : Nat) : (s.groupFault core grp code).dram = s.dram := by
  unfold Gk1.groupFault
  dsimp only
  split <;> simp

@[simp] theorem Gk1.endGroup_dram (s : Gk1) (core grp : Nat) : (s.endGroup core grp).dram = s.dram := by
  unfold Gk1.endGroup
  dsimp only
  repeat' split
  all_goals simp

@[simp] theorem Gk1.sendArrival_dram (s : Gk1) (core slot kid ctx bar src : Nat) :
    (s.sendArrival core slot kid ctx bar src).dram = s.dram := by
  simp [Gk1.sendArrival]

@[simp] theorem Gk1.foreign_dram (s : Gk1) (m : Msg) : (s.foreign m).dram = s.dram := by simp [Gk1.foreign]
@[simp] theorem Gk1.unlist_dram (s : Gk1) (gid sec : Nat) : (s.unlist gid sec).dram = s.dram := by simp [Gk1.unlist]
@[simp] theorem Gk1.touch_dram (s : Gk1) (gid sec : Nat) : (s.touch gid sec).dram = s.dram := by simp [Gk1.touch]
theorem Gk1.cacheRead_dram {s t : Gk1} {gid sec : Nat} (h : s.cacheRead gid sec = .done t) : t.dram = s.dram := by
  rw [Gk1.cacheRead] at h
  split at h
  · cases h
  · split at h
    · cases h
    · split at h
      · cases h
      · split at h
        · cases h
        · cases h; exact touch_dram s _ _

@[simp] theorem Gk1.askFill_dram (s : Gk1) (gid sec ctx : Nat) (stream : Bool) :
    (s.askFill gid sec ctx stream).dram = s.dram := by
  simp [Gk1.askFill]

@[simp] theorem Gk1.hasRead_dram (s : Gk1) (c a n : Nat) : (s.hasRead c a n).dram = s.dram := by simp [Gk1.hasRead]
@[simp] theorem Gk1.hasWritten_dram (s : Gk1) (c a n : Nat) : (s.hasWritten c a n).dram = s.dram := by simp [Gk1.hasWritten]
@[simp] theorem Gk1.kernelFault_dram (s : Gk1) (kid rid core code : Nat) : (s.kernelFault kid rid core code).dram = s.dram := by
  simp [Gk1.kernelFault]

@[simp] theorem Gk1.accessFault_dram (s : Gk1) (kid ctx rid core code addr : Nat) :
    (s.accessFault kid ctx rid core code addr).dram = s.dram := by
  unfold Gk1.accessFault
  dsimp only
  split <;> simp

@[simp] theorem Gk1.notify_dram (s : Gk1) (p h1 h3 : Nat) : (s.notify p h1 h3).dram = s.dram := by simp [Gk1.notify]
@[simp] theorem Gk1.sendOn_dram (s : Gk1) (n : Nat) (w : Option Nat × Packet) : (s.sendOn n w).dram = s.dram := by
  unfold Gk1.sendOn
  dsimp only
  split <;> simp

@[simp] theorem Gk1.pumpPort_dram (s : Gk1) (n : Nat) : (s.pumpPort n).dram = s.dram := by simp [Gk1.pumpPort]
@[simp] theorem Gk1.sendFrom_dram (s : Gk1) (came : Option Nat) (p : Packet) : (s.sendFrom came p).1.dram = s.dram := by
  unfold Gk1.sendFrom
  split <;> simp

@[simp] theorem Gk1.sendPacket_dram (s : Gk1) (p : Packet) : (s.sendPacket p).1.dram = s.dram := by simp [Gk1.sendPacket]
@[simp] theorem Gk1.sendKept_dram (s : Gk1) (p : Packet) : (s.sendKept p).dram = s.dram := by simp [Gk1.sendKept]
@[simp] theorem Gk1.ack_dram (s : Gk1) (p : Packet) (result status : Nat) : (s.ack p result status).dram = s.dram := by
  simp [Gk1.ack]

@[simp] theorem Gk1.dropReq_dram (s : Gk1) (rid : Nat) : (s.dropReq rid).dram = s.dram := by
  unfold Gk1.dropReq
  split <;> simp

@[simp] theorem Gk1.performed_dram (s : Gk1) (rid n here : Nat) : (s.performed rid n here).dram = s.dram := by
  simp [Gk1.performed]

@[simp] theorem Gk1.handOff_dram (s : Gk1) (rid : Nat) : (s.handOff rid).dram = s.dram := by simp [Gk1.handOff]
@[simp] theorem Gk1.markShare_dram (s : Gk1) (core : Nat) (f : Share → Share) : (s.markShare core f).dram = s.dram := by
  unfold Gk1.markShare
  split <;> simp

@[simp] theorem Gk1.wantBlock_dram (s : Gk1) (snap b : Nat) : (s.wantBlock snap b).dram = s.dram := by simp [Gk1.wantBlock]
@[simp] theorem Gk1.writeBytes_dram (s : Gk1) (m : Msg) : (s.writeBytes m).2.dram = s.dram := by
  unfold Gk1.writeBytes
  split <;> simp

@[simp] theorem Gk1.dropEpoch_dram (s : Gk1) (m : Msg) : (s.dropEpoch m).dram = s.dram := by simp [Gk1.dropEpoch]
@[simp] theorem Gk1.countEpoch_dram (s : Gk1) (m : Msg) (n : Nat) (f : Option Nat) : (s.countEpoch m n f).dram = s.dram := by
  simp [Gk1.countEpoch]

@[simp] theorem Gk1.openEpoch_dram (s : Gk1) (m : Msg) : (s.openEpoch m).dram = s.dram := by simp [Gk1.openEpoch]
@[simp] theorem Gk1.drainFault_dram (s : Gk1) (core rid : Nat) :
    (s.drainFault core rid).dram = s.dram := by simp [Gk1.drainFault]
@[simp] theorem Gk1.sendAway_dram (s : Gk1) (id : Nat) (m : Msg) : (s.sendAway id m).dram = s.dram := by
  unfold Gk1.sendAway
  dsimp only
  repeat' split
  all_goals simp

@[simp] theorem Gk1.wrote_dram (s : Gk1) (id : Nat) (m : Msg) (landed : Nat) (f : Option Nat) :
    (s.wrote id m landed f).dram = s.dram := by
  unfold Gk1.wrote
  dsimp only
  repeat' split
  all_goals simp

theorem Gk1.openRec_dram {s t : Gk1} {core st : Nat} {tg : Target} (h : s.openRec core st tg = some t) : t.dram = s.dram := by
  rw [Gk1.openRec] at h
  dsimp only at h
  split at h
  · cases h; rfl
  · obtain ⟨rs, -, rfl⟩ := Option.map_eq_some_iff.1 h
    rfl

@[simp] theorem Gk1.sendPeer_dram (s : Gk1) (id : Nat) (m : Msg) : (s.sendPeer id m).dram = s.dram := by simp [Gk1.sendPeer]
@[simp] theorem Gk1.endEpoch_dram (s : Gk1) (core : Nat) (r : EpochRec) (ctx kid : Nat) (last : Bool) :
    (s.endEpoch core r ctx kid last).dram = s.dram := by
  simp [Gk1.endEpoch]

@[simp] theorem Gk1.trySend_dram (s : Gk1) (id : Nat) (m : Msg) : (s.trySend id m).dram = s.dram := by
  rw [Gk1.trySend]
  dsimp only
  split
  · rfl
  · split
    · rfl
    · split
      · rfl
      · split
        · simp
        · split
          · simp
          · split
            · rfl
            · next hopen =>
              have hrec := openRec_dram hopen
              split
              · exact hrec
              · split
                · exact hrec
                · split <;> split <;> simp [hrec]

@[simp] theorem Gk1.endFull_dram (s : Gk1) (core : Nat) : (s.endFull core).dram = s.dram := by simp [Gk1.endFull]
@[simp] theorem Gk1.pump_dram (s : Gk1) (core : Nat) : (s.pump core).dram = s.dram := by simp [Gk1.pump]
@[simp] theorem Gk1.closeEpochs_dram (s : Gk1) (core ctx kid : Nat) : (s.closeEpochs core ctx kid).dram = s.dram := by
  simp [Gk1.closeEpochs]

@[simp] theorem Gk1.answered_dram (s : Gk1) (id : Nat) (m : Msg) : (s.answered id m).dram = s.dram := by simp [Gk1.answered]
@[simp] theorem Gk1.readFault_dram (s : Gk1) (id : Nat) (m : Msg) (code : Nat) : (s.readFault id m code).dram = s.dram := by
  simp [Gk1.readFault]

@[simp] theorem Gk1.deliver_dram (s : Gk1) (id : Nat) (m : Msg) (data : List Byte) : (s.deliver id m data).dram = s.dram := by
  simp [Gk1.deliver]

@[simp] theorem Gk1.atomReply_dram (s : Gk1) (id : Nat) (m : Msg) (old : Nat) : (s.atomReply id m old).dram = s.dram := by
  simp [Gk1.atomReply]

@[simp] theorem Gk1.readAt_dram (s : Gk1) (id va : Nat) (m : Msg) : (s.readAt id va m).dram = s.dram := by
  rw [Gk1.readAt]
  split
  · simp
  · split <;> simp
  · split
    · simp
    · dsimp only
      split
      · simp
      · simp
      · next hread =>
        have hread := cacheRead_dram hread
        split <;> simp [hread]

@[simp] theorem Gk1.replyRegs_dram (s : Gk1) (m : Msg) (vals : List (Nat × BitVec 32)) :
    (s.replyRegs m vals).dram = s.dram := by
  simp [Gk1.replyRegs]

@[simp] theorem Gk1.unitFault_dram (s : Gk1) (core : Nat) (x : MxInstr) (code : Nat) :
    (s.unitFault core x code).dram = s.dram := by
  unfold Gk1.unitFault
  dsimp only
  split <;> simp

@[simp] theorem Gk1.modWgs_dram (s : Gk1) (cl gid : Nat) (f : WGroup → WGroup) : (s.modWgs cl gid f).dram = s.dram := by
  simp [Gk1.modWgs]

@[simp] theorem Gk1.arriveOprel_dram (s : Gk1) (core : Nat) (x : MxInstr) : (s.arriveOprel core x).dram = s.dram := by
  unfold Gk1.arriveOprel
  split <;> simp

@[simp] theorem Gk1.promoteAll_dram (s : Gk1) (core : Nat) (x : MxInstr) (l : List (Nat × Term)) :
    (s.promoteAll core x l).dram = s.dram := by
  simp [Gk1.promoteAll]

@[simp] theorem Gk1.gangAclk_dram (s : Gk1) (core : Nat) (x : MxInstr) : (s.gangAclk core x).dram = s.dram := by
  simp [Gk1.gangAclk]

@[simp] theorem Gk1.countAclk_dram (s : Gk1) (core : Nat) (x : MxInstr) (i : Nat) : (s.countAclk core x i).dram = s.dram := by
  simp [Gk1.countAclk]

@[simp] theorem Gk1.stepStarts_dram (s : Gk1) (core : Nat) (x : MxInstr) : (s.stepStarts core x).dram = s.dram := by
  simp [Gk1.stepStarts]

@[simp] theorem Gk1.complete_dram (s : Gk1) (core : Nat) (x : MxInstr) : (s.complete core x).dram = s.dram := by
  unfold Gk1.complete
  dsimp only
  split <;> simp

@[simp] theorem Gk1.runDrain_dram (s : Gk1) (core : Nat) (j : DrainJob) (t : Total) : (s.runDrain core j t).dram = s.dram := by
  rw [Gk1.runDrain]
  dsimp only
  rw [pump_dram]
  exact foldl_dram addMsg_dram _ _

@[simp] theorem GI.wgsMark_dram (i : GI) (s : Gk1) : (GI.wgsMark i s).dram = s.dram := by simp [GI.wgsMark]
@[simp] theorem Gk1.addWop_dram (s : Gk1) (cl : Nat) (o : WOp) : (s.addWop cl o).dram = s.dram := by simp [Gk1.addWop]
@[simp] theorem Gk1.countGang_dram (s : Gk1) (cl : Nat) : (s.countGang cl).dram = s.dram := by simp [Gk1.countGang]
@[simp] theorem Gk1.hostReadFault_dram (s : Gk1) (id : Nat) (m : Msg) : (s.hostReadFault id m).dram = s.dram := by
  simp [Gk1.hostReadFault]

@[simp] theorem Gk1.msixSend_dram (s : Gk1) (v : Nat) : (s.msixSend v).dram = s.dram := by simp [Gk1.msixSend]
@[simp] theorem Gk1.queueError_dram (s : Gk1) (q code : Nat) : (s.queueError q code).dram = s.dram := by simp [Gk1.queueError]
@[simp] theorem Gk1.doorbell_dram (s : Gk1) (q : Nat) (w : Option (BitVec 64)) : (s.doorbell q w).dram = s.dram := by
  unfold Gk1.doorbell
  split <;> simp

@[simp] theorem Gk1.doorbells_dram (s : Gk1) (qs : List Nat) (words : List (Nat × Option (BitVec 64))) :
    (s.doorbells qs words).dram = s.dram := by
  simp [Gk1.doorbells]

@[simp] theorem Gk1.finishWith_dram (s : Gk1) (q : Nat) (d : Desc) (status : Nat) :
    (s.finishWith q d status).dram = s.dram := by
  simp [Gk1.finishWith]

@[simp] theorem Gk1.start_dram (s : Gk1) (q : Nat) (d : Desc) : (s.start q d).dram = s.dram := by simp [Gk1.start]
@[simp] theorem Gk1.bulkFault_dram (s : Gk1) (q code addr : Nat) : (s.bulkFault q code addr).dram = s.dram := by
  simp [Gk1.bulkFault]

@[simp] theorem Gk1.addKernel_dram (s : Gk1) (q : Nat) (d : Desc) : (s.addKernel q d).dram = s.dram := by simp [Gk1.addKernel]
@[simp] theorem Gk1.wipeRegion_dram (s : Gk1) (r : Nat) : (s.wipeRegion r).dram = s.dram := by simp [Gk1.wipeRegion]
theorem Gk1.loadCode_dram {s t : Gk1} {K : Kernel} (h : s.loadCode K = .ok t) : t.dram = s.dram := by
  rw [Gk1.loadCode] at h
  split at h
  · cases h; rfl
  · split at h
    · cases h
    · cases h
      exact (foldl_dram (fun s c => modCore_dram s c _) _ _).trans (hasRead_dram _ _ _ _)

@[simp] theorem Gk1.leaveCluster_dram (s : Gk1) (kid cl : Nat) : (s.leaveCluster kid cl).dram = s.dram := by
  rw [Gk1.leaveCluster, modKernel_dram, modCluster_dram]
  exact foldl_dram (fun s c => modCore_dram s c _) _ s

@[simp] theorem Gk1.recompDone_dram (s : Gk1) (q : Nat) (f : Fin_) : (s.recompDone q f).dram = s.dram := by
  unfold Gk1.recompDone
  split <;> simp

@[simp] theorem Gk1.endEpochs_dram (s : Gk1) (kid ctx : Nat) : (s.endEpochs kid ctx).dram = s.dram := by simp [Gk1.endEpochs]
@[simp] theorem Gk1.leaveStreams_dram (s : Gk1) (kid : Nat) : (s.leaveStreams kid).dram = s.dram :=
  foldl_dram (fun s c => modCore_dram s c _) _ _

@[simp] theorem Gk1.completeKernel_dram (s : Gk1) (kid : Nat) : (s.completeKernel kid).dram = s.dram := by
  unfold Gk1.completeKernel
  split <;> simp

@[simp] theorem Gk1.failKernel_dram (s : Gk1) (kid code : Nat) :
    (s.failKernel kid code).dram = s.dram := by simp [Gk1.failKernel]
@[simp] theorem Gk1.newStreams_dram (s : Gk1) (core kid : Nat) : (s.newStreams core kid).dram = s.dram := by
  unfold Gk1.newStreams
  split <;> simp

@[simp] theorem Gk1.letIn_dram (s : Gk1) (cl kid : Nat) : (s.letIn cl kid).dram = s.dram := by
  unfold Gk1.letIn
  split <;> simp

@[simp] theorem Gk1.takeOver_dram (s : Gk1) (r places : Nat) : (s.takeOver r places).dram = s.dram := by
  have hheld := foldl_dram (fun s c => modCluster_dram s c fun c => { c with held := true })
  simp [Gk1.takeOver, hheld]

@[simp] theorem Gk1.dropMatrixReqs_dram (s : Gk1) (kid : Nat) (here : Nat → Bool) :
    (s.dropMatrixReqs kid here).dram = s.dram := by
  simp [Gk1.dropMatrixReqs]

@[simp] theorem Gk1.dropMsgs_dram (s : Gk1) (kid : Nat) (here : Nat → Bool) : (s.dropMsgs kid here).dram = s.dram := by
  simp [Gk1.dropMsgs]

@[simp] theorem Gk1.stopCluster_dram (s : Gk1) (kid cl : Nat) : (s.stopCluster kid cl).dram = s.dram := by
  have hcores := foldl_dram (fun s c => modCore_dram s c Core.stopped)
  simp [Gk1.stopCluster, hcores]

@[simp] theorem Gk1.stopWork_dram (s : Gk1) (kid : Nat) : (s.stopWork kid).dram = s.dram := by
  unfold Gk1.stopWork
  split <;> simp

@[simp] theorem Gk1.stopKernel_dram (s : Gk1) (kid code : Nat) (always : Bool) :
    (s.stopKernel kid code always).dram = s.dram := by
  simp [Gk1.stopKernel]

@[simp] theorem Gk1.hand_dram (s : Gk1) (kid : Nat) (K : Kernel) (cl : Nat) : (s.hand kid K cl).dram = s.dram := by
  simp [Gk1.hand]

@[simp] theorem Gk1.hostDoorbell_dram (s : Gk1) (q : Nat) : (s.hostDoorbell q).dram = s.dram := by simp [Gk1.hostDoorbell]
@[simp] theorem Gk1.releaseLog_dram (s : Gk1) (c : Nat) (isFence : Bool) (n : Nat) :
    (s.releaseLog c isFence n).dram = s.dram := by
  simp [Gk1.releaseLog]

@[simp] theorem Gk1.markWatched_dram (s : Gk1) (c n : Nat) : (s.markWatched c n).dram = s.dram := by simp [Gk1.markWatched]
@[simp] theorem Gk1.sendValue_dram (s : Gk1) (id : Nat) (w : OwnerWatch) (tag : Nat) :
    (s.sendValue id w tag).dram = s.dram := by
  simp [Gk1.sendValue]

@[simp] theorem Gk1.requestWatch_dram (s : Gk1) (id : Nat) (w : ImportWatch) : (s.requestWatch id w).dram = s.dram := by
  simp [Gk1.requestWatch]

@[simp] theorem Gk1.pruneWatches_dram (s : Gk1) : s.pruneWatches.dram = s.dram := by simp [Gk1.pruneWatches]
@[simp] theorem Gk1.startWait_dram (s : Gk1) (q : Nat) (d : Desc) : (s.startWait q d).dram = s.dram := by
  unfold Gk1.startWait
  repeat' split
  all_goals simp

@[simp] theorem Gk1.overlap_dram (s : Gk1) (d : Desc) (bs : List Byte) : (s.overlap d bs).1.dram = s.dram := by
  unfold Gk1.overlap
  split <;> simp

@[simp] theorem Gk1.endCopy_dram (s : Gk1) (q : Nat) (d : Desc) (n : Nat) (f : Option (Nat × Nat)) :
    (s.endCopy q d n f).dram = s.dram := by
  unfold Gk1.endCopy
  split <;> simp

@[simp] theorem Gk1.enable_dram (s : Gk1) (q : Nat) : (s.enable q).dram = s.dram := by simp [Gk1.enable]
@[simp] theorem Gk1.stopKernels_dram (s : Gk1) (q : Nat) : (s.stopKernels q).dram = s.dram := by simp [Gk1.stopKernels]
@[simp] theorem Gk1.dropHeld_dram (s : Gk1) : s.dropHeld.dram = s.dram := by simp [Gk1.dropHeld]
@[simp] theorem Gk1.closeQueue_dram (s : Gk1) (q : Nat) (silent : Bool) : (s.closeQueue q silent).dram = s.dram := by
  simp [Gk1.closeQueue]

@[simp] theorem Gk1.finishMgmt_dram (s : Gk1) (d : Desc) (result : List Byte) : (s.finishMgmt d result).dram = s.dram := by
  simp [Gk1.finishMgmt]

@[simp] theorem Gk1.refuseMgmt_dram (s : Gk1) (d : Desc) (status : Nat) : (s.refuseMgmt d status).dram = s.dram := by
  simp [Gk1.refuseMgmt]

@[simp] theorem Gk1.ledgerFlag_dram (s : Gk1) (bit : Nat) : (s.ledgerFlag bit).dram = s.dram := by simp [Gk1.ledgerFlag]
@[simp] theorem Gk1.unheld_dram (s : Gk1) : s.unheld.dram = s.dram := by simp [Gk1.unheld]
@[simp] theorem Gk1.handOver_dram (s : Gk1) (key : Nat) (rs : List Nat) : (s.handOver key rs).1.dram = s.dram := by
  unfold Gk1.handOver
  split <;> simp

@[simp] theorem Gk1.handed_dram (s : Gk1) (key : Nat) : (s.handed key).dram = s.dram := by simp [Gk1.handed]
@[simp] theorem Gk1.dropHeldDraw_dram (s : Gk1) (cs : List Nat) : (s.dropHeldDraw cs).dram = s.dram := by
  have hfold := foldl_dram (fun s c => modCluster_dram s c fun c => { c with held := false })
  simp [Gk1.dropHeldDraw, hfold]

@[simp] theorem Gk1.unown_dram (s : Gk1) (rs : List Nat) : (s.unown rs).dram = s.dram := by
  have hheld := foldl_dram (fun s c => modCluster_dram s c fun c => { c with held := false })
  simp [Gk1.unown, hheld]

@[simp] theorem Gk1.giveRegion_dram (s : Gk1) (c r : Nat) : (s.giveRegion c r).dram = s.dram := by simp [Gk1.giveRegion]
@[simp] theorem Gk1.beginTeardown_dram (s : Gk1) (c : Nat) : (s.beginTeardown c).dram = s.dram := by simp [Gk1.beginTeardown]
@[simp] theorem Gk1.refuseWaiting_dram (s : Gk1) (c : Nat) : (s.refuseWaiting c).dram = s.dram := by
  have hrefuse : ∀ (s : Gk1) (e : Nat × Msg), (match e.2.pkt with
      | some p => (s.delMsg e.1).ack p 2 0
      | none => s).dram = s.dram := fun s e => by
    cases e.2.pkt with
    | none => rfl
    | some p => rw [ack_dram, delMsg_dram]
  exact foldl_dram hrefuse _ s

@[simp] theorem Gk1.queueEngineReset_dram (s : Gk1) : s.queueEngineReset.dram = s.dram := by simp [Gk1.queueEngineReset]
@[simp] theorem Gk1.relimit_dram (s : Gk1) : s.relimit.dram = s.dram := by simp [Gk1.relimit]
@[simp] theorem Gk1.evenBroken_dram (s : Gk1) : s.evenBroken.dram = s.dram := by simp [Gk1.evenBroken]
@[simp] theorem Gk1.reguard_dram (s : Gk1) : s.reguard.dram = s.dram := by simp [Gk1.reguard]
@[simp] theorem Gk1.regulate_dram (s : Gk1) (fall : Nat) : (s.regulate fall).dram = s.dram := by
  unfold Gk1.regulate
  dsimp only
  repeat' split
  all_goals simp

@[simp] theorem Gk1.budgetChanged_dram (s : Gk1) : s.budgetChanged.dram = s.dram := by simp [Gk1.budgetChanged]
@[simp] theorem Gk1.activate_dram (s : Gk1) : s.activate.dram = s.dram := by
  unfold Gk1.activate
  split <;> simp

@[simp] theorem Gk1.countDist_dram (s : Gk1) : s.countDist.dram = s.dram := by simp [Gk1.countDist]
@[simp] theorem Gk1.endDisturb_dram (s : Gk1) : s.endDisturb.dram = s.dram := by simp [Gk1.endDisturb]
@[simp] theorem Gk1.park_dram (s : Gk1) (cl : Nat) : (s.park cl).dram = s.dram := by simp [Gk1.park]
@[simp] theorem Gk1.parkAll_dram (s : Gk1) (cs : List Nat) : (s.parkAll cs).dram = s.dram := by simp [Gk1.parkAll]
@[simp] theorem Gk1.parkMore_dram (s : Gk1) : s.parkMore.dram = s.dram := by simp [Gk1.parkMore]
theorem Parking.one_dram (go : Int → Int → Bool) (p : Parking) (cl : Nat) : (Parking.one go p cl).s.dram = p.s.dram := by
  unfold Parking.one
  extract_lets r pc
  split
  · rfl
  · split
    · rfl
    · split
      · rfl
      · exact Gk1.park_dram p.s cl

theorem Parking.foldl_one_dram (go : Int → Int → Bool) (l : List Nat) (p : Parking) :
    (l.foldl (Parking.one go) p).s.dram = p.s.dram :=
  foldl_keeps (fun p : Parking => p.s.dram) (Parking.one_dram go) l p

@[simp] theorem Gk1.parkTick_dram (s : Gk1) (fl cl e : Int) : (s.parkTick fl cl e).1.dram = s.dram :=
  (Parking.foldl_one_dram _ _ _).trans (Parking.foldl_one_dram _ _ _)

@[simp] theorem Gk1.tracePark_dram (s : Gk1) (r : Nat) : (s.tracePark r).dram = s.dram := by simp [Gk1.tracePark]
@[simp] theorem Gk1.countRegion_dram (s : Gk1) (r : Nat) : (s.countRegion r).dram = s.dram := by
  unfold Gk1.countRegion
  dsimp only
  split <;> simp

@[simp] theorem Gk1.ranOver_dram (s : Gk1) : s.ranOver.dram = s.dram :=
  foldl_dram (fun s c => modCluster_dram s c _) _ s

@[simp] theorem Gk1.excuse_dram (s : Gk1) : s.excuse.dram = s.dram := by simp [Gk1.excuse]
@[simp] theorem Gk1.judge_dram (s : Gk1) : s.judge.dram = s.dram := by simp [Gk1.judge]
@[simp] theorem Gk1.parkQuadrant_dram (s : Gk1) (q mw : Nat) : (s.parkQuadrant q mw).dram = s.dram := by
  rw [Gk1.parkQuadrant]
  split
  · rfl
  · exact Parking.foldl_one_dram _ _ _

@[simp] theorem Gk1.closeTen_dram (s : Gk1) : s.closeTen.dram = s.dram := by simp [Gk1.closeTen]
@[simp] theorem Gk1.calibrateQuadrant_dram (s : Gk1) (q measured : Nat) : (s.calibrateQuadrant q measured).dram = s.dram := by
  simp [Gk1.calibrateQuadrant]

@[simp] theorem Gk1.move_dram (s : Gk1) (r k : Nat) : (s.move r k).dram = s.dram := by simp [Gk1.move]
@[simp] theorem Gk1.signAll_dram (s : Gk1) : s.signAll.dram = s.dram := by simp [Gk1.signAll]
@[simp] theorem Gk1.openPeriod_dram (s : Gk1) : s.openPeriod.dram = s.dram := by simp [Gk1.openPeriod]
@[simp] theorem Gk1.sealPeriod_dram (s : Gk1) : s.sealPeriod.dram = s.dram := by simp [Gk1.sealPeriod]
@[simp] theorem Gk1.takeNotice_dram (s : Gk1) (cycle period ts : Nat) : (s.takeNotice cycle period ts).dram = s.dram := by
  simp [Gk1.takeNotice]

@[simp] theorem Gk1.setRef_dram (s : Gk1) (auto sel : Bool) : (s.setRef auto sel).dram = s.dram := by simp [Gk1.setRef]
@[simp] theorem Gk1.startSwitch_dram (s : Gk1) (pin : Bool) : (s.startSwitch pin).dram = s.dram := by simp [Gk1.startSwitch]
@[simp] theorem Gk1.enterHoldover_dram (s : Gk1) : s.enterHoldover.dram = s.dram := by simp [Gk1.enterHoldover]
@[simp] theorem Gk1.autoRef_dram (s : Gk1) : s.autoRef.dram = s.dram := by simp [Gk1.autoRef]
@[simp] theorem Gk1.judgeSel_dram (s : Gk1) (sel : Bool) : (s.judgeSel sel).dram = s.dram := by simp [Gk1.judgeSel]
@[simp] theorem Gk1.judgeLater_dram (s : Gk1) : s.judgeLater.dram = s.dram := by
  unfold Gk1.judgeLater
  split <;> simp

@[simp] theorem Gk1.refLost_dram (s : Gk1) : s.refLost.dram = s.dram := by simp [Gk1.refLost]
@[simp] theorem Gk1.modChannel_dram (s : Gk1) (r c : Nat) (f : Channel → Channel) : (s.modChannel r c f).dram = s.dram := by
  simp [Gk1.modChannel]

@[simp] theorem Gk1.loseStack_dram (s : Gk1) (r : Nat) : (s.loseStack r).dram = s.dram := by simp [Gk1.loseStack]
@[simp] theorem Gk1.listBad_dram (s : Gk1) (gid sec : Nat) : (s.listBad gid sec).dram = s.dram := by simp [Gk1.listBad]
@[simp] theorem Gk1.uncorrectable_dram (s : Gk1) (gid sec : Nat) : (s.uncorrectable gid sec).dram = s.dram := by
  simp [Gk1.uncorrectable]

@[simp] theorem Gk1.sweepOn_dram (s : Gk1) (r c : Nat) : (s.sweepOn r c).dram = s.dram := by
  unfold Gk1.sweepOn
  split <;> simp

@[simp] theorem Gk1.eraseLane_dram (s : Gk1) (r c lane : Nat) : (s.eraseLane r c lane).dram = s.dram := by simp [Gk1.eraseLane]
@[simp] theorem Gk1.scrubPass_dram (s : Gk1) (r : Nat) : (s.scrubPass r).dram = s.dram := by simp [Gk1.scrubPass]
@[simp] theorem Gk1.wipeCluster_dram (s : Gk1) (cl : Nat) : (s.wipeCluster cl).dram = s.dram := by simp [Gk1.wipeCluster]
@[simp] theorem Gk1.dropWork_dram (s : Gk1) (kid : Nat) (here : Nat → Bool) : (s.dropWork kid here).dram = s.dram := by
  simp [Gk1.dropWork]

@[simp] theorem Gk1.dropShare_dram (s : Gk1) (kid cl code : Nat) : (s.dropShare kid cl code).dram = s.dram := by
  simp [Gk1.dropShare]

@[simp] theorem Gk1.stopForRerun_dram (s : Gk1) (kid : Nat) : (s.stopForRerun kid).dram = s.dram := by simp [Gk1.stopForRerun]
@[simp] theorem Gk1.forgetShare_dram (s : Gk1) (kid cl : Nat) :
    (s.forgetShare kid cl).dram = s.dram := by simp [Gk1.forgetShare]
@[simp] theorem Gk1.loseShare_dram (s : Gk1) (kid cl : Nat) (c : Cause) : (s.loseShare kid cl c).1.dram = s.dram := by
  unfold Gk1.loseShare
  dsimp only
  repeat' split
  all_goals simp

@[simp] theorem Gk1.reportWgs_dram (s : Gk1) (cl rank : Nat) : (s.reportWgs cl rank).dram = s.dram := by
  unfold Gk1.reportWgs
  split <;> simp

@[simp] theorem Gk1.refollow_dram (s : Gk1) (excl : List Nat) : (s.refollow excl).dram = s.dram := by simp [Gk1.refollow]
@[simp] theorem Gk1.moveRole_dram (s : Gk1) (r : Nat) (excl : List Nat) : (s.moveRole r excl).dram = s.dram := by
  simp [Gk1.moveRole]

@[simp] theorem Gk1.partDead_dram (s : Gk1) : s.partDead.dram = s.dram := by simp [Gk1.partDead]
@[simp] theorem Gk1.countInterval_dram (s : Gk1) : s.countInterval.dram = s.dram := by simp [Gk1.countInterval]
@[simp] theorem Gk1.loseRegion_dram (s : Gk1) (r : Nat) (c : Cause) : (s.loseRegion r c).1.dram = s.dram := by
  rw [Gk1.loseRegion]
  refine (foldl_dram (fun s cl => wipeCluster_dram s cl) _ _).trans ?_
  refine (foldl_keeps (fun a : Gk1 × Nat => a.1.dram) (fun a cl => ?_) _ _).trans (dropHeldDraw_dram s _)
  dsimp only
  split
  · exact loseShare_dram a.1 _ cl c
  · rfl

@[simp] theorem Gk1.resetRegion_dram (s : Gk1) (r : Nat) (c : Cause) : (s.resetRegion r c).dram = s.dram := by
  simp [Gk1.resetRegion]

@[simp] theorem Gk1.dropAsking_dram (s : Gk1) (r : Nat) : (s.dropAsking r).dram = s.dram := by
  refine foldl_dram (fun s e => ?_) _ s
  split
  · exact dropShare_dram s _ _ _
  · rfl

@[simp] theorem Gk1.goOut_dram (s : Gk1) (r : Nat) : (s.goOut r).dram = s.dram := by
  have hstop := foldl_dram (fun (s : Gk1) (e : Nat × Kernel) => stopKernel_dram s e.1 0x61 false)
  have hfound := foldl_dram (fun s c => modCluster_dram s c fun c => { c with lost := false })
  rw [Gk1.goOut]
  dsimp only
  split
  · split <;> simp [hstop, hfound]
  · simp [hstop, hfound]

@[simp] theorem Gk1.switchHia_dram (s : Gk1) : s.switchHia.dram = s.dram := by simp [Gk1.switchHia]
@[simp] theorem Gk1.applySupp_dram (s : Gk1) (e : Supp) : (s.applySupp e).dram = s.dram := by
  unfold Gk1.applySupp
  dsimp only
  repeat' split
  all_goals simp

@[simp] theorem Gk1.writePeer_dram (s : Gk1) (rid ctx part : Nat) (enforced : Bool) (a : Nat) (bs : List Byte) :
    (s.writePeer rid ctx part enforced a bs).dram = s.dram := by
  simp [Gk1.writePeer]

@[simp] theorem Gk1.reply_dram (s : Gk1) (p : Packet) (result status : Nat) (payload : List Byte) :
    (s.reply p result status payload).dram = s.dram := by
  simp [Gk1.reply]

@[simp] theorem Gk1.noWay_dram (s : Gk1) (p : Packet) : (s.noWay p).dram = s.dram := by
  unfold Gk1.noWay
  repeat' split
  all_goals simp

@[simp] theorem Gk1.forward_dram (s : Gk1) (came : Option Nat) (p : Packet) : (s.forward came p).dram = s.dram := by
  simp [Gk1.forward]

@[simp] theorem Gk1.counted_dram (s : Gk1) (port : Nat) (p : Packet) : (s.counted port p).dram = s.dram := by simp [Gk1.counted]
@[simp] theorem Gk1.faultBucket_dram (s : Gk1) (key code addr : Nat) : (s.faultBucket key code addr).dram = s.dram := by
  unfold Gk1.faultBucket
  split <;> simp

@[simp] theorem Gk1.peerDone_dram (s : Gk1) (id : Nat) (m : Msg) (a : Packet) : (s.peerDone id m a).dram = s.dram := by
  unfold Gk1.peerDone
  split <;> simp

@[simp] theorem Gk1.watchRetry_dram (s : Gk1) (a : Packet) : (s.watchRetry a).dram = s.dram := by simp [Gk1.watchRetry]
@[simp] theorem Gk1.loseDestination_dram (s : Gk1) (peer : Nat) : (s.loseDestination peer).dram = s.dram := by
  simp [Gk1.loseDestination]

@[simp] theorem Gk1.trainPorts_dram (s : Gk1) : s.trainPorts.dram = s.dram := by simp [Gk1.trainPorts]
@[simp] theorem Gk1.loseLink_dram (s : Gk1) (p st : Nat) : (s.loseLink p st).dram = s.dram := by simp [Gk1.loseLink]
@[simp] theorem Gk1.portFault_dram (s : Gk1) (p st : Nat) : (s.portFault p st).dram = s.dram := by simp [Gk1.portFault]
@[simp] theorem Gk1.laneNotice_dram (s : Gk1) (p h3 : Nat) : (s.laneNotice p h3).dram = s.dram := by simp [Gk1.laneNotice]
@[simp] theorem Gk1.judgeLanes_dram (s : Gk1) (p : Nat) : (s.judgeLanes p).dram = s.dram := by simp [Gk1.judgeLanes]
@[simp] theorem Gk1.tryPower_dram (s : Gk1) : s.tryPower.dram = s.dram := by simp [Gk1.tryPower]
@[simp] theorem Gk1.raiseEn_dram (s : Gk1) : s.raiseEn.dram = s.dram := by simp [Gk1.raiseEn]
@[simp] theorem Gk1.enterRom_dram (s : Gk1) : s.enterRom.dram = s.dram := by simp [Gk1.enterRom]
@[simp] theorem Gk1.bootFault_dram (s : Gk1) (err : Nat) : (s.bootFault err).dram = s.dram := by simp [Gk1.bootFault]
@[simp] theorem Gk1.waveStack_dram (s : Gk1) (f : RegionWave) : (s.waveStack f).dram = s.dram := by simp [Gk1.waveStack]
@[simp] theorem Gk1.outAtBoot_dram (s : Gk1) (r : Nat) : (s.outAtBoot r).dram = s.dram := by simp [Gk1.outAtBoot]
@[simp] theorem Gk1.waveTable_dram (s : Gk1) (w : Nat) (f : RegionWave) : (s.waveTable w f).dram = s.dram := by
  unfold Gk1.waveTable
  extract_lets R step a run
  split
  · rfl
  · rw [outAtBoot_dram, modRegion_dram]

@[simp] theorem Gk1.sendExch_dram (s : Gk1) (key : Nat) (B : Bucket) (type dst dispatch addr tag : Nat) (payload : List Byte) :
    (s.sendExch key B type dst dispatch addr tag payload).dram = s.dram := by
  simp [Gk1.sendExch]

@[simp] theorem Gk1.dropBucket_dram (s : Gk1) (key : Nat) : (s.dropBucket key).dram = s.dram := by simp [Gk1.dropBucket]
@[simp] theorem Gk1.redispatch_dram (s : Gk1) (key : Nat) (B : Bucket) (J : Job) : (s.redispatch key B J).dram = s.dram := by
  simp [Gk1.redispatch]

@[simp] theorem Gk1.distribute_dram (s : Gk1) (key : Nat) (B : Bucket) (J : Job) (g : Nat) (parts : List (Nat × List Byte)) :
    (s.distribute key B J g parts).dram = s.dram := by
  simp [Gk1.distribute]

@[simp] theorem Gk1.writeTraceCtl_dram (s : Gk1) (m v : Nat) :
    (s.writeTraceCtl m v).dram = s.dram := by simp [Gk1.writeTraceCtl]
@[simp] theorem Gk1.badAccess_dram (s : Gk1) : s.badAccess.dram = s.dram := by simp [Gk1.badAccess]
@[simp] theorem Gk1.barRead_dram (s : Gk1) (off size : Nat) : (s.barRead off size).2.dram = s.dram := by
  unfold Gk1.barRead
  repeat' split
  all_goals simp

@[simp] theorem Gk1.putRw_dram (s : Gk1) (off reset rw m v : Nat) : (s.putRw off reset rw m v).dram = s.dram := by
  simp [Gk1.putRw]

@[simp] theorem Gk1.clearW1c_dram (s : Gk1) (off bits m v : Nat) : (s.clearW1c off bits m v).dram = s.dram := by
  simp [Gk1.clearW1c]

@[simp] theorem Gk1.putQe_dram (s : Gk1) (q off reset rw m v : Nat) (fix : Nat → Nat) :
    (s.putQe q off reset rw m v fix).dram = s.dram := by
  simp [Gk1.putQe]

@[simp] theorem Gk1.writeEven_dram (s : Gk1) (v : Nat) : (s.writeEven v).dram = s.dram := by simp [Gk1.writeEven]
@[simp] theorem Gk1.writeLedger_dram (s : Gk1) (v : Nat) : (s.writeLedger v).dram = s.dram := by simp [Gk1.writeLedger]
@[simp] theorem Gk1.writeAttr_dram (s : Gk1) (i v : Nat) : (s.writeAttr i v).dram = s.dram := by simp [Gk1.writeAttr]
@[simp] theorem Gk1.writeMemSel_dram (s : Gk1) (v : Nat) : (s.writeMemSel v).dram = s.dram := by simp [Gk1.writeMemSel]
@[simp] theorem Gk1.writePtMem_dram (s : Gk1) (m v : Nat) (x1 : Reg) : (s.writePtMem m v x1).dram = s.dram := by
  unfold Gk1.writePtMem
  split <;> simp

@[simp] theorem Gk1.routed_dram (s : Gk1) (off : Nat) : (s.routed off).dram = s.dram := by simp [Gk1.routed]
@[simp] theorem Gk1.writeFabCtl_dram (s : Gk1) (v : Nat) : (s.writeFabCtl v).dram = s.dram := by simp [Gk1.writeFabCtl]
@[simp] theorem Gk1.writeMsix_dram (s : Gk1) (w v : Nat) : (s.writeMsix w v).dram = s.dram := by simp [Gk1.writeMsix]
@[simp] theorem Gk1.tick_dram (s : Gk1) : s.tick.dram = s.dram := by simp [Gk1.tick]

end Sys2Proof.Machine

namespace Sys2Proof.Machine

/-! ## Steps that write device memory, and keep its canonical form -/

/-- A fold keeps an invariant that each of its steps keeps. -/
theorem foldl_inv {σ α : Type} (I : σ → Prop) {f : σ → α → σ} (hf : ∀ a x, I a → I (f a x)) (l : List α) {a : σ} (h : I a) :
    I (l.foldl f a) :=
  List.foldlRecOn l f (motive := I) h fun b hb x _ => hf b x hb

namespace Gk1

/-- Device memory is in its canonical form: addresses strictly rise, no listed byte is 0. -/
def Canon (s : Gk1) : Prop := Mem.wf s.dram = true

theorem Canon.of_dram {s t : Gk1} (h : s.Canon) (e : t.dram = s.dram) : t.Canon := by rwa [Canon, e]

theorem foldl_canon {α : Type} {f : Gk1 → α → Gk1} (hf : ∀ s a, s.Canon → (f s a).Canon) (l : List α) {s : Gk1} (h : s.Canon) :
    (l.foldl f s).Canon :=
  foldl_inv Canon hf l h

theorem Canon.ite {p : Prop} [Decidable p] {s t : Gk1} (hs : s.Canon) (ht : t.Canon) : (if p then s else t).Canon := by
  split
  · exact hs
  · exact ht

variable {s t : Gk1}

/-! ### The region cache (R389-R405) -/

theorem Canon.writeBack (h : s.Canon) (gid : Nat) (L : Line) : (s.writeBack gid L).Canon := by
  refine foldl_canon (fun s sec h => ?_) _ h
  split
  · exact Mem.wf_writeAll _ _ _ h
  · exact h

theorem Canon.evict (h : s.Canon) (gid : Nat) : (s.evict gid).Canon := by
  unfold Gk1.evict
  split
  · exact h
  · exact (h.writeBack gid _).of_dram rfl

theorem Canon.allocLine (h : s.Canon) (gid ctx : Nat) (stream : Bool) : (s.allocLine gid ctx stream).Canon := by
  unfold Gk1.allocLine
  split
  · exact h
  · dsimp only
    split
    · exact h
    · split
      · exact (h.evict _).of_dram rfl
      · exact h

theorem Canon.cacheWrite (h : s.Canon) {gid sec ctx : Nat} {patch : Mem} (hw : s.cacheWrite gid sec patch ctx = .done t) : t.Canon := by
  have hline : ((s.allocLine gid ctx false).unlist gid sec).Canon := (h.allocLine gid ctx false).of_dram (by simp)
  unfold Gk1.cacheWrite at hw
  dsimp only at hw
  split at hw
  · cases hw
  · split at hw
    · split at hw <;> cases hw
      · exact hline.of_dram (by simp)
      · exact Mem.wf_patch _ _ _ hline
    · split at hw
      · cases hw
      · split at hw
        · cases hw
        · split at hw <;> cases hw
          exact h.of_dram (by simp)

theorem Canon.cacheRead (h : s.Canon) {gid sec : Nat} (hr : s.cacheRead gid sec = .done t) : t.Canon :=
  h.of_dram (cacheRead_dram hr)

theorem Canon.poke (h : s.Canon) {gid ofs ctx : Nat} {bytes : List Byte} {stream : Bool}
    (hp : s.poke gid ofs bytes ctx stream = .ok t) : t.Canon := by
  unfold Gk1.poke at hp
  dsimp only at hp
  split at hp
  · cases hp
  · split at hp <;> cases hp
    · next hw =>
      refine Canon.cacheWrite ?_ hw
      exact h.ite ((h.allocLine gid ctx stream).of_dram rfl)
    · exact Mem.wf_writeAll _ _ _ (h.ite ((h.allocLine gid ctx stream).of_dram rfl))

/-! ### Writes through translation -/

theorem Canon.writeVA (h : s.Canon) {c va : Nat} {enforced : Bool} {bytes : List Byte} (hw : s.writeVA c enforced va bytes = .ok t) :
    t.Canon := by
  unfold Gk1.writeVA at hw
  split at hw
  · cases hw
  · cases hw; exact h.of_dram (by simp)
  · split at hw
    · cases hw
    · exact h.poke hw

theorem Canon.writeRange (h : s.Canon) (c : Nat) (enforced : Bool) (ps : List (Nat × Nat)) (bs : List Byte) :
    (s.writeRange c enforced ps bs).1.Canon := by
  induction ps generalizing s bs with
  | nil => exact h
  | cons p ps ih =>
    unfold Gk1.writeRange
    split
    · exact h
    · next hw => exact ih (h.writeVA hw) _

theorem Canon.of_writeRange (h : s.Canon) {c : Nat} {enforced : Bool} {ps : List (Nat × Nat)} {bs : List Byte} {f : Option Nat}
    (hw : s.writeRange c enforced ps bs = (t, f)) : t.Canon := by
  have hwrote := h.writeRange c enforced ps bs
  rwa [hw] at hwrote

/-! ### Writes that land from the mesh -/

theorem Canon.landSector_done (h : s.Canon) {ctx va : Nat} {enforced peer : Bool} {p : Mem} {u : Gk1}
    (hl : s.landSector ctx enforced peer va p = (.done t, u)) : t.Canon := by
  unfold Gk1.landSector at hl
  split at hl
  · simp at hl
  · split at hl
    · simp at hl
    · split at hl
      · simp at hl
      · split at hl
        · simp only [Prod.mk.injEq, Hit.done.injEq] at hl
          exact hl.1 ▸ foldl_canon (fun s r h => h.of_dram (by simp)) _ h
        · simp at hl
    · split at hl
      · simp at hl
      · dsimp only at hl
        split at hl
        · next hw =>
          simp only [Prod.mk.injEq, Hit.done.injEq] at hl
          exact hl.1 ▸ (h.cacheWrite hw).of_dram (by simp)
        · simp at hl
        · simp at hl

@[simp] theorem landSector_dram (s : Gk1) (ctx : Nat) (enforced peer : Bool) (va : Nat) (p : Mem) :
    (s.landSector ctx enforced peer va p).2.dram = s.dram := by
  unfold Gk1.landSector
  dsimp only
  repeat' split
  all_goals simp

end Gk1

/-- The state that an attempt to land a write leaves. -/
def Land.state : Land → Gk1
  | .wait s => s
  | .done s _ _ => s

namespace Gk1

variable {s t : Gk1}

theorem Canon.landSectors (h : s.Canon) (ctx : Nat) (enforced peer : Bool) (base : Nat) (p : Mem) (l : List Nat) (n : Nat)
    (f : Option Nat) : (s.landSectors ctx enforced peer base p l n f).state.Canon := by
  induction l generalizing s n f with
  | nil => exact h
  | cons sec l ih =>
    have hwait := landSector_dram s ctx enforced peer (sec * 32) (patchIn base sec p)
    unfold Gk1.landSectors
    split
    · next hs => exact ih (h.landSector_done hs) _ _
    · next hs => rw [hs] at hwait; exact h.of_dram hwait
    · exact ih h _ _

theorem Canon.land (h : s.Canon) (m : Msg) : (s.land m).state.Canon := by
  unfold Gk1.land
  split
  · split
    · exact h
    · split
      · exact h
      · exact h.of_dram (by dsimp only [Land.state]; simp)
  · have hs := (h.of_dram (writeBytes_dram s m)).landSectors m.ctx m.enforced m.pkt.isSome
    dsimp only
    split
    · next hl => exact (congrArg (fun l => (Land.state l).Canon) hl).mp (hs _ _ _ _ _)
    · next hl => exact (congrArg (fun l => (Land.state l).Canon) hl).mp (hs _ _ _ _ _)
  · exact h
  · exact h

theorem Canon.tryWrite (h : s.Canon) (id : Nat) (m : Msg) : (s.tryWrite id m).Canon := by
  have hland := h.land m
  have hgo : (if s.drainBefore id m then s else match s.land m with
      | .wait s' => s'.sendAway id m
      | .done s' n f => s'.wrote id m n f).Canon := by
    split
    · exact h
    · split
      · next hl => rw [hl] at hland; exact hland.of_dram (sendAway_dram _ _ _)
      · next hl => rw [hl] at hland; exact hland.of_dram (wrote_dram _ _ _ _ _)
  unfold Gk1.tryWrite
  dsimp only
  split
  · exact hgo
  · split
    · exact h.of_dram (by simp)
    · split
      · exact hgo
      · split
        · exact h
        · split
          · split
            · exact h.of_dram (by simp)
            · exact h.of_dram (by simp)
          · exact h.of_dram (by simp)

theorem Canon.arrive (h : s.Canon) (id : Nat) (m : Msg) : (s.arrive id m).Canon := by
  unfold Gk1.arrive
  dsimp only
  split
  · exact h.tryWrite id m
  · exact foldl_canon (fun s k h => h.tryWrite _ _) _ (h.tryWrite id m)

theorem Canon.atomAt (h : s.Canon) (id va : Nat) (m : Msg) : (s.atomAt id va m).Canon := by
  unfold Gk1.atomAt
  dsimp only
  split
  · exact h.of_dram (by simp)
  · split
    · exact h
    · split
      · exact h.of_dram (by simp)
      · split
        · exact h.of_dram (by simp)
        · exact h.of_dram (by simp)
        · split
          · exact h.of_dram (by simp)
          · split
            · exact h.of_dram (by simp)
            · exact h.of_dram (by simp)
            · split
              · next hw => exact (h.cacheWrite hw).of_dram (by simp)
              · exact h
              · exact h.of_dram (by simp)

theorem Canon.carryOut (h : s.Canon) (rid : Nat) (sel : Gk1 → Msg → Bool) : (s.carryOut rid sel).1.Canon := by
  unfold Gk1.carryOut
  refine foldl_inv (fun r : Gk1 × Bool => r.1.Canon) (fun r e h => ?_) _ h
  split
  · exact h.arrive _ _
  · exact h

theorem Canon.runCommit (h : s.Canon) (cl : Nat) (o : WOp) (g : WGroup) : (s.runCommit cl o g).Canon := by
  unfold Gk1.runCommit
  extract_lets ctx enf out base msgs st s₁ s₂ s₃ s₄ s₅ r s₆ bad a s₇ s₈
  have h₂ : s₂.Canon := h.of_dram rfl
  clear_value s₂
  have h₃ : s₃.Canon := foldl_canon (fun s m h => h.of_dram (by simp)) _ h₂
  clear_value s₃
  have h₄ : s₄.Canon := h₃.of_dram (by simp [s₄])
  clear_value s₄
  have h₅ : s₅.Canon := by
    unfold s₅
    split
    · exact h₄.of_dram (accessFault_dram _ _ _ _ _ _ _)
    · exact h₄
  clear_value s₅
  have h₆ : s₆.Canon := h₅.carryOut _ _
  have h₈ : s₈.Canon := by
    unfold s₈
    split
    · exact h₆.of_dram rfl
    · exact h₆.of_dram rfl
  exact h₈.of_dram (by simp)

/-! ### Kernels: plans and launches -/

theorem Canon.planRecord (h : s.Canon) (q : Nat) (d : Desc) : (s.planRecord q d).Canon := by
  unfold Gk1.planRecord
  dsimp only
  split
  · exact h
  · split
    · exact h.of_dram rfl
    · split
      · next hw => exact ((h.of_dram (modQueue_dram s q _)).of_writeRange hw).of_dram (by simp)
      · next hw => exact ((h.of_dram (modQueue_dram s q _)).of_writeRange hw).of_dram (by simp)

theorem Canon.startNormal (h : s.Canon) (q : Nat) (d : Desc) : (s.startNormal q d).Canon := by
  unfold Gk1.startNormal
  dsimp only
  split
  · exact h.of_dram (by simp)
  · exact (h.of_dram (by simp)).planRecord q d

theorem Canon.clearRegion (h : s.Canon) (r : Nat) : (s.clearRegion r).Canon := by
  unfold Gk1.clearRegion
  split
  · exact h
  · exact (foldl_canon (fun s e h => h.evict e.1) _ (h.of_dram (wipeRegion_dram s r))).of_dram rfl

theorem Canon.tryLaunch (h : s.Canon) (kid : Nat) : (s.tryLaunch kid).Canon := by
  unfold Gk1.tryLaunch
  split
  · exact h
  · next K _ =>
    have hclear := foldl_canon (fun s r h => h.clearRegion r) K.desc.regions h
    split
    · exact h.of_dram (by simp)
    · split
      · exact h.of_dram rfl
      · dsimp only
        split
        · exact hclear.of_dram (by simp)
        · next hload =>
          have hasks := foldl_dram fun s n => modCluster_dram s n fun c => { c with asking := some kid }
          exact (hclear.of_dram (loadCode_dram hload)).of_dram (by simp [hasks])

/-! ### Words of frames: objects and fences -/

theorem Canon.putFrameWord (h : s.Canon) (c frame ofs v : Nat) : (s.putFrameWord c frame ofs v).Canon := by
  unfold Gk1.putFrameWord
  split
  · exact h
  · split
    · next hp => exact h.poke hp
    · exact h

theorem Canon.putCb (h : s.Canon) (c ofs v : Nat) : (s.putCb c ofs v).Canon := h.putFrameWord _ _ _ _

theorem Canon.setEntryState (h : s.Canon) (c : Nat) (isFence : Bool) (n v : Nat) : (s.setEntryState c isFence n v).Canon :=
  h.putCb _ _ _

theorem Canon.startRelease (h : s.Canon) (c : Nat) (isFence : Bool) (n : Nat) : (s.startRelease c isFence n).Canon :=
  (foldl_canon (fun s q h => h.of_dram (by simp)) _ (h.setEntryState c isFence n 2)).of_dram rfl

theorem Canon.writeCount (h : s.Canon) (c : Nat) (isFence : Bool) (n : Nat) (zero : Bool) :
    (s.writeCount c isFence n zero).1.Canon := by
  unfold Gk1.writeCount
  dsimp only
  split
  · exact (h.startRelease _ _ _).ite h
  · split
    · exact h.setEntryState _ _ _ _
    · split
      · exact (h.setEntryState _ _ _ _).of_dram rfl
      · exact h

theorem Canon.release (h : s.Canon) (c : Nat) (isFence : Bool) (n : Nat) : (s.release c isFence n).Canon :=
  ((h.of_dram (modCtx_dram s c _)).setEntryState c isFence n 3).of_dram (releaseLog_dram _ _ _ _)

theorem Canon.signalFence (h : s.Canon) (c n value queue : Nat) : (s.signalFence c n value queue).Canon := by
  have ht : (s.trace 7 c queue n (leBytes 8 value)).Canon := h.of_dram (trace_dram _ _ _ _ _ _)
  unfold Gk1.signalFence
  dsimp only
  split
  · split
    · exact ht
    · exact (ht.putCb _ _ _).of_dram (markWatched_dram _ _ _)
  · exact ht

theorem Canon.abandonFence (h : s.Canon) (c n : Nat) : (s.abandonFence c n).Canon :=
  ((h.putCb _ _ _).putCb _ _ _).of_dram (markWatched_dram _ _ _)

theorem Canon.writeF2 (h : s.Canon) (c n v : Nat) : (s.writeF2 c n v).Canon := by
  have hput := h.putCb c (fenceOfs n 2) v
  unfold Gk1.writeF2
  extract_lets old s₁ r s₂ d s₃
  have hr : r.1.Canon := hput.writeCount _ _ _ _
  have h₂ : s₂.Canon := ((hr.putCb _ _ _).putCb _ _ _).ite hr
  have h₃ : s₃.Canon :=
    ((h₂.of_dram (draw_dram s₂)).putCb _ _ _).ite ((h₂.of_dram (markWatched_dram _ _ _)).ite h₂)
  exact (h₃.abandonFence c n).ite h₃

theorem Canon.startSignal (h : s.Canon) (q : Nat) (d : Desc) : (s.startSignal q d).Canon :=
  (h.of_dram (finishWith_dram _ _ _ _)).ite ((h.signalFence _ _ _ _).of_dram (finishWith_dram _ _ _ _))

/-! ### Table writes and COPY -/

theorem Canon.tableWrite (h : s.Canon) (c frame ofs v : Nat) : (s.tableWrite c frame ofs v).Canon := by
  unfold Gk1.tableWrite
  split
  · exact h.putFrameWord _ _ _ _
  · split
    · exact ((h.putFrameWord _ _ _ _).writeCount _ _ _ _).ite h
    · dsimp only
      split
      · exact h
      · exact h
      · exact h.writeF2 _ _ _
      · exact h
      · exact h.putFrameWord _ _ _ _

theorem Canon.tableWords (h : s.Canon) (c frame ofs : Nat) (bs : List Byte) : (s.tableWords c frame ofs bs).Canon :=
  foldl_canon (fun _ _ h => h.tableWrite _ _ _ _) _ h

theorem Canon.tablePiece (h : s.Canon) (c frame ofs : Nat) (bs : List Byte) : (s.tablePiece c frame ofs bs).Canon := by
  unfold Gk1.tablePiece
  refine Canon.tableWords ?_ _ _ _ _
  split
  · split
    · split
      · next hp => exact h.poke hp
      · exact h
    · exact h
  · exact h

theorem Canon.writeUpTo (h : s.Canon) (q : Nat) (ps : List (Nat × Nat)) (bs : List Byte) (n : Nat) :
    (s.writeUpTo q ps bs n).1.Canon := by
  induction ps generalizing s bs n with
  | nil => exact h
  | cons p ps ih =>
    unfold Gk1.writeUpTo
    split
    · split
      · exact h
      · exact ih (h.tablePiece _ _ _ _) _ _
    · split
      · exact h
      · next hw => exact ih (h.writeVA hw) _ _

/-! ### Teardown -/

theorem Canon.endTeardown (h : s.Canon) (c : Nat) : (s.endTeardown c).Canon := by
  unfold Gk1.endTeardown
  extract_lets s₁ s₂ s₃ s₄ s₅ s₆ s₇ s₈ s₉ s₁₀
  have h₂ : s₂.Canon := h.of_dram (refuseWaiting_dram s c)
  have h₃ : s₃.Canon := foldl_canon (fun s n h => h.abandonFence c n) _ h₂
  clear_value s₃
  have h₄ : s₄.Canon := foldl_canon (fun s w h => h.of_dram (sendValue_dram _ _ _ _)) _ h₃
  clear_value s₄
  have h₅ : s₅.Canon := h₄.of_dram (pruneWatches_dram _)
  clear_value s₅
  have h₇ : s₇.Canon := h₅.of_dram (unown_dram _ _)
  clear_value s₇
  have h₈ : s₈.Canon := foldl_canon (fun s n h => h.release c false n) _ h₇
  clear_value s₈
  have h₉ : s₉.Canon := foldl_canon (fun s n h => h.release c true n) _ h₈
  clear_value s₉
  exact h₉.of_dram ((modCtx_dram _ _ _).trans (setReg_dram _ _ _ _))

/-! ### Snapshots -/

theorem Canon.failSnap (h : s.Canon) (id : Nat) (S : Snap) (code addr : Nat) : (s.failSnap id S code addr).Canon := by
  have hf : (bulkFault { s with snaps := NMap.erase s.snaps id } S.queue code addr).Canon := h.of_dram (bulkFault_dram _ _ _ _)
  unfold Gk1.failSnap
  dsimp only
  split
  · exact hf.abandonFence _ _
  · exact hf

theorem Canon.snapWrite (h : s.Canon) (id : Nat) (S : Snap) (b : Nat) (bs : List Byte) : (s.snapWrite id S b bs).1.Canon := by
  unfold Gk1.snapWrite
  dsimp only
  split
  · exact foldl_canon (fun s p h => h.of_dram (post_dram _ _ _)) _ h
  · split
    · next hw => exact h.of_writeRange hw
    · next hw => exact (h.of_writeRange hw).of_dram (hasWritten_dram _ _ _ _)
  · split
    · exact h
    · exact h.of_dram (writePeer_dram _ _ _ _ _ _ _)

theorem Canon.of_snapWrite (h : s.Canon) {id : Nat} {S : Snap} {b : Nat} {bs : List Byte} {f : Option (Nat × Nat)}
    (hw : s.snapWrite id S b bs = (t, f)) : t.Canon := by
  have hwrote := h.snapWrite id S b bs
  rwa [hw] at hwrote

/-- The blocks of other snapshots that the write of block `b` would overwrite, copied first. -/
def copyEarlier (fuel : Nat) (S : Snap) (b : Nat) (s : Gk1) : Gk1 :=
  if S.kind ≠ 1 || s.snaps.length < 2 then s else
    (sectors (S.w 3 + 65536 * b) 65536).foldl (fun (s : Gk1) (p : Nat × Nat) => match s.snapOf S.ctx p.1 with
      | some (i, c) => match NMap.get? s.snaps i with
        | some T => Machine.copyBlock fuel s i T c
        | none => s
      | none => s) s

/-- One block read and written, with `earlier` done between the two: `Machine.copyBlock` at every fuel. -/
def copyOne (earlier : Gk1 → Gk1) (s : Gk1) (id : Nat) (S : Snap) (b : Nat) : Gk1 :=
  match s.snapRead S (sectors (S.src + 65536 * b) 65536) with
  | .error (e, a) => s.failSnap id S e a
  | .ok bs =>
    let read := insertNat b S.read
    let S' : Snap := { S with read := read, wanted := S.wanted.filter (· ≠ b), early := earlyBlocks S.blocks read }
    match (earlier ({ s with snaps := NMap.set s.snaps id S' }.hasRead S.ctx (S.src + 65536 * b) 65536)).snapWrite id S b bs with
    | (s, none) => s
    | (s, some (e, a)) => s.failSnap id S' e a

theorem copyBlock_zero (s : Gk1) (id : Nat) (S : Snap) (b : Nat) :
    Machine.copyBlock 0 s id S b = s.copyOne (fun s => s) id S b := by
  delta Machine.copyBlock
  rfl

theorem copyBlock_succ (fuel : Nat) (s : Gk1) (id : Nat) (S : Snap) (b : Nat) :
    Machine.copyBlock (fuel + 1) s id S b = s.copyOne (copyEarlier fuel S b) id S b := by
  unfold copyOne copyEarlier
  delta Machine.copyBlock
  rfl

theorem Canon.copyOne {earlier : Gk1 → Gk1} (hearlier : ∀ {s : Gk1}, s.Canon → (earlier s).Canon) (h : s.Canon) (id : Nat)
    (S : Snap) (b : Nat) : (s.copyOne earlier id S b).Canon := by
  have hread : ∀ m (a n : Nat), (({ s with snaps := m } : Gk1).hasRead S.ctx a n).Canon :=
    fun _ _ _ => h.of_dram (hasRead_dram _ _ _ _)
  unfold Gk1.copyOne
  split
  · exact h.failSnap _ _ _ _
  · dsimp only
    split
    · next hw => exact (hearlier (hread _ _ _)).of_snapWrite hw
    · next hw => exact ((hearlier (hread _ _ _)).of_snapWrite hw).failSnap _ _ _ _

theorem Canon.machine_copyBlock (fuel : Nat) (h : s.Canon) (id : Nat) (S : Snap) (b : Nat) :
    (Machine.copyBlock fuel s id S b).Canon := by
  induction fuel generalizing s id S b with
  | zero =>
    rw [copyBlock_zero]
    exact h.copyOne (fun h => h) _ _ _
  | succ fuel ih =>
    rw [copyBlock_succ]
    refine h.copyOne (fun h => h.ite (foldl_canon (fun s p h => ?_) _ h)) _ _ _
    split
    · split
      · exact ih h _ _ _
      · exact h
    · exact h

theorem Canon.copyBlock (h : s.Canon) (id : Nat) (S : Snap) (b : Nat) : (s.copyBlock id S b).Canon :=
  h.machine_copyBlock _ id S b

theorem Canon.readUp (h : s.Canon) (i b : Nat) : (s.readUp i b).Canon := by
  unfold Gk1.readUp
  split
  · exact h
  · split
    · exact h.copyBlock _ _ _
    · refine foldl_canon (fun s k h => ?_) _ h
      split
      · exact h.copyBlock _ _ _
      · exact h

theorem Canon.readAhead (h : s.Canon) (ctx va n : Nat) : (s.readAhead ctx va n).Canon := by
  refine foldl_canon (fun s p h => foldl_canon (fun s _ h => ?_) _ h) _ h
  split
  · exact h.readUp _ _
  · exact h

theorem Canon.faultSnap (h : s.Canon) (id code addr : Nat) : (s.faultSnap id code addr).Canon := by
  unfold Gk1.faultSnap
  split
  · have hmsgs : ∀ m, ({ s with msgs := m } : Gk1).Canon := fun _ => h
    exact (hmsgs _).failSnap _ _ _ _
  · exact h

/-! ### Answers of peers -/

theorem Canon.peerFault (h : s.Canon) (id : Nat) (m : Msg) (a : Packet) (code : Nat) : (s.peerFault id m a code).Canon := by
  unfold Gk1.peerFault
  split
  · exact h.of_dram (by simp)
  · split
    · exact (h.of_dram (delMsg_dram s id)).faultSnap _ _ _
    · exact h.of_dram (by simp)
  · exact h.of_dram (by simp)
  all_goals exact h.of_dram (peerDone_dram _ _ _ _)

theorem Canon.takeAnswer (h : s.Canon) (a : Packet) : (s.takeAnswer a).Canon := by
  have hs : (if pResult a = 4 then s else { s with unreachable := s.unreachable.filter (· ≠ pSrc a) }).Canon :=
    h.ite (h.of_dram rfl)
  unfold Gk1.takeAnswer
  dsimp only
  split
  · split
    · exact hs.of_dram (peerDone_dram _ _ _ _)
    · exact hs.of_dram rfl
    · exact hs.peerFault _ _ _ _
    · exact hs.peerFault _ _ _ _
    · exact hs.of_dram rfl
    · exact hs
  · exact (hs.of_dram (watchRetry_dram _ _)).ite hs

/-! ### Scrubbing and self-test -/

theorem Canon.scrubWord (h : s.Canon) (gid sec : Nat) (err : List (Nat × Nat)) : (s.scrubWord gid sec err).Canon := by
  unfold Gk1.scrubWord
  dsimp only
  split
  · exact h
  · split
    · exact h.of_dram (uncorrectable_dram _ _ _)
    · split
      · exact h
      · exact foldl_canon (fun s l h => h.of_dram (by simp)) _ (Mem.wf_writeAll _ _ _ h)

theorem Canon.flushCache (h : s.Canon) (r : Nat) : (s.flushCache r).Canon :=
  foldl_canon (fun _ e h => h.evict e.1) _ h

theorem Canon.testUnit (h : s.Canon) (kind u : Nat) (bad : List Nat) : (s.testUnit kind u bad).1.Canon := by
  unfold Gk1.testUnit
  extract_lets R bad' tested s₁
  have hswept : s₁.Canon := foldl_canon (fun s k h => h.of_dram (applySupp_dram _ _)) _ h
  clear_value s₁ bad'
  split
  · exact hswept
  · exact h.of_dram rfl
  · exact h
  · exact h.flushCache u

/-! ### The gradient exchange -/

theorem Canon.statusBlock (h : s.Canon) (J : Job) (key queue : Nat) : (s.statusBlock J key queue).Canon := by
  unfold Gk1.statusBlock
  dsimp only
  split
  · next hw => exact ((h.readAhead _ _ _).of_writeRange hw).of_dram (hasWritten_dram _ _ _ _)
  · next hw => exact ((h.readAhead _ _ _).of_writeRange hw).of_dram (faultBucket_dram _ _ _ _)

theorem Canon.contribute (h : s.Canon) (key : Nat) (B : Bucket) (J : Job) (dispatch g : Nat) :
    (s.contribute key B J dispatch g).Canon := by
  unfold Gk1.contribute
  extract_lets first enf a e x ef s₁ n dst
  have h₁ : s₁.Canon := h
  clear_value s₁ x ef
  split
  · exact h₁.of_dram (faultBucket_dram _ _ _ _)
  · exact h₁.of_dram (faultBucket_dram _ _ _ _)
  · extract_lets c s₂ w s₃ ps s₄
    have h₂ : s₂.Canon := h₁.of_dram (countCtx_dram _ _ _ _)
    clear_value s₂
    have hw : w.1.Canon := by
      unfold w
      split
      · exact h₂
      · exact (h₂.readAhead _ _ _).writeRange _ _ _ _
    have h₃ : s₃.Canon := by
      unfold s₃
      split
      · exact hw.of_dram (faultBucket_dram _ _ _ _)
      · exact hw.of_dram (countCtx_dram _ _ _ _)
    clear_value s₃
    exact (foldl_canon (fun s p h => h.of_dram (sendExch_dram _ _ _ _ _ _ _ _ _)) _ h₃).of_dram (sendExch_dram _ _ _ _ _ _ _ _ _)

theorem Canon.startBucket (h : s.Canon) (q : Nat) (d : Desc) : (s.startBucket q d).Canon := by
  unfold Gk1.startBucket
  dsimp only
  split
  · exact h.of_dram (finishWith_dram _ _ _ _)
  · split
    · exact h.of_dram (finishWith_dram _ _ _ _)
    · refine Canon.of_dram ?_ (finishWith_dram _ _ _ _)
      exact foldl_canon (fun s g h => h.contribute _ _ _ _ _) _ h

theorem Canon.putShard {r : Gk1 × Option (Nat × Nat)} (h : r.1.Canon) (B : Bucket) (a : Nat) (xs : List Nat) :
    (Gk1.putShard r B a xs).1.Canon := by
  have hw := (h.readAhead B.ctx a 16384).writeRange B.ctx (r.1.qEnforced B.queue) (sectors a 16384) (xs.flatMap (leBytes 4))
  unfold Gk1.putShard
  split
  · exact h
  · exact (hw.of_dram (countCtx_dram _ _ _ _)).ite hw

theorem Canon.applied (h : s.Canon) (key : Nat) (B : Bucket) (J : Job) (seed g : Nat) (r : List (Nat × Nat × Nat) × Nat) :
    (s.applied key B J seed g r).1.Canon := by
  unfold Gk1.applied
  extract_lets a w t₁ t₂ t₃
  have h₁ : t₁.1.Canon := Canon.putShard h _ _ _
  clear_value t₁
  have h₂ : t₂.1.Canon := by
    unfold t₂
    split
    · exact h₁
    · exact h₁.putShard _ _ _
  clear_value t₂
  have h₃ : t₃.1.Canon := by
    unfold t₃
    split
    · exact h₂.putShard _ _ _
    · exact h₂
  clear_value t₃
  split
  · exact h₃.of_dram (faultBucket_dram _ _ _ _)
  · exact h₃.of_dram (distribute_dram _ _ _ _ _ _)

theorem Canon.applyChunk (h : s.Canon) (key : Nat) (B : Bucket) (J : Job) (hy : Hyper) (c : Chunk) :
    (s.applyChunk key B J hy c).1.Canon := by
  unfold Gk1.applyChunk
  dsimp only
  split
  · exact (h.of_dram (countCtx_dram _ _ _ _)).applied _ _ _ _ _ _
  all_goals exact h.of_dram (faultBucket_dram _ _ _ _)

theorem Canon.applyBucket (h : s.Canon) (key : Nat) (B : Bucket) (J : Job) : (s.applyBucket key B J).Canon := by
  unfold Gk1.applyBucket
  extract_lets hp s₁ s₂
  have h₁ : s₁.Canon := h
  have h₂ : s₂.Canon := h₁.of_dram (hasRead_dram _ _ _ _)
  clear_value s₁ hp
  split
  · exact h₁.of_dram (faultBucket_dram _ _ _ _)
  · next bs =>
    extract_lets r
    have hstep : ∀ (a : Gk1 × Nat) c, a.1.Canon → (a.1.applyChunk key B J (hyperOf bs) c).1.Canon :=
      fun a c h => h.applyChunk _ _ _ _ _
    have hr : r.1.Canon :=
      foldl_inv (fun a : Gk1 × Nat => a.1.Canon)
        (f := fun a c => ((a.1.applyChunk key B J (hyperOf bs) c).1, a.2 + (a.1.applyChunk key B J (hyperOf bs) c).2))
        hstep B.chunks (a := (s₂, 0)) h₂
    exact hr.of_dram rfl

theorem Canon.judgeBucket (h : s.Canon) (key : Nat) (B : Bucket) (J : Job) : (s.judgeBucket key B J).Canon := by
  have hs : ({ s with buckets := NMap.set s.buckets key B } : Gk1).Canon := h
  unfold Gk1.judgeBucket
  dsimp only
  split
  · exact h.of_dram (redispatch_dram _ _ _ _)
  · exact (hs.applyBucket _ _ _).ite hs

/-- What an exchange packet does keeps the form when what it does for its job and rank does. -/
theorem Canon.takeExch (h : s.Canon) (port : Nat) (p : Packet) {run : Job → Nat → Gk1} (hrun : ∀ J r, (run J r).Canon) :
    (s.takeExch port p run).Canon := by
  have hrefuse : (s.reply p 2 0 []).Canon := h.of_dram (reply_dram _ _ _ _ _)
  unfold Gk1.takeExch
  dsimp only
  split
  · exact h.of_dram (reply_dram _ _ _ _ _)
  · split
    · exact (h.ite (h.of_dram (countDrop_dram _ _))).of_dram (reply_dram _ _ _ _ _)
    · exact hrefuse
    · split
      · exact (hrun _ _).ite hrefuse
      · exact hrefuse

theorem Canon.takeContrib (h : s.Canon) (port : Nat) (p : Packet) (f : Job → Nat → Chunk → Chunk) :
    (s.takeContrib port p f).Canon := by
  have hreply : ∀ r, (s.reply p r 0 []).Canon := fun r => h.of_dram (reply_dram _ _ _ _ _)
  refine h.takeExch port p fun J r => ?_
  dsimp only
  split
  · exact hreply 2
  · split
    · exact hreply 1
    · split
      · exact hreply 1
      · exact (hreply 0).ite ((hreply 0).judgeBucket _ _ _)

theorem Canon.tryComplete (h : s.Canon) (key : Nat) : (s.tryComplete key).Canon := by
  unfold Gk1.tryComplete
  split
  · exact h
  · split
    · exact h
    · split
      · exact h
      · extract_lets s₁ J' s₂ s₃
        have h₁ : s₁.Canon := h.signalFence _ _ _ _
        have hjobs : ∀ m, ({ s₁ with jobs := m } : Gk1).Canon := fun _ => h₁
        have h₂ : s₂.Canon := (hjobs _).statusBlock _ _ _
        exact h₂.of_dram (trace_dram _ _ _ _ _ _)

theorem Canon.judgeLanded (h : s.Canon) (key g : Nat) : (s.judgeLanded key g).Canon := by
  have hbuckets : ∀ m, ({ s with buckets := m } : Gk1).Canon := fun _ => h
  exact (hbuckets _).tryComplete key

theorem Canon.landParam (h : s.Canon) (c a : Nat) (bs : List Byte) : (s.landParam c a bs).1.Canon := by
  refine foldl_inv (fun x : (Gk1 × Option Nat) × List Byte => x.1.1.Canon) (fun x q h => ?_) _ (h.readAhead c a bs.length)
  split
  · next hw => exact h.writeVA hw
  · exact h

/-! ### What is left without power -/

theorem canon_unpowered (s : Gk1) (p : PartState) : (s.unpowered p).Canon := rfl

theorem canon_partReset (s : Gk1) : s.partReset.Canon := by
  unfold Gk1.partReset
  generalize ht : Gk1.mk .. = t
  have hc : t.Canon := by rw [← ht]; rfl
  exact hc.of_dram (by simp)

end Gk1

end Sys2Proof.Machine

namespace Sys2Proof.Machine

/-! ## What every command answers -/

/-- The answer is a next part, whose device memory is canonical when it was before. -/
def Runs (s : Gk1) : Out → Prop
  | .next t => s.Canon → t.Canon
  | _ => False

/-- The answer is `noSuchUnit` exactly when the units do not exist, and else a next part that keeps memory canonical. -/
def Steps (exist : Prop) (s : Gk1) (o : Out) : Prop :=
  (exist → Runs s o) ∧ (¬ exist → o = .fault .noSuchUnit)

theorem Runs.next {s t : Gk1} (h : s.Canon → t.Canon) : Runs s (.next t) := h

theorem Runs.of_dram {s t : Gk1} (h : t.dram = s.dram) : Runs s (.next t) := fun hs => hs.of_dram h

theorem Runs.ite {s : Gk1} {c : Prop} [Decidable c] {a b : Out} (ha : c → Runs s a) (hb : ¬ c → Runs s b) :
    Runs s (if c then a else b) := by
  split
  · next h => exact ha h
  · next h => exact hb h

/-- An operation that stops when its units do not exist, and runs when they do. -/
theorem Steps.guard {exist : Prop} {s : Gk1} {c : Prop} [Decidable c] {o : Out} (hc : c ↔ ¬ exist) (h : exist → Runs s o) :
    Steps exist s (if c then .fault .noSuchUnit else o) :=
  ⟨fun he => by rw [if_neg (fun hn => hc.1 hn he)]; exact h he, fun hn => by rw [if_pos (hc.2 hn)]⟩

theorem Steps.always {s : Gk1} {o : Out} (h : Runs s o) : Steps True s o := ⟨fun _ => h, fun hn => absurd trivial hn⟩

/-! ### Instructions that groups issue -/

/-- An issued instruction leaves device memory as it was: stores to it travel as messages. -/
def Iss.Keeps (s : Gk1) : Iss → Prop
  | .ok t => t.dram = s.dram
  | .jump t => t.dram = s.dram
  | _ => True

@[simp] theorem Iss.keeps_ok (s t : Gk1) : (Iss.ok t).Keeps s ↔ t.dram = s.dram := Iff.rfl
@[simp] theorem Iss.keeps_jump (s t : Gk1) : (Iss.jump t).Keeps s ↔ t.dram = s.dram := Iff.rfl
@[simp] theorem Iss.keeps_fault (s : Gk1) (c : Nat) : (Iss.fault c).Keeps s := trivial
@[simp] theorem Iss.keeps_stall (s : Gk1) (c : Stall) : (Iss.stall c).Keeps s := trivial
@[simp] theorem Iss.keeps_hold (s : Gk1) : Iss.hold.Keeps s := trivial
@[simp] theorem Iss.keeps_done (i : GI) (G : Group) : (i.done G).Keeps i.s := by simp [GI.done]

@[simp] theorem Iss.keeps_ite (s : Gk1) (c : Prop) [Decidable c] (a b : Iss) :
    (if c then a else b).Keeps s ↔ (c → a.Keeps s) ∧ (¬ c → b.Keeps s) := by
  split
  · next h => exact ⟨fun ha => ⟨fun _ => ha, fun hn => absurd h hn⟩, fun ha => ha.1 h⟩
  · next h => exact ⟨fun hb => ⟨fun hc => absurd hc h, fun _ => hb⟩, fun hb => hb.2 h⟩

/-- The core and the slot exist. -/
def GroupExists (core grp : Nat) : Prop := core < 1024000 ∧ grp < 8

theorem coreGuard_iff (core grp : Nat) :
    (!(coreOk core && decide (grp < 8))) = true ↔ ¬ GroupExists core grp := by
  rw [Bool.not_eq_true', ← Bool.not_eq_true, coreOk, Bool.and_eq_true, decide_eq_true_eq, decide_eq_true_eq]
  rfl

theorem issue_steps {maj : Nat} {isOp : Nat → Bool} {ok : Nat → Nat → Bool} {regs : Nat → List Nat} {vport : Nat}
    {run : GI → Iss} (hrun : ∀ i, (run i).Keeps i.s) (core grp : Nat) (s : Gk1) :
    Steps (GroupExists core grp) s (issue maj isOp ok regs vport run core grp s) := by
  refine Steps.guard (coreGuard_iff core grp) fun _ => ?_
  refine Runs.ite (fun _ => .of_dram rfl) fun _ => Runs.ite (fun _ => .of_dram rfl) fun _ => ?_
  refine Runs.ite (fun _ => .of_dram (by simp)) fun _ => Runs.ite (fun _ => .of_dram rfl) fun _ => ?_
  have hkept := hrun ⟨s, core, grp, (s.core core).word ((s.core core).group grp).pc,
    if isLong maj then (s.core core).word (((s.core core).group grp).pc + 1) else 0⟩
  split
  · next h => exact .of_dram (by simp_all)
  · next h => exact .of_dram (by simp_all)
  · exact .of_dram (by simp)
  · exact .of_dram (by simp)
  · exact .of_dram rfl

end Sys2Proof.Machine

namespace Sys2Proof.Machine

variable (core grp : Nat) (s : Gk1)

/-! ### The requests that instructions leave behind -/

@[simp] theorem GI.mxReq_dram (i : GI) (kind : ReqKind) : (i.mxReq kind).dram = i.s.dram := rfl

@[simp] theorem GI.accept_dram (i : GI) (kind : ReqKind) (done : Option Nat) (src : Nat) (msgs : List Msg) :
    (i.accept kind done src msgs).dram = i.s.dram :=
  (foldl_dram Gk1.addMsg_dram _ _).trans rfl

@[simp] theorem GI.acceptNs_dram (i : GI) (kind : ReqKind) (done : Option Nat) (a : NsArgs) (f : Nat × Nat × Bool → Msg) :
    (i.acceptNs kind done a f).dram = i.s.dram := by simp [GI.acceptNs]

/-! ### The forms of instructions -/

theorem scalar_steps (maj op : Nat) (u : SUse) (f : Nat → Nat → Nat → Nat × Flg) :
    Steps (GroupExists core grp) s (scalar maj op u f core grp s) := issue_steps (fun i => by simp) core grp s

theorem sint64_steps (op : Nat) (f : Nat → Nat → Nat) : Steps (GroupExists core grp) s (sint64 op f core grp s) :=
  issue_steps (fun i => by simp) core grp s

theorem vec_steps (maj op vport : Nat) (u : VUse) (f : GI → Nat → Nat → Nat → Nat → Nat × Flg) :
    Steps (GroupExists core grp) s (vec maj op vport u f core grp s) := issue_steps (fun i => by simp) core grp s

theorem vcmp_steps (op : Nat) (types : List Nat) (c : Cmp) : Steps (GroupExists core grp) s (vcmp op types c core grp s) :=
  issue_steps (fun i => by simp) core grp s

theorem predOp_steps (op vb : Nat) (f : Bool → Bool → Bool) : Steps (GroupExists core grp) s (predOp op vb f core grp s) :=
  issue_steps (fun i => by simp) core grp s

theorem gatherV_steps (op : Nat) (u : VUse) (f : GI → Nat → Nat) : Steps (GroupExists core grp) s (gatherV op u f core grp s) :=
  issue_steps (fun i => by simp) core grp s

theorem gatherS_steps (op : Nat) (ok : Nat → Bool) (f : GI → Nat) : Steps (GroupExists core grp) s (gatherS op ok f core grp s) :=
  issue_steps (fun i => by simp) core grp s

theorem ctl_steps {op : Nat} {ok : Nat → Bool} {regs : Nat → List Nat} {run : GI → Iss} (hrun : ∀ i, (run i).Keeps i.s) :
    Steps (GroupExists core grp) s (ctl op ok regs run core grp s) := issue_steps hrun core grp s

@[simp] theorem settle_keeps (i : GI) (G : Group) : (settle i G).Keeps i.s := by
  unfold settle
  dsimp only
  split
  · simp
  · split <;> simp

@[simp] theorem braIf_keeps (i : GI) (t : Bool) : (braIf i t).Keeps i.s := by simp [braIf]

theorem vatom_steps (op : Nat) : Steps (GroupExists core grp) s (vatom op core grp s) := issue_steps (fun i => by simp) core grp s

theorem mAtom_steps (op : Nat) : Steps (GroupExists core grp) s (mAtom op core grp s) := issue_steps (fun i => by simp) core grp s

theorem barIns_steps {op : Nat} {ok : Nat → Bool} {regs : Nat → List Nat} {run : GI → Nat → Iss}
    (hrun : ∀ i b, (run i b).Keeps i.s) : Steps (GroupExists core grp) s (barIns op ok regs run core grp s) :=
  issue_steps (fun i => by simp [hrun]) core grp s

theorem doBarInit_steps : Steps (GroupExists core grp) s (doBarInit core grp s) := barIns_steps core grp s fun i b => by simp

theorem fence_steps (sem : Nat) (acq rel : Bool) : Steps (GroupExists core grp) s (fence sem acq rel core grp s) :=
  issue_steps (fun i => by simp) core grp s

theorem tileMem_steps (op : Nat) (writes : Bool) (f : Nat → Nat → Nat → Core → Core) :
    Steps (GroupExists core grp) s (tileMem op writes f core grp s) := issue_steps (fun i => by simp) core grp s

theorem tileRead_steps (op vport : Nat) (ok : Nat → Bool) (f : GI → Nat → Nat) :
    Steps (GroupExists core grp) s (tileRead op vport ok f core grp s) := issue_steps (fun i => by simp) core grp s

theorem tileWrite_steps (op : Nat) (at_ : Nat → Nat → Nat × Nat) :
    Steps (GroupExists core grp) s (tileWrite op at_ core grp s) := issue_steps (fun i => by simp) core grp s

theorem tileRed_steps (op : Nat) (elem : Core → Nat → Nat → Nat → Nat) :
    Steps (GroupExists core grp) s (tileRed op elem core grp s) := issue_steps (fun i => by simp) core grp s

theorem dact_steps (op : Nat) (codes : Nat → Bool) (der : Nat → Nat → Nat → XNum) :
    Steps (GroupExists core grp) s (dact op codes der core grp s) := issue_steps (fun i => by simp) core grp s

theorem cvtUnpack_steps (op : Nat) (f : Fmt) : Steps (GroupExists core grp) s (cvtUnpack op f core grp s) :=
  issue_steps (fun i => by simp) core grp s

theorem wgs_steps {op : Nat} {ok : Nat → Nat → Bool} {regs : Nat → List Nat} {run : GI → Iss} (hrun : ∀ i, (run i).Keeps i.s) :
    Steps (GroupExists core grp) s (wgs op ok regs run core grp s) := issue_steps (fun i => by simp [hrun]) core grp s

theorem gangIns_steps (op : Bool) : Steps (GroupExists core grp) s (gangIns op core grp s) :=
  issue_steps (fun i => by simp) core grp s

theorem mv_steps (op : Nat) (kind : ReqKind) (f : GI → Nat × Nat → Msg) :
    Steps (GroupExists core grp) s (mv op kind f core grp s) := issue_steps (fun i => by simp) core grp s

theorem ns_steps (op : Nat) (put : Bool) (kind : ReqKind) (f : GI → NsArgs → Nat × Nat × Bool → Msg) :
    Steps (GroupExists core grp) s (ns op put kind f core grp s) := issue_steps (fun i => by simp) core grp s

@[simp] theorem GI.keeps_acceptMma (i : GI) (x : MmaArgs) : (i.acceptMma x).Keeps i.s := by simp [GI.acceptMma]

theorem doMma_steps : Steps (GroupExists core grp) s (doMma core grp s) :=
  issue_steps (fun i => by
    simp only [Iss.keeps_ite, Iss.keeps_ok, Iss.keeps_hold, implies_true, true_and]
    intro _ _
    split
    · trivial
    · exact i.keeps_acceptMma _) core grp s

theorem doMmaWg_steps : Steps (GroupExists core grp) s (doMmaWg core grp s) :=
  issue_steps (fun i => by
    simp only [Iss.keeps_ite, Iss.keeps_ok, Iss.keeps_fault, implies_true, true_and]
    intro _ _
    split
    · trivial
    · split
      · trivial
      · simp only [Iss.keeps_ite, Iss.keeps_fault, implies_true, true_and]
        intro _
        split <;> simp) core grp s

theorem doAccDrain_steps : Steps (GroupExists core grp) s (doAccDrain core grp s) :=
  issue_steps (fun i => by
    simp only [Iss.keeps_ite, Iss.keeps_ok, Iss.keeps_hold, implies_true, true_and]
    intro _ _
    split
    · trivial
    · trivial
    · split <;> simp) core grp s

theorem doWgsCommit_steps : Steps (GroupExists core grp) s (doWgsCommit core grp s) :=
  wgs_steps core grp s fun i => by
    dsimp only
    split <;> simp

theorem runs_of_steps {exist : Prop} {o : Out} (he : exist) (h : Steps exist s o) : Runs s o := h.1 he

/-- An instruction issued again runs, on a group that exists. -/
theorem reissue_runs (h : GroupExists core grp) : Runs s (reissue core grp s) := by
  unfold reissue
  dsimp only
  split
  · exact (doMma_steps core grp s).1 h
  · exact (doMmaWg_steps core grp s).1 h
  · exact (doAccDrain_steps core grp s).1 h
  · exact (doWgsCommit_steps core grp s).1 h
  · exact (doBarInit_steps core grp s).1 h
  · exact (mv_steps core grp s _ _ _).1 h
  · exact (mv_steps core grp s _ _ _).1 h
  · exact (ns_steps core grp s _ _ _ _).1 h
  · exact (ns_steps core grp s _ _ _ _).1 h
  · exact .of_dram rfl

theorem resume_steps (st : Stall) : Steps (GroupExists core grp) s (resume st core grp s) := by
  refine Steps.guard (coreGuard_iff core grp) fun h => Runs.ite (fun _ => .of_dram rfl) fun _ => ?_
  have hruns := reissue_runs core grp (s.modGroup core grp fun G => { G with stall := .none }) h
  split
  · next ht =>
    rw [ht] at hruns
    exact Runs.ite (fun _ => .of_dram rfl) fun _ => hruns
  · next o hnot =>
    cases ho : reissue core grp (s.modGroup core grp fun G => { G with stall := .none }) with
    | next t => exact absurd ho (hnot t)
    | fault e => rw [ho] at hruns; exact hruns.elim
    | refused r => rw [ho] at hruns; exact hruns.elim

end Sys2Proof.Machine

namespace Sys2Proof.Machine

/-! ### Descriptors, management commands and packets -/

theorem Runs.from_dram {s t : Gk1} {o : Out} (hd : t.dram = s.dram) (h : Runs t o) : Runs s o := by
  cases o with
  | next u => exact fun hs => h (hs.of_dram hd)
  | fault e => exact h
  | refused r => exact h

theorem Steps.of_dram {exist : Prop} {s t : Gk1} {o : Out} (hd : t.dram = s.dram) (h : Steps exist t o) : Steps exist s o :=
  ⟨fun he => (h.1 he).from_dram hd, h.2⟩

section
variable {run : Desc → Gk1 → Gk1}

theorem onStart_steps (q : Nat) (isRow : Desc → Bool) (s : Gk1) (hrun : ∀ d t, t.Canon → (run d t).Canon) :
    Steps (q < 4096) s (onStart q isRow run s) := by
  refine Steps.guard Nat.not_lt.symm fun _ => Runs.ite (fun _ => .of_dram rfl) fun _ => ?_
  split
  · exact .of_dram rfl
  · next d _ => exact Runs.ite (fun _ h => hrun d _ (h.of_dram (by simp))) fun _ => .of_dram rfl

theorem onStartAfter_steps (q : Nat) (isRow : Desc → Bool) (wait : Desc → Option (Nat × Nat)) (s : Gk1)
    (hrun : ∀ d t, t.Canon → (run d t).Canon) : Steps (q < 4096) s (onStartAfter q isRow wait run s) := by
  refine Steps.of_dram ?_ (onStart_steps q (fun d => isRow d && (wait d).isNone) _ hrun)
  split
  · split
    · simp
    · rfl
  · rfl

theorem onMgmt_runs (sub : Nat) (s : Gk1) (hrun : ∀ d t, t.Canon → (run d t).Canon) : Runs s (onMgmt sub run s) :=
  (onStart_steps 0 _ s fun d t h => Gk1.Canon.ite (h.of_dram (by simp)) (hrun d t h)).1 (by decide)

theorem onMgmtResult_runs (sub : Nat) (len : Desc → Nat) (s : Gk1) (hrun : ∀ d t, t.Canon → (run d t).Canon) :
    Runs s (onMgmtResult sub len run s) :=
  onMgmt_runs sub s fun d t h => Gk1.Canon.ite (h.of_dram (by simp)) (hrun d t h)

theorem onAssign_runs (rel : Bool) (s : Gk1) (hrun : ∀ d t, t.Canon → (run d t).Canon) : Runs s (onAssign rel run s) :=
  (onStart_steps 0 _ s fun d t h =>
    Gk1.Canon.ite (h.of_dram (by simp)) (Gk1.Canon.ite (h.of_dram (by simp)) (hrun d t h))).1 (by decide)

theorem onPlan_steps (op q : Nat) (s : Gk1) (hrun : ∀ d t, t.Canon → (run d t).Canon) :
    Steps (q < 4096) s (onPlan op q run s) :=
  onStart_steps q _ s fun d t h => Gk1.Canon.ite (h.of_dram (by simp)) (hrun d t h)

end

theorem onPacket_steps {deliver : Packet → Gk1 → Gk1} (ok : Nat → Bool) (port : Nat) (p : Packet) (s : Gk1)
    (hdeliver : ∀ p t, t.Canon → (deliver p t).Canon) : Steps (port < 49) s (onPacket ok port p deliver s) := by
  refine Steps.guard Nat.not_lt.symm fun _ => Runs.ite (fun _ => .of_dram rfl) fun _ => ?_
  refine Runs.ite (fun _ => .of_dram (by simp)) fun _ => ?_
  dsimp only
  split
  · exact .of_dram (by simp)
  · exact fun h => hdeliver _ _ (h.of_dram (by simp))
  · exact .of_dram (by split <;> simp)
  · exact .of_dram (by split <;> simp)

theorem mxComplete_steps (kind : MxKind) (core rid : Nat) (s : Gk1) :
    Steps (core < 1024000) s (mxComplete kind core rid s) := by
  refine Steps.guard ?_ fun _ => ?_
  · rw [Bool.not_eq_true', ← Bool.not_eq_true, coreOk, decide_eq_true_eq]
    rfl
  · split
    · exact .of_dram rfl
    · exact Runs.ite (fun _ => .of_dram rfl) fun _ => .of_dram (by simp)

/-! ### Guards -/

theorem guard_one {p : Prop} [Decidable p] : (!decide p) = true ↔ ¬ p := by simp

theorem guard_two {p q : Prop} [Decidable p] [Decidable q] : (!(decide p && decide q)) = true ↔ ¬ (p ∧ q) := by
  rw [Bool.not_eq_true', ← Bool.not_eq_true, Bool.and_eq_true, decide_eq_true_eq, decide_eq_true_eq]

theorem guard_three {p q r : Prop} [Decidable p] [Decidable q] [Decidable r] :
    (!(decide p && decide q && decide r)) = true ↔ ¬ (p ∧ q ∧ r) := by
  rw [Bool.not_eq_true', ← Bool.not_eq_true, Bool.and_eq_true, Bool.and_eq_true, decide_eq_true_eq, decide_eq_true_eq,
    decide_eq_true_eq, and_assoc]

/-! ### Commands -/

/-- A well-formed command answers a next state with the same commands waiting, and any next state keeps memory canonical. -/
def Sound (c : Instr) (s : State) : Prop :=
  (c.wf = true → ∃ t, exec c s = .next t ∧ t.pending = s.pending) ∧ ∀ t, exec c s = .next t → s.Canon → t.Canon

theorem Runs.act {s : State} {f : Gk1 → Out} (h : Runs s.toGk1 (f s.toGk1)) :
    ∃ t, s.act f = .next t ∧ t.pending = s.pending ∧ (s.Canon → t.Canon) := by
  unfold State.act
  revert h
  cases f s.toGk1 with
  | next t => exact fun h => ⟨_, rfl, rfl, h⟩
  | fault e => exact False.elim
  | refused r => exact False.elim

section
variable {c : Instr} {s : State} {f : Gk1 → Out}

theorem Sound.of_steps {exist : Prop} (hf : exec c s = s.act f) (hwf : c.wf = true → exist)
    (h : Steps exist s.toGk1 (f s.toGk1)) : Sound c s := by
  rw [Sound, hf]
  by_cases he : exist
  · obtain ⟨t, ht, hpending, hcanon⟩ := (h.1 he).act
    refine ⟨fun _ => ⟨t, ht, hpending⟩, fun u hu => ?_⟩
    cases ht.symm.trans hu
    exact hcanon
  · refine ⟨fun hc => absurd (hwf hc) he, fun u hu => ?_⟩
    rw [State.act, h.2 he] at hu
    cases hu

theorem Sound.none (hf : exec c s = s.act f) (h : Runs s.toGk1 (f s.toGk1)) : Sound c s :=
  .of_steps (exist := True) hf (fun _ => trivial) (.always h)

theorem Sound.one {a n : Nat} (hf : exec c s = s.act f) (hu : c.units = [(a, n)]) (h : Steps (a < n) s.toGk1 (f s.toGk1)) :
    Sound c s :=
  .of_steps hf (by simp [Instr.wf, hu]) h

theorem Sound.two {a n b m : Nat} (hf : exec c s = s.act f) (hu : c.units = [(a, n), (b, m)])
    (h : Steps (a < n ∧ b < m) s.toGk1 (f s.toGk1)) : Sound c s :=
  .of_steps hf (by simp [Instr.wf, hu]) h

theorem Sound.three {a n b m d l : Nat} (hf : exec c s = s.act f) (hu : c.units = [(a, n), (b, m), (d, l)])
    (h : Steps (a < n ∧ b < m ∧ d < l) s.toGk1 (f s.toGk1)) : Sound c s :=
  .of_steps hf (by simp [Instr.wf, hu]) h

end

end Sys2Proof.Machine

namespace Sys2Proof.Machine

/-! ### Register writes -/

variable (s : Gk1)

theorem doQueueEnable_steps (q : Nat) (w : Option (BitVec 64)) : Steps (q < 4096) s (doQueueEnable q w s) := by
  refine .guard Nat.not_lt.symm fun _ => Runs.ite (fun _ => .of_dram rfl) fun _ => Runs.ite (fun _ => .of_dram (by simp)) fun _ => ?_
  exact .of_dram (by split <;> simp)

theorem doQueueStop_steps (q : Nat) : Steps (q < 4096) s (doQueueStop q s) :=
  .guard Nat.not_lt.symm fun _ => Runs.ite (fun _ => .of_dram rfl) fun _ => .of_dram (by simp)

theorem doQueueAbort_steps (q : Nat) : Steps (q < 4096) s (doQueueAbort q s) :=
  .guard Nat.not_lt.symm fun _ => Runs.ite (fun _ => .of_dram rfl) fun _ => .of_dram (by simp)

theorem doHlResetQueues_runs : Runs s (doHlResetQueues s) := .of_dram (by simp)

theorem doHlResetPart_runs (key : BitVec 16) : Runs s (doHlResetPart key s) := fun h => Gk1.Canon.ite (Gk1.canon_partReset s) h

theorem doFabPortCtlWrite_steps (port : Nat) (v : BitVec 32) : Steps (port < 48) s (doFabPortCtlWrite port v s) :=
  .guard Nat.not_lt.symm fun _ => Runs.ite (fun _ => .of_dram rfl) fun _ => .of_dram (by
    repeat' split
    all_goals simp)

theorem doCkRefCtlWrite_runs (v : BitVec 32) : Runs s (doCkRefCtlWrite v s) := by
  refine Runs.ite (fun _ => .of_dram rfl) fun _ => Runs.ite (fun _ => .of_dram (by simp)) fun _ => ?_
  exact Runs.ite (fun _ => .of_dram (by simp)) fun _ => .of_dram (by simp)

theorem doCkObsCtlWrite_runs (v : BitVec 32) : Runs s (doCkObsCtlWrite v s) :=
  Runs.ite (fun _ => .of_dram rfl) fun _ => Runs.ite (fun _ => .of_dram (by simp)) fun _ => .of_dram (by simp)

theorem doCkRgnCtlWrite_steps (r : Nat) (v : BitVec 32) : Steps (r < 64) s (doCkRgnCtlWrite r v s) :=
  .guard Nat.not_lt.symm fun _ => Runs.ite (fun _ => .of_dram rfl) fun _ => .of_dram (by split <;> simp)

theorem doBootGo_runs : Runs s (doBootGo s) := .of_dram (by split <;> rfl)

theorem doArbCommit_runs (key : BitVec 16) : Runs s (doArbCommit key s) := .of_dram (by split <;> rfl)

theorem doDebugLock_runs (key : BitVec 16) : Runs s (doDebugLock key s) := .of_dram (by split <;> rfl)

theorem doObsCoreselWrite_runs (v : BitVec 32) : Runs s (doObsCoreselWrite v s) := .of_dram (by split <;> rfl)

theorem doObsBarselWrite_runs (v : BitVec 32) : Runs s (doObsBarselWrite v s) := .of_dram (by split <;> rfl)

theorem foldl_resetRegion_dram (rs : List Nat) (c : Cause) :
    (rs.foldl (fun s r => s.resetRegion r c) s).dram = s.dram :=
  foldl_dram (fun s r => Gk1.resetRegion_dram s r c) _ _

theorem doPartitionResetGo_runs (key : BitVec 16) : Runs s (doPartitionResetGo key s) := by
  refine Runs.ite (fun _ => .of_dram rfl) fun _ => ?_
  dsimp only
  split
  · refine Runs.ite (fun _ => .of_dram rfl) fun _ => .of_dram (foldl_resetRegion_dram _ _ _)
  · refine .of_dram ((foldl_resetRegion_dram _ _ _).trans ?_)
    split <;> simp

variable {s}

theorem Runs.settled {u : Gk1} {o : Out} (h : Runs u o) (hd : u.dram = s.dram) (hs : s.Canon) : (settled o s).Canon := by
  cases o with
  | next t => exact h (hs.of_dram hd)
  | fault e => exact hs
  | refused r => exact hs

theorem Steps.settled {exist : Prop} {u : Gk1} {o : Out} (h : Steps exist u o) (hd : u.dram = s.dram) (hs : s.Canon) :
    (settled o s).Canon := by
  by_cases he : exist
  · exact (h.1 he).settled hd hs
  · rw [h.2 he]
    exact hs

namespace Gk1

theorem Canon.queueCmd (h : s.Canon) (q v : Nat) : (s.queueCmd q v).Canon := by
  unfold Gk1.queueCmd
  split
  · exact Canon.ite ((doQueueEnable_steps _ q _).settled rfl h) ((doQueueEnable_steps _ q _).settled rfl h)
  · exact (doQueueStop_steps _ q).settled rfl h
  · exact (doQueueAbort_steps _ q).settled rfl h
  · exact h

theorem Canon.writeReset (h : s.Canon) (v : Nat) : (s.writeReset v).Canon := by
  have hqueues : (if v.testBit 0 then Machine.settled (doHlResetQueues s) s else s).Canon :=
    Canon.ite ((doHlResetQueues_runs s).settled rfl h) h
  exact Canon.ite ((doHlResetPart_runs _ _).settled rfl hqueues) hqueues

theorem Canon.writeHlQe (h : s.Canon) (m v : Nat) (r : Reg) : (s.writeHlQe m v r).Canon := by
  unfold Gk1.writeHlQe
  split
  case h_1 => exact h.writeReset v
  case h_12 q => exact h.queueCmd q v
  all_goals exact h.of_dram (by simp)

theorem Canon.writeFabCk (h : s.Canon) (m v : Nat) (r : Reg) : (s.writeFabCk m v r).Canon := by
  unfold Gk1.writeFabCk
  split
  case h_6 => exact (doFabPortCtlWrite_steps _ _ _).settled rfl h
  case h_7 => exact (doCkRefCtlWrite_runs _ _).settled rfl h
  case h_9 => exact (doCkRgnCtlWrite_steps _ _ _).settled rfl h
  case h_10 => exact (doCkObsCtlWrite_runs _ _).settled rfl h
  case h_11 => exact Canon.ite ((doDebugLock_runs _ _).settled rfl h) h
  all_goals exact h.of_dram (by simp)

theorem Canon.writeBootCtl (h : s.Canon) (v : Nat) : (s.writeBootCtl v).Canon := by
  have hgo : (if v.testBit 0 then Machine.settled (doBootGo s) s else s).Canon := Canon.ite ((doBootGo_runs s).settled rfl h) h
  exact Canon.ite ((doArbCommit_runs _ _).settled rfl hgo) hgo

theorem Canon.writeObsSb (h : s.Canon) (m v : Nat) (r : Reg) : (s.writeObsSb m v r).Canon := by
  unfold Gk1.writeObsSb
  split
  case h_5 => exact (doObsCoreselWrite_runs _ _).settled rfl h
  case h_6 => exact (doObsBarselWrite_runs _ _).settled rfl h
  case h_9 => exact h.writeBootCtl v
  case h_11 => exact Canon.ite ((doPartitionResetGo_runs _ _).settled rfl h) h
  all_goals exact h.of_dram (by simp)

theorem Canon.writeReg (h : s.Canon) (r : Reg) (m v : Nat) : (s.writeReg r m v).Canon := by
  refine Canon.ite h ?_
  split
  case h_14 | h_15 | h_16 | h_17 | h_18 | h_19 | h_20 | h_21 | h_22 => exact h.of_dram (by simp)
  case h_23 | h_24 | h_25 | h_26 | h_27 | h_28 | h_29 | h_30 | h_31 | h_32 | h_33 => exact h.writeFabCk _ _ _
  case h_34 => exact h.writeObsSb _ _ _
  all_goals exact h.writeHlQe _ _ _

theorem Canon.write4 (h : s.Canon) (off v : Nat) : (s.write4 off v).Canon := by
  unfold Gk1.write4
  split
  · exact h.writeReg _ _ _
  · exact h

theorem Canon.barWrite (h : s.Canon) (off size v : Nat) : (s.barWrite off size v).Canon := by
  refine Canon.ite (h.of_dram (by simp)) (Canon.ite (h.write4 _ _) ?_)
  split
  · exact Canon.ite (h.writeReg _ _ _) ((h.write4 _ _).write4 _ _)
  · exact h.write4 _ _

end Gk1

end Sys2Proof.Machine

namespace Sys2Proof.Machine

/-! ### Commands that touch more than one unit -/

variable (s : State)

theorem sound_ctlElse (core grp : Nat) : Sound (.ctlElse core grp) s :=
  .two (execCtlElse.eq_1 ..) rfl (ctl_steps _ _ _ fun i => by
    dsimp only
    split <;> simp)

theorem sound_ctlEndif (core grp : Nat) : Sound (.ctlEndif core grp) s :=
  .two (execCtlEndif.eq_1 ..) rfl (ctl_steps _ _ _ fun i => by
    dsimp only
    split <;> simp)

theorem sound_ctlEndloop (core grp : Nat) : Sound (.ctlEndloop core grp) s :=
  .two (execCtlEndloop.eq_1 ..) rfl (ctl_steps _ _ _ fun i => by
    dsimp only
    split <;> simp)

theorem sound_vqLd (core grp : Nat) : Sound (.vqLd core grp) s :=
  .two (execVqLd.eq_1 ..) rfl (issue_steps (fun i => by
    simp only [Iss.keeps_ite, Iss.keeps_hold, implies_true, true_and]
    intro _
    split <;> simp) _ _ _)

theorem sound_vqSt (core grp : Nat) : Sound (.vqSt core grp) s :=
  .two (execVqSt.eq_1 ..) rfl (issue_steps (fun i => by
    simp only [Iss.keeps_ite, Iss.keeps_ok, Iss.keeps_hold, implies_true, true_and]
    intro _ _
    split <;> simp) _ _ _)

theorem sound_wgsDiscard (core grp : Nat) : Sound (.wgsDiscard core grp) s :=
  .two (execWgsDiscard.eq_1 ..) rfl (wgs_steps _ _ _ fun i => by
    dsimp only
    split <;> simp)

theorem sound_hFree (core grp : Nat) : Sound (.hFree core grp) s :=
  .two (execHFree.eq_1 ..) rfl (issue_steps (fun i => by
    simp only [Iss.keeps_ite, Iss.keeps_ok, Iss.keeps_hold, implies_true, true_and, Gk1.markShare_dram]
    intro _ _ _
    split <;> simp) _ _ _)

theorem sound_drainComplete (core : Nat) : Sound (.drainComplete core) s := by
  refine .one (execDrainComplete.eq_1 ..) rfl (.guard guard_one fun _ => ?_)
  split
  · exact .of_dram rfl
  · next j rest _ =>
    refine Runs.ite (fun _ => .of_dram rfl) fun _ => ?_
    extract_lets t dsw t₁ t₂
    have ht : s.Canon → t.Canon := fun h => h.carryOut _ _
    clear_value t
    refine Runs.ite (fun _ => ht) fun _ h => (ht h).of_dram ?_
    simp only [Gk1.handOff_dram]
    unfold t₂
    split <;> simp [t₁]

theorem sound_wgsCommitComplete (cluster : Nat) : Sound (.wgsCommitComplete cluster) s := by
  refine .one (execWgsCommitComplete.eq_1 ..) rfl (.guard Nat.not_lt.symm fun _ => Runs.ite (fun _ => .of_dram rfl) fun _ => ?_)
  split
  · exact .of_dram rfl
  · split
    · exact .of_dram rfl
    · exact fun h => h.runCommit _ _ _

theorem sound_meshWriteArrival (id : Nat) : Sound (.meshWriteArrival id) s := by
  refine .none (execMeshWriteArrival.eq_1 ..) ?_
  split
  · exact Runs.ite (fun _ h => h.arrive _ _) fun _ => .of_dram rfl
  · exact .of_dram rfl

theorem sound_regionCacheAccess (id : Nat) : Sound (.regionCacheAccess id) s := by
  refine .none (execRegionCacheAccess.eq_1 ..) ?_
  split
  · exact .of_dram rfl
  · split
    · exact fun h => (h.atomAt _ _ _).of_dram (Gk1.pump_dram _ _)
    · exact .of_dram (by simp)
    · exact .of_dram rfl

theorem sound_regionCacheFill (granule sector : Nat) (noise : List (Nat × Byte)) : Sound (.regionCacheFill granule sector noise) s := by
  refine .two (execRegionCacheFill.eq_1 ..) rfl (.guard guard_two fun _ => ?_)
  split
  · exact .of_dram rfl
  · next ctx stream _ =>
    refine Runs.ite (fun _ => .of_dram rfl) fun _ => ?_
    extract_lets t t₁ put stored
    have ht : t.dram = s.dram := by simp [t]
    have hline : s.Canon → t₁.Canon := fun h => (h.of_dram ht).allocLine _ _ _
    have hput : ∀ u bad bs, (put u bad bs).dram = u.dram := fun _ _ _ => rfl
    clear_value t₁ put stored
    refine Runs.ite (fun _ => .of_dram ht) fun _ => Runs.ite (fun _ h => (hline h).of_dram (hput _ _ _)) fun _ => ?_
    split
    · refine Runs.ite (fun _ h => (hline h).of_dram (by simp)) fun _ h => (hline h).of_dram ((hput _ _ _).trans (by simp))
    · exact fun h => (hline h).of_dram ((hput _ _ _).trans (by split <;> simp))

theorem sound_scrub (granule : Nat) (noise : List (Nat × Byte)) : Sound (.scrub granule noise) s := by
  refine .one (execScrub.eq_1 ..) rfl (.guard guard_one fun _ => Runs.ite (fun _ => .of_dram rfl) fun _ => ?_)
  extract_lets t t₁ t₂
  have ht : t.dram = s.dram := by simp [t]
  have h₁ : t₁.dram = s.dram := by simp [t₁, ht]
  have h₂ : t₂.dram = s.dram := by simp [t₂, h₁]
  clear_value t t₁ t₂
  refine Runs.ite (fun _ => .of_dram ht) fun _ => Runs.ite (fun _ => .of_dram h₁) fun _ h => ?_
  exact Gk1.foldl_canon (fun _ _ h => h.scrubWord _ _ _) _ (h.of_dram h₂)

theorem sound_kernelStart (queue : Nat) (deferred : Bool) : Sound (.kernelStart queue deferred) s := by
  refine .one (execKernelStart.eq_1 ..) rfl ?_
  dsimp only
  split
  · exact onStartAfter_steps _ _ _ _ fun d t h => h.startNormal _ _
  · refine .guard Nat.not_lt.symm fun _ => Runs.ite (fun _ => .of_dram rfl) fun _ => ?_
    split
    · exact .of_dram rfl
    · exact Runs.ite (fun _ => .of_dram (by simp)) fun _ => .of_dram (by simp)

theorem sound_kernelLaunch (kid : Nat) : Sound (.kernelLaunch kid) s := by
  refine .none (execKernelLaunch.eq_1 ..) ?_
  split
  · exact .of_dram rfl
  · refine Runs.ite (fun _ => .of_dram rfl) fun _ => Runs.ite (fun _ h => h.tryLaunch _) fun _ => ?_
    exact Runs.ite (fun _ => .of_dram rfl) fun _ h => (h.of_dram (by simp)).tryLaunch _

theorem sound_grainHandout (kid cluster : Nat) : Sound (.grainHandout kid cluster) s := by
  refine .one (execGrainHandout.eq_1 ..) rfl (.guard Nat.not_lt.symm fun _ => ?_)
  split
  · exact .of_dram rfl
  · refine Runs.ite (fun _ => .of_dram rfl) fun _ => Runs.ite (fun _ => .of_dram (by simp)) fun _ => ?_
    dsimp only
    split
    · exact fun h => (h.clearRegion (regionOf cluster)).of_dram (by simp)
    · next hload => exact fun h => (h.clearRegion (regionOf cluster)).of_dram (by split <;> simp [Gk1.loadCode_dram hload])

theorem sound_copyComplete (queue : Nat) (data : List Byte) (hostOk : Bool) : Sound (.copyComplete queue data hostOk) s := by
  refine .one (execCopyComplete.eq_1 ..) rfl (.guard Nat.not_lt.symm fun _ => ?_)
  split
  · exact .of_dram rfl
  · next c _ =>
    refine Runs.ite (fun _ => .of_dram rfl) fun _ => Runs.ite (fun _ => .of_dram rfl) fun _ => ?_
    extract_lets r done t o t₁ bs pieces w
    have hdone : ∀ u, (done u).dram = u.dram := fun u => by
      unfold done
      split <;> simp
    have h₁ : t₁.dram = s.dram := (Gk1.overlap_dram _ _ _).trans rfl
    clear_value done t₁
    split
    · refine .of_dram ((Gk1.endCopy_dram _ _ _ _ _).trans ((hdone _).trans (Eq.trans ?_ h₁)))
      exact foldl_dram (fun s p => Gk1.post_dram s _ _) _ _
    · split
      · exact .of_dram (by simp [h₁])
      · exact fun h => ((h.of_dram h₁).writeUpTo queue pieces bs 0).of_dram (by simp [hdone, w])

theorem sound_objectReleased (context : Nat) (isFence : Bool) (index : Nat) : Sound (.objectReleased context isFence index) s := by
  refine .one (execObjectReleased.eq_1 ..) rfl (.guard Nat.not_lt.symm fun _ => ?_)
  split
  · exact Runs.ite (fun _ h => h.release _ _ _) fun _ => .of_dram rfl
  · exact .of_dram rfl

theorem sound_bucketTimeout (bucket : Nat) : Sound (.bucketTimeout bucket) s := by
  refine .none (execBucketTimeout.eq_1 ..) ?_
  split
  · exact .of_dram rfl
  · split
    · exact .of_dram rfl
    · next B _ _ J _ =>
      refine Runs.ite (fun _ => .of_dram rfl) fun _ => ?_
      extract_lets t J' t₁ t₂
      have ht : s.Canon → t.Canon := by
        unfold t
        split
        · exact fun h => h.abandonFence _ _
        · exact id
      clear_value t
      have hjobs : ∀ m, s.Canon → ({ t with jobs := m } : Gk1).Canon := fun _ => ht
      exact fun h => ((hjobs (NMap.set t.jobs B.job J') h).statusBlock J' bucket B.queue).of_dram (by simp [t₁, t₂])

theorem sound_snapshotBlockRead (snap : Nat) : Sound (.snapshotBlockRead snap) s := by
  refine .none (execSnapshotBlockRead.eq_1 ..) ?_
  split
  · exact .of_dram rfl
  · split
    · exact fun h => h.copyBlock _ _ _
    · exact .of_dram rfl

theorem sound_snapshotDone (snap : Nat) : Sound (.snapshotDone snap) s := by
  refine .none (execSnapshotDone.eq_1 ..) ?_
  have hsnaps : ∀ m, s.Canon → ({ s.toGk1 with snaps := m } : Gk1).Canon := fun _ h => h
  split
  · exact .of_dram rfl
  · exact Runs.ite (fun _ => .of_dram rfl) fun _ h => (hsnaps _ h).signalFence _ _ _ _

theorem foldl_testUnit {s : Gk1} (h : s.Canon) (kind : Nat) (units : List Nat) (failed : List (Nat × Nat)) :
    (units.foldl (fun (a : Gk1 × List Byte) u =>
      let b := a.1.testUnit kind u ((failed.filter fun f => f.1 = u).map Prod.snd)
      (b.1, a.2 ++ b.2)) (s, [])).1.Canon := by
  apply foldl_inv (fun a : Gk1 × List Byte => a.1.Canon)
  · exact fun a u h => Gk1.Canon.testUnit h kind u _
  · exact h

theorem sound_selftestRun (failed : List (Nat × Nat)) : Sound (.selftestRun failed) s := by
  refine .none (execSelftestRun.eq_1 ..) ?_
  split
  · exact .of_dram rfl
  · next c _ =>
    refine Runs.ite (fun _ => .of_dram rfl) fun _ h => ?_
    refine Gk1.Canon.of_dram ?_ (Gk1.finishMgmt_dram _ _ _)
    exact foldl_testUnit h c.desc.testKind c.desc.testUnits failed

theorem sound_teardownComplete (context : Nat) : Sound (.teardownComplete context) s := by
  refine .one (execTeardownComplete.eq_1 ..) rfl (.guard Nat.not_lt.symm fun _ => Runs.ite (fun _ => .of_dram rfl) fun _ => ?_)
  refine Runs.ite (fun _ => .of_dram (by simp)) fun _ => ?_
  have hend : s.Canon → (((s.handOver context (s.regionsOf context)).1.handed context).endTeardown context).Canon :=
    fun h => (h.of_dram (by simp)).endTeardown _
  dsimp only
  split
  · exact Runs.ite (fun _ h => (hend h).of_dram (by simp)) fun _ => hend
  · exact hend

theorem sound_memPlaceMaskWrite (entry size half : Nat) (v : BitVec 64) : Sound (.memPlaceMaskWrite entry size half v) s :=
  .one (execMemPlaceMaskWrite.eq_1 ..) rfl (.guard Nat.not_lt.symm fun _ =>
    Runs.ite (fun _ h => h.writeReg _ _ _) fun _ => .of_dram (by simp))

theorem sound_memPlaceAttrWrite (entry : Nat) (v : BitVec 32) : Sound (.memPlaceAttrWrite entry v) s :=
  .one (execMemPlaceAttrWrite.eq_1 ..) rfl (.guard Nat.not_lt.symm fun _ h => h.writeReg _ _ _)

theorem sound_powerTick : Sound .powerTick s := by
  refine .none (execPowerTick.eq_1 ..) (Runs.ite (fun _ => .of_dram rfl) fun _ => .of_dram ?_)
  refine (foldl_dram (fun s r => Gk1.tracePark_dram s r) _ _).trans ?_
  rw [Gk1.ranOver_dram, Gk1.parkTick_dram]
  exact (foldl_dram (fun s r => Gk1.countRegion_dram s r) _ _).trans (Gk1.regulate_dram _ _)

/-- The kinds of PLL and the units that have them. -/
def PllExists (kind unit : Nat) : Prop :=
  ((inRange 1 3 kind && decide (unit < 64)) || (kind = 4 && decide (unit < portCount)) || (kind = 5 && unit = 0)) = true

theorem PllExists.of_wf {kind unit : Nat} (h : (Instr.pllLockLoss kind unit).wf = true) : PllExists kind unit := by
  simp only [Instr.wf, Instr.units, List.all_cons, List.all_nil, Bool.and_true, Bool.and_eq_true, decide_eq_true_eq] at h
  obtain ⟨hkind, hunit⟩ := h
  unfold PllExists
  interval_cases kind <;> simp_all [pllUnits, inRange, portCount]

theorem sound_pllLockLoss (kind unit : Nat) : Sound (.pllLockLoss kind unit) s := by
  refine .of_steps (execPllLockLoss.eq_1 ..) PllExists.of_wf (.guard ?_ fun _ => ?_)
  · rw [Bool.not_eq_true', ← Bool.not_eq_true]
    rfl
  · refine Runs.ite (fun _ => .of_dram rfl) fun _ => ?_
    dsimp only
    split
    case h_4 => exact .of_dram (by split <;> simp)
    all_goals exact .of_dram (by simp)

theorem sound_entryVoltageFault (entry : Nat) : Sound (.entryVoltageFault entry) s :=
  .one (execEntryVoltageFault.eq_1 ..) rfl (.guard Nat.not_lt.symm fun _ _ => Gk1.canon_unpowered _ _)

theorem sound_pwrEnFall : Sound .pwrEnFall s := .none (execPwrEnFall.eq_1 ..) fun _ => Gk1.canon_unpowered _ _

theorem sound_powerRampDone (refsel : Bool) : Sound (.powerRampDone refsel) s :=
  .none (execPowerRampDone.eq_1 ..) (Runs.ite (fun _ => .of_dram rfl) fun _ _ =>
    (Gk1.canon_unpowered s.toGk1 .rom).of_dram (by simp))

theorem sound_replayShare (kid cluster : Nat) : Sound (.replayShare kid cluster) s := by
  refine .one (execReplayShare.eq_1 ..) rfl (.guard Nat.not_lt.symm fun _ => ?_)
  split
  · exact .of_dram rfl
  · next K _ =>
    refine Runs.ite (fun _ => .of_dram rfl) fun _ => ?_
    extract_lets h t₀ t one
    have ht : t.dram = s.dram := foldl_dram (fun s c => Gk1.closeEpochs_dram s c K.ctx kid) _ _
    clear_value t
    split
    · exact .of_dram (by simp [t₀])
    · split
      · exact .of_dram (by simp [ht])
      · next hload => exact .of_dram (by simp [Gk1.loadCode_dram hload, ht])

theorem sound_replayWhole (kid : Nat) : Sound (.replayWhole kid) s := by
  refine .none (execReplayWhole.eq_1 ..) ?_
  split
  · exact .of_dram rfl
  · refine Runs.ite (fun _ => .of_dram rfl) fun _ => ?_
    extract_lets held t mine t₁ t₂
    have ht : t₂.dram = s.dram :=
      (Gk1.modKernel_dram _ _ _).trans ((foldl_dram (fun s cl => Gk1.leaveCluster_dram s kid cl) _ _).trans rfl)
    clear_value t₂
    refine Runs.ite (fun _ => .of_dram ht) fun _ => ?_
    split
    · exact .of_dram (by simp [ht])
    · next hload =>
      exact .of_dram ((foldl_dram (fun s n => Gk1.modCluster_dram s n _) _ _).trans ((Gk1.loadCode_dram hload).trans ht))

theorem sound_engineFault (engine : Nat) : Sound (.engineFault engine) s := by
  refine .one (execEngineFault.eq_1 ..) rfl (.guard Nat.not_lt.symm fun _ => Runs.ite (fun _ => .of_dram rfl) fun _ => ?_)
  dsimp only
  split
  · exact .of_dram (by simp)
  · refine .of_dram ((foldl_dram (fun s e => ?_) _ _).trans (by simp))
    split <;> simp

@[simp] theorem Gk1.slotOne_dram (r : Nat) (a : Gk1 × Nat × Bool) (e : Nat × Cluster) : (Gk1.slotOne r a e).1.dram = a.1.dram := by
  unfold Gk1.slotOne
  dsimp only
  repeat' split
  all_goals simp

theorem sound_departureSlot (region : Nat) : Sound (.departureSlot region) s := by
  refine .one (execDepartureSlot.eq_1 ..) rfl (.guard Nat.not_lt.symm fun _ => Runs.ite (fun _ => .of_dram rfl) fun _ => ?_)
  refine .of_dram ((Gk1.takeOver_dram _ _ _).trans ?_)
  exact foldl_inv (fun a : Gk1 × Nat × Bool => a.1.dram = s.dram) (fun a e h => (Gk1.slotOne_dram region a e).trans h) _ rfl

theorem sound_replayRequest (a : FlitArrival) : Sound (.replayRequest a) s := by
  refine .of_steps (execReplayRequest.eq_1 ..) (exist := a.port < 48) (fun h => ?_) (.guard Nat.not_lt.symm fun _ => ?_)
  · simp [Instr.wf, Instr.units, nPorts] at h
    exact h.1
  · refine Runs.ite (fun _ => .of_dram rfl) fun _ => ?_
    split <;> exact .of_dram (by simp)

theorem sound_partitionResetGo (key : BitVec 16) : Sound (.partitionResetGo key) s :=
  .none (execPartitionResetGo.eq_1 ..) (doPartitionResetGo_runs _ _)
theorem sound_ckRefCtlWrite (v : BitVec 32) : Sound (.ckRefCtlWrite v) s := .none (execCkRefCtlWrite.eq_1 ..) (doCkRefCtlWrite_runs _ _)
theorem sound_ckObsCtlWrite (v : BitVec 32) : Sound (.ckObsCtlWrite v) s := .none (execCkObsCtlWrite.eq_1 ..) (doCkObsCtlWrite_runs _ _)
theorem sound_ckRgnCtlWrite (r : Nat) (v : BitVec 32) : Sound (.ckRgnCtlWrite r v) s := .one (execCkRgnCtlWrite.eq_1 ..) rfl (doCkRgnCtlWrite_steps _ _ _)
theorem sound_fabPortCtlWrite (r : Nat) (v : BitVec 32) : Sound (.fabPortCtlWrite r v) s := .one (execFabPortCtlWrite.eq_1 ..) rfl (doFabPortCtlWrite_steps _ _ _)
theorem sound_hlResetPart (key : BitVec 16) : Sound (.hlResetPart key) s := .none (execHlResetPart.eq_1 ..) (doHlResetPart_runs _ _)
theorem sound_queueEnable (q : Nat) (w : Option (BitVec 64)) : Sound (.queueEnable q w) s := .one (execQueueEnable.eq_1 ..) rfl (doQueueEnable_steps _ _ _)
theorem sound_queueStop (q : Nat) : Sound (.queueStop q) s := .one (execQueueStop.eq_1 ..) rfl (doQueueStop_steps _ _)
theorem sound_queueAbort (q : Nat) : Sound (.queueAbort q) s := .one (execQueueAbort.eq_1 ..) rfl (doQueueAbort_steps _ _)
theorem sound_registerWrite (o z : Nat) (v : BitVec 64) : Sound (.registerWrite o z v) s := .none (execRegisterWrite.eq_1 ..) fun h => h.barWrite _ _ _
theorem sound_qeConfigWrite (o z : Nat) (v : BitVec 64) : Sound (.qeConfigWrite o z v) s :=
  .none (execQeConfigWrite.eq_1 ..) fun h => Gk1.Canon.ite (h.barWrite _ _ _) h
theorem sound_memSelClr (v : BitVec 32) : Sound (.memSelClr v) s := .none (execMemSelClr.eq_1 ..) fun h => h.writeReg _ _ _
theorem sound_ptEvenWrite (v : BitVec 32) : Sound (.ptEvenWrite v) s := .none (execPtEvenWrite.eq_1 ..) fun h => h.writeReg _ _ _

end Sys2Proof.Machine

namespace Sys2Proof.Machine

/-! ### Descriptors and packets -/

variable (s : State)

theorem sound_fenceSignal (queue : Nat) : Sound (.fenceSignal queue) s :=
  .one (execFenceSignal.eq_1 ..) rfl (onStart_steps _ _ _ fun _ _ h => h.startSignal _ _)

theorem sound_bucketReady (queue : Nat) : Sound (.bucketReady queue) s :=
  .one (execBucketReady.eq_1 ..) rfl (onStart_steps _ _ _ fun _ _ h => h.startBucket _ _)

theorem sound_jobCreate (queue : Nat) : Sound (.jobCreate queue) s := by
  refine .one (execJobCreate.eq_1 ..) rfl (onStart_steps _ _ _ fun d t h => ?_)
  refine h.of_dram ?_
  dsimp only
  repeat' split
  all_goals simp

theorem sound_jobDestroy (queue : Nat) : Sound (.jobDestroy queue) s := by
  refine .one (execJobDestroy.eq_1 ..) rfl (onStart_steps _ _ _ fun d t h => h.of_dram ?_)
  split <;> simp

theorem sound_planMark (queue : Nat) : Sound (.planMark queue) s := by
  refine .one (execPlanMark.eq_1 ..) rfl (onPlan_steps _ _ _ fun d t h => h.of_dram ?_)
  split <;> simp

theorem sound_planClose (queue : Nat) : Sound (.planClose queue) s := by
  refine .one (execPlanClose.eq_1 ..) rfl (onStartAfter_steps _ _ _ _ fun d t h => ?_)
  refine Gk1.Canon.ite (h.of_dram (by simp)) ?_
  split
  · exact h.of_dram (by simp)
  · have hq : ∀ f, (t.modQueue queue f).Canon := fun f => h.of_dram (by simp)
    dsimp only
    split
    · next hw => exact ((hq _).of_writeRange hw).of_dram (by simp)
    · next hw => exact ((hq _).of_writeRange hw).of_dram (by simp)

theorem sound_recompute (queue : Nat) : Sound (.recompute queue) s := by
  refine .one (execRecompute.eq_1 ..) rfl (onStart_steps _ _ _ fun d t h => h.of_dram ?_)
  extract_lets r t₁ t₂
  have h₂ : t₂.dram = t.dram := by
    unfold t₂
    split <;> simp [t₁]
  clear_value t₂ r
  repeat' split
  all_goals simp [h₂]

theorem sound_timetableLoad (table : Option (List Byte)) : Sound (.timetableLoad table) s := by
  refine .none (execTimetableLoad.eq_1 ..) (onMgmtResult_runs _ _ _ fun d t h => h.of_dram ?_)
  dsimp only
  split
  · simp
  · split
    · simp
    · split <;> simp

theorem sound_lineDisturbance : Sound .lineDisturbance s := by
  refine .none (execLineDisturbance.eq_1 ..) ((onStart_steps _ _ _ fun d t h => h.of_dram ?_).1 (by decide))
  dsimp only
  split
  · simp
  · split <;> simp

theorem sound_disturbanceClear : Sound .disturbanceClear s :=
  .none (execDisturbanceClear.eq_1 ..) ((onStart_steps _ _ _ fun d t h => h.of_dram (by simp)).1 (by decide))

theorem sound_defectSupplement (supplement : Option (List Byte)) : Sound (.defectSupplement supplement) s := by
  refine .none (execDefectSupplement.eq_1 ..) (onMgmt_runs _ _ fun d t h => h.of_dram ?_)
  split
  · simp
  · split
    · simp
    · split
      · simp
      · exact (Gk1.finishMgmt_dram _ _ _).trans (foldl_dram (fun s e => Gk1.applySupp_dram s e) _ _)

theorem sound_dramMargin : Sound .dramMargin s := by
  refine .none (execDramMargin.eq_1 ..) (onMgmtResult_runs _ _ _ fun d t h => h.of_dram ?_)
  dsimp only
  split
  · simp
  · exact (Gk1.modQueue_dram _ _ _).trans (foldl_dram (fun s r => Gk1.modRegion_dram s r _) _ _)

/-- A packet that passes the checks of its partition, or one that is answered. -/
theorem Gk1.Canon.passed {t : Gk1} (h : t.Canon) (p : Packet) {run : Nat → Gk1} (hrun : ∀ c, (run c).Canon) :
    (t.passed p run).Canon := by
  refine Gk1.Canon.ite (h.of_dram (by simp)) ?_
  split
  · exact hrun _
  · exact h.of_dram (by simp)

theorem sound_fabWrite (port : Nat) (p : Packet) : Sound (.fabWrite port p) s :=
  .one (execFabWrite.eq_1 ..) rfl (onPacket_steps _ _ _ _ fun p t h => h.passed p fun c =>
    Gk1.Canon.ite (h.of_dram (by simp)) ((h.of_dram (by simp)).arrive _ _))

theorem sound_writeClose (port : Nat) (p : Packet) : Sound (.writeClose port p) s :=
  .one (execWriteClose.eq_1 ..) rfl (onPacket_steps _ _ _ _ fun p t h => h.passed p fun c => (h.of_dram (by simp)).arrive _ _)

theorem sound_epochEnd (port : Nat) (p : Packet) : Sound (.epochEnd port p) s :=
  .one (execEpochEnd.eq_1 ..) rfl (onPacket_steps _ _ _ _ fun p t h => h.passed p fun c => h.of_dram (by simp))

theorem sound_readReq (port : Nat) (p : Packet) : Sound (.readReq port p) s := by
  refine .one (execReadReq.eq_1 ..) rfl (onPacket_steps _ _ _ _ fun p t h => h.passed p fun c => h.of_dram ?_)
  dsimp only
  split <;> simp

theorem sound_readReply (port : Nat) (p : Packet) : Sound (.readReply port p) s :=
  .one (execReadReply.eq_1 ..) rfl (onPacket_steps _ _ _ _ fun p _ h => h.takeAnswer p)

theorem sound_fabAck (port : Nat) (p : Packet) : Sound (.fabAck port p) s :=
  .one (execFabAck.eq_1 ..) rfl (onPacket_steps _ _ _ _ fun p _ h => h.takeAnswer p)

theorem sound_watchReq (port : Nat) (p : Packet) : Sound (.watchReq port p) s := by
  refine .one (execWatchReq.eq_1 ..) rfl (onPacket_steps _ _ _ _ fun p t h => h.of_dram ?_)
  dsimp only
  split <;> simp

theorem sound_watchEnd (port : Nat) (p : Packet) : Sound (.watchEnd port p) s := by
  refine .one (execWatchEnd.eq_1 ..) rfl (onPacket_steps _ _ _ _ fun p t h => h.of_dram ?_)
  split <;> simp

theorem sound_fabRecover (port : Nat) (p : Packet) : Sound (.fabRecover port p) s := by
  refine .one (execFabRecover.eq_1 ..) rfl (onPacket_steps _ _ _ _ fun p t h => h.of_dram ?_)
  dsimp only
  split
  · rfl
  · next q _ =>
    have hdown : (if (({ t with free := t.free + 1 } : Gk1).port q).old.isEmpty then
        ({ t with free := t.free + 1 } : Gk1).portFault q 0 else { t with free := t.free + 1 }).dram = t.dram := by
      split <;> simp
    split
    · exact hdown
    · exact (foldl_dram (fun s e => Gk1.forward_dram s _ _) _ _).trans ((Gk1.modPort_dram _ _ _).trans hdown)

theorem sound_xContrib (port : Nat) (p : Packet) : Sound (.xContrib port p) s :=
  .one (execXContrib.eq_1 ..) rfl (onPacket_steps _ _ _ _ fun p _ h => h.takeContrib port p _)

theorem sound_xContribSparse (port : Nat) (p : Packet) : Sound (.xContribSparse port p) s :=
  .one (execXContribSparse.eq_1 ..) rfl (onPacket_steps _ _ _ _ fun p _ h => h.takeContrib port p _)

theorem sound_xContribEnd (port : Nat) (p : Packet) : Sound (.xContribEnd port p) s :=
  .one (execXContribEnd.eq_1 ..) rfl (onPacket_steps _ _ _ _ fun p _ h => h.takeContrib port p _)

theorem sound_xRedispatch (port : Nat) (p : Packet) : Sound (.xRedispatch port p) s := by
  refine .one (execXRedispatch.eq_1 ..) rfl (onPacket_steps _ _ _ _ fun p t h => h.takeExch port p fun J r => ?_)
  split
  · exact h.of_dram (by simp)
  · exact Gk1.foldl_canon (fun _ _ h => h.contribute _ _ _ _ _) _ (h.of_dram (by simp))

/-- A packet that has landed counts for its bucket, when the bucket is in flight. -/
theorem Gk1.Canon.landed {t : Gk1} (h : t.Canon) (B : Option (Nat × Bucket)) (f : Bucket → Bucket) (g : Nat) :
    (match B with
      | none => t
      | some (key, _) => ({ t with buckets := NMap.upd t.buckets key f }).judgeLanded key g).Canon := by
  cases B with
  | none => exact h
  | some B =>
    have hbuckets : ∀ m, ({ t with buckets := m } : Gk1).Canon := fun _ => h
    exact (hbuckets _).judgeLanded _ _

/-- What follows a write that lands or faults. -/
theorem canon_afterWrite {r : Gk1 × Option Nat} (h : r.1.Canon) {onFault : Gk1 → Nat → Gk1} {onDone : Gk1 → Gk1}
    (hfault : ∀ u e, u.Canon → (onFault u e).Canon) (hdone : ∀ u, u.Canon → (onDone u).Canon) :
    (match r with
      | (u, some e) => onFault u e
      | (u, none) => onDone u).Canon := by
  obtain ⟨u, f⟩ := r
  cases f with
  | none => exact hdone u h
  | some e => exact hfault u e h

theorem sound_xParam (port : Nat) (p : Packet) : Sound (.xParam port p) s := by
  refine .one (execXParam.eq_1 ..) rfl (onPacket_steps _ _ _ _ fun p t h => h.takeExch port p fun J r => ?_)
  refine Gk1.Canon.ite (h.of_dram (by simp)) ?_
  exact canon_afterWrite (h.landParam J.ctx (pAddr p) p.payload) (fun u e h => h.of_dram (by simp)) fun u h =>
    Gk1.Canon.landed (h.of_dram (by simp)) _ _ _

theorem sound_xParamEnd (port : Nat) (p : Packet) : Sound (.xParamEnd port p) s := by
  refine .one (execXParamEnd.eq_1 ..) rfl (onPacket_steps _ _ _ _ fun p t h => h.takeExch port p fun J r => ?_)
  have hreply : (t.reply p 0 0 []).Canon := h.of_dram (by simp)
  exact Gk1.Canon.ite (h.of_dram (by simp)) (hreply.landed _ _ _)

end Sys2Proof.Machine

namespace Sys2Proof.Machine

/-! ### Commands that keep device memory -/

variable (s : State)

theorem sound_mAtomReply (id : Nat) : Sound (.mAtomReply id) s := by
  refine .none (execMAtomReply.eq_1 ..) ?_
  repeat' split
  all_goals exact .of_dram (by simp)

theorem sound_heapReply (id : Nat) : Sound (.heapReply id) s := by
  refine .none (execHeapReply.eq_1 ..) ?_
  repeat' split
  all_goals exact .of_dram (by simp)

theorem sound_feederFill (core : Nat) : Sound (.feederFill core) s := by
  refine .one (execFeederFill.eq_1 ..) rfl (.guard guard_one fun _ => ?_)
  dsimp only
  repeat' split
  all_goals exact .of_dram (by simp)

theorem sound_oprelArrival (core rid : Nat) : Sound (.oprelArrival core rid) s := by
  refine .one (execOprelArrival.eq_1 ..) rfl (.guard guard_one fun _ => ?_)
  split <;> exact .of_dram (by simp)

theorem sound_kStep (core : Nat) : Sound (.kStep core) s := by
  refine .one (execKStep.eq_1 ..) rfl (.guard guard_one fun _ => ?_)
  dsimp only
  repeat' split
  all_goals exact .of_dram (by simp)

theorem sound_drainStart (core : Nat) : Sound (.drainStart core) s := by
  refine .one (execDrainStart.eq_1 ..) rfl (.guard guard_one fun _ => ?_)
  repeat' split
  all_goals exact .of_dram (by simp)

theorem sound_gangForm (cluster : Nat) : Sound (.gangForm cluster) s := by
  refine .one (execGangForm.eq_1 ..) rfl (.guard Nat.not_lt.symm fun _ => ?_)
  split <;> exact .of_dram (by simp)

theorem sound_gangLeave (cluster : Nat) : Sound (.gangLeave cluster) s := by
  refine .one (execGangLeave.eq_1 ..) rfl (.guard Nat.not_lt.symm fun _ => ?_)
  dsimp only
  split <;> exact .of_dram (by simp)

theorem sound_gangReleaseCountExpiry (cluster : Nat) : Sound (.gangReleaseCountExpiry cluster) s := by
  refine .one (execGangReleaseCountExpiry.eq_1 ..) rfl (.guard Nat.not_lt.symm fun _ => ?_)
  dsimp only
  split <;> exact .of_dram (by simp)

theorem sound_engineArrival (id : Nat) : Sound (.engineArrival id) s := by
  refine .none (execEngineArrival.eq_1 ..) ?_
  dsimp only
  repeat' split
  all_goals exact .of_dram (by simp)

theorem sound_closingWriteResend (id : Nat) : Sound (.closingWriteResend id) s := by
  refine .none (execClosingWriteResend.eq_1 ..) ?_
  repeat' split
  all_goals exact .of_dram (by simp)

theorem sound_meshAck (id : Nat) : Sound (.meshAck id) s := by
  refine .none (execMeshAck.eq_1 ..) ?_
  repeat' split
  all_goals exact .of_dram (by simp)

theorem sound_meshReadReply (id : Nat) : Sound (.meshReadReply id) s := by
  refine .none (execMeshReadReply.eq_1 ..) ?_
  repeat' split
  all_goals exact .of_dram (by simp)

theorem sound_moverComplete (rid : Nat) : Sound (.moverComplete rid) s := by
  refine .none (execMoverComplete.eq_1 ..) ?_
  repeat' split
  all_goals exact .of_dram (by simp)

theorem sound_dramRefresh (region channel bank : Nat) : Sound (.dramRefresh region channel bank) s := by
  refine .three (execDramRefresh.eq_1 ..) rfl (.guard guard_three fun _ => ?_)
  dsimp only
  repeat' split
  all_goals exact .of_dram (by simp)

theorem sound_dramRetrain (region channel : Nat) : Sound (.dramRetrain region channel) s := by
  refine .two (execDramRetrain.eq_1 ..) rfl (.guard guard_two fun _ => ?_)
  repeat' split
  all_goals exact .of_dram (by simp)

theorem sound_rebuildSweepEnd (region channel : Nat) : Sound (.rebuildSweepEnd region channel) s := by
  refine .two (execRebuildSweepEnd.eq_1 ..) rfl (.guard guard_two fun _ => ?_)
  dsimp only
  repeat' split
  all_goals exact .of_dram (by simp)

theorem sound_hostLinkTrain (lanes : Nat) : Sound (.hostLinkTrain lanes) s := by
  refine .none (execHostLinkTrain.eq_1 ..) ?_
  split <;> exact .of_dram (by simp)

theorem sound_hostLinkDown : Sound .hostLinkDown s := by
  refine .none (execHostLinkDown.eq_1 ..) ?_
  exact .of_dram (by simp)

theorem sound_functionLevelReset : Sound .functionLevelReset s := by
  refine .none (execFunctionLevelReset.eq_1 ..) ?_
  exact .of_dram (by simp)

theorem sound_hotReset : Sound .hotReset s := by
  refine .none (execHotReset.eq_1 ..) ?_
  exact .of_dram (by simp)

theorem sound_perst : Sound .perst s := by
  refine .none (execPerst.eq_1 ..) ?_
  exact .of_dram (by simp)

theorem sound_d3hotEntry : Sound .d3hotEntry s := by
  refine .none (execD3hotEntry.eq_1 ..) ?_
  exact .of_dram (by simp)

theorem sound_d0Return : Sound .d0Return s := by
  refine .none (execD0Return.eq_1 ..) ?_
  exact .of_dram (by simp)

theorem sound_hostCompletion (id : Nat) (good : Bool) (data : List Byte) : Sound (.hostCompletion id good data) s := by
  refine .none (execHostCompletion.eq_1 ..) ?_
  repeat' split
  all_goals exact .of_dram (by simp)

theorem sound_hostCompletionTimeout (id : Nat) : Sound (.hostCompletionTimeout id) s := by
  refine .none (execHostCompletionTimeout.eq_1 ..) ?_
  repeat' split
  all_goals exact .of_dram (by simp)

theorem sound_ptmDialogue (mtime ltime : Nat) : Sound (.ptmDialogue mtime ltime) s := by
  refine .none (execPtmDialogue.eq_1 ..) ?_
  dsimp only
  repeat' split
  all_goals exact .of_dram (by simp)

theorem sound_summaryPoll (summary : Option (List Byte)) (words : List (Nat × Option (BitVec 64))) : Sound (.summaryPoll summary words) s := by
  refine .none (execSummaryPoll.eq_1 ..) ?_
  repeat' split
  all_goals exact .of_dram (by simp)

theorem sound_descriptorFetch (queue : Nat) (descs : List (List (BitVec 64))) : Sound (.descriptorFetch queue descs) s := by
  refine .one (execDescriptorFetch.eq_1 ..) rfl (.guard Nat.not_lt.symm fun _ => ?_)
  dsimp only
  split <;> exact .of_dram (by simp)

theorem sound_readmissionRequest (cluster : Nat) : Sound (.readmissionRequest cluster) s := by
  refine .one (execReadmissionRequest.eq_1 ..) rfl (.guard Nat.not_lt.symm fun _ => ?_)
  dsimp only
  split <;> exact .of_dram (by simp)

theorem sound_kernelComplete (kid : Nat) : Sound (.kernelComplete kid) s := by
  refine .none (execKernelComplete.eq_1 ..) ?_
  dsimp only
  repeat' split
  all_goals exact .of_dram (by simp)

theorem sound_kernelTimeout (kid : Nat) : Sound (.kernelTimeout kid) s := by
  refine .none (execKernelTimeout.eq_1 ..) ?_
  repeat' split
  all_goals exact .of_dram (by simp)

theorem sound_grainComplete (kid cluster : Nat) : Sound (.grainComplete kid cluster) s := by
  refine .one (execGrainComplete.eq_1 ..) rfl (.guard Nat.not_lt.symm fun _ => ?_)
  dsimp only
  repeat' split
  all_goals exact .of_dram (by simp)

theorem sound_completionRecord (queue : Nat) : Sound (.completionRecord queue) s := by
  refine .one (execCompletionRecord.eq_1 ..) rfl (.guard Nat.not_lt.symm fun _ => ?_)
  dsimp only
  repeat' split
  all_goals exact .of_dram (by simp)

theorem sound_msixMessage (vector : Nat) : Sound (.msixMessage vector) s := by
  refine .none (execMsixMessage.eq_1 ..) ?_
  repeat' split
  all_goals exact .of_dram (by simp)

theorem sound_fenceWaitSatisfied (queue : Nat) : Sound (.fenceWaitSatisfied queue) s := by
  refine .one (execFenceWaitSatisfied.eq_1 ..) rfl (.guard Nat.not_lt.symm fun _ => ?_)
  dsimp only
  repeat' split
  all_goals exact .of_dram (by simp)

theorem sound_watchUpdate (watch : Nat) : Sound (.watchUpdate watch) s := by
  refine .none (execWatchUpdate.eq_1 ..) ?_
  repeat' split
  all_goals exact .of_dram (by simp)

theorem sound_slotReserve (bucket : Nat) : Sound (.slotReserve bucket) s := by
  refine .none (execSlotReserve.eq_1 ..) ?_
  dsimp only
  repeat' split
  all_goals exact .of_dram (by simp)

theorem sound_recomputeEntry (queue : Nat) : Sound (.recomputeEntry queue) s := by
  refine .one (execRecomputeEntry.eq_1 ..) rfl (.guard Nat.not_lt.symm fun _ => ?_)
  dsimp only
  repeat' split
  all_goals exact .of_dram (by simp)

theorem sound_selftestTimeout : Sound .selftestTimeout s := by
  refine .none (execSelftestTimeout.eq_1 ..) ?_
  repeat' split
  all_goals exact .of_dram (by simp)

theorem sound_dramMarginDone (result : List Byte) : Sound (.dramMarginDone result) s := by
  refine .none (execDramMarginDone.eq_1 ..) ?_
  dsimp only
  repeat' split
  all_goals exact .of_dram (by simp)

theorem sound_maintenanceEntry : Sound .maintenanceEntry s := by
  refine .none (execMaintenanceEntry.eq_1 ..) ?_
  repeat' split
  all_goals exact .of_dram (by simp)

theorem sound_maintEnterTimeout : Sound .maintEnterTimeout s := by
  refine .none (execMaintEnterTimeout.eq_1 ..) ?_
  repeat' split
  all_goals exact .of_dram (by simp)

theorem sound_regionReleaseEffect : Sound .regionReleaseEffect s := by
  refine .none (execRegionReleaseEffect.eq_1 ..) ?_
  dsimp only
  repeat' split
  all_goals exact .of_dram (by simp)

theorem sound_regionReleaseTimeout : Sound .regionReleaseTimeout s := by
  refine .none (execRegionReleaseTimeout.eq_1 ..) ?_
  repeat' split
  all_goals exact .of_dram (by simp)

theorem sound_hlResetQueues : Sound .hlResetQueues s := by
  refine .none (execHlResetQueues.eq_1 ..) ?_
  exact .of_dram (by simp)

theorem sound_bootGo : Sound .bootGo s := by
  refine .none (execBootGo.eq_1 ..) ?_
  exact .of_dram (by simp)

theorem sound_arbCommit (key : BitVec 16) : Sound (.arbCommit key) s := by
  refine .none (execArbCommit.eq_1 ..) ?_
  exact .of_dram (by simp)

theorem sound_debugLock (key : BitVec 16) : Sound (.debugLock key) s := by
  refine .none (execDebugLock.eq_1 ..) ?_
  exact .of_dram (by simp)

theorem sound_obsCoreselWrite (value : BitVec 32) : Sound (.obsCoreselWrite value) s := by
  refine .none (execObsCoreselWrite.eq_1 ..) ?_
  exact .of_dram (by simp)

theorem sound_obsBarselWrite (value : BitVec 32) : Sound (.obsBarselWrite value) s := by
  refine .none (execObsBarselWrite.eq_1 ..) ?_
  exact .of_dram (by simp)

theorem sound_obsSnapshotReady (barrier : Bool) : Sound (.obsSnapshotReady barrier) s := by
  refine .none (execObsSnapshotReady.eq_1 ..) ?_
  repeat' split
  all_goals exact .of_dram (by simp)

theorem sound_obsTraceCtlWrite (size half : Nat) (value : BitVec 64) : Sound (.obsTraceCtlWrite size half value) s := by
  refine .none (execObsTraceCtlWrite.eq_1 ..) ?_
  split <;> exact .of_dram (by simp)

theorem sound_regionEstimate (region milliwatts : Nat) : Sound (.regionEstimate region milliwatts) s := by
  refine .one (execRegionEstimate.eq_1 ..) rfl (.guard Nat.not_lt.symm fun _ => ?_)
  split <;> exact .of_dram (by simp)

theorem sound_railMeasurement (entries : List (Option Nat)) : Sound (.railMeasurement entries) s := by
  refine .none (execRailMeasurement.eq_1 ..) ?_
  dsimp only
  repeat' split
  all_goals exact .of_dram (by simp)

theorem sound_calibration (energy : List Nat) : Sound (.calibration energy) s := by
  refine .none (execCalibration.eq_1 ..) ?_
  split <;> exact .of_dram (by simp)

theorem sound_lineClockHoldover : Sound .lineClockHoldover s := by
  refine .none (execLineClockHoldover.eq_1 ..) ?_
  repeat' split
  all_goals exact .of_dram (by simp)

theorem sound_timetableActivate : Sound .timetableActivate s := by
  refine .none (execTimetableActivate.eq_1 ..) ?_
  exact .of_dram (by simp)

theorem sound_timetableEntryBoundary : Sound .timetableEntryBoundary s := by
  refine .none (execTimetableEntryBoundary.eq_1 ..) ?_
  exact .of_dram (by simp)

theorem sound_disturbanceEnd : Sound .disturbanceEnd s := by
  refine .none (execDisturbanceEnd.eq_1 ..) ?_
  repeat' split
  all_goals exact .of_dram (by simp)

theorem sound_pointMove (region : Nat) : Sound (.pointMove region) s := by
  refine .one (execPointMove.eq_1 ..) rfl (.guard Nat.not_lt.symm fun _ => ?_)
  dsimp only
  repeat' split
  all_goals exact .of_dram (by simp)

theorem sound_droopStretch (region : Nat) : Sound (.droopStretch region) s := by
  refine .one (execDroopStretch.eq_1 ..) rfl (.guard Nat.not_lt.symm fun _ => ?_)
  split <;> exact .of_dram (by simp)

theorem sound_droopStretchEnd (region cycles : Nat) : Sound (.droopStretchEnd region cycles) s := by
  refine .one (execDroopStretchEnd.eq_1 ..) rfl (.guard Nat.not_lt.symm fun _ => ?_)
  split <;> exact .of_dram (by simp)

theorem sound_thermalThrottle (region : Nat) : Sound (.thermalThrottle region) s := by
  refine .one (execThermalThrottle.eq_1 ..) rfl (.guard Nat.not_lt.symm fun _ => ?_)
  dsimp only
  split <;> exact .of_dram (by simp)

theorem sound_thermalCrit (region : Nat) : Sound (.thermalCrit region) s := by
  refine .one (execThermalCrit.eq_1 ..) rfl (.guard Nat.not_lt.symm fun _ => ?_)
  exact .of_dram (by simp)

theorem sound_ledgerPeriodEnd : Sound .ledgerPeriodEnd s := by
  refine .none (execLedgerPeriodEnd.eq_1 ..) ?_
  split <;> exact .of_dram (by simp)

theorem sound_ledgerSign : Sound .ledgerSign s := by
  refine .none (execLedgerSign.eq_1 ..) ?_
  exact .of_dram (by simp)

theorem sound_refclkSourceReady (pin : Bool) : Sound (.refclkSourceReady pin) s := by
  refine .none (execRefclkSourceReady.eq_1 ..) ?_
  dsimp only
  repeat' split
  all_goals exact .of_dram (by simp)

theorem sound_refclkSourceLoss (pin : Bool) : Sound (.refclkSourceLoss pin) s := by
  refine .none (execRefclkSourceLoss.eq_1 ..) ?_
  dsimp only
  repeat' split
  all_goals exact .of_dram (by simp)

theorem sound_refclkFallback : Sound .refclkFallback s := by
  refine .none (execRefclkFallback.eq_1 ..) ?_
  dsimp only
  split <;> exact .of_dram (by simp)

theorem sound_refclkSwitchDone : Sound .refclkSwitchDone s := by
  refine .none (execRefclkSwitchDone.eq_1 ..) ?_
  split <;> exact .of_dram (by simp)

theorem sound_pwrEnRise : Sound .pwrEnRise s := by
  refine .none (execPwrEnRise.eq_1 ..) ?_
  repeat' split
  all_goals exact .of_dram (by simp)

theorem sound_linkUp (fusesGood : Bool) : Sound (.linkUp fusesGood) s := by
  refine .none (execLinkUp.eq_1 ..) ?_
  repeat' split
  all_goals exact .of_dram (by simp)

theorem sound_loadingDone (bundle supplement : Option (List Byte)) : Sound (.loadingDone bundle supplement) s := by
  refine .none (execLoadingDone.eq_1 ..) ?_
  dsimp only
  repeat' split
  all_goals exact .of_dram (by simp)

theorem sound_bootWave (regions : List RegionWave) : Sound (.bootWave regions) s := by
  refine .none (execBootWave.eq_1 ..) ?_
  dsimp only
  repeat' split
  all_goals exact .of_dram (by simp)

theorem sound_clusterFault (region rank : Nat) (sram : Bool) : Sound (.clusterFault region rank sram) s := by
  refine .two (execClusterFault.eq_1 ..) rfl (.guard guard_two fun _ => ?_)
  dsimp only
  repeat' split
  all_goals exact .of_dram (by simp)

theorem sound_sidingSubstitution (region index : Nat) : Sound (.sidingSubstitution region index) s := by
  refine .two (execSidingSubstitution.eq_1 ..) rfl (.guard guard_two fun _ => ?_)
  dsimp only
  repeat' split
  all_goals exact .of_dram (by simp)

theorem sound_backgroundStartImage (region rank : Nat) (pass : Bool) : Sound (.backgroundStartImage region rank pass) s := by
  refine .two (execBackgroundStartImage.eq_1 ..) rfl (.guard guard_two fun _ => ?_)
  split <;> exact .of_dram (by simp)

theorem sound_heartbeatTimeout (region : Nat) : Sound (.heartbeatTimeout region) s := by
  refine .one (execHeartbeatTimeout.eq_1 ..) rfl (.guard Nat.not_lt.symm fun _ => ?_)
  split <;> exact .of_dram (by simp)

theorem sound_dispatcherTakeover : Sound .dispatcherTakeover s := by
  refine .none (execDispatcherTakeover.eq_1 ..) ?_
  dsimp only
  repeat' split
  all_goals exact .of_dram (by simp)

theorem sound_routerPlaneSwitch (x y : Nat) : Sound (.routerPlaneSwitch x y) s := by
  refine .two (execRouterPlaneSwitch.eq_1 ..) rfl (.guard guard_two fun _ => ?_)
  split <;> exact .of_dram (by simp)

theorem sound_regionReset (region : Nat) : Sound (.regionReset region) s := by
  refine .one (execRegionReset.eq_1 ..) rfl (.guard Nat.not_lt.symm fun _ => ?_)
  repeat' split
  all_goals exact .of_dram (by simp)

theorem sound_regionResetDone (region : Nat) (restarted : Bool) : Sound (.regionResetDone region restarted) s := by
  refine .one (execRegionResetDone.eq_1 ..) rfl (.guard Nat.not_lt.symm fun _ => ?_)
  repeat' split
  all_goals exact .of_dram (by simp)

theorem sound_cacheRowUncorrectable (granule sector : Nat) : Sound (.cacheRowUncorrectable granule sector) s := by
  refine .two (execCacheRowUncorrectable.eq_1 ..) rfl (.guard guard_two fun _ => ?_)
  split <;> exact .of_dram (by simp)

theorem sound_stackFault (region : Nat) : Sound (.stackFault region) s := by
  refine .one (execStackFault.eq_1 ..) rfl (.guard Nat.not_lt.symm fun _ => ?_)
  exact .of_dram (by simp)

theorem sound_hiaSwitch : Sound .hiaSwitch s := by
  refine .none (execHiaSwitch.eq_1 ..) ?_
  exact .of_dram (by simp)

theorem sound_partFault : Sound .partFault s := by
  refine .none (execPartFault.eq_1 ..) ?_
  exact .of_dram (by simp)

theorem sound_portTrainUp (port install : Nat) (lanes : BitVec 17) : Sound (.portTrainUp port install lanes) s := by
  refine .one (execPortTrainUp.eq_1 ..) rfl (.guard Nat.not_lt.symm fun _ => ?_)
  dsimp only
  repeat' split
  all_goals exact .of_dram (by simp)

theorem sound_fabLink (port : Nat) (flit : LinkFlit) : Sound (.fabLink port flit) s := by
  refine .one (execFabLink.eq_1 ..) rfl (.guard Nat.not_lt.symm fun _ => ?_)
  dsimp only
  repeat' split
  all_goals exact .of_dram (by simp)

theorem sound_retryResend (id : Nat) : Sound (.retryResend id) s := by
  refine .none (execRetryResend.eq_1 ..) ?_
  repeat' split
  all_goals exact .of_dram (by simp)

theorem sound_noRouteResend (id : Nat) : Sound (.noRouteResend id) s := by
  refine .none (execNoRouteResend.eq_1 ..) ?_
  repeat' split
  all_goals exact .of_dram (by simp)

theorem sound_destinationUnreachable (peer : Nat) : Sound (.destinationUnreachable peer) s := by
  refine .none (execDestinationUnreachable.eq_1 ..) ?_
  split <;> exact .of_dram (by simp)

theorem sound_portDown (port : Nat) : Sound (.portDown port) s := by
  refine .one (execPortDown.eq_1 ..) rfl (.guard Nat.not_lt.symm fun _ => ?_)
  exact .of_dram (by simp)

theorem sound_laneErase (port : Nat) (_ : LaneLoss) : Sound (.laneErase port lane) s := by
  refine .two (execLaneErase.eq_1 ..) rfl (.guard guard_two fun _ => ?_)
  dsimp only
  split <;> exact .of_dram (by simp)

theorem sound_laneSwitch (port lane : Nat) : Sound (.laneSwitch port lane) s := by
  refine .two (execLaneSwitch.eq_1 ..) rfl (.guard guard_two fun _ => ?_)
  dsimp only
  repeat' split
  all_goals exact .of_dram (by simp)

theorem sound_watchRefresh (watch : Nat) : Sound (.watchRefresh watch) s := by
  refine .none (execWatchRefresh.eq_1 ..) ?_
  repeat' split
  all_goals exact .of_dram (by simp)

theorem sound_watchReqResend (watch : Nat) : Sound (.watchReqResend watch) s := by
  refine .none (execWatchReqResend.eq_1 ..) ?_
  split <;> exact .of_dram (by simp)

theorem sound_traceTick : Sound .traceTick s := by
  refine .none (execTraceTick.eq_1 ..) ?_
  split <;> exact .of_dram (by simp)

theorem sound_traceSample : Sound .traceSample s := by
  refine .none (execTraceSample.eq_1 ..) ?_
  dsimp only
  split <;> exact .of_dram (by simp)

theorem sound_undefinedInstruction (core grp : Nat) : Sound (.undefinedInstruction core grp) s := by
  refine .two (execUndefinedInstruction.eq_1 ..) rfl (.guard guard_two fun _ => ?_)
  split <;> exact .of_dram (by simp)

theorem sound_flitRetransmit (x y : Nat) : Sound (.flitRetransmit x y) s := by
  refine .two (execFlitRetransmit.eq_1 ..) rfl (.guard guard_two fun _ => ?_)
  exact .of_dram (by simp)

theorem sound_unknownPacketType (port : Nat) (p : Packet) : Sound (.unknownPacketType port p) s := by
  refine .one (execUnknownPacketType.eq_1 ..) rfl (.guard Nat.not_lt.symm fun _ => ?_)
  repeat' split
  all_goals exact .of_dram (by simp)

theorem sound_entryVoltageRestored : Sound .entryVoltageRestored s := by
  refine .none (execEntryVoltageRestored.eq_1 ..) ?_
  exact .of_dram (by simp)

theorem sound_pwrEnDeferredRise : Sound .pwrEnDeferredRise s := by
  refine .none (execPwrEnDeferredRise.eq_1 ..) ?_
  exact .of_dram (by simp)

theorem sound_standbyHiaFault : Sound .standbyHiaFault s := by
  refine .none (execStandbyHiaFault.eq_1 ..) ?_
  split <;> exact .of_dram (by simp)

theorem sound_lineClockSlewEnd : Sound .lineClockSlewEnd s := by
  refine .none (execLineClockSlewEnd.eq_1 ..) ?_
  dsimp only
  split <;> exact .of_dram (by simp)

theorem sound_moveComplete (region : Nat) : Sound (.moveComplete region) s := by
  refine .one (execMoveComplete.eq_1 ..) rfl (.guard Nat.not_lt.symm fun _ => ?_)
  split <;> exact .of_dram (by simp)

theorem sound_fuseBlowComplete : Sound .fuseBlowComplete s := by
  refine .none (execFuseBlowComplete.eq_1 ..) ?_
  exact .of_dram (by simp)

theorem sound_stackHotChange (region : Nat) (hot : Bool) : Sound (.stackHotChange region hot) s := by
  refine .one (execStackHotChange.eq_1 ..) rfl (.guard Nat.not_lt.symm fun _ => ?_)
  exact .of_dram (by simp)

/-- Every command, by the theorem about its form. -/
theorem exec_sound (c : Instr) : Sound c s :=
  match c with
  | .ctlNop core grp => .two (execCtlNop.eq_1 ..) rfl (ctl_steps _ _ _ fun i => by simp)
  | .ctlIf core grp => .two (execCtlIf.eq_1 ..) rfl (ctl_steps _ _ _ fun i => by simp)
  | .ctlElse core grp => sound_ctlElse s core grp
  | .ctlEndif core grp => sound_ctlEndif s core grp
  | .ctlLoop core grp => .two (execCtlLoop.eq_1 ..) rfl (ctl_steps _ _ _ fun i => by simp)
  | .ctlBrk core grp => .two (execCtlBrk.eq_1 ..) rfl (ctl_steps _ _ _ fun i => by simp)
  | .ctlEndloop core grp => sound_ctlEndloop s core grp
  | .ctlExit core grp => .two (execCtlExit.eq_1 ..) rfl (ctl_steps _ _ _ fun i => by simp)
  | .ctlBraAny core grp => .two (execCtlBraAny.eq_1 ..) rfl (ctl_steps _ _ _ fun i => by simp)
  | .ctlBraAll core grp => .two (execCtlBraAll.eq_1 ..) rfl (ctl_steps _ _ _ fun i => by simp)
  | .ctlBra core grp => .two (execCtlBra.eq_1 ..) rfl (ctl_steps _ _ _ fun i => by simp)
  | .gsRd core grp => .two (execGsRd.eq_1 ..) rfl (ctl_steps _ _ _ fun i => by simp)
  | .gsClr core grp => .two (execGsClr.eq_1 ..) rfl (ctl_steps _ _ _ fun i => by simp)
  | .gsRdt core grp => .two (execGsRdt.eq_1 ..) rfl (ctl_steps _ _ _ fun i => by simp)
  | .gsClrt core grp => .two (execGsClrt.eq_1 ..) rfl (ctl_steps _ _ _ fun i => by simp)
  | .sintAdd core grp => .two (execSintAdd.eq_1 ..) rfl (scalar_steps _ _ _ _ _ _ _)
  | .sintSub core grp => .two (execSintSub.eq_1 ..) rfl (scalar_steps _ _ _ _ _ _ _)
  | .sintMulLo core grp => .two (execSintMulLo.eq_1 ..) rfl (scalar_steps _ _ _ _ _ _ _)
  | .sintMadLo core grp => .two (execSintMadLo.eq_1 ..) rfl (scalar_steps _ _ _ _ _ _ _)
  | .sintMinI32 core grp => .two (execSintMinI32.eq_1 ..) rfl (scalar_steps _ _ _ _ _ _ _)
  | .sintMaxI32 core grp => .two (execSintMaxI32.eq_1 ..) rfl (scalar_steps _ _ _ _ _ _ _)
  | .sintMinU32 core grp => .two (execSintMinU32.eq_1 ..) rfl (scalar_steps _ _ _ _ _ _ _)
  | .sintMaxU32 core grp => .two (execSintMaxU32.eq_1 ..) rfl (scalar_steps _ _ _ _ _ _ _)
  | .sintAnd core grp => .two (execSintAnd.eq_1 ..) rfl (scalar_steps _ _ _ _ _ _ _)
  | .sintOr core grp => .two (execSintOr.eq_1 ..) rfl (scalar_steps _ _ _ _ _ _ _)
  | .sintXor core grp => .two (execSintXor.eq_1 ..) rfl (scalar_steps _ _ _ _ _ _ _)
  | .sintNot core grp => .two (execSintNot.eq_1 ..) rfl (scalar_steps _ _ _ _ _ _ _)
  | .sintShl core grp => .two (execSintShl.eq_1 ..) rfl (scalar_steps _ _ _ _ _ _ _)
  | .sintShr core grp => .two (execSintShr.eq_1 ..) rfl (scalar_steps _ _ _ _ _ _ _)
  | .sintSra core grp => .two (execSintSra.eq_1 ..) rfl (scalar_steps _ _ _ _ _ _ _)
  | .sintMov core grp => .two (execSintMov.eq_1 ..) rfl (scalar_steps _ _ _ _ _ _ _)
  | .add64 core grp => .two (execAdd64.eq_1 ..) rfl (sint64_steps _ _ _ _ _)
  | .sub64 core grp => .two (execSub64.eq_1 ..) rfl (sint64_steps _ _ _ _ _)
  | .sintSeq core grp => .two (execSintSeq.eq_1 ..) rfl (scalar_steps _ _ _ _ _ _ _)
  | .sintSne core grp => .two (execSintSne.eq_1 ..) rfl (scalar_steps _ _ _ _ _ _ _)
  | .sltI32 core grp => .two (execSltI32.eq_1 ..) rfl (scalar_steps _ _ _ _ _ _ _)
  | .sleI32 core grp => .two (execSleI32.eq_1 ..) rfl (scalar_steps _ _ _ _ _ _ _)
  | .sltU32 core grp => .two (execSltU32.eq_1 ..) rfl (scalar_steps _ _ _ _ _ _ _)
  | .sleU32 core grp => .two (execSleU32.eq_1 ..) rfl (scalar_steps _ _ _ _ _ _ _)
  | .sfpAdd core grp => .two (execSfpAdd.eq_1 ..) rfl (scalar_steps _ _ _ _ _ _ _)
  | .sfpSub core grp => .two (execSfpSub.eq_1 ..) rfl (scalar_steps _ _ _ _ _ _ _)
  | .sfpMul core grp => .two (execSfpMul.eq_1 ..) rfl (scalar_steps _ _ _ _ _ _ _)
  | .sfpFma core grp => .two (execSfpFma.eq_1 ..) rfl (scalar_steps _ _ _ _ _ _ _)
  | .sfpMin core grp => .two (execSfpMin.eq_1 ..) rfl (scalar_steps _ _ _ _ _ _ _)
  | .sfpMax core grp => .two (execSfpMax.eq_1 ..) rfl (scalar_steps _ _ _ _ _ _ _)
  | .sfpSeq core grp => .two (execSfpSeq.eq_1 ..) rfl (scalar_steps _ _ _ _ _ _ _)
  | .sfpSlt core grp => .two (execSfpSlt.eq_1 ..) rfl (scalar_steps _ _ _ _ _ _ _)
  | .sfpSle core grp => .two (execSfpSle.eq_1 ..) rfl (scalar_steps _ _ _ _ _ _ _)
  | .cvtI32F32 core grp => .two (execCvtI32F32.eq_1 ..) rfl (scalar_steps _ _ _ _ _ _ _)
  | .cvtF32I32 core grp => .two (execCvtF32I32.eq_1 ..) rfl (scalar_steps _ _ _ _ _ _ _)
  | .vfpAdd core grp => .two (execVfpAdd.eq_1 ..) rfl (vec_steps _ _ _ _ _ _ _ _)
  | .vfpSub core grp => .two (execVfpSub.eq_1 ..) rfl (vec_steps _ _ _ _ _ _ _ _)
  | .vfpMul core grp => .two (execVfpMul.eq_1 ..) rfl (vec_steps _ _ _ _ _ _ _ _)
  | .vfpFma core grp => .two (execVfpFma.eq_1 ..) rfl (vec_steps _ _ _ _ _ _ _ _)
  | .vfpMin core grp => .two (execVfpMin.eq_1 ..) rfl (vec_steps _ _ _ _ _ _ _ _)
  | .vfpMax core grp => .two (execVfpMax.eq_1 ..) rfl (vec_steps _ _ _ _ _ _ _ _)
  | .vfpAbs core grp => .two (execVfpAbs.eq_1 ..) rfl (vec_steps _ _ _ _ _ _ _ _)
  | .vfpNeg core grp => .two (execVfpNeg.eq_1 ..) rfl (vec_steps _ _ _ _ _ _ _ _)
  | .vfpMov core grp => .two (execVfpMov.eq_1 ..) rfl (vec_steps _ _ _ _ _ _ _ _)
  | .vintAdd core grp => .two (execVintAdd.eq_1 ..) rfl (vec_steps _ _ _ _ _ _ _ _)
  | .vintSub core grp => .two (execVintSub.eq_1 ..) rfl (vec_steps _ _ _ _ _ _ _ _)
  | .vintMulLo core grp => .two (execVintMulLo.eq_1 ..) rfl (vec_steps _ _ _ _ _ _ _ _)
  | .vintMadLo core grp => .two (execVintMadLo.eq_1 ..) rfl (vec_steps _ _ _ _ _ _ _ _)
  | .vintMin core grp => .two (execVintMin.eq_1 ..) rfl (vec_steps _ _ _ _ _ _ _ _)
  | .vintMax core grp => .two (execVintMax.eq_1 ..) rfl (vec_steps _ _ _ _ _ _ _ _)
  | .vintAnd core grp => .two (execVintAnd.eq_1 ..) rfl (vec_steps _ _ _ _ _ _ _ _)
  | .vintOr core grp => .two (execVintOr.eq_1 ..) rfl (vec_steps _ _ _ _ _ _ _ _)
  | .vintXor core grp => .two (execVintXor.eq_1 ..) rfl (vec_steps _ _ _ _ _ _ _ _)
  | .vintNot core grp => .two (execVintNot.eq_1 ..) rfl (vec_steps _ _ _ _ _ _ _ _)
  | .vintShl core grp => .two (execVintShl.eq_1 ..) rfl (vec_steps _ _ _ _ _ _ _ _)
  | .vintShr core grp => .two (execVintShr.eq_1 ..) rfl (vec_steps _ _ _ _ _ _ _ _)
  | .vintSra core grp => .two (execVintSra.eq_1 ..) rfl (vec_steps _ _ _ _ _ _ _ _)
  | .vintMov core grp => .two (execVintMov.eq_1 ..) rfl (vec_steps _ _ _ _ _ _ _ _)
  | .vintSel core grp => .two (execVintSel.eq_1 ..) rfl (vec_steps _ _ _ _ _ _ _ _)
  | .vcmpEq core grp => .two (execVcmpEq.eq_1 ..) rfl (vcmp_steps _ _ _ _ _ _)
  | .vcmpNe core grp => .two (execVcmpNe.eq_1 ..) rfl (vcmp_steps _ _ _ _ _ _)
  | .vcmpLt core grp => .two (execVcmpLt.eq_1 ..) rfl (vcmp_steps _ _ _ _ _ _)
  | .vcmpLe core grp => .two (execVcmpLe.eq_1 ..) rfl (vcmp_steps _ _ _ _ _ _)
  | .vcmpGt core grp => .two (execVcmpGt.eq_1 ..) rfl (vcmp_steps _ _ _ _ _ _)
  | .vcmpGe core grp => .two (execVcmpGe.eq_1 ..) rfl (vcmp_steps _ _ _ _ _ _)
  | .pAnd core grp => .two (execPAnd.eq_1 ..) rfl (predOp_steps _ _ _ _ _ _)
  | .pOr core grp => .two (execPOr.eq_1 ..) rfl (predOp_steps _ _ _ _ _ _)
  | .pXor core grp => .two (execPXor.eq_1 ..) rfl (predOp_steps _ _ _ _ _ _)
  | .pAndn core grp => .two (execPAndn.eq_1 ..) rfl (predOp_steps _ _ _ _ _ _)
  | .pNot core grp => .two (execPNot.eq_1 ..) rfl (predOp_steps _ _ _ _ _ _)
  | .vfExp2 core grp => .two (execVfExp2.eq_1 ..) rfl (vec_steps _ _ _ _ _ _ _ _)
  | .vfLog2 core grp => .two (execVfLog2.eq_1 ..) rfl (vec_steps _ _ _ _ _ _ _ _)
  | .vfRcp core grp => .two (execVfRcp.eq_1 ..) rfl (vec_steps _ _ _ _ _ _ _ _)
  | .vfRsqrt core grp => .two (execVfRsqrt.eq_1 ..) rfl (vec_steps _ _ _ _ _ _ _ _)
  | .vfSqrt core grp => .two (execVfSqrt.eq_1 ..) rfl (vec_steps _ _ _ _ _ _ _ _)
  | .vfSin core grp => .two (execVfSin.eq_1 ..) rfl (vec_steps _ _ _ _ _ _ _ _)
  | .vfCos core grp => .two (execVfCos.eq_1 ..) rfl (vec_steps _ _ _ _ _ _ _ _)
  | .vfAct core grp => .two (execVfAct.eq_1 ..) rfl (issue_steps (fun i => by simp) _ _ _)
  | .vfDact core grp => .two (execVfDact.eq_1 ..) rfl (dact_steps _ _ _ _ _ _)
  | .vfDactOut core grp => .two (execVfDactOut.eq_1 ..) rfl (dact_steps _ _ _ _ _ _)
  | .cvtFromF32 core grp => .two (execCvtFromF32.eq_1 ..) rfl (issue_steps (fun i => by simp) _ _ _)
  | .cvtFromBf16x2 core grp => .two (execCvtFromBf16x2.eq_1 ..) rfl (cvtUnpack_steps _ _ _ _ _)
  | .cvtFromF16x2 core grp => .two (execCvtFromF16x2.eq_1 ..) rfl (cvtUnpack_steps _ _ _ _ _)
  | .cvtFromI32 core grp => .two (execCvtFromI32.eq_1 ..) rfl (vec_steps _ _ _ _ _ _ _ _)
  | .cvtFromU32 core grp => .two (execCvtFromU32.eq_1 ..) rfl (vec_steps _ _ _ _ _ _ _ _)
  | .vShfl core grp => .two (execVShfl.eq_1 ..) rfl (gatherV_steps _ _ _ _ _ _)
  | .vShflXor core grp => .two (execVShflXor.eq_1 ..) rfl (gatherV_steps _ _ _ _ _ _)
  | .vShflUp core grp => .two (execVShflUp.eq_1 ..) rfl (gatherV_steps _ _ _ _ _ _)
  | .vShflDown core grp => .two (execVShflDown.eq_1 ..) rfl (gatherV_steps _ _ _ _ _ _)
  | .vRdlane core grp => .two (execVRdlane.eq_1 ..) rfl (gatherS_steps _ _ _ _ _ _)
  | .vBallot core grp => .two (execVBallot.eq_1 ..) rfl (gatherS_steps _ _ _ _ _ _)
  | .laneRed core grp => .two (execLaneRed.eq_1 ..) rfl (issue_steps (fun i => by simp) _ _ _)
  | .vScanAdd core grp => .two (execVScanAdd.eq_1 ..) rfl (issue_steps (fun i => by simp) _ _ _)
  | .vLd core grp => .two (execVLd.eq_1 ..) rfl (issue_steps (fun i => by simp) _ _ _)
  | .vSt core grp => .two (execVSt.eq_1 ..) rfl (issue_steps (fun i => by simp) _ _ _)
  | .sLd core grp => .two (execSLd.eq_1 ..) rfl (issue_steps (fun i => by simp) _ _ _)
  | .sSt core grp => .two (execSSt.eq_1 ..) rfl (issue_steps (fun i => by simp) _ _ _)
  | .vatomAdd core grp => .two (execVatomAdd.eq_1 ..) rfl (vatom_steps _ _ _ _)
  | .vatomAddF32 core grp => .two (execVatomAddF32.eq_1 ..) rfl (vatom_steps _ _ _ _)
  | .vatomMinI32 core grp => .two (execVatomMinI32.eq_1 ..) rfl (vatom_steps _ _ _ _)
  | .vatomMaxI32 core grp => .two (execVatomMaxI32.eq_1 ..) rfl (vatom_steps _ _ _ _)
  | .vatomMinU32 core grp => .two (execVatomMinU32.eq_1 ..) rfl (vatom_steps _ _ _ _)
  | .vatomMaxU32 core grp => .two (execVatomMaxU32.eq_1 ..) rfl (vatom_steps _ _ _ _)
  | .vatomMinF32 core grp => .two (execVatomMinF32.eq_1 ..) rfl (vatom_steps _ _ _ _)
  | .vatomMaxF32 core grp => .two (execVatomMaxF32.eq_1 ..) rfl (vatom_steps _ _ _ _)
  | .vatomAnd core grp => .two (execVatomAnd.eq_1 ..) rfl (vatom_steps _ _ _ _)
  | .vatomOr core grp => .two (execVatomOr.eq_1 ..) rfl (vatom_steps _ _ _ _)
  | .vatomXor core grp => .two (execVatomXor.eq_1 ..) rfl (vatom_steps _ _ _ _)
  | .vatomExch core grp => .two (execVatomExch.eq_1 ..) rfl (vatom_steps _ _ _ _)
  | .vatomCas core grp => .two (execVatomCas.eq_1 ..) rfl (vatom_steps _ _ _ _)
  | .tileLd core grp => .two (execTileLd.eq_1 ..) rfl (tileMem_steps _ _ _ _ _ _)
  | .tileSt core grp => .two (execTileSt.eq_1 ..) rfl (tileMem_steps _ _ _ _ _ _)
  | .tileRdRow core grp => .two (execTileRdRow.eq_1 ..) rfl (tileRead_steps _ _ _ _ _ _ _)
  | .tileRdCol core grp => .two (execTileRdCol.eq_1 ..) rfl (tileRead_steps _ _ _ _ _ _ _)
  | .tileWrRow core grp => .two (execTileWrRow.eq_1 ..) rfl (tileWrite_steps _ _ _ _ _)
  | .tileWrCol core grp => .two (execTileWrCol.eq_1 ..) rfl (tileWrite_steps _ _ _ _ _)
  | .tileTr core grp => .two (execTileTr.eq_1 ..) rfl (issue_steps (fun i => by simp) _ _ _)
  | .tileRedRow core grp => .two (execTileRedRow.eq_1 ..) rfl (tileRed_steps _ _ _ _ _)
  | .tileRedCol core grp => .two (execTileRedCol.eq_1 ..) rfl (tileRed_steps _ _ _ _ _)
  | .tilePack core grp => .two (execTilePack.eq_1 ..) rfl (issue_steps (fun i => by simp) _ _ _)
  | .vqLd core grp => sound_vqLd s core grp
  | .vqSt core grp => sound_vqSt s core grp
  | .mma core grp => .two (execMma.eq_1 ..) rfl (doMma_steps _ _ _)
  | .mmaWg core grp => .two (execMmaWg.eq_1 ..) rfl (doMmaWg_steps _ _ _)
  | .accDrain core grp => .two (execAccDrain.eq_1 ..) rfl (doAccDrain_steps _ _ _)
  | .wgsOpen core grp => .two (execWgsOpen.eq_1 ..) rfl (wgs_steps _ _ _ fun i => by simp)
  | .wgsCommit core grp => .two (execWgsCommit.eq_1 ..) rfl (doWgsCommit_steps _ _ _)
  | .wgsDiscard core grp => sound_wgsDiscard s core grp
  | .gangHold core grp => .two (execGangHold.eq_1 ..) rfl (gangIns_steps _ _ _ _)
  | .gangFree core grp => .two (execGangFree.eq_1 ..) rfl (gangIns_steps _ _ _ _)
  | .barInit core grp => .two (execBarInit.eq_1 ..) rfl (doBarInit_steps _ _ _)
  | .barArrive core grp => .two (execBarArrive.eq_1 ..) rfl (barIns_steps _ _ _ fun i b => by simp)
  | .barWait core grp => .two (execBarWait.eq_1 ..) rfl (barIns_steps _ _ _ fun i b => by simp)
  | .barArw core grp => .two (execBarArw.eq_1 ..) rfl (barIns_steps _ _ _ fun i b => by simp)
  | .barGen core grp => .two (execBarGen.eq_1 ..) rfl (barIns_steps _ _ _ fun i b => by simp)
  | .barInsp core grp => .two (execBarInsp.eq_1 ..) rfl (barIns_steps _ _ _ fun i b => by simp)
  | .fenceRelease core grp => .two (execFenceRelease.eq_1 ..) rfl (fence_steps _ _ _ _ _ _)
  | .fenceAcquire core grp => .two (execFenceAcquire.eq_1 ..) rfl (fence_steps _ _ _ _ _ _)
  | .fenceFull core grp => .two (execFenceFull.eq_1 ..) rfl (fence_steps _ _ _ _ _ _)
  | .mvGet core grp => .two (execMvGet.eq_1 ..) rfl (mv_steps _ _ _ _ _ _)
  | .mvPut core grp => .two (execMvPut.eq_1 ..) rfl (mv_steps _ _ _ _ _ _)
  | .nsPut core grp => .two (execNsPut.eq_1 ..) rfl (ns_steps _ _ _ _ _ _ _)
  | .nsGet core grp => .two (execNsGet.eq_1 ..) rfl (ns_steps _ _ _ _ _ _ _)
  | .mAtomAdd core grp => .two (execMAtomAdd.eq_1 ..) rfl (mAtom_steps _ _ _ _)
  | .mAtomAddF32 core grp => .two (execMAtomAddF32.eq_1 ..) rfl (mAtom_steps _ _ _ _)
  | .mAtomMinI32 core grp => .two (execMAtomMinI32.eq_1 ..) rfl (mAtom_steps _ _ _ _)
  | .mAtomMaxI32 core grp => .two (execMAtomMaxI32.eq_1 ..) rfl (mAtom_steps _ _ _ _)
  | .mAtomMinU32 core grp => .two (execMAtomMinU32.eq_1 ..) rfl (mAtom_steps _ _ _ _)
  | .mAtomMaxU32 core grp => .two (execMAtomMaxU32.eq_1 ..) rfl (mAtom_steps _ _ _ _)
  | .mAtomMinF32 core grp => .two (execMAtomMinF32.eq_1 ..) rfl (mAtom_steps _ _ _ _)
  | .mAtomMaxF32 core grp => .two (execMAtomMaxF32.eq_1 ..) rfl (mAtom_steps _ _ _ _)
  | .mAtomAnd core grp => .two (execMAtomAnd.eq_1 ..) rfl (mAtom_steps _ _ _ _)
  | .mAtomOr core grp => .two (execMAtomOr.eq_1 ..) rfl (mAtom_steps _ _ _ _)
  | .mAtomXor core grp => .two (execMAtomXor.eq_1 ..) rfl (mAtom_steps _ _ _ _)
  | .mAtomExch core grp => .two (execMAtomExch.eq_1 ..) rfl (mAtom_steps _ _ _ _)
  | .mAtomCas core grp => .two (execMAtomCas.eq_1 ..) rfl (mAtom_steps _ _ _ _)
  | .mAtomReply id => sound_mAtomReply s id
  | .hAlloc core grp => .two (execHAlloc.eq_1 ..) rfl (issue_steps (fun i => by simp) _ _ _)
  | .hFree core grp => sound_hFree s core grp
  | .heapReply id => sound_heapReply s id
  | .matrixQueueAccept core grp => .two (execMatrixQueueAccept.eq_1 ..) rfl (resume_steps _ _ _ _)
  | .bankSpaceAccept core grp => .two (execBankSpaceAccept.eq_1 ..) rfl (resume_steps _ _ _ _)
  | .engpendResume core grp => .two (execEngpendResume.eq_1 ..) rfl (resume_steps _ _ _ _)
  | .feederFill core => sound_feederFill s core
  | .oprelArrival core rid => sound_oprelArrival s core rid
  | .kStep core => sound_kStep s core
  | .mmaComplete core rid => .one (execMmaComplete.eq_1 ..) rfl (mxComplete_steps _ _ _ _)
  | .mmaWgComplete core rid => .one (execMmaWgComplete.eq_1 ..) rfl (mxComplete_steps _ _ _ _)
  | .drainStart core => sound_drainStart s core
  | .drainComplete core => sound_drainComplete s core
  | .gangForm cluster => sound_gangForm s cluster
  | .gangLeave cluster => sound_gangLeave s cluster
  | .gangReleaseCountExpiry cluster => sound_gangReleaseCountExpiry s cluster
  | .wgsCommitComplete cluster => sound_wgsCommitComplete s cluster
  | .engineArrival id => sound_engineArrival s id
  | .meshWriteArrival id => sound_meshWriteArrival s id
  | .closingWriteResend id => sound_closingWriteResend s id
  | .meshAck id => sound_meshAck s id
  | .meshReadReply id => sound_meshReadReply s id
  | .moverComplete rid => sound_moverComplete s rid
  | .regionCacheAccess id => sound_regionCacheAccess s id
  | .regionCacheFill granule sector noise => sound_regionCacheFill s granule sector noise
  | .dramRefresh region channel bank => sound_dramRefresh s region channel bank
  | .dramRetrain region channel => sound_dramRetrain s region channel
  | .scrub granule noise => sound_scrub s granule noise
  | .rebuildSweepEnd region channel => sound_rebuildSweepEnd s region channel
  | .hostLinkTrain lanes => sound_hostLinkTrain s lanes
  | .hostLinkDown => sound_hostLinkDown s
  | .functionLevelReset => sound_functionLevelReset s
  | .hotReset => sound_hotReset s
  | .perst => sound_perst s
  | .d3hotEntry => sound_d3hotEntry s
  | .d0Return => sound_d0Return s
  | .hostCompletion id good data => sound_hostCompletion s id good data
  | .hostCompletionTimeout id => sound_hostCompletionTimeout s id
  | .ptmDialogue mtime ltime => sound_ptmDialogue s mtime ltime
  | .summaryPoll summary words => sound_summaryPoll s summary words
  | .descriptorFetch queue descs => sound_descriptorFetch s queue descs
  | .kernelStart queue deferred => sound_kernelStart s queue deferred
  | .kernelLaunch kid => sound_kernelLaunch s kid
  | .departureSlot region => sound_departureSlot s region
  | .readmissionRequest cluster => sound_readmissionRequest s cluster
  | .kernelComplete kid => sound_kernelComplete s kid
  | .kernelTimeout kid => sound_kernelTimeout s kid
  | .grainHandout kid cluster => sound_grainHandout s kid cluster
  | .grainComplete kid cluster => sound_grainComplete s kid cluster
  | .completionRecord queue => sound_completionRecord s queue
  | .msixMessage vector => sound_msixMessage s vector
  | .nopDescriptor queue => .one (execNopDescriptor.eq_1 ..) rfl (onStart_steps _ _ _ fun d s h => h.of_dram (by simp))
  | .copyStart queue => .one (execCopyStart.eq_1 ..) rfl (onStart_steps _ _ _ fun d s h => h.of_dram (by simp))
  | .copyComplete queue data hostOk => sound_copyComplete s queue data hostOk
  | .objectReleased context isFence index => sound_objectReleased s context isFence index
  | .fenceWait queue => .one (execFenceWait.eq_1 ..) rfl (onStart_steps _ _ _ fun d s h => h.of_dram (by simp))
  | .fenceWaitSatisfied queue => sound_fenceWaitSatisfied s queue
  | .fenceSignal queue => sound_fenceSignal s queue
  | .watchUpdate watch => sound_watchUpdate s watch
  | .jobCreate queue => sound_jobCreate s queue
  | .jobDestroy queue => sound_jobDestroy s queue
  | .bucketReady queue => sound_bucketReady s queue
  | .slotReserve bucket => sound_slotReserve s bucket
  | .bucketTimeout bucket => sound_bucketTimeout s bucket
  | .planOpen queue => .one (execPlanOpen.eq_1 ..) rfl (onPlan_steps _ _ _ fun d s h => h.of_dram (by simp))
  | .planMark queue => sound_planMark s queue
  | .planClose queue => sound_planClose s queue
  | .recompute queue => sound_recompute s queue
  | .recomputeEntry queue => sound_recomputeEntry s queue
  | .snapshot queue => .one (execSnapshot.eq_1 ..) rfl (onStart_steps _ _ _ fun d s h => h.of_dram (by simp))
  | .snapshotBlockRead snap => sound_snapshotBlockRead s snap
  | .snapshotDone snap => sound_snapshotDone s snap
  | .timetableLoad table => sound_timetableLoad s table
  | .capPreset => .none (execCapPreset.eq_1 ..) (onMgmt_runs _ _ fun d s h => h.of_dram (by simp))
  | .lineNotice => .none (execLineNotice.eq_1 ..) (onMgmt_runs _ _ fun d s h => h.of_dram (by simp))
  | .lineDisturbance => sound_lineDisturbance s
  | .disturbanceClear => sound_disturbanceClear s
  | .envNotice => .none (execEnvNotice.eq_1 ..) (onMgmt_runs _ _ fun d s h => h.of_dram (by simp))
  | .ledgerGet => .none (execLedgerGet.eq_1 ..) (onMgmtResult_runs _ _ _ fun d s h => h.of_dram (by simp))
  | .defectSupplement supplement => sound_defectSupplement s supplement
  | .selftest => .none (execSelftest.eq_1 ..) (onMgmtResult_runs _ _ _ fun d s h => h.of_dram (by simp))
  | .selftestRun failed => sound_selftestRun s failed
  | .selftestTimeout => sound_selftestTimeout s
  | .dramMargin => sound_dramMargin s
  | .dramMarginDone result => sound_dramMarginDone s result
  | .maintEnter => .none (execMaintEnter.eq_1 ..) (onMgmt_runs _ _ fun d s h => h.of_dram (by simp))
  | .maintenanceEntry => sound_maintenanceEntry s
  | .maintEnterTimeout => sound_maintEnterTimeout s
  | .maintExit => .none (execMaintExit.eq_1 ..) (onMgmt_runs _ _ fun d s h => h.of_dram (by simp))
  | .ctxCreate => .none (execCtxCreate.eq_1 ..) (onMgmtResult_runs _ _ _ fun d s h => h.of_dram (by simp))
  | .ctxDestroy => .none (execCtxDestroy.eq_1 ..) (onMgmt_runs _ _ fun d s h => h.of_dram (by simp))
  | .teardownComplete context => sound_teardownComplete s context
  | .regionAssign => .none (execRegionAssign.eq_1 ..) (onAssign_runs _ _ fun d s h => h.of_dram (by simp))
  | .regionRelease => .none (execRegionRelease.eq_1 ..) (onAssign_runs _ _ fun d s h => h.of_dram (by simp))
  | .regionReleaseEffect => sound_regionReleaseEffect s
  | .regionReleaseTimeout => sound_regionReleaseTimeout s
  | .attest => .none (execAttest.eq_1 ..) (onMgmtResult_runs _ _ _ fun d s h => h.of_dram (by simp))
  | .hlResetQueues => sound_hlResetQueues s
  | .hlResetPart key => sound_hlResetPart s key
  | .queueEnable queue word => sound_queueEnable s queue word
  | .queueStop queue => sound_queueStop s queue
  | .queueAbort queue => sound_queueAbort s queue
  | .qeConfigWrite offset size value => sound_qeConfigWrite s offset size value
  | .memPlaceMaskWrite entry size half value => sound_memPlaceMaskWrite s entry size half value
  | .memPlaceAttrWrite entry value => sound_memPlaceAttrWrite s entry value
  | .memSelClr value => sound_memSelClr s value
  | .bootGo => sound_bootGo s
  | .arbCommit key => sound_arbCommit s key
  | .partitionResetGo key => sound_partitionResetGo s key
  | .debugLock key => sound_debugLock s key
  | .ckRefCtlWrite value => sound_ckRefCtlWrite s value
  | .ckObsCtlWrite value => sound_ckObsCtlWrite s value
  | .ckRgnCtlWrite region value => sound_ckRgnCtlWrite s region value
  | .ptEvenWrite value => sound_ptEvenWrite s value
  | .obsCoreselWrite value => sound_obsCoreselWrite s value
  | .obsBarselWrite value => sound_obsBarselWrite s value
  | .obsSnapshotReady barrier => sound_obsSnapshotReady s barrier
  | .obsTraceCtlWrite size half value => sound_obsTraceCtlWrite s size half value
  | .fabPortCtlWrite port value => sound_fabPortCtlWrite s port value
  | .registerWrite offset size value => sound_registerWrite s offset size value
  | .powerTick => sound_powerTick s
  | .regionEstimate region milliwatts => sound_regionEstimate s region milliwatts
  | .railMeasurement entries => sound_railMeasurement s entries
  | .calibration energy => sound_calibration s energy
  | .lineClockHoldover => sound_lineClockHoldover s
  | .timetableActivate => sound_timetableActivate s
  | .timetableEntryBoundary => sound_timetableEntryBoundary s
  | .disturbanceEnd => sound_disturbanceEnd s
  | .pointMove region => sound_pointMove s region
  | .droopStretch region => sound_droopStretch s region
  | .droopStretchEnd region cycles => sound_droopStretchEnd s region cycles
  | .thermalThrottle region => sound_thermalThrottle s region
  | .thermalCrit region => sound_thermalCrit s region
  | .ledgerPeriodEnd => sound_ledgerPeriodEnd s
  | .ledgerSign => sound_ledgerSign s
  | .refclkSourceReady pin => sound_refclkSourceReady s pin
  | .refclkSourceLoss pin => sound_refclkSourceLoss s pin
  | .refclkFallback => sound_refclkFallback s
  | .refclkSwitchDone => sound_refclkSwitchDone s
  | .pllLockLoss kind unit => sound_pllLockLoss s kind unit
  | .pwrEnRise => sound_pwrEnRise s
  | .pwrEnFall => sound_pwrEnFall s
  | .entryVoltageFault entry => sound_entryVoltageFault s entry
  | .powerRampDone refsel => sound_powerRampDone s refsel
  | .linkUp fusesGood => sound_linkUp s fusesGood
  | .loadingDone bundle supplement => sound_loadingDone s bundle supplement
  | .bootWave regions => sound_bootWave s regions
  | .clusterFault region rank sram => sound_clusterFault s region rank sram
  | .sidingSubstitution region index => sound_sidingSubstitution s region index
  | .replayShare kid cluster => sound_replayShare s kid cluster
  | .replayWhole kid => sound_replayWhole s kid
  | .backgroundStartImage region rank pass => sound_backgroundStartImage s region rank pass
  | .heartbeatTimeout region => sound_heartbeatTimeout s region
  | .dispatcherTakeover => sound_dispatcherTakeover s
  | .routerPlaneSwitch x y => sound_routerPlaneSwitch s x y
  | .regionReset region => sound_regionReset s region
  | .regionResetDone region restarted => sound_regionResetDone s region restarted
  | .cacheRowUncorrectable granule sector => sound_cacheRowUncorrectable s granule sector
  | .engineFault engine => sound_engineFault s engine
  | .stackFault region => sound_stackFault s region
  | .hiaSwitch => sound_hiaSwitch s
  | .partFault => sound_partFault s
  | .portTrainUp port install lanes => sound_portTrainUp s port install lanes
  | .fabLink port flit => sound_fabLink s port flit
  | .fabWrite port p => sound_fabWrite s port p
  | .writeClose port p => sound_writeClose s port p
  | .epochEnd port p => sound_epochEnd s port p
  | .readReq port p => sound_readReq s port p
  | .readReply port p => sound_readReply s port p
  | .fabAck port p => sound_fabAck s port p
  | .watchReq port p => sound_watchReq s port p
  | .watchValue port p => .one (execWatchValue.eq_1 ..) rfl (onPacket_steps _ _ _ _ fun d s h => h.of_dram (by simp))
  | .watchEnd port p => sound_watchEnd s port p
  | .fabRecover port p => sound_fabRecover s port p
  | .xContrib port p => sound_xContrib s port p
  | .xContribSparse port p => sound_xContribSparse s port p
  | .xContribEnd port p => sound_xContribEnd s port p
  | .xRedispatch port p => sound_xRedispatch s port p
  | .xParam port p => sound_xParam s port p
  | .xParamEnd port p => sound_xParamEnd s port p
  | .retryResend id => sound_retryResend s id
  | .noRouteResend id => sound_noRouteResend s id
  | .destinationUnreachable peer => sound_destinationUnreachable s peer
  | .portDown port => sound_portDown s port
  | .laneErase port lane => sound_laneErase s port lane
  | .laneSwitch port lane => sound_laneSwitch s port lane
  | .watchRefresh watch => sound_watchRefresh s watch
  | .watchReqResend watch => sound_watchReqResend s watch
  | .traceTick => sound_traceTick s
  | .traceSample => sound_traceSample s
  | .undefinedInstruction core grp => sound_undefinedInstruction s core grp
  | .flitRetransmit x y => sound_flitRetransmit s x y
  | .replayRequest port => sound_replayRequest s port
  | .unknownPacketType port p => sound_unknownPacketType s port p
  | .entryVoltageRestored => sound_entryVoltageRestored s
  | .pwrEnDeferredRise => sound_pwrEnDeferredRise s
  | .standbyHiaFault => sound_standbyHiaFault s
  | .lineClockSlewEnd => sound_lineClockSlewEnd s
  | .moveComplete region => sound_moveComplete s region
  | .fuseBlowComplete => sound_fuseBlowComplete s
  | .stackHotChange region hot => sound_stackHotChange s region hot

end Sys2Proof.Machine

namespace Sys2Proof.Claims

open Machine

/-- Refutes O3: a replay request on flit 4 of port 0 names a flit that no frame has, so it is not well formed, but the command
checks its port alone and answers a next state. -/
theorem not_commandsStopOnlyForMissingUnits : ¬ Obligations.CommandsStopOnlyForMissingUnits := by
  intro h
  obtain ⟨-, hstops⟩ := h (.replayRequest { port := 0, flit := 4 }) State.reset
  have hfault := hstops (by decide)
  cases hfault

theorem unitsExist_of_pending {s t : State} {c : Instr} {rest : List Instr} (hs : s.pending = c :: rest)
    (ht : t.pending = rest) (h : unitsExist s = true) : c.wf = true ∧ unitsExist t = true := by
  simpa [unitsExist, hs, ht] using h

/-- Settles O4: a well-formed command answers a next state and leaves the rest of the queue waiting. -/
theorem runsNeverStop : Obligations.RunsNeverStop := by
  intro s hs
  unfold step
  split
  · next hempty => exact ⟨_, rfl, by simp [unitsExist, hempty]⟩
  · next c rest hfront =>
    have hwf := (unitsExist_of_pending (t := { s with pending := rest }) hfront rfl hs).1
    obtain ⟨t, hstep, hpending⟩ := (exec_sound { s with pending := rest } c).1 hwf
    exact ⟨t, hstep, (unitsExist_of_pending hfront hpending hs).2⟩

/-- Settles O5: each command keeps the canonical form, and a nanosecond writes no byte. -/
theorem stepsKeepMemoryCanonical : Obligations.StepsKeepMemoryCanonical := by
  intro s t hs hstep
  unfold step at hstep
  split at hstep
  · cases hstep
    exact (show s.Canon from hs).of_dram (Gk1.tick_dram _)
  · next c rest _ => exact (exec_sound { s with pending := rest } c).2 t hstep hs

end Sys2Proof.Claims

/-! The step, reset and the frame of an issued instruction. -/

namespace Sys2Proof.Machine

@[simp] theorem Gk1.park_dtime (s : Gk1) (cl : Nat) : (s.park cl).dtime = s.dtime := by
  unfold Gk1.park
  dsimp only
  split <;> rfl

@[simp] theorem Gk1.parkMore_dtime (s : Gk1) : s.parkMore.dtime = s.dtime := by
  unfold Gk1.parkMore
  split
  · rfl
  · exact foldl_keeps (fun s : Gk1 => s.dtime) (fun s c => s.park_dtime c) _ _

/-- A nanosecond adds 1 to DTIME, with and without power. -/
@[simp] theorem Gk1.tick_dtime (s : Gk1) : s.tick.dtime = s.dtime + 1 := by
  unfold Gk1.tick
  dsimp only
  split
  · rfl
  · split <;> simp

section
variable (s : Gk1) (core i n : Nat)

/-- Counting changes the counters of the part and of contexts alone. -/
theorem Gk1.countCtx_frame (c : Nat) : { s.countCtx c i n with ctxs := [] } = { s with ctxs := [] } := by
  unfold Gk1.countCtx
  split <;> rfl

theorem Gk1.countCore_frame :
    { s.countCore core i n with cores := [], obs := {}, ctxs := [] } = { s with cores := [], obs := {}, ctxs := [] } := by
  have hctx := fun s c => congrArg (fun t : Gk1 => { t with cores := [], obs := {} }) (Gk1.countCtx_frame s (2 + i) n c)
  unfold Gk1.countCore
  dsimp only
  split
  · rfl
  · split
    · split
      · exact hctx _ _
      · rfl
    · rfl

@[simp] theorem Gk1.countCtx_cores (c : Nat) : (s.countCtx c i n).cores = s.cores := by
  unfold Gk1.countCtx
  split <;> rfl

@[simp] theorem Gk1.countCore_cores : (s.countCore core i n).cores = s.cores := by
  unfold Gk1.countCore
  dsimp only
  split
  · rfl
  · split
    · split <;> simp
    · rfl

@[simp] theorem Gk1.core_countCore (c : Nat) : (s.countCore core i n).core c = s.core c := by
  rw [Gk1.core, Gk1.countCore_cores, Gk1.core]

end

end Sys2Proof.Machine

namespace Sys2Proof.Claims

open Sys2Proof.Machine

/-- Settles O1: both arms of the step, and a nanosecond adds 1 to DTIME. -/
theorem stepRunsTheFrontCommand : Obligations.StepRunsTheFrontCommand :=
  ⟨fun s c rest hfront => by rw [step, hfront], fun s hempty => ⟨by rw [step, hempty], s.tick_dtime⟩⟩

/-- Settles O2: no register has been written, so each one reads its Reset value. -/
theorem resetValues : Obligations.ResetValues := by
  unfold Obligations.ResetValues
  decide +kernel

/-- Settles O6: passing an instruction changes the group's program counter, the core's last slot and counters. -/
theorem issueFrame : Obligations.IssueFrame := by
  intro s core grp words vport p t
  have hcore : ∀ c, t.core c = (p.passPc core grp ((s.group core grp).pc + words)).core c := fun c => Gk1.core_countCore ..
  refine ⟨fun c hc => ?_, fun g hg => ?_, ?_, ?_, (Gk1.countCore_frame ..).trans rfl, rfl⟩
  · rw [hcore, Gk1.passPc, Gk1.core_modCore, if_neg (Ne.symm hc)]
  · rw [Gk1.group, hcore, Gk1.passPc, Gk1.core_modCore, if_pos rfl]
    exact (Core.group_setGroup ..).trans (if_neg (Ne.symm hg))
  · rw [Gk1.group, hcore, Gk1.passPc, Gk1.core_modCore, if_pos rfl]
    exact (Core.group_setGroup ..).trans (if_pos rfl)
  · rw [hcore, Gk1.passPc, Gk1.core_modCore, if_pos rfl]
    rfl

end Sys2Proof.Claims

/-! What an issued instruction leaves when it does not pass: a jump, a fault, a stall, and a word that is refused. -/

namespace Sys2Proof.Claims

open Sys2Proof.Machine

/-- What `issue` answers once it runs the instruction. -/
def issued (s : Gk1) (core grp words vport : Nat) : Iss → Gk1
  | .ok p => (p.passPc core grp ((s.group core grp).pc + words)).countCore core 4 vport
  | .jump p => p
  | .fault code => s.groupFault core grp code
  | .stall st => s.modGroup core grp fun G => { G with stall := st }
  | .hold => s

section
variable {maj vport core grp : Nat} {isOp : Nat → Bool} {ok : Nat → Nat → Bool} {regs : Nat → List Nat} {run : GI → Iss} {s : State}

/-- An instruction that meets `issues` runs, and its outcome decides what it leaves. -/
theorem act_issue (h : issues maj isOp ok regs core grp s.toGk1 = true) :
    s.act (issue maj isOp ok regs vport run core grp) =
      .next (became s (issued s.toGk1 core grp (if isLong maj then 2 else 1) vport (run (fetched s.toGk1 core grp (isLong maj))))) := by
  simp only [issues, Bool.and_eq_true, decide_eq_true_eq, Bool.not_eq_true'] at h
  obtain ⟨⟨⟨⟨⟨⟨⟨hcore, hgrp⟩, hready⟩, hplaced⟩, hmaj⟩, hop⟩, hok⟩, hregs⟩ := h
  have hunits : (coreOk core && decide (grp < 8)) = true := by
    rw [Bool.and_eq_true, coreOk, decide_eq_true_eq, decide_eq_true_eq]; exact ⟨hcore, hgrp⟩
  apply State.act_of_next
  simp only [fetched] at hmaj hop hok hregs
  simp only [Gk1.group] at *
  simp only [issue, hunits, hready, hplaced, hmaj, hop, hok, hregs, fetched, Gk1.group]
  simp only [Bool.not_true, Bool.false_eq_true, if_false, decide_true, Bool.and_self]
  generalize run _ = outcome
  cases outcome <;> cases isLong maj <;> rfl

theorem act_issue_jump {p : Gk1} (h : issues maj isOp ok regs core grp s.toGk1 = true)
    (hrun : run (fetched s.toGk1 core grp (isLong maj)) = .jump p) :
    s.act (issue maj isOp ok regs vport run core grp) = .next (became s p) := by rw [act_issue h, hrun]; rfl

theorem act_issue_fault {code : Nat} (h : issues maj isOp ok regs core grp s.toGk1 = true)
    (hrun : run (fetched s.toGk1 core grp (isLong maj)) = .fault code) :
    s.act (issue maj isOp ok regs vport run core grp) = .next (became s (s.groupFault core grp code)) := by
  rw [act_issue h, hrun]; rfl

theorem act_issue_stall {st : Stall} (h : issues maj isOp ok regs core grp s.toGk1 = true)
    (hrun : run (fetched s.toGk1 core grp (isLong maj)) = .stall st) :
    s.act (issue maj isOp ok regs vport run core grp) =
      .next (became s (s.toGk1.modGroup core grp fun G => { G with stall := st })) := by rw [act_issue h, hrun]; rfl

theorem act_issue_hold (h : issues maj isOp ok regs core grp s.toGk1 = true)
    (hrun : run (fetched s.toGk1 core grp (isLong maj)) = .hold) :
    s.act (issue maj isOp ok regs vport run core grp) = .next s := by rw [act_issue h, hrun]; rfl

/-- A word of the row whose fields are refused halts the group with INSTR_INVALID (R266, R773). -/
theorem act_issue_refused (hcore : core < nCores) (hgrp : grp < nGroups) (hready : s.ready core grp = true)
    (hplaced : (s.core core).wellPlaced (s.group core grp).pc = true)
    (hmaj : wMaj ((s.core core).word (s.group core grp).pc) = maj) (hop : isOp ((s.core core).word (s.group core grp).pc) = true)
    (hok : ∀ w1, ok ((s.core core).word (s.group core grp).pc) w1 = false) :
    s.act (issue maj isOp ok regs vport run core grp) = .next (became s (s.groupFault core grp 0x20)) := by
  have hunits : (coreOk core && decide (grp < 8)) = true := by
    rw [Bool.and_eq_true, coreOk, decide_eq_true_eq, decide_eq_true_eq]; exact ⟨hcore, hgrp⟩
  apply State.act_of_next
  simp only [Gk1.group] at *
  simp [issue, hunits, hready, hplaced, hmaj, hop, hok, became]

end

end Sys2Proof.Claims

/-! Floating-point rows, and the words that a row refuses. -/

namespace Sys2Proof.Claims

open Sys2Proof.Machine

/-! ## Floating-point rows -/

/-- A vector floating-point row is the command of a lane's operation. -/
def XRow.Is (r : XRow) (f : GI → Nat → Nat → Nat → Nat → Nat × Flg) : Prop :=
  (∀ core grp s, exec (r.row core grp) s = s.act (vec r.maj r.op r.vport r.use f core grp)) ∧
  isLong r.maj = false ∧ r.use.sx = false ∧
  ∀ i l, f i l (i.G.vn (wA i.w) l) (i.G.vb i.w (wType i.w) l) (i.G.vn (wC i.w) l) = r.f i.G i.w l

/-- Every vector floating-point row is its lane's operation (R231, R259, R284, R286). -/
theorem xRows_is : ∀ r ∈ xRows, ∃ f, r.Is f := by
  simp only [xRows, List.cons_append, List.nil_append, List.forall_mem_cons]
  refine ⟨?_, ?_, ?_, ?_, ?_, ?_, ?_, ?_, ?_, ?_, ?_, ?_, ?_, ?_, ?_, ?_, ?_, ?_, fun _ h => absurd h List.not_mem_nil⟩
  all_goals exact ⟨_, fun _ _ _ => rfl, rfl, rfl, fun _ _ => rfl⟩

theorem XRow.Is.exec_row {r : XRow} {f : GI → Nat → Nat → Nat → Nat → Nat × Flg} (hr : r.Is f) {core grp : Nat} {s : State}
    (h : issues r.maj (opIs r.op) (fun w _ => vOk r.use w) (fun w => vRegs w false false false false) core grp s.toGk1 = true) :
    let G := s.group core grp
    let w := (fetched s.toGk1 core grp false).w
    exec (r.row core grp) s = .next (passed s core grp 1 r.vport
      (groupIs s core grp ((G.setV (wD w) (G.on w) fun l => (r.f G w l).1).flag (laneFlags (G.on w) fun l => (r.f G w l).2)))) := by
  intro G w
  obtain ⟨hexec, hshort, hsx, hf⟩ := hr
  have hact := act_vec (vport := r.vport) (u := r.use) (f := f) hshort (by rwa [hsx])
  rw [hexec, hact]
  have hlane : (fun l => f (fetched s.toGk1 core grp false) l (G.vn (wA w) l) (G.vb w (wType w) l) (G.vn (wC w) l)) = r.f G w :=
    funext (hf (fetched s.toGk1 core grp false))
  exact congrArg (fun lane : Nat → Nat × Flg => Host.Outcome.next (φ := Fault) (ρ := Refusal) (passed s core grp 1 r.vport
    (groupIs s core grp ((G.setV (wD w) (G.on w) fun l => (lane l).1).flag (laneFlags (G.on w) fun l => (lane l).2))))) hlane

/-- Every scalar FP32 row is the scalar command of its operation (R231, R284). -/
theorem exec_sfpRow : ∀ r ∈ sfpRows, ∀ core grp s, exec (r.row core grp) s = s.act (scalar 2 r.op r.use r.f core grp) := by
  simp only [sfpRows, List.forall_mem_cons]
  refine ⟨?_, ?_, ?_, ?_, ?_, ?_, ?_, ?_, ?_, ?_, ?_, fun _ h => absurd h List.not_mem_nil⟩
  all_goals exact fun _ _ _ => rfl

/-- Settles O9. -/
theorem floatResults : Obligations.FloatResults := by
  refine ⟨fun r hr core grp s h => ?_, fun r hr core grp s h => ?_⟩
  · rw [exec_sfpRow r hr]
    exact act_scalar rfl h
  · obtain ⟨f, hf⟩ := xRows_is r hr
    exact hf.exec_row h

/-! ## Refused words -/

/-- Halting a group leaves its registers, its siblings and device memory. -/
theorem group_groupFault (s : Gk1) (core grp code g : Nat) :
    (s.groupFault core grp code).group core g =
      if g = grp then { s.group core grp with status := .halted, fault := BitVec.ofNat 8 code } else s.group core g := by
  have hset : (s.setGroup core grp { s.group core grp with status := .halted, fault := BitVec.ofNat 8 code }).group core g =
      if g = grp then { s.group core grp with status := .halted, fault := BitVec.ofNat 8 code } else s.group core g := by
    simp [eq_comm]
  unfold Gk1.groupFault
  dsimp only
  split
  · exact hset
  · exact hset

/-- A word of a scalar integer row whose fields are refused. -/
theorem act_sint_refused {op core grp : Nat} {u : SUse} {f : Nat → Nat → Nat → Nat} {s : State} (hcore : core < nCores)
    (hgrp : grp < nGroups) (hready : s.ready core grp = true) (hplaced : (s.core core).wellPlaced (s.group core grp).pc = true)
    (hmaj : wMaj ((s.core core).word (s.group core grp).pc) = 1) (hop : opIs op ((s.core core).word (s.group core grp).pc) = true)
    (hok : sOk u ((s.core core).word (s.group core grp).pc) = false) :
    s.act (sint op u f core grp) = .next (became s (s.groupFault core grp 0x20)) := by
  have hscalar : s.act (scalar 1 op u (fun a b c => (f a b c, {})) core grp) = .next (became s (s.groupFault core grp 0x20)) :=
    act_issue_refused (isOp := opIs op) (ok := fun w _ => sOk u w) hcore hgrp hready hplaced hmaj hop fun _ => hok
  exact hscalar

/-- Settles O7: each row's command reads the row's fields, and a word that no row names is judged alone. -/
theorem refusedWordsHalt : Obligations.RefusedWordsHalt := by
  refine ⟨fun core grp s hcore hgrp hready hplaced => ?_, fun core grp s hcore hgrp hready hbad => ?_⟩
  on_goal 1 => refine ⟨?_, ?_, ?_⟩
  · intro r hr hmaj hop hok
    obtain ⟨f, hexec, -⟩ := sintRows_is r hr
    rw [hexec]
    exact act_sint_refused hcore hgrp hready hplaced hmaj (decide_eq_true hop) hok
  · intro r hr hmaj hop hok
    obtain ⟨f, hexec, -⟩ := vintRows_is r hr
    rw [hexec]
    exact act_issue_refused (isOp := opIs r.op) (ok := fun w _ => vOk r.use w) hcore hgrp hready hplaced hmaj (decide_eq_true hop) fun _ => hok
  · intro r hr hmaj hop hok
    obtain ⟨f, hexec, -⟩ := xRows_is r hr
    rw [hexec]
    exact act_issue_refused (isOp := opIs r.op) (ok := fun w _ => vOk r.use w) hcore hgrp hready hplaced hmaj (decide_eq_true hop) fun _ => hok
  · have hunits : (coreOk core && decide (grp < 8)) = true := by
      rw [Bool.and_eq_true, coreOk, decide_eq_true_eq, decide_eq_true_eq]; exact ⟨hcore, hgrp⟩
    refine ⟨became s (s.groupFault core grp 0x20), ?_, ?_, Gk1.groupFault_dram .., fun g hg => ?_⟩
    · change execUndefinedInstruction core grp s = _
      exact State.act_of_next _ _ _ (by simp [hunits, hready, hbad])
    · exact (group_groupFault ..).trans (if_pos rfl)
    · exact (group_groupFault ..).trans (if_neg hg)

end Sys2Proof.Claims

/-! Control flow over the mask stack, and the group's status words. -/

namespace Sys2Proof.Claims

open Sys2Proof.Machine

/-! ## The mask stack -/

/-- With a lane left active the group goes on where its program counter stands. -/
theorem settle_of_active (i : GI) (G : Group) (h : G.active ≠ 0) : settle i G = .jump (i.s.setGroup i.core i.grp G) := by
  unfold settle
  exact if_pos h

/-- Settles O12: an instruction whose top entry fits leaves a group with a lane active, and the group settles there. -/
theorem maskStackControl : Obligations.MaskStackControl := by
  intro core grp s G w p go
  refine ⟨fun h => ⟨fun hfull => ?_, fun hroom hactive => ?_⟩, fun h e es hstack => ⟨fun hbad => ?_, fun hif hdone hels => ?_⟩,
    fun h e es hstack => ⟨fun hloop => ?_, fun hif hsaved => ?_⟩, fun h => ⟨fun hfull => ?_, fun hroom hactive => ?_⟩,
    fun h => ⟨fun hnone => ?_, fun e es hstack hloop hactive => ?_⟩,
    fun h e es hstack => ⟨fun hif => ?_, fun hloop hactive => ?_, fun hloop hempty hsaved => ?_⟩⟩
  · exact act_issue_fault h (if_pos hfull)
  · exact act_issue_jump h ((if_neg (Nat.not_le.2 hroom)).trans (settle_of_active _ _ hactive))
  · refine act_issue_fault h ?_
    change (match G.stack with | [] => _ | e :: es => _) = _
    rw [hstack]
    exact if_pos (by simpa using hbad)
  · refine act_issue_jump h ?_
    change (match G.stack with | [] => _ | e :: es => _) = _
    rw [hstack]
    exact (if_neg (by simp [hif, hdone])).trans (settle_of_active _ _ hels)
  · refine act_issue_fault h ?_
    change (match G.stack with | [] => _ | e :: es => _) = _
    rw [hstack]
    exact if_pos hloop
  · refine act_issue_jump h ?_
    change (match G.stack with | [] => _ | e :: es => _) = _
    rw [hstack]
    exact (if_neg (by simp [hif])).trans (settle_of_active _ _ hsaved)
  · exact act_issue_fault h (if_pos hfull)
  · exact act_issue_jump h ((if_neg (Nat.not_le.2 hroom)).trans (settle_of_active _ _ hactive))
  · refine act_issue_fault h (if_pos ?_)
    change (!(G.stack.any MaskEntry.isLoop)) = true
    rw [hnone]
    rfl
  · refine act_issue_jump h ?_
    have hany : G.stack.any MaskEntry.isLoop = true := by simp [hstack, hloop]
    have hleave : leaveLoop (G.active &&& p) G.stack = G.stack := by simp [hstack, leaveLoop, hloop]
    change (if !(G.stack.any MaskEntry.isLoop) then _ else
      settle _ { G.step with stack := leaveLoop (G.active &&& p) G.stack, active := G.active &&& ~~~p }) = _
    rw [hany, hleave]
    exact settle_of_active _ _ hactive
  · refine act_issue_fault h ?_
    change (match G.stack with | [] => _ | e :: es => _) = _
    rw [hstack]
    exact if_pos (by simp [hif])
  · refine act_issue_jump h ?_
    change (match G.stack with | [] => _ | e :: es => _) = _
    rw [hstack]
    refine (if_neg (by simp [hloop])).trans ((if_pos hactive).trans ?_)
    rw [← hstack]
    exact settle_of_active (fetched s.toGk1 core grp false) { G with pc := e.start } hactive
  · refine act_issue_jump h ?_
    change (match G.stack with | [] => _ | e :: es => _) = _
    rw [hstack]
    exact (if_neg (by simp [hloop])).trans ((if_neg (not_not.2 hempty)).trans (settle_of_active _ _ hsaved))

/-! ## Empty masks, the end of a group, branches -/

/-- With the active mask zero and a top entry whose recorded target is its body's, the group goes on at that target (R236). -/
theorem settle_of_empty (i : GI) (G : Group) {e : MaskEntry} {es : List MaskEntry} (hempty : G.active = 0) (hstack : G.stack = e :: es)
    (hkind : kindOk i.C e = true) (hmatch : matchEnd i.C e.isLoop 1024 e.start 0 = some e.target) :
    settle i G = .jump ((i.s.setGroup i.core i.grp G).setGroup i.core i.grp { G with pc := e.target }) := by
  simp [settle, hempty, hstack, hkind, hmatch]

theorem fetched_G (s : Gk1) (core grp : Nat) (long : Bool) : (fetched s core grp long).G = s.group core grp := rfl

/-- A group without a live lane has ended (R238). -/
theorem group_endGroup {s : Gk1} {core grp : Nat} (h : (s.group core grp).live = 0) (g : Nat) :
    (s.endGroup core grp).group core g = if g = grp then { s.group core grp with status := .ended } else s.group core g := by
  have hset : (s.setGroup core grp { s.group core grp with status := .ended }).group core g =
      if g = grp then { s.group core grp with status := .ended } else s.group core g := by simp [eq_comm]
  unfold Gk1.endGroup
  rw [if_neg (not_not.2 h)]
  dsimp only
  split
  · exact hset
  · exact hset

theorem store_endGroup (s : Gk1) (core grp : Nat) : ((s.endGroup core grp).core core).store = (s.core core).store := by
  have hset : ∀ G, ((s.setGroup core grp G).core core).store = (s.core core).store := fun G => by simp [Gk1.setGroup]
  unfold Gk1.endGroup
  dsimp only
  split
  · rfl
  · split
    · exact hset _
    · exact hset _

/-- A branch sets the program counter of the whole group (R273). -/
theorem braIf_eq (i : GI) (t : Bool) :
    braIf i t = .jump (i.s.setGroup i.core i.grp { i.G with pc := if t then wTgt i.w else i.G.pc + 1 }) := by
  cases t <;> rfl

/-- Settles O13. -/
theorem controlFlow : Obligations.ControlFlow := by
  refine ⟨fun core grp s h => ?_, fun core grp s h hlast => ?_, fun core grp s => ?_⟩
  · intro G w e hroom hempty hkind hmatch
    have hsettle := settle_of_empty (fetched s.toGk1 core grp false)
      { G.step with stack := { e with els := G.active &&& ~~~(G.p (wPx w)) } :: G.stack, active := G.active &&& G.p (wPx w) }
      hempty rfl hkind hmatch
    refine ⟨_, act_issue_jump h ((if_neg (Nat.not_le.2 hroom)).trans hsettle), ?_, ?_, ?_⟩
    · simp [became, fetched]
      rfl
    · simpa [became, fetched] using hempty
    · simp [became, fetched]
  · have hlive : (s.group core grp).exitLanes.live = 0 := hlast
    have hset : ((s.setGroup core grp (s.group core grp).exitLanes).group core grp).live = 0 := by simpa using hlive
    refine ⟨_, act_issue_jump h (if_pos hlive), ?_, ?_, ?_, fun g hg => ?_, ?_⟩
    · exact congrArg Machine.Group.status ((group_endGroup hset grp).trans (if_pos rfl))
    · exact (congrArg Machine.Group.live ((group_endGroup hset grp).trans (if_pos rfl))).trans hset
    · exact (Gk1.endGroup_dram ..).trans rfl
    · exact (group_endGroup hset g).trans ((if_neg hg).trans (by simp [Ne.symm hg]))
    · exact (store_endGroup ..).trans (by simp [Gk1.setGroup, fetched])
  · intro G w p to_
    exact ⟨fun h => act_issue_short rfl h rfl, fun h => act_issue_jump h (braIf_eq ..), fun h => act_issue_jump h (braIf_eq ..),
      fun h => act_issue_jump h (braIf_eq ..)⟩

/-! ## Status words -/

/-- Settles O14: the four rows answer the group that their statement writes out. -/
theorem groupStatusWords : Obligations.GroupStatusWords := by
  intro core grp s G w rd rs
  exact ⟨fun h => act_issue_short rfl h rfl, fun h => act_issue_short rfl h rfl, fun h => act_issue_short rfl h rfl,
    fun h => act_issue_short rfl h rfl⟩

end Sys2Proof.Claims

/-! Activations, conversions, lane gathers and reductions. -/

namespace Sys2Proof.Claims

open Sys2Proof.Machine

/-- A row's fields judged by a narrower check, with the same registers, issue by the row's own check. -/
theorem issues_weaken {maj core grp : Nat} {isOp : Nat → Bool} {ok ok' : Nat → Nat → Bool} {regs regs' : Nat → List Nat} {s : Gk1}
    (h : issues maj isOp ok regs core grp s = true) (hok : ∀ w w1, ok w w1 = true → ok' w w1 = true)
    (hregs : ∀ w w1, ok w w1 = true → regs' w = regs w) : issues maj isOp ok' regs' core grp s = true := by
  simp only [issues, Bool.and_eq_true] at h ⊢
  obtain ⟨⟨hbefore, hfields⟩, hready⟩ := h
  exact ⟨⟨hbefore, hok _ _ hfields⟩, by rw [hregs _ _ hfields]; exact hready⟩

theorem fields_of_issues {maj core grp : Nat} {isOp : Nat → Bool} {ok : Nat → Nat → Bool} {regs : Nat → List Nat} {s : Gk1}
    (hshort : isLong maj = false) (h : issues maj isOp ok regs core grp s = true) :
    ok (fetched s core grp false).w (fetched s core grp false).w1 = true := by
  simp only [issues, Bool.and_eq_true, hshort] at h
  exact h.1.2

theorem group_passed (s : State) (core grp words vport : Nat) (p : Gk1) :
    (passed s core grp words vport p).group core grp = { p.group core grp with pc := (s.group core grp).pc + words } := by
  obtain ⟨-, -, hgroup, -⟩ := issueFrame s core grp words vport p
  exact hgroup

theorem group_passed_groupIs (s : State) (core grp words vport : Nat) (G : Group) :
    (passed s core grp words vport (groupIs s core grp G)).group core grp = { G with pc := (s.group core grp).pc + words } := by
  rw [group_passed, groupIs, Gk1.group_setGroup, if_pos ⟨rfl, rfl⟩]

/-- A check of the V form accepts the types and rounding modes of its row. -/
theorem codes_of_vOk {u : VUse} {w : Nat} (h : vOk u w = true) : wType w ∈ u.types ∧ wRnd w ∈ u.rnd := by
  simp only [vOk, Bool.and_eq_true, List.contains_iff_mem] at h
  exact ⟨h.1.1.1.2, h.1.1.2⟩

theorem vOk_widen {u : VUse} {w : Nat} {types rnd : List Nat} (h : vOk u w = true) (htype : wType w ∈ types) (hrnd : wRnd w ∈ rnd) :
    vOk { u with types := types, rnd := rnd } w = true := by
  simp only [vOk, Bool.and_eq_true, List.contains_iff_mem] at h ⊢
  tauto

/-- Rounding to nearest and toward zero take no random bits. -/
theorem rnd_ofCode (code seed idx : Nat) (h : code ≠ 1) : Rnd.ofCode code seed idx = Rnd.ofCode code 0 0 := by
  unfold Rnd.ofCode
  split
  · exact absurd rfl h
  · rfl
  · rfl

/-! ## Conversions -/

/-- The fields of a conversion from FP32, as its row reads them (R281, R286). -/
def fromF32Ok (w : Nat) (_ : Nat) : Bool :=
  let packed := wType w = 4 || wType w = 5
  let st := wRnd w = 1
  if packed then vOk { bs := [0, 1, 2], types := [4, 5], rnd := [0, 1, 2], vc := if st then 31 else 0, sx := st } w
    && (!st || wSx w % 2 = 0)
  else vOk { types := [1, 2], rnd := [0, 2] } w

theorem fromF32Ok_of_integer {w : Nat} (h : vOk { types := [1, 2], rnd := [0, 2] } w = true) (w1 : Nat) : fromF32Ok w w1 = true := by
  have htype := (codes_of_vOk h).1
  have hpacked : (decide (wType w = 4) || decide (wType w = 5)) = false := by
    simp only [List.mem_cons, List.not_mem_nil, or_false] at htype
    rcases htype with htype | htype <;> simp [htype]
  simp only [fromF32Ok, hpacked, h, Bool.false_eq_true, if_false]

theorem fromF32Ok_of_packed {w ty : Nat} (hty : ty = 4 ∨ ty = 5) (h : vOk { bs := [0, 1, 2], types := [ty], rnd := [0, 2] } w = true)
    (w1 : Nat) : fromF32Ok w w1 = true := by
  obtain ⟨htype, hrnd⟩ := codes_of_vOk h
  have htype : wType w = ty := by simpa using htype
  have hrnd : wRnd w = 0 ∨ wRnd w = 2 := by simpa using hrnd
  have hst : wRnd w ≠ 1 := by omega
  have hwide := vOk_widen (types := [4, 5]) (rnd := [0, 1, 2]) h (by simpa [htype] using hty) (by simp; omega)
  have hpacked : (decide (wType w = 4) || decide (wType w = 5)) = true := by simpa [htype] using hty
  simp only [fromF32Ok, hpacked, hst, if_true, decide_false, Bool.not_false, Bool.true_or, Bool.and_true]
  simpa using hwide

theorem vRegs_of_not_stochastic {w : Nat} (h : wRnd w = 0 ∨ wRnd w = 2) :
    vRegs w false false (decide (wRnd w = 1)) false = vRegs w false false false false := by
  rw [decide_eq_false (by omega)]

/-- The type is one of a packed format. -/
def isPacked (w : Nat) : Prop := (decide (wType w = 4) || decide (wType w = 5)) = true

/-- A conversion from FP32 whose fields its narrower check accepts issues as its row's command. -/
theorem issues_fromF32 {core grp : Nat} {s : Gk1} {ok : Nat → Bool}
    (h : issues 0x0C (opIs 0) (fun w _ => ok w) (fun w => vRegs w false false false false) core grp s = true)
    (hok : ∀ w, ok w = true → ∀ w1, fromF32Ok w w1 = true) (hrnd : ∀ w, ok w = true → wRnd w = 0 ∨ wRnd w = 2) :
    issues 0x0C (opIs 0) fromF32Ok (fun w => vRegs w false false (decide (wRnd w = 1)) false) core grp s = true :=
  issues_weaken h (fun w w1 hw => hok w hw w1) fun w _ hw => vRegs_of_not_stochastic (hrnd w hw)

/-- A lane of a conversion to packed 16-bit: even element from VA, odd from the second source (R260). -/
def packedLane (G : Group) (w l : Nat) : Nat :=
  let one := fun k a => cvtElem (fmtOf (wType w)) (Rnd.ofCode (wRnd w) (G.pair (wSx w)) (G.vn (wC w) l + k)) a
  (one 0 (G.vn (wA w) l)).1 + (one 1 (G.vb w 0 l)).1 * 2 ^ 16

theorem act_fromF32_packed {core grp : Nat} {s : State}
    (h : issues 0x0C (opIs 0) fromF32Ok (fun w => vRegs w false false (decide (wRnd w = 1)) false) core grp s.toGk1 = true)
    (hpacked : isPacked (fetched s.toGk1 core grp false).w) :
    let G := s.group core grp
    let w := (fetched s.toGk1 core grp false).w
    ∃ fl n, exec (.cvtFromF32 core grp) s = .next (passed s core grp 1 2 (groupIs s core grp
      (((G.setV (wD w) (G.on w) (packedLane G w)).flag fl).countNonfin n))) :=
  ⟨_, _, act_issue_short rfl h (if_pos hpacked)⟩

theorem packedLane_of_not_stochastic {w : Nat} (h : wRnd w ≠ 1) (G : Group) (l : Nat) :
    packedLane G w l = roundF (fmtOf (wType w)) (Rnd.ofCode (wRnd w) 0 0) (decodeF .fp32 (G.vn (wA w) l))
      + roundF (fmtOf (wType w)) (Rnd.ofCode (wRnd w) 0 0) (decodeF .fp32 (G.vb w 0 l)) * 2 ^ 16 := by
  simp only [packedLane, cvtElem, rnd_ofCode _ (G.pair (wSx w)) _ h]

/-- Settles O11. -/
theorem activationsAndConversions : Obligations.ActivationsAndConversions := by
  refine ⟨fun core grp s => ?_, fun core grp s => ?_⟩
  · intro G w x y out
    exact ⟨fun h => act_issue_short rfl h rfl, fun h => act_issue_short rfl h rfl, fun h => act_issue_short rfl h rfl⟩
  · intro G w
    refine ⟨fun h => ?_, fun f hf h => ?_, ?_⟩
    · have hrow := issues_fromF32 h (fun w hw => fromF32Ok_of_integer hw) fun w hw => by simpa using (codes_of_vOk hw).2
      have htype : wType w = 1 ∨ wType w = 2 := by simpa using (codes_of_vOk (fields_of_issues rfl h)).1
      have hinteger : ¬ isPacked w := by rcases htype with htype | htype <;> simp [isPacked, htype]
      exact act_issue_short rfl hrow (if_neg hinteger)
    · have hty : f.1 = 4 ∨ f.1 = 5 := by
        simp only [List.mem_cons, List.not_mem_nil, or_false] at hf
        rcases hf with rfl | rfl <;> simp
      have hrow := issues_fromF32 h (fun w hw => fromF32Ok_of_packed hty hw) fun w hw => by simpa using (codes_of_vOk hw).2
      obtain ⟨htype, hrnd⟩ := codes_of_vOk (fields_of_issues rfl h)
      have htype : wType w = f.1 := by simpa using htype
      have hrnd : wRnd w = 0 ∨ wRnd w = 2 := by simpa using hrnd
      have hpacked : isPacked w := by simpa [isPacked, htype] using hty
      have hfmt : fmtOf (wType w) = f.2 := by
        simp only [List.mem_cons, List.not_mem_nil, or_false] at hf
        rcases hf with rfl | rfl <;> rw [htype] <;> rfl
      obtain ⟨fl, n, hexec⟩ := act_fromF32_packed hrow hpacked
      refine ⟨_, hexec, fun l hl => ?_⟩
      rw [group_passed_groupIs, ← hfmt, ← packedLane_of_not_stochastic (by omega)]
      exact (Group.v_setV G (wD w) (wD w) l (G.on w) _ hl).trans (by simp only [true_and]; rfl)
    · simp only [List.forall_mem_cons]
      exact ⟨fun h => act_issue_short rfl h rfl, fun h => act_issue_short rfl h rfl, fun _ h => absurd h List.not_mem_nil⟩

/-! ## Lane gathers -/

/-- The integer sum of a tree of 16 elements (R254). -/
theorem tree16_add (x : List Nat) (hlen : x.length = 16) : tree16 0 2 x = x.sum % 2 ^ 32 := by
  rcases x with _ | ⟨a, _ | ⟨b, _ | ⟨c, _ | ⟨d, _ | ⟨e, _ | ⟨f, _ | ⟨g, _ | ⟨h, _ | ⟨i, _ | ⟨j, _ | ⟨k, _ | ⟨l, _ | ⟨m, _ | ⟨n,
    _ | ⟨o, _ | ⟨p, _ | ⟨q, r⟩⟩⟩⟩⟩⟩⟩⟩⟩⟩⟩⟩⟩⟩⟩⟩⟩ <;> simp at hlen
  simp only [tree16, treeLevel, redStep, List.range, List.range.loop, List.map, List.getD_cons_zero, List.getD_cons_succ, List.sum_cons,
    List.sum_nil]
  simp
  omega

/-- The integer scan lists the running sums (R239). -/
theorem scan_eq_map (a : Nat) (ys : List Nat) (ha : a < 2 ^ 32) :
    ys.foldl (fun acc y => acc ++ [(acc.getLastD 0 + y) % 2 ^ 32]) [a] =
      (List.range (ys.length + 1)).map fun k => (a + (ys.take k).sum) % 2 ^ 32 := by
  induction ys using List.reverseRecOn with
  | nil => simpa using (Nat.mod_eq_of_lt ha).symm
  | append_singleton ys y ih =>
    have hbefore : ((List.range (ys.length + 1)).map fun k => (a + ((ys ++ [y]).take k).sum) % 2 ^ 32) =
        (List.range (ys.length + 1)).map fun k => (a + (ys.take k).sum) % 2 ^ 32 :=
      List.map_congr_left fun k hk => by rw [List.take_append_of_le_length (Nat.lt_succ_iff.1 (List.mem_range.1 hk))]
    rw [List.foldl_append, ih, List.length_append, List.length_singleton, List.range_succ (n := ys.length + 1), List.map_append, hbefore]
    simp [List.range_succ, Nat.add_assoc]

/-- Settles O15. -/
theorem laneGathersAndReductions : Obligations.LaneGathersAndReductions := by
  refine ⟨fun core grp s => ?_, fun x hlen hlt => ⟨tree16_add x hlen, fun k hk => ?_⟩⟩
  · intro G w vec xs
    refine ⟨fun h => act_issue_short rfl h rfl, fun h => act_issue_short rfl h rfl, fun h => act_issue_short rfl h rfl,
      fun h => act_issue_short rfl h rfl, fun h => act_issue_short rfl h rfl, fun h => act_issue_short rfl h ?_,
      fun h => act_issue_short rfl h rfl, fun h => act_issue_short rfl h rfl⟩
    rw [← BitVec.ofNat_toNat]
    rfl
  · obtain ⟨a, xs, rfl⟩ : ∃ a xs, x = a :: xs := List.exists_cons_of_length_pos (by omega)
    have hscan : scanAdd 2 (a :: xs) = xs.foldl (fun acc y => acc ++ [(acc.getLastD 0 + y) % 2 ^ 32]) [a] := rfl
    have hk' : k < xs.length + 1 := by simp only [List.length_cons] at hlen; omega
    rw [hscan, scan_eq_map a xs (hlt a (by simp))]
    simp [List.getD_eq_getElem?_getD, hk']

end Sys2Proof.Claims

/-! Matrix instructions are accepted, stall or are refused. -/

namespace Sys2Proof.Machine

/-- A promise of arrivals changes barrier objects alone. -/
theorem Core.promise_eq (C : Core) (bs : List Nat) : ∃ bars, C.promise bs = { C with bars := bars } := by
  induction bs generalizing C with
  | nil => exact ⟨_, rfl⟩
  | cons b bs ih => exact ih _

/-- Counting changes the part's and the contexts' counters alone. -/
theorem Gk1.countCtx_eq (s : Gk1) (c i n : Nat) : ∃ ctxs, s.countCtx c i n = { s with ctxs := ctxs } := by
  unfold Gk1.countCtx
  split
  · exact ⟨_, rfl⟩
  · exact ⟨_, rfl⟩

theorem Gk1.countCore_eq (s : Gk1) (core i n : Nat) : ∃ obs ctxs, s.countCore core i n = { s with obs := obs, ctxs := ctxs } := by
  unfold Gk1.countCore
  dsimp only
  split
  · exact ⟨_, _, rfl⟩
  · split
    · split
      · obtain ⟨ctxs, h⟩ := Gk1.countCtx_eq
          { s with obs := { s.obs with coreCnt := bump s.obs.coreCnt (s.physCore core * 8 + i) n } } _ (2 + i) n
        exact ⟨_, ctxs, h⟩
      · exact ⟨_, _, rfl⟩
    · exact ⟨_, _, rfl⟩

end Sys2Proof.Machine

namespace Sys2Proof.Claims

open Sys2Proof.Machine

/-! ## The state after an instruction that took effect -/

section
variable (s : State) (core grp words vport : Nat) (p : Gk1)

theorem passed_eq : ∃ obs ctxs, passed s core grp words vport p =
    became s { p.passPc core grp ((s.group core grp).pc + words) with obs := obs, ctxs := ctxs } := by
  obtain ⟨obs, ctxs, h⟩ := (p.passPc core grp ((s.group core grp).pc + words)).countCore_eq core 4 vport
  exact ⟨obs, ctxs, by rw [passed, h]; rfl⟩

@[simp] theorem dram_passed : (passed s core grp words vport p).dram = p.dram := by
  obtain ⟨_, _, h⟩ := passed_eq s core grp words vport p
  rw [h]; rfl

@[simp] theorem clusters_passed : (passed s core grp words vport p).clusters = p.clusters := by
  obtain ⟨_, _, h⟩ := passed_eq s core grp words vport p
  rw [h]; rfl

/-- Its group has passed; the rest of the core is the effect's. -/
theorem core_passed : (passed s core grp words vport p).core core =
    { (p.core core).setGroup grp { (p.core core).group grp with pc := (s.group core grp).pc + words } with lastSlot := grp } := by
  obtain ⟨_, _, h⟩ := passed_eq s core grp words vport p
  rw [h]
  change (p.passPc core grp ((s.group core grp).pc + words)).core core = _
  rw [Gk1.passPc, Gk1.core_modCore, if_pos rfl]

theorem core_passed_other {c : Nat} (hc : c ≠ core) : (passed s core grp words vport p).core c = p.core c := by
  obtain ⟨_, _, h⟩ := passed_eq s core grp words vport p
  rw [h]
  change (p.passPc core grp ((s.group core grp).pc + words)).core c = _
  rw [Gk1.passPc, Gk1.core_modCore, if_neg hc.symm]

/-- An effect that leaves the core's groups alone only passes the group. -/
theorem group_passed_of_groups (h : (p.core core).groups = (s.core core).groups) :
    (passed s core grp words vport p).group core grp = { s.group core grp with pc := (s.group core grp).pc + words } := by
  have hgroup : p.group core grp = s.group core grp := by simp only [Gk1.group, Core.group, h]
  rw [group_passed, hgroup]

end

/-! ## mma -/

/-- An mma with a place, whose arguments are read, enters the matrix queue of its core with what it has bound. -/
theorem acceptMma_of_room (i : GI) (x : MmaArgs)
    (hfit : mxInit i.w = true → ((i.s.bankCores i.core).map fun c => (i.s.core c).bankBytes).sum
      + x.bound.m * x.bound.n * elemBytes x.bound.fmt ≤ i.s.bankLimit i.core)
    (hheld : engineHeld i (mxDrn i.w1) true = false) (hroom : i.queueFull = false)
    (hpend : i.C.pendFull ((mxOprel i.w1).toList ++ (mxDone i.w1).toList) = false) :
    ∃ ins C', i.acceptMma x = .ok ((i.mxReq .mma).setCore i.core C') ∧ C'.mq = i.C.mq ++ [ins] ∧ ins.rid = i.s.nextId ∧
      ins.kind = .mma ∧ ins.slot = i.grp ∧ ins.aD = x.a.words ∧ ins.bD = x.b.words ∧ ins.tid = x.bound.tid ∧ ins.fold = x.fold ∧
      ins.drain = x.drain ∧ C'.hbind = (if x.drain.isSome && mxRel i.w1 then NMap.erase i.C.hbind (mxAH i.w)
        else NMap.set i.C.hbind (mxAH i.w) x.bound) ∧
      C'.store = i.C.store ∧ C'.pipe = i.C.pipe ∧ C'.groups = i.C.groups := by
  obtain ⟨bars, hbars⟩ := i.C.promise_eq ((mxOprel i.w1).toList ++ (mxDone i.w1).toList)
  have hbank : (mxInit i.w && decide (i.s.bankLimit i.core < ((i.s.bankCores i.core).map fun c => (i.s.core c).bankBytes).sum
      + x.bound.m * x.bound.n * elemBytes x.bound.fmt)) = false := by
    cases hinit : mxInit i.w
    · rfl
    · simpa using hfit hinit
  have hcore : (i.mxReq .mma).core i.core = i.C := rfl
  unfold GI.acceptMma
  simp only [hbank, hheld, hroom, hpend, Bool.false_eq_true, if_false, Gk1.modCore, hcore, hbars]
  exact ⟨_, _, rfl, rfl, rfl, rfl, rfl, rfl, rfl, rfl, rfl, rfl, rfl, rfl, rfl, rfl⟩

theorem acceptMma_of_full (i : GI) (x : MmaArgs)
    (hfit : mxInit i.w = true → ((i.s.bankCores i.core).map fun c => (i.s.core c).bankBytes).sum
      + x.bound.m * x.bound.n * elemBytes x.bound.fmt ≤ i.s.bankLimit i.core)
    (hheld : engineHeld i (mxDrn i.w1) true = false) (hfull : i.queueFull = true) : i.acceptMma x = .stall .queue := by
  have hbank : (mxInit i.w && decide (i.s.bankLimit i.core < ((i.s.bankCores i.core).map fun c => (i.s.core c).bankBytes).sum
      + x.bound.m * x.bound.n * elemBytes x.bound.fmt)) = false := by
    cases hinit : mxInit i.w
    · rfl
    · simpa using hfit hinit
  unfold GI.acceptMma
  simp only [hbank, hheld, hfull, Bool.false_eq_true, if_false, if_true]

/-- Settles O18. -/
theorem mmaIsAccepted : Obligations.MmaIsAccepted := by
  intro core grp s h i G C hguard
  have hissues : i.G.issues i.w = true := hguard
  refine ⟨fun hwait => act_issue_hold h ?_, fun e hready herr => act_issue_fault h ?_,
    fun x hx hfit hready hheld => ⟨fun hfull => act_issue_stall h ?_, fun hroom hpend => ?_⟩⟩
  · change (if !i.G.issues i.w then _ else if i.waitsFor i.mmaReads then _ else _) = _
    simp only [hissues, hwait, Bool.not_true, Bool.false_eq_true, if_false, if_true]
  · change (if !i.G.issues i.w then _ else if i.waitsFor i.mmaReads then _ else match i.mmaArgs with | .error e => _ | .ok x => _) = _
    simp only [hissues, hready, herr, Bool.not_true, Bool.false_eq_true, if_false]
  · change (if !i.G.issues i.w then _ else if i.waitsFor i.mmaReads then _ else match i.mmaArgs with | .error e => _ | .ok x => _) = _
    simp only [hissues, hready, hx, Bool.not_true, Bool.false_eq_true, if_false]
    exact acceptMma_of_full i x hfit hheld hfull
  · obtain ⟨ins, C', hrun, hmq, hrid, hkind, hslot, haD, hbD, htid, hfold, hdrain, hbind, hstore, hpipe, hgroups⟩ :=
      acceptMma_of_room i x hfit hheld hroom hpend
    refine ⟨_, ins, act_issue_ok (p := (i.mxReq .mma).setCore core C') h ?_, ?_⟩
    · change (if !i.G.issues i.w then _ else if i.waitsFor i.mmaReads then _ else match i.mmaArgs with | .error e => _ | .ok x => _) = _
      simp only [hissues, hready, hx, Bool.not_true, Bool.false_eq_true, if_false]
      exact hrun
    · have hcore : ((i.mxReq .mma).setCore core C').core core = C' := by simp
      rw [core_passed, group_passed_of_groups _ _ _ _ _ _ (by rw [hcore, hgroups]; rfl), dram_passed, hcore]
      refine ⟨hmq, hrid, hkind, hslot, haD, hbD, htid, hfold, hdrain, ?_, rfl, hstore, hpipe, fun c hc => ?_, rfl⟩
      · change NMap.get? C'.hbind _ = _
        rw [hbind]
        split
        · exact (NMap.get?_erase ..).trans (if_pos rfl)
        · exact (NMap.get?_set ..).trans (if_pos rfl)
      · rw [core_passed_other _ _ _ _ _ _ hc, Gk1.core_setCore, if_neg hc.symm]
        rfl

end Sys2Proof.Claims

/-! mma.wg and acc.drain enter the matrix queue. -/

namespace Sys2Proof.Machine

/-- What a lost share's replay depends on is in its kernel. -/
theorem Gk1.markShare_eq (s : Gk1) (core : Nat) (f : Share → Share) : ∃ kernels, s.markShare core f = { s with kernels := kernels } := by
  unfold Gk1.markShare
  split
  · exact ⟨_, rfl⟩
  · exact ⟨_, rfl⟩

end Sys2Proof.Machine

namespace Sys2Proof.Claims

open Sys2Proof.Machine

/-! ## What an accepted instruction leaves -/

/-- The matrix instruction that an mma.wg becomes (R185, R299). -/
def wgInstr (i : GI) (a b : Opd) (gid : Nat) : MxInstr :=
  { rid := i.s.nextId, kind := .mmaWg, slot := i.grp, kid := i.C.kid.getD 0, w0 := BitVec.ofNat 64 i.w, w1 := BitVec.ofNat 64 i.w1
    aD := a.words, bD := b.words, gid := gid, ksel := i.G.sn (fld i.w 31 5) }

/-- The engine arrivals that an mma or mma.wg names. -/
def mxArrivals (i : GI) : List Nat := (mxOprel i.w1).toList ++ (mxDone i.w1).toList

/-- Its place in the order of WGS instructions of its cluster (R184). -/
def wgOp (i : GI) (gid : Nat) : WOp :=
  { rid := i.s.nextId, gid := gid, kind := 0, core := i.core, slot := i.grp, kid := i.C.kid.getD 0 }

/-- Its core's queue and its cluster's order of WGS instructions, entered (R103, R184). -/
def wgQueued (i : GI) (a b : Opd) (gid : Nat) : Gk1 :=
  ((i.mxReq .mmaWg).modCore i.core fun C => { C.promise (mxArrivals i) with mq := C.mq ++ [wgInstr i a b gid] }).modCluster
    (clusterOf i.core) fun c => { c with wops := c.wops ++ [wgOp i gid] }

/-- The part with an accepted mma.wg. -/
def wgAccepted (i : GI) (a b : Opd) (gid : Nat) : Gk1 :=
  ((wgQueued i a b gid).markShare i.core fun h => { h with unsafe_ := true, mmaWg := true }).modKernel (i.C.kid.getD 0)
    fun K => { K with accumulating := true }

theorem wgAccepted_eq (i : GI) (a b : Opd) (gid : Nat) :
    ∃ kernels, wgAccepted i a b gid = { wgQueued i a b gid with kernels := kernels } := by
  obtain ⟨kernels, h⟩ := (wgQueued i a b gid).markShare_eq i.core fun h => { h with unsafe_ := true, mmaWg := true }
  exact ⟨_, by rw [wgAccepted, h]; rfl⟩

theorem wgQueued_core (i : GI) (a b : Opd) (gid : Nat) :
    ∃ bars, (wgQueued i a b gid).core i.core = { i.C with bars := bars, mq := i.C.mq ++ [wgInstr i a b gid] } := by
  obtain ⟨bars, h⟩ := i.C.promise_eq (mxArrivals i)
  have hcore : (wgQueued i a b gid).core i.core = { i.C.promise (mxArrivals i) with mq := i.C.mq ++ [wgInstr i a b gid] } := by
    change ((i.mxReq .mmaWg).modCore i.core fun C => { C.promise (mxArrivals i) with mq := C.mq ++ [wgInstr i a b gid] }).core i.core = _
    rw [Gk1.core_modCore, if_pos rfl]
    rfl
  exact ⟨bars, by rw [hcore, h]⟩

/-- An mma.wg that every check admits enters the matrix queue and the cluster's order of WGS instructions. -/
theorem act_mmaWg_accepted {core grp : Nat} {s : State} {i : GI} {a b : Opd} {gid : Nat} {g : WGroup}
    (h : issues 0x21 (fun _ => true) mmaWgOk (fun w => [fld w 21 5, fld w 26 5, fld w 31 5]) core grp s.toGk1 = true)
    (hi : fetched s.toGk1 core grp true = i) (hissues : i.G.issues i.w = true) (hmode : mmaWgMode i.w i.w1 = false)
    (hopds : i.opds = some (a, b)) (hok : operandRefusal true i.w i.w1 0 a b = none)
    (hks : inStore (i.G.sn (fld i.w 31 5)) (2 * mxK i.w) = true)
    (hgrp : (i.s.cluster (clusterOf i.core)).groupAt (mxU0 i.w) = some (gid, g))
    (hown : (!(decide (g.m = mxM i.w) && decide (g.n = mxN i.w)) || !g.shared && decide (g.owner ≠ i.core)) = false)
    (hheld : engineHeld i false true = false) (hroom : i.queueFull = false) (hpend : i.C.pendFull (mxArrivals i) = false) :
    exec (.mmaWg core grp) s = .next (passed s core grp 2 0 (wgAccepted i a b gid)) := by
  refine act_issue_ok h ?_
  rw [show fetched s.toGk1 core grp (isLong 0x21) = i from hi]
  rw [mxArrivals] at hpend
  simp only [hissues, hmode, hopds, hok, hks, hgrp, hown, hheld, hroom, hpend, Bool.not_true, Bool.false_eq_true, if_false]
  rfl

/-- The drain job that an acc.drain becomes (R159). -/
def drainJob (i : GI) (d : DrainReq) (b : Bound) (T : Total) : DrainJob :=
  { rid := i.s.nextId, slot := i.grp, kid := i.C.kid.getD 0, tid := b.tid, req := d, done := doneOf i.w 22 23, ganged := T.ganged }

/-- The core with an accepted acc.drain. -/
def drainQueued (i : GI) (d : DrainReq) (b : Bound) (T : Total) : Core :=
  { i.C.promise (doneOf i.w 22 23).toList with
    mq := i.C.mq ++ [{ rid := i.s.nextId, kind := .drain, slot := i.grp, kid := i.C.kid.getD 0, tid := b.tid, drain := some d }]
    hbind := if i.w.testBit 16 then NMap.erase i.C.hbind (fld i.w 11 5) else i.C.hbind
    releasing := if i.w.testBit 16 then i.C.releasing ++ [b.tid] else i.C.releasing
    drains := i.C.drains ++ [drainJob i d b T] }

/-- An acc.drain that every check admits enters the matrix queue and the drain pipeline. -/
theorem act_accDrain_accepted {core grp : Nat} {s : State} {i : GI} {d : DrainReq} {b : Bound} {T : Total}
    (h : issues 0x22 (fun _ => true) (fun w _ => fld w 29 35 = 0) (fun w => [fld w 17 5]) core grp s.toGk1 = true)
    (hi : fetched s.toGk1 core grp false = i) (hissues : i.G.issues i.w = true)
    (hready : i.waitsFor (i.drainReads (fld i.w 17 5)) = false)
    (hd : drainAt i.C.store i.G (fld i.w 17 5) (i.w.testBit 16) = .ok d) (hb : NMap.get? i.C.hbind (fld i.w 11 5) = some b)
    (hT : NMap.get? i.C.totals b.tid = some T) (hok : d.refusal b.m b.n b.fmt T.ganged = none)
    (hheld : engineHeld i true true = false) (hroom : i.queueFull = false)
    (hpend : i.C.pendFull (doneOf i.w 22 23).toList = false) :
    exec (.accDrain core grp) s = .next (passed s core grp 1 0 ((i.mxReq .drain).setCore i.core (drainQueued i d b T))) := by
  refine act_issue_short rfl h ?_
  rw [hi]
  simp only [hissues, hready, hd, hb, hT, hok, hheld, hroom, hpend, Bool.not_true, Bool.false_eq_true, if_false]
  rfl

/-- Settles O19. -/
theorem matrixQueueEntries : Obligations.MatrixQueueEntries := by
  intro core grp s G C
  refine ⟨?_, ?_⟩
  · intro h i hguard
    have hissues : i.G.issues i.w = true := hguard
    have hi : fetched s.toGk1 core grp (isLong 0x21) = i := rfl
    refine ⟨fun hmode => act_issue_fault h ?_, fun hmode a b gid g hopds hok hks hgrp hm hn hown hheld hroom hpend => ?_⟩
    · rw [hi]
      simp only [hissues, hmode, Bool.not_true, Bool.false_eq_true, if_false, if_true]
    · have hown' : (!(decide (g.m = mxM i.w) && decide (g.n = mxN i.w)) || !g.shared && decide (g.owner ≠ i.core)) = false := by
        have hcore : i.core = core := rfl
        rcases hown with hown | hown <;> simp [hm, hn, hown, hcore]
      obtain ⟨kernels, hp⟩ := wgAccepted_eq i a b gid
      obtain ⟨bars, hcore⟩ := wgQueued_core i a b gid
      have hcore' : (wgAccepted i a b gid).core core = { C with bars := bars, mq := C.mq ++ [wgInstr i a b gid] } := by rw [hp]; exact hcore
      have hcl : (wgAccepted i a b gid).clusters = (wgQueued i a b gid).clusters := by rw [hp]
      refine ⟨_, wgInstr i a b gid, wgOp i gid, act_mmaWg_accepted (i := i) h rfl hissues hmode hopds hok hks hgrp hown' hheld hroom hpend, ?_⟩
      rw [core_passed, group_passed_of_groups _ _ _ _ _ _ (by rw [hcore']), dram_passed, hcore', Gk1.cluster, clusters_passed, hcl]
      refine ⟨rfl, rfl, rfl, rfl, rfl, rfl, ?_, rfl, rfl, rfl, rfl, rfl, ?_⟩
      · exact congrArg Cluster.wops ((Gk1.cluster_modCluster ..).trans (if_pos rfl))
      · rw [hp]; rfl
  · intro h i hguard
    have hissues : i.G.issues i.w = true := hguard
    have hi : fetched s.toGk1 core grp (isLong 0x22) = i := rfl
    refine ⟨fun hwait => act_issue_hold h ?_, fun d hready hd hnone => act_issue_fault h ?_,
      fun d b T hready hd hb hT hok hheld hroom hpend => ?_⟩
    · rw [hi]
      simp only [hissues, hwait, Bool.not_true, Bool.false_eq_true, if_false, if_true]
    · rw [hi]
      have hd' : drainAt i.C.store i.G (fld i.w 17 5) (i.w.testBit 16) = .ok d := hd
      have hnone' : NMap.get? i.C.hbind (fld i.w 11 5) = none := hnone
      simp only [hissues, hready, hd', hnone', Bool.not_true, Bool.false_eq_true, if_false]
    · obtain ⟨bars, hbars⟩ := i.C.promise_eq (doneOf i.w 22 23).toList
      have hcore : ((i.mxReq .drain).setCore i.core (drainQueued i d b T)).core core = drainQueued i d b T :=
        (Gk1.core_setCore ..).trans (if_pos rfl)
      refine ⟨_, drainJob i d b T, act_accDrain_accepted (i := i) h rfl hissues hready hd hb hT hok hheld hroom hpend, ?_⟩
      have hgroups : (drainQueued i d b T).groups = C.groups := by rw [drainQueued, hbars]; rfl
      rw [core_passed, group_passed_of_groups _ _ _ _ _ _ ((congrArg Core.groups hcore).trans hgroups), dram_passed]
      rw [hcore, drainQueued, hbars]
      refine ⟨rfl, rfl, rfl, rfl, rfl, List.length_append, rfl, ?_, rfl, rfl, rfl⟩
      change NMap.get? (if i.w.testBit 16 = true then NMap.erase i.C.hbind _ else i.C.hbind) _ = _
      split
      · exact (NMap.get?_erase ..).trans (if_pos rfl)
      · exact hb

end Sys2Proof.Claims

/-! Gradient store groups, and the gang. -/

namespace Sys2Proof.Machine

@[simp] theorem Gk1.countCore_clusters (s : Gk1) (core i n : Nat) : (s.countCore core i n).clusters = s.clusters := by
  obtain ⟨_, _, h⟩ := s.countCore_eq core i n
  rw [h]

@[simp] theorem Gk1.countGang_clusters (s : Gk1) (cl : Nat) : (s.countGang cl).clusters = s.clusters :=
  foldl_keeps (fun s : Gk1 => s.clusters) (fun s c => s.countCore_clusters c 3 6) _ _

@[simp] theorem Gk1.countGang_cores (s : Gk1) (cl : Nat) : (s.countGang cl).cores = s.cores :=
  foldl_keeps (fun s : Gk1 => s.cores) (fun s c => s.countCore_cores c 3 6) _ _

@[simp] theorem Gk1.cluster_countGang (s : Gk1) (cl k : Nat) : (s.countGang cl).cluster k = s.cluster k := by
  rw [Gk1.cluster, Gk1.countGang_clusters, Gk1.cluster]

end Sys2Proof.Machine

namespace Sys2Proof.Claims

open Sys2Proof.Machine

/-- The group that a wgs.open makes (R183, R307). -/
def wgOpened (i : GI) : WGroup :=
  { u0 := wgU0 i.w, wcount := fld i.w 20 6 + 1, m := (fld i.w 26 2 + 1) * 16, n := (fld i.w 28 3 + 1) * 8
    fmt := if fld i.w 31 2 = 2 then 1 else 0, w := sgn 10 (i.w >>> 34), shared := decide (fld i.w 31 2 ≠ 0) && i.w.testBit 33
    owner := i.core, ctx := i.s.ctxOf i.core }

/-! ## The gang -/

section
variable {cl : Nat} {s : State} (hcl : cl < nClusters)
include hcl

/-- A gang that is asked for forms over four empty arrays (R130). -/
theorem exec_gangForm (hganged : (s.cluster cl).ganged = false) (hwants : s.wantsGang cl = true) (hempty : s.arraysEmpty cl = true)
    (howed : s.apartOwed cl = false) : exec (.gangForm cl) s =
      .next (became s ((s.modCluster cl fun c => { c with ganged := true, apartWait := 0, apartFirst := [] }).countGang cl)) := by
  have hunit : ¬ clusterCount ≤ cl := Nat.not_le.2 hcl
  change execGangForm cl s = _
  refine State.act_of_next _ _ _ ?_
  simp only [hunit, hganged, hwants, hempty, howed, Bool.not_true, Bool.or_self, Bool.false_eq_true, if_false]

/-- A gang without a hold leaves when an apart instruction waits and no ganged one is at a head (R132). -/
theorem exec_gangLeave (hganged : (s.cluster cl).ganged = true) (hhold : (s.cluster cl).hold = false)
    (hempty : s.arraysEmpty cl = true) (hapart : ((s.heads cl).any fun h => !h.2.ganged && h.2.forms) = true)
    (hgang : ((s.heads cl).any fun h => h.2.ganged) = false) : exec (.gangLeave cl) s =
      .next (became s ((s.modCluster cl fun c => { c with ganged := false, apartWait := 0 }).countGang cl)) := by
  have hunit : ¬ clusterCount ≤ cl := Nat.not_le.2 hcl
  change execGangLeave cl s = _
  refine State.act_of_next _ _ _ ?_
  simp only [hunit, hganged, hhold, hempty, hapart, hgang, Bool.not_true, Bool.not_false, Bool.and_self, Bool.or_true, Bool.or_self,
    Bool.false_eq_true, if_false]

/-- While a hold is in force no gang leaves (R133). -/
theorem exec_gangLeave_of_hold (hhold : (s.cluster cl).hold = true) : exec (.gangLeave cl) s = .next s := by
  have hunit : ¬ clusterCount ≤ cl := Nat.not_le.2 hcl
  change execGangLeave cl s = _
  refine State.act_of_next _ _ _ ?_
  simp only [hunit, hhold, Bool.or_true, Bool.true_or, if_false, if_true]

/-- 4,096 ACLK of waiting release a gang for the apart instructions now at heads (R132). -/
theorem exec_gangReleaseCountExpiry (hganged : (s.cluster cl).ganged = true) (hhold : (s.cluster cl).hold = false)
    (hfirst : (s.cluster cl).apartFirst = []) (hwait : 4096 ≤ (s.cluster cl).apartWait) : exec (.gangReleaseCountExpiry cl) s =
      .next (became s (s.modCluster cl fun c => { c with
        apartFirst := ((s.heads cl).filter fun h => !h.2.ganged && h.2.forms).map fun h => h.2.rid })) := by
  have hunit : ¬ clusterCount ≤ cl := Nat.not_le.2 hcl
  change execGangReleaseCountExpiry cl s = _
  refine State.act_of_next _ _ _ ?_
  simp only [hunit, hganged, hhold, hfirst, Nat.not_lt.2 hwait, List.isEmpty_nil, Bool.not_true, Bool.or_self, decide_false,
    Bool.false_eq_true, if_false]

end

/-! ## The groups of the gradient store -/

/-- The part that a wgs.open leaves. -/
def wgsOpened (i : GI) : Gk1 :=
  { i.wgsMark i.s with nextId := (i.wgsMark i.s).nextId + 1 }.modCluster (clusterOf i.core) fun c =>
    { c with wgs := NMap.set c.wgs (i.wgsMark i.s).nextId (wgOpened i) }

/-- The operation that a wgs.commit becomes (R194). -/
def commitOp (i : GI) (gid : Nat) : WOp :=
  { rid := i.s.nextId, gid := gid, kind := 1, core := i.core, slot := i.grp, kid := i.C.kid.getD 0
    w0 := BitVec.ofNat 64 i.w, w1 := BitVec.ofNat 64 i.w1, va := i.G.pair (fld i.w 36 5), stride := i.G.sn (fld i.w 41 5)
    pitch := i.G.sn (fld i.w 46 5), done := doneOf i.w 51 52 }

/-- The part that an accepted wgs.commit leaves. -/
def commitAccepted (i : GI) (gid : Nat) : Gk1 :=
  (i.wgsMark ((i.mxReq .commit).modCore i.core fun C => C.promise (doneOf i.w 51 52).toList)).addWop (clusterOf i.core) (commitOp i gid)

/-- The part after a discard of an idle group. -/
def discarded (i : GI) (gid : Nat) : Gk1 := (i.wgsMark i.s).modCluster (clusterOf i.core) fun c => c.closeGroup gid

section
variable {core grp : Nat} {s : State} {i : GI} (hissues : i.G.issues i.w = true)
include hissues

theorem act_wgsOpen (h : issues 0x23 (op3Is 0) wgsOpenOk (fun _ => []) core grp s.toGk1 = true)
    (hi : fetched s.toGk1 core grp true = i) :
    ((wgOpened i).shared = true → (wgOpened i).fmt = 0 → exec (.wgsOpen core grp) s = .next (became s (s.groupFault core grp 0x2A))) ∧
    (((wgOpened i).shared && decide ((wgOpened i).fmt = 0)) = false → 64 < (wgOpened i).units.2 →
      exec (.wgsOpen core grp) s = .next (became s (s.groupFault core grp 0x2B))) ∧
    (((wgOpened i).shared && decide ((wgOpened i).fmt = 0)) = false → (wgOpened i).units.2 ≤ 64 →
      ((i.s.cluster (clusterOf i.core)).wgs.any fun e => !e.2.closing && meets e.2.units (wgOpened i).units) = false →
      exec (.wgsOpen core grp) s = .next (passed s core grp 2 0 (wgsOpened i))) := by
  have hi' : fetched s.toGk1 core grp (isLong 0x23) = i := hi
  refine ⟨fun hshared hfmt => act_issue_fault h ?_, fun hkind hrange => act_issue_fault h ?_,
    fun hkind hrange hfree => act_issue_ok h ?_⟩
  · rw [hi']
    simp only [hissues, Bool.not_true, Bool.false_eq_true, if_false]
    exact if_pos (by rw [Bool.and_eq_true, decide_eq_true_eq]; exact ⟨hshared, hfmt⟩)
  · rw [hi']
    simp only [hissues, Bool.not_true, Bool.false_eq_true, if_false]
    exact (if_neg (Bool.eq_false_iff.1 hkind)).trans (if_pos hrange)
  · rw [hi']
    simp only [hissues, Bool.not_true, Bool.false_eq_true, if_false]
    exact (if_neg (Bool.eq_false_iff.1 hkind)).trans ((if_neg (Nat.not_lt.2 hrange)).trans ((if_neg (Bool.eq_false_iff.1 hfree)).trans rfl))

theorem act_wgsCommit {gid : Nat} {g : WGroup}
    (h : issues 0x23 (op3Is 1) wgsCommitOk (fun w => [fld w 36 5, fld w 36 5 + 1, fld w 41 5, fld w 46 5]) core grp s.toGk1 = true)
    (hi : fetched s.toGk1 core grp true = i) (hgrp : (i.s.cluster (clusterOf i.core)).groupAt (wgU0 i.w) = some (gid, g)) :
    (g.wcount < fld i.w 20 6 + (fld i.w 26 6 + 1) → exec (.wgsCommit core grp) s = .next (became s (s.groupFault core grp 0x2B))) ∧
    (fld i.w 20 6 + (fld i.w 26 6 + 1) ≤ g.wcount → i.G.pair (fld i.w 36 5) % 64 = 0 → i.G.sn (fld i.w 41 5) % 64 = 0 →
      wgStatus i.w1 % 16 = 0 → inStore (wgStatus i.w1) 16 = true → engineHeld i true true = false →
      i.C.pendFull (doneOf i.w 51 52).toList = false →
      exec (.wgsCommit core grp) s = .next (passed s core grp 2 0 (commitAccepted i gid))) := by
  have hi' : fetched s.toGk1 core grp (isLong 0x23) = i := hi
  refine ⟨fun hrange => ?_, fun hrange hva hstride hstatus hstore hheld hpend => ?_⟩
  · change execWgsCommit core grp s = _
    unfold execWgsCommit doWgsCommit
    refine act_issue_fault h ?_
    rw [hi']
    simp only [hissues, hgrp, Bool.not_true, Bool.false_eq_true, if_false]
    exact if_pos hrange
  · change execWgsCommit core grp s = _
    unfold execWgsCommit doWgsCommit
    refine act_issue_ok h ?_
    rw [hi']
    simp only [hissues, hgrp, hva, hstride, hstatus, hstore, hheld, hpend, Nat.not_lt.2 hrange, decide_true, Bool.and_self, Bool.not_true,
      Bool.false_eq_true, if_false]
    rfl

theorem act_wgsDiscard {gid : Nat} {g : WGroup}
    (h : issues 0x23 (op3Is 2) (fun w w1 => fld w 20 44 = 0 && w1 >>> 7 = 0) (fun _ => []) core grp s.toGk1 = true)
    (hi : fetched s.toGk1 core grp true = i) (hgrp : (i.s.cluster (clusterOf i.core)).groupAt (wgU0 i.w) = some (gid, g))
    (hidle : ((i.s.cluster (clusterOf i.core)).wops.any fun o => o.gid = gid) = false) :
    exec (.wgsDiscard core grp) s = .next (passed s core grp 2 0 (discarded i gid)) := by
  have hi' : fetched s.toGk1 core grp (isLong 0x23) = i := hi
  refine act_issue_ok h ?_
  rw [hi']
  simp only [hissues, hgrp, hidle, Bool.not_true, Bool.false_eq_true, if_false]
  rfl

end

theorem act_gang {op : Bool} {core grp : Nat} {s : State} {i : GI}
    (h : issues 0x24 (fun w => w.testBit 11 = op) (fun w _ => w >>> 12 = 0) (fun _ => []) core grp s.toGk1 = true)
    (hi : fetched s.toGk1 core grp false = i) (hissues : i.G.issues i.w = true) :
    s.act (gangIns op core grp) = .next (passed s core grp 1 0 (i.s.modCluster (clusterOf i.core) fun c => { c with
      hold := !op, apartFirst := if c.ganged && !op then [] else c.apartFirst })) := by
  refine act_issue_short rfl h ?_
  rw [hi]
  simp only [hissues, Bool.not_true, Bool.false_eq_true, if_false]

/-- Settles O20. -/
theorem gradientStoreAndGang : Obligations.GradientStoreAndGang := by
  refine ⟨fun core grp s => ?_, fun cl s hcl => ?_⟩
  · intro G cl
    refine ⟨?_, ?_, ?_, ?_⟩
    · intro h w fmt shared units hguard
      set i := fetched s.toGk1 core grp true with hi
      obtain ⟨hstate, hfit, hopen⟩ := act_wgsOpen (i := i) hguard h hi.symm
      obtain ⟨kernels, hmark⟩ : ∃ kernels, i.wgsMark i.s = { i.s with kernels := kernels } := Gk1.markShare_eq ..
      have hkind : shared = false ∨ fmt = 1 → ((wgOpened i).shared && decide ((wgOpened i).fmt = 0)) = false := by
        rintro (hown | hfmt)
        · exact (congrArg (· && _) hown).trans (Bool.false_and _)
        · have hfmt' : (wgOpened i).fmt = 1 := hfmt
          rw [hfmt']; simp
      refine ⟨hstate, fun hk hrange => hfit (hkind hk) hrange, fun hk hrange hfree =>
        ⟨_, wgOpened i, hopen (hkind hk) hrange hfree, ?_⟩⟩
      rw [group_passed_of_groups _ _ _ _ _ _ (by rw [wgsOpened, hmark]; rfl), core_passed, dram_passed, Gk1.cluster, clusters_passed,
        wgsOpened, hmark]
      refine ⟨?_, rfl, rfl, rfl, rfl, rfl, rfl, rfl, rfl, rfl, rfl, rfl, rfl⟩
      have hcl : (wgsOpened i).cluster cl = { s.cluster cl with wgs := NMap.set (s.cluster cl).wgs s.nextId (wgOpened i) } := by
        rw [wgsOpened, hmark]
        exact (Gk1.cluster_modCluster ..).trans (if_pos rfl)
      rw [wgsOpened, hmark] at hcl
      exact (congrArg (fun c : Cluster => NMap.get? c.wgs s.nextId) hcl).trans ((NMap.get?_set ..).trans (if_pos rfl))
    · intro h i w hguard gid g hgrp
      obtain ⟨hfit, haccept⟩ := act_wgsCommit (i := i) hguard h rfl hgrp
      obtain ⟨bars, hbars⟩ := i.C.promise_eq (doneOf i.w 51 52).toList
      obtain ⟨kernels, hmark⟩ : ∃ kernels, i.wgsMark ((i.mxReq .commit).modCore i.core fun C => C.promise (doneOf i.w 51 52).toList) =
        { (i.mxReq .commit).setCore i.core { i.C with bars := bars } with kernels := kernels } := by
        rw [← hbars]; exact Gk1.markShare_eq ..
      have hcore : (commitAccepted i gid).core core = { s.core core with bars := bars } := by
        rw [commitAccepted, hmark]
        exact (Gk1.core_setCore ..).trans (if_pos rfl)
      refine ⟨hfit, fun hrange hva hstride hstatus hstore hheld hpend =>
        ⟨_, commitOp i gid, haccept hrange hva hstride hstatus hstore hheld hpend, ?_⟩⟩
      rw [group_passed_of_groups _ _ _ _ _ _ (by rw [hcore]), core_passed, hcore, dram_passed, Gk1.cluster, clusters_passed]
      have hcl : (commitAccepted i gid).cluster cl = { s.cluster cl with wops := (s.cluster cl).wops ++ [commitOp i gid] } := by
        rw [commitAccepted, hmark]
        exact (Gk1.cluster_modCluster ..).trans (if_pos rfl)
      refine ⟨congrArg Cluster.wops hcl, rfl, rfl, rfl, rfl, rfl, rfl, (congrArg Cluster.wgs hcl).trans rfl, rfl, rfl, ?_⟩
      rw [commitAccepted, hmark]; rfl
    · intro h w hguard gid g hgrp hidle
      set i := fetched s.toGk1 core grp true with hi
      obtain ⟨kernels, hmark⟩ : ∃ kernels, i.wgsMark i.s = { i.s with kernels := kernels } := Gk1.markShare_eq ..
      refine ⟨_, act_wgsDiscard (i := i) hguard h hi.symm hgrp hidle, ?_⟩
      have hcl : (discarded i gid).cluster cl = (s.cluster cl).closeGroup gid := by
        rw [discarded, hmark]
        exact (Gk1.cluster_modCluster ..).trans (if_pos rfl)
      rw [group_passed_of_groups _ _ _ _ _ _ (by rw [discarded, hmark]; rfl), dram_passed, Gk1.cluster, clusters_passed]
      refine ⟨(congrArg (fun c : Cluster => NMap.get? c.wgs gid) hcl).trans ((NMap.get?_erase ..).trans (if_pos rfl)), fun k hk => ?_, rfl, ?_⟩
      · exact (congrArg (fun c : Cluster => NMap.get? c.wgs k) hcl).trans ((NMap.get?_erase ..).trans (if_neg hk.symm))
      · rw [discarded, hmark]; rfl
    · simp only [List.forall_mem_cons]
      refine ⟨fun h hguard => ?_, fun h hguard => ?_, fun _ h => absurd h List.not_mem_nil⟩
      · refine (act_gang h rfl hguard).trans ?_
        simp only [Bool.not_false, Bool.and_true, and_true]
        rfl
      · refine (act_gang h rfl hguard).trans ?_
        simp only [Bool.not_true, Bool.and_false, Bool.false_eq_true, if_false, Bool.true_eq_false, and_false]
        rfl
  · exact ⟨fun hganged hwants hempty howed => ⟨_, exec_gangForm hcl hganged hwants hempty howed, by simp [became], by simp [became],
      by simp [became]⟩, fun hganged hhold hempty hapart hgang => ⟨_, exec_gangLeave hcl hganged hhold hempty hapart hgang, by simp [became],
      by simp [became], by simp [became]⟩, exec_gangLeave_of_hold hcl, fun hganged hhold hfirst hwait =>
      ⟨_, exec_gangReleaseCountExpiry hcl hganged hhold hfirst hwait, by simp [became], rfl, rfl⟩⟩

end Sys2Proof.Claims

/-! A stalled group issues its instruction again. -/

namespace Sys2Proof.Claims

open Sys2Proof.Machine

/-- A group whose stall has ended for another reason, or not begun, is left alone. -/
theorem resume_other {st : Stall} {core grp : Nat} {s : Gk1} (hcore : core < nCores) (hgrp : grp < nGroups)
    (h : (s.group core grp).stall ≠ st) : resume st core grp s = .next s := by
  have hunits : (coreOk core && decide (grp < 8)) = true := by
    rw [Bool.and_eq_true, coreOk, decide_eq_true_eq, decide_eq_true_eq]; exact ⟨hcore, hgrp⟩
  unfold resume
  rw [hunits, if_neg (by simp), if_pos h]

/-- The instruction is issued again, and a state in which its program counter has moved is the answer (R103, R154, R360). -/
theorem resume_of_moved {st : Stall} {core grp : Nat} {s t : Gk1} (hcore : core < nCores) (hgrp : grp < nGroups)
    (hst : (s.group core grp).stall = st)
    (hissue : reissue core grp (s.modGroup core grp fun G => { G with stall := .none }) = .next t)
    (hmoved : (t.group core grp).pc ≠ (s.group core grp).pc) : resume st core grp s = .next t := by
  have hunits : (coreOk core && decide (grp < 8)) = true := by
    rw [Bool.and_eq_true, coreOk, decide_eq_true_eq, decide_eq_true_eq]; exact ⟨hcore, hgrp⟩
  unfold resume
  rw [hunits, if_neg (by simp), if_neg (not_not.2 hst), hissue]
  exact if_neg (by simp [hmoved])

/-- An mma is issued again by its major. -/
theorem reissue_mma {core grp : Nat} {s : Gk1} {regs : Nat → List Nat}
    (h : issues 0x20 (fun _ => true) mmaOk regs core grp s = true) : reissue core grp s = doMma core grp s := by
  simp only [issues, Bool.and_eq_true, decide_eq_true_eq] at h
  obtain ⟨⟨⟨⟨-, hmaj⟩, -⟩, -⟩, -⟩ := h
  have hmaj' : wMaj ((s.core core).word (s.group core grp).pc) = 0x20 := hmaj
  unfold reissue
  dsimp only
  rw [hmaj']
  rfl

/-- Settles O21: what a stalled group issues again is what O18 says of its mma. -/
theorem stalledIssueGoesOn : Obligations.StalledIssueGoesOn := by
  intro r hr core grp s hcore hgrp G s0 i
  have hrow : exec (r.1 core grp) s = s.act (resume r.2 core grp) := by
    simp only [List.mem_cons, List.not_mem_nil, or_false] at hr
    rcases hr with rfl | rfl | rfl <;> rfl
  have hcore0 : s0.core core = (s.core core).setGroup grp { G with stall := .none } := (Gk1.core_setCore ..).trans (if_pos rfl)
  have hgroup0 : s0.group core grp = { G with stall := .none } := (Gk1.group_setGroup ..).trans (if_pos ⟨rfl, rfl⟩)
  rw [hrow]
  refine ⟨fun hst => State.act_of_next _ _ _ (resume_other hcore hgrp hst),
    fun x hst h hguard hx hfit hready hheld hroom hpend => ?_⟩
  obtain ⟨-, -, haccept⟩ := mmaIsAccepted core grp s0 h hguard
  obtain ⟨-, haccept⟩ := haccept x hx hfit hready hheld
  obtain ⟨t, ins, hexec, hmq, hrid, hkind, -, -, -, -, -, -, -, hgroup, hstore, -, -, hdram⟩ := haccept hroom (by rw [hcore0]; exact hpend)
  rw [hgroup0] at hgroup
  rw [hcore0] at hmq hstore
  obtain ⟨hmma, -⟩ := (State.act_next s0 t _).1 hexec
  have hresume : resume r.2 core grp s.toGk1 = .next t.toGk1 := by
    refine resume_of_moved hcore hgrp hst ((reissue_mma h).trans hmma) ?_
    rw [hgroup]
    exact Nat.ne_of_gt (Nat.lt_add_of_pos_right (by decide))
  exact ⟨_, ins, State.act_of_next _ _ _ hresume, hmq, hrid, hkind, hgroup, hstore, hdram⟩

end Sys2Proof.Claims

/-! What posting, tracing and reporting change: the host link's and the observation block's own fields. Barrier objects. -/

namespace Sys2Proof.Machine

theorem Gk1.post_eq (s : Gk1) (addr : Nat) (bytes : List Byte) :
    ∃ posted postHeld, s.post addr bytes = { s with posted := posted, postHeld := postHeld } := by
  unfold Gk1.post
  split
  · exact ⟨_, _, rfl⟩
  · exact ⟨_, _, rfl⟩

theorem Gk1.trace_eq (s : Gk1) (kind ctx queue unit : Nat) (data : List Byte) :
    ∃ obs posted postHeld, s.trace kind ctx queue unit data = { s with obs := obs, posted := posted, postHeld := postHeld } := by
  unfold Gk1.trace
  dsimp only
  split
  · split
    · obtain ⟨posted, postHeld, h⟩ := s.post_eq (s.reg 0x700000 0 + s.obs.traceSeq % 2 ^ fld s.traceCtl 3 5 * 32)
        (leBytes 8 s.dtime ++ leBytes 4 s.obs.traceSeq ++ leBytes 1 kind ++ leBytes 1 ctx ++ leBytes 2 queue ++ leBytes 4 unit ++ data
          ++ List.replicate (12 - data.length) 0)
      exact ⟨_, posted, postHeld, by rw [h]⟩
    · exact ⟨_, _, _, rfl⟩
  · exact ⟨_, _, _, rfl⟩

/-- A report takes the next sequence number and may ask for its vector. -/
theorem Gk1.report_eq (s : Gk1) (r : Report) : ∃ seq wait obs posted postHeld, s.report r =
    { s with edge := { s.edge with reportSeq := seq, msixWait := wait }, obs := obs, posted := posted, postHeld := postHeld } := by
  have htrace := Gk1.trace_eq { s with edge := { s.edge with reportSeq := (s.edge.reportSeq + 1) % 2 ^ 32 } } 6 r.ctx r.queue r.unit
    (leBytes 1 r.kind ++ leBytes 1 r.status)
  obtain ⟨obs, posted, postHeld, htrace⟩ := htrace
  unfold Gk1.report
  dsimp only
  rw [htrace]
  split
  · obtain ⟨p1, h1, hpost1⟩ := Gk1.post_eq
      { s with edge := { s.edge with reportSeq := (s.edge.reportSeq + 1) % 2 ^ 32 }, obs := obs, posted := posted, postHeld := postHeld }
      (fld (s.reg 0x30 (8 * 2)) 12 52 * 4096 + (s.edge.reportSeq + 2 ^ 32 - 1) % 2 ^ 32 % 2 ^ fld (s.reg 0x30 (8 * 2)) 1 4 * 64 + 4)
      ((r.bytes s.edge.reportSeq s.dtime).drop 4)
    obtain ⟨p2, h2, hpost2⟩ := Gk1.post_eq
      { s with edge := { s.edge with reportSeq := (s.edge.reportSeq + 1) % 2 ^ 32 }, obs := obs, posted := p1, postHeld := h1 }
      (fld (s.reg 0x30 (8 * 2)) 12 52 * 4096 + (s.edge.reportSeq + 2 ^ 32 - 1) % 2 ^ 32 % 2 ^ fld (s.reg 0x30 (8 * 2)) 1 4 * 64)
      ((r.bytes s.edge.reportSeq s.dtime).take 4)
    rw [hpost1, hpost2]
    exact ⟨_, _, _, _, _, rfl⟩
  · exact ⟨_, _, _, _, _, rfl⟩

/-! ### What they leave -/

section
variable (s : Gk1) (addr : Nat) (bytes : List Byte)

@[simp] theorem Gk1.post_free : (s.post addr bytes).free = s.free := by obtain ⟨_, _, h⟩ := s.post_eq addr bytes; rw [h]
@[simp] theorem Gk1.post_part : (s.post addr bytes).part = s.part := by obtain ⟨_, _, h⟩ := s.post_eq addr bytes; rw [h]
@[simp] theorem Gk1.post_dtime : (s.post addr bytes).dtime = s.dtime := by obtain ⟨_, _, h⟩ := s.post_eq addr bytes; rw [h]
@[simp] theorem Gk1.post_regs : (s.post addr bytes).regs = s.regs := by obtain ⟨_, _, h⟩ := s.post_eq addr bytes; rw [h]
@[simp] theorem Gk1.post_edge : (s.post addr bytes).edge = s.edge := by obtain ⟨_, _, h⟩ := s.post_eq addr bytes; rw [h]
@[simp] theorem Gk1.post_boot : (s.post addr bytes).boot = s.boot := by obtain ⟨_, _, h⟩ := s.post_eq addr bytes; rw [h]
@[simp] theorem Gk1.post_clocks : (s.post addr bytes).clocks = s.clocks := by obtain ⟨_, _, h⟩ := s.post_eq addr bytes; rw [h]
@[simp] theorem Gk1.post_line : (s.post addr bytes).line = s.line := by obtain ⟨_, _, h⟩ := s.post_eq addr bytes; rw [h]
@[simp] theorem Gk1.post_power : (s.post addr bytes).power = s.power := by obtain ⟨_, _, h⟩ := s.post_eq addr bytes; rw [h]
@[simp] theorem Gk1.post_ledger : (s.post addr bytes).ledger = s.ledger := by obtain ⟨_, _, h⟩ := s.post_eq addr bytes; rw [h]
@[simp] theorem Gk1.post_held : (s.post addr bytes).held = s.held := by obtain ⟨_, _, h⟩ := s.post_eq addr bytes; rw [h]
@[simp] theorem Gk1.post_obs : (s.post addr bytes).obs = s.obs := by obtain ⟨_, _, h⟩ := s.post_eq addr bytes; rw [h]
@[simp] theorem Gk1.post_cores : (s.post addr bytes).cores = s.cores := by obtain ⟨_, _, h⟩ := s.post_eq addr bytes; rw [h]
@[simp] theorem Gk1.post_clusters : (s.post addr bytes).clusters = s.clusters := by obtain ⟨_, _, h⟩ := s.post_eq addr bytes; rw [h]
@[simp] theorem Gk1.post_regions : (s.post addr bytes).regions = s.regions := by obtain ⟨_, _, h⟩ := s.post_eq addr bytes; rw [h]
@[simp] theorem Gk1.post_cache : (s.post addr bytes).cache = s.cache := by obtain ⟨_, _, h⟩ := s.post_eq addr bytes; rw [h]
@[simp] theorem Gk1.post_stamp : (s.post addr bytes).stamp = s.stamp := by obtain ⟨_, _, h⟩ := s.post_eq addr bytes; rw [h]
@[simp] theorem Gk1.post_fills : (s.post addr bytes).fills = s.fills := by obtain ⟨_, _, h⟩ := s.post_eq addr bytes; rw [h]
@[simp] theorem Gk1.post_nextId : (s.post addr bytes).nextId = s.nextId := by obtain ⟨_, _, h⟩ := s.post_eq addr bytes; rw [h]
@[simp] theorem Gk1.post_reqs : (s.post addr bytes).reqs = s.reqs := by obtain ⟨_, _, h⟩ := s.post_eq addr bytes; rw [h]
@[simp] theorem Gk1.post_msgs : (s.post addr bytes).msgs = s.msgs := by obtain ⟨_, _, h⟩ := s.post_eq addr bytes; rw [h]
@[simp] theorem Gk1.post_epochs : (s.post addr bytes).epochs = s.epochs := by obtain ⟨_, _, h⟩ := s.post_eq addr bytes; rw [h]
@[simp] theorem Gk1.post_queues : (s.post addr bytes).queues = s.queues := by obtain ⟨_, _, h⟩ := s.post_eq addr bytes; rw [h]
@[simp] theorem Gk1.post_ctxs : (s.post addr bytes).ctxs = s.ctxs := by obtain ⟨_, _, h⟩ := s.post_eq addr bytes; rw [h]
@[simp] theorem Gk1.post_kernels : (s.post addr bytes).kernels = s.kernels := by obtain ⟨_, _, h⟩ := s.post_eq addr bytes; rw [h]
@[simp] theorem Gk1.post_ownerWatches : (s.post addr bytes).ownerWatches = s.ownerWatches := by obtain ⟨_, _, h⟩ := s.post_eq addr bytes; rw [h]
@[simp] theorem Gk1.post_importWatches : (s.post addr bytes).importWatches = s.importWatches := by obtain ⟨_, _, h⟩ := s.post_eq addr bytes; rw [h]
@[simp] theorem Gk1.post_ports : (s.post addr bytes).ports = s.ports := by obtain ⟨_, _, h⟩ := s.post_eq addr bytes; rw [h]
@[simp] theorem Gk1.post_drops : (s.post addr bytes).drops = s.drops := by obtain ⟨_, _, h⟩ := s.post_eq addr bytes; rw [h]
@[simp] theorem Gk1.post_unreachable : (s.post addr bytes).unreachable = s.unreachable := by obtain ⟨_, _, h⟩ := s.post_eq addr bytes; rw [h]
@[simp] theorem Gk1.post_kept : (s.post addr bytes).kept = s.kept := by obtain ⟨_, _, h⟩ := s.post_eq addr bytes; rw [h]
@[simp] theorem Gk1.post_routedAt : (s.post addr bytes).routedAt = s.routedAt := by obtain ⟨_, _, h⟩ := s.post_eq addr bytes; rw [h]
@[simp] theorem Gk1.post_jobs : (s.post addr bytes).jobs = s.jobs := by obtain ⟨_, _, h⟩ := s.post_eq addr bytes; rw [h]
@[simp] theorem Gk1.post_buckets : (s.post addr bytes).buckets = s.buckets := by obtain ⟨_, _, h⟩ := s.post_eq addr bytes; rw [h]
@[simp] theorem Gk1.post_snaps : (s.post addr bytes).snaps = s.snaps := by obtain ⟨_, _, h⟩ := s.post_eq addr bytes; rw [h]

end

section
variable (s : Gk1) (kind ctx queue unit : Nat) (data : List Byte)

@[simp] theorem Gk1.trace_free : (s.trace kind ctx queue unit data).free = s.free := by obtain ⟨_, _, _, h⟩ := s.trace_eq kind ctx queue unit data; rw [h]
@[simp] theorem Gk1.trace_part : (s.trace kind ctx queue unit data).part = s.part := by obtain ⟨_, _, _, h⟩ := s.trace_eq kind ctx queue unit data; rw [h]
@[simp] theorem Gk1.trace_dtime : (s.trace kind ctx queue unit data).dtime = s.dtime := by obtain ⟨_, _, _, h⟩ := s.trace_eq kind ctx queue unit data; rw [h]
@[simp] theorem Gk1.trace_regs : (s.trace kind ctx queue unit data).regs = s.regs := by obtain ⟨_, _, _, h⟩ := s.trace_eq kind ctx queue unit data; rw [h]
@[simp] theorem Gk1.trace_edge : (s.trace kind ctx queue unit data).edge = s.edge := by obtain ⟨_, _, _, h⟩ := s.trace_eq kind ctx queue unit data; rw [h]
@[simp] theorem Gk1.trace_boot : (s.trace kind ctx queue unit data).boot = s.boot := by obtain ⟨_, _, _, h⟩ := s.trace_eq kind ctx queue unit data; rw [h]
@[simp] theorem Gk1.trace_clocks : (s.trace kind ctx queue unit data).clocks = s.clocks := by obtain ⟨_, _, _, h⟩ := s.trace_eq kind ctx queue unit data; rw [h]
@[simp] theorem Gk1.trace_line : (s.trace kind ctx queue unit data).line = s.line := by obtain ⟨_, _, _, h⟩ := s.trace_eq kind ctx queue unit data; rw [h]
@[simp] theorem Gk1.trace_power : (s.trace kind ctx queue unit data).power = s.power := by obtain ⟨_, _, _, h⟩ := s.trace_eq kind ctx queue unit data; rw [h]
@[simp] theorem Gk1.trace_ledger : (s.trace kind ctx queue unit data).ledger = s.ledger := by obtain ⟨_, _, _, h⟩ := s.trace_eq kind ctx queue unit data; rw [h]
@[simp] theorem Gk1.trace_held : (s.trace kind ctx queue unit data).held = s.held := by obtain ⟨_, _, _, h⟩ := s.trace_eq kind ctx queue unit data; rw [h]
@[simp] theorem Gk1.trace_cores : (s.trace kind ctx queue unit data).cores = s.cores := by obtain ⟨_, _, _, h⟩ := s.trace_eq kind ctx queue unit data; rw [h]
@[simp] theorem Gk1.trace_clusters : (s.trace kind ctx queue unit data).clusters = s.clusters := by obtain ⟨_, _, _, h⟩ := s.trace_eq kind ctx queue unit data; rw [h]
@[simp] theorem Gk1.trace_regions : (s.trace kind ctx queue unit data).regions = s.regions := by obtain ⟨_, _, _, h⟩ := s.trace_eq kind ctx queue unit data; rw [h]
@[simp] theorem Gk1.trace_cache : (s.trace kind ctx queue unit data).cache = s.cache := by obtain ⟨_, _, _, h⟩ := s.trace_eq kind ctx queue unit data; rw [h]
@[simp] theorem Gk1.trace_stamp : (s.trace kind ctx queue unit data).stamp = s.stamp := by obtain ⟨_, _, _, h⟩ := s.trace_eq kind ctx queue unit data; rw [h]
@[simp] theorem Gk1.trace_fills : (s.trace kind ctx queue unit data).fills = s.fills := by obtain ⟨_, _, _, h⟩ := s.trace_eq kind ctx queue unit data; rw [h]
@[simp] theorem Gk1.trace_nextId : (s.trace kind ctx queue unit data).nextId = s.nextId := by obtain ⟨_, _, _, h⟩ := s.trace_eq kind ctx queue unit data; rw [h]
@[simp] theorem Gk1.trace_reqs : (s.trace kind ctx queue unit data).reqs = s.reqs := by obtain ⟨_, _, _, h⟩ := s.trace_eq kind ctx queue unit data; rw [h]
@[simp] theorem Gk1.trace_msgs : (s.trace kind ctx queue unit data).msgs = s.msgs := by obtain ⟨_, _, _, h⟩ := s.trace_eq kind ctx queue unit data; rw [h]
@[simp] theorem Gk1.trace_epochs : (s.trace kind ctx queue unit data).epochs = s.epochs := by obtain ⟨_, _, _, h⟩ := s.trace_eq kind ctx queue unit data; rw [h]
@[simp] theorem Gk1.trace_queues : (s.trace kind ctx queue unit data).queues = s.queues := by obtain ⟨_, _, _, h⟩ := s.trace_eq kind ctx queue unit data; rw [h]
@[simp] theorem Gk1.trace_ctxs : (s.trace kind ctx queue unit data).ctxs = s.ctxs := by obtain ⟨_, _, _, h⟩ := s.trace_eq kind ctx queue unit data; rw [h]
@[simp] theorem Gk1.trace_kernels : (s.trace kind ctx queue unit data).kernels = s.kernels := by obtain ⟨_, _, _, h⟩ := s.trace_eq kind ctx queue unit data; rw [h]
@[simp] theorem Gk1.trace_ownerWatches : (s.trace kind ctx queue unit data).ownerWatches = s.ownerWatches := by obtain ⟨_, _, _, h⟩ := s.trace_eq kind ctx queue unit data; rw [h]
@[simp] theorem Gk1.trace_importWatches : (s.trace kind ctx queue unit data).importWatches = s.importWatches := by obtain ⟨_, _, _, h⟩ := s.trace_eq kind ctx queue unit data; rw [h]
@[simp] theorem Gk1.trace_ports : (s.trace kind ctx queue unit data).ports = s.ports := by obtain ⟨_, _, _, h⟩ := s.trace_eq kind ctx queue unit data; rw [h]
@[simp] theorem Gk1.trace_drops : (s.trace kind ctx queue unit data).drops = s.drops := by obtain ⟨_, _, _, h⟩ := s.trace_eq kind ctx queue unit data; rw [h]
@[simp] theorem Gk1.trace_unreachable : (s.trace kind ctx queue unit data).unreachable = s.unreachable := by obtain ⟨_, _, _, h⟩ := s.trace_eq kind ctx queue unit data; rw [h]
@[simp] theorem Gk1.trace_kept : (s.trace kind ctx queue unit data).kept = s.kept := by obtain ⟨_, _, _, h⟩ := s.trace_eq kind ctx queue unit data; rw [h]
@[simp] theorem Gk1.trace_routedAt : (s.trace kind ctx queue unit data).routedAt = s.routedAt := by obtain ⟨_, _, _, h⟩ := s.trace_eq kind ctx queue unit data; rw [h]
@[simp] theorem Gk1.trace_jobs : (s.trace kind ctx queue unit data).jobs = s.jobs := by obtain ⟨_, _, _, h⟩ := s.trace_eq kind ctx queue unit data; rw [h]
@[simp] theorem Gk1.trace_buckets : (s.trace kind ctx queue unit data).buckets = s.buckets := by obtain ⟨_, _, _, h⟩ := s.trace_eq kind ctx queue unit data; rw [h]
@[simp] theorem Gk1.trace_snaps : (s.trace kind ctx queue unit data).snaps = s.snaps := by obtain ⟨_, _, _, h⟩ := s.trace_eq kind ctx queue unit data; rw [h]

end

section
variable (s : Gk1) (r : Report)

@[simp] theorem Gk1.report_free : (s.report r).free = s.free := by obtain ⟨_, _, _, _, _, h⟩ := s.report_eq r; rw [h]
@[simp] theorem Gk1.report_part : (s.report r).part = s.part := by obtain ⟨_, _, _, _, _, h⟩ := s.report_eq r; rw [h]
@[simp] theorem Gk1.report_dtime : (s.report r).dtime = s.dtime := by obtain ⟨_, _, _, _, _, h⟩ := s.report_eq r; rw [h]
@[simp] theorem Gk1.report_regs : (s.report r).regs = s.regs := by obtain ⟨_, _, _, _, _, h⟩ := s.report_eq r; rw [h]
@[simp] theorem Gk1.report_boot : (s.report r).boot = s.boot := by obtain ⟨_, _, _, _, _, h⟩ := s.report_eq r; rw [h]
@[simp] theorem Gk1.report_clocks : (s.report r).clocks = s.clocks := by obtain ⟨_, _, _, _, _, h⟩ := s.report_eq r; rw [h]
@[simp] theorem Gk1.report_line : (s.report r).line = s.line := by obtain ⟨_, _, _, _, _, h⟩ := s.report_eq r; rw [h]
@[simp] theorem Gk1.report_power : (s.report r).power = s.power := by obtain ⟨_, _, _, _, _, h⟩ := s.report_eq r; rw [h]
@[simp] theorem Gk1.report_ledger : (s.report r).ledger = s.ledger := by obtain ⟨_, _, _, _, _, h⟩ := s.report_eq r; rw [h]
@[simp] theorem Gk1.report_held : (s.report r).held = s.held := by obtain ⟨_, _, _, _, _, h⟩ := s.report_eq r; rw [h]
@[simp] theorem Gk1.report_cores : (s.report r).cores = s.cores := by obtain ⟨_, _, _, _, _, h⟩ := s.report_eq r; rw [h]
@[simp] theorem Gk1.report_clusters : (s.report r).clusters = s.clusters := by obtain ⟨_, _, _, _, _, h⟩ := s.report_eq r; rw [h]
@[simp] theorem Gk1.report_regions : (s.report r).regions = s.regions := by obtain ⟨_, _, _, _, _, h⟩ := s.report_eq r; rw [h]
@[simp] theorem Gk1.report_cache : (s.report r).cache = s.cache := by obtain ⟨_, _, _, _, _, h⟩ := s.report_eq r; rw [h]
@[simp] theorem Gk1.report_stamp : (s.report r).stamp = s.stamp := by obtain ⟨_, _, _, _, _, h⟩ := s.report_eq r; rw [h]
@[simp] theorem Gk1.report_fills : (s.report r).fills = s.fills := by obtain ⟨_, _, _, _, _, h⟩ := s.report_eq r; rw [h]
@[simp] theorem Gk1.report_nextId : (s.report r).nextId = s.nextId := by obtain ⟨_, _, _, _, _, h⟩ := s.report_eq r; rw [h]
@[simp] theorem Gk1.report_reqs : (s.report r).reqs = s.reqs := by obtain ⟨_, _, _, _, _, h⟩ := s.report_eq r; rw [h]
@[simp] theorem Gk1.report_msgs : (s.report r).msgs = s.msgs := by obtain ⟨_, _, _, _, _, h⟩ := s.report_eq r; rw [h]
@[simp] theorem Gk1.report_epochs : (s.report r).epochs = s.epochs := by obtain ⟨_, _, _, _, _, h⟩ := s.report_eq r; rw [h]
@[simp] theorem Gk1.report_queues : (s.report r).queues = s.queues := by obtain ⟨_, _, _, _, _, h⟩ := s.report_eq r; rw [h]
@[simp] theorem Gk1.report_ctxs : (s.report r).ctxs = s.ctxs := by obtain ⟨_, _, _, _, _, h⟩ := s.report_eq r; rw [h]
@[simp] theorem Gk1.report_kernels : (s.report r).kernels = s.kernels := by obtain ⟨_, _, _, _, _, h⟩ := s.report_eq r; rw [h]
@[simp] theorem Gk1.report_ownerWatches : (s.report r).ownerWatches = s.ownerWatches := by obtain ⟨_, _, _, _, _, h⟩ := s.report_eq r; rw [h]
@[simp] theorem Gk1.report_importWatches : (s.report r).importWatches = s.importWatches := by obtain ⟨_, _, _, _, _, h⟩ := s.report_eq r; rw [h]
@[simp] theorem Gk1.report_ports : (s.report r).ports = s.ports := by obtain ⟨_, _, _, _, _, h⟩ := s.report_eq r; rw [h]
@[simp] theorem Gk1.report_drops : (s.report r).drops = s.drops := by obtain ⟨_, _, _, _, _, h⟩ := s.report_eq r; rw [h]
@[simp] theorem Gk1.report_unreachable : (s.report r).unreachable = s.unreachable := by obtain ⟨_, _, _, _, _, h⟩ := s.report_eq r; rw [h]
@[simp] theorem Gk1.report_kept : (s.report r).kept = s.kept := by obtain ⟨_, _, _, _, _, h⟩ := s.report_eq r; rw [h]
@[simp] theorem Gk1.report_routedAt : (s.report r).routedAt = s.routedAt := by obtain ⟨_, _, _, _, _, h⟩ := s.report_eq r; rw [h]
@[simp] theorem Gk1.report_jobs : (s.report r).jobs = s.jobs := by obtain ⟨_, _, _, _, _, h⟩ := s.report_eq r; rw [h]
@[simp] theorem Gk1.report_buckets : (s.report r).buckets = s.buckets := by obtain ⟨_, _, _, _, _, h⟩ := s.report_eq r; rw [h]
@[simp] theorem Gk1.report_snaps : (s.report r).snaps = s.snaps := by obtain ⟨_, _, _, _, _, h⟩ := s.report_eq r; rw [h]

end

section
variable (s : Gk1) (c i n : Nat)

@[simp] theorem Gk1.countCtx_free : (s.countCtx c i n).free = s.free := by obtain ⟨_, h⟩ := s.countCtx_eq c i n; rw [h]
@[simp] theorem Gk1.countCtx_part : (s.countCtx c i n).part = s.part := by obtain ⟨_, h⟩ := s.countCtx_eq c i n; rw [h]
@[simp] theorem Gk1.countCtx_dtime : (s.countCtx c i n).dtime = s.dtime := by obtain ⟨_, h⟩ := s.countCtx_eq c i n; rw [h]
@[simp] theorem Gk1.countCtx_regs : (s.countCtx c i n).regs = s.regs := by obtain ⟨_, h⟩ := s.countCtx_eq c i n; rw [h]
@[simp] theorem Gk1.countCtx_edge : (s.countCtx c i n).edge = s.edge := by obtain ⟨_, h⟩ := s.countCtx_eq c i n; rw [h]
@[simp] theorem Gk1.countCtx_boot : (s.countCtx c i n).boot = s.boot := by obtain ⟨_, h⟩ := s.countCtx_eq c i n; rw [h]
@[simp] theorem Gk1.countCtx_clocks : (s.countCtx c i n).clocks = s.clocks := by obtain ⟨_, h⟩ := s.countCtx_eq c i n; rw [h]
@[simp] theorem Gk1.countCtx_line : (s.countCtx c i n).line = s.line := by obtain ⟨_, h⟩ := s.countCtx_eq c i n; rw [h]
@[simp] theorem Gk1.countCtx_power : (s.countCtx c i n).power = s.power := by obtain ⟨_, h⟩ := s.countCtx_eq c i n; rw [h]
@[simp] theorem Gk1.countCtx_ledger : (s.countCtx c i n).ledger = s.ledger := by obtain ⟨_, h⟩ := s.countCtx_eq c i n; rw [h]
@[simp] theorem Gk1.countCtx_held : (s.countCtx c i n).held = s.held := by obtain ⟨_, h⟩ := s.countCtx_eq c i n; rw [h]
@[simp] theorem Gk1.countCtx_obs : (s.countCtx c i n).obs = s.obs := by obtain ⟨_, h⟩ := s.countCtx_eq c i n; rw [h]
@[simp] theorem Gk1.countCtx_clusters : (s.countCtx c i n).clusters = s.clusters := by obtain ⟨_, h⟩ := s.countCtx_eq c i n; rw [h]
@[simp] theorem Gk1.countCtx_regions : (s.countCtx c i n).regions = s.regions := by obtain ⟨_, h⟩ := s.countCtx_eq c i n; rw [h]
@[simp] theorem Gk1.countCtx_cache : (s.countCtx c i n).cache = s.cache := by obtain ⟨_, h⟩ := s.countCtx_eq c i n; rw [h]
@[simp] theorem Gk1.countCtx_stamp : (s.countCtx c i n).stamp = s.stamp := by obtain ⟨_, h⟩ := s.countCtx_eq c i n; rw [h]
@[simp] theorem Gk1.countCtx_fills : (s.countCtx c i n).fills = s.fills := by obtain ⟨_, h⟩ := s.countCtx_eq c i n; rw [h]
@[simp] theorem Gk1.countCtx_nextId : (s.countCtx c i n).nextId = s.nextId := by obtain ⟨_, h⟩ := s.countCtx_eq c i n; rw [h]
@[simp] theorem Gk1.countCtx_reqs : (s.countCtx c i n).reqs = s.reqs := by obtain ⟨_, h⟩ := s.countCtx_eq c i n; rw [h]
@[simp] theorem Gk1.countCtx_msgs : (s.countCtx c i n).msgs = s.msgs := by obtain ⟨_, h⟩ := s.countCtx_eq c i n; rw [h]
@[simp] theorem Gk1.countCtx_epochs : (s.countCtx c i n).epochs = s.epochs := by obtain ⟨_, h⟩ := s.countCtx_eq c i n; rw [h]
@[simp] theorem Gk1.countCtx_queues : (s.countCtx c i n).queues = s.queues := by obtain ⟨_, h⟩ := s.countCtx_eq c i n; rw [h]
@[simp] theorem Gk1.countCtx_kernels : (s.countCtx c i n).kernels = s.kernels := by obtain ⟨_, h⟩ := s.countCtx_eq c i n; rw [h]
@[simp] theorem Gk1.countCtx_ownerWatches : (s.countCtx c i n).ownerWatches = s.ownerWatches := by obtain ⟨_, h⟩ := s.countCtx_eq c i n; rw [h]
@[simp] theorem Gk1.countCtx_importWatches : (s.countCtx c i n).importWatches = s.importWatches := by obtain ⟨_, h⟩ := s.countCtx_eq c i n; rw [h]
@[simp] theorem Gk1.countCtx_ports : (s.countCtx c i n).ports = s.ports := by obtain ⟨_, h⟩ := s.countCtx_eq c i n; rw [h]
@[simp] theorem Gk1.countCtx_drops : (s.countCtx c i n).drops = s.drops := by obtain ⟨_, h⟩ := s.countCtx_eq c i n; rw [h]
@[simp] theorem Gk1.countCtx_unreachable : (s.countCtx c i n).unreachable = s.unreachable := by obtain ⟨_, h⟩ := s.countCtx_eq c i n; rw [h]
@[simp] theorem Gk1.countCtx_kept : (s.countCtx c i n).kept = s.kept := by obtain ⟨_, h⟩ := s.countCtx_eq c i n; rw [h]
@[simp] theorem Gk1.countCtx_routedAt : (s.countCtx c i n).routedAt = s.routedAt := by obtain ⟨_, h⟩ := s.countCtx_eq c i n; rw [h]
@[simp] theorem Gk1.countCtx_jobs : (s.countCtx c i n).jobs = s.jobs := by obtain ⟨_, h⟩ := s.countCtx_eq c i n; rw [h]
@[simp] theorem Gk1.countCtx_buckets : (s.countCtx c i n).buckets = s.buckets := by obtain ⟨_, h⟩ := s.countCtx_eq c i n; rw [h]
@[simp] theorem Gk1.countCtx_snaps : (s.countCtx c i n).snaps = s.snaps := by obtain ⟨_, h⟩ := s.countCtx_eq c i n; rw [h]
@[simp] theorem Gk1.countCtx_posted : (s.countCtx c i n).posted = s.posted := by obtain ⟨_, h⟩ := s.countCtx_eq c i n; rw [h]
@[simp] theorem Gk1.countCtx_postHeld : (s.countCtx c i n).postHeld = s.postHeld := by obtain ⟨_, h⟩ := s.countCtx_eq c i n; rw [h]

end

section
variable (s : Gk1) (core i n : Nat)

@[simp] theorem Gk1.countCore_free : (s.countCore core i n).free = s.free := by obtain ⟨_, _, h⟩ := s.countCore_eq core i n; rw [h]
@[simp] theorem Gk1.countCore_part : (s.countCore core i n).part = s.part := by obtain ⟨_, _, h⟩ := s.countCore_eq core i n; rw [h]
@[simp] theorem Gk1.countCore_dtime : (s.countCore core i n).dtime = s.dtime := by obtain ⟨_, _, h⟩ := s.countCore_eq core i n; rw [h]
@[simp] theorem Gk1.countCore_regs : (s.countCore core i n).regs = s.regs := by obtain ⟨_, _, h⟩ := s.countCore_eq core i n; rw [h]
@[simp] theorem Gk1.countCore_edge : (s.countCore core i n).edge = s.edge := by obtain ⟨_, _, h⟩ := s.countCore_eq core i n; rw [h]
@[simp] theorem Gk1.countCore_boot : (s.countCore core i n).boot = s.boot := by obtain ⟨_, _, h⟩ := s.countCore_eq core i n; rw [h]
@[simp] theorem Gk1.countCore_clocks : (s.countCore core i n).clocks = s.clocks := by obtain ⟨_, _, h⟩ := s.countCore_eq core i n; rw [h]
@[simp] theorem Gk1.countCore_line : (s.countCore core i n).line = s.line := by obtain ⟨_, _, h⟩ := s.countCore_eq core i n; rw [h]
@[simp] theorem Gk1.countCore_power : (s.countCore core i n).power = s.power := by obtain ⟨_, _, h⟩ := s.countCore_eq core i n; rw [h]
@[simp] theorem Gk1.countCore_ledger : (s.countCore core i n).ledger = s.ledger := by obtain ⟨_, _, h⟩ := s.countCore_eq core i n; rw [h]
@[simp] theorem Gk1.countCore_held : (s.countCore core i n).held = s.held := by obtain ⟨_, _, h⟩ := s.countCore_eq core i n; rw [h]
@[simp] theorem Gk1.countCore_regions : (s.countCore core i n).regions = s.regions := by obtain ⟨_, _, h⟩ := s.countCore_eq core i n; rw [h]
@[simp] theorem Gk1.countCore_cache : (s.countCore core i n).cache = s.cache := by obtain ⟨_, _, h⟩ := s.countCore_eq core i n; rw [h]
@[simp] theorem Gk1.countCore_stamp : (s.countCore core i n).stamp = s.stamp := by obtain ⟨_, _, h⟩ := s.countCore_eq core i n; rw [h]
@[simp] theorem Gk1.countCore_fills : (s.countCore core i n).fills = s.fills := by obtain ⟨_, _, h⟩ := s.countCore_eq core i n; rw [h]
@[simp] theorem Gk1.countCore_nextId : (s.countCore core i n).nextId = s.nextId := by obtain ⟨_, _, h⟩ := s.countCore_eq core i n; rw [h]
@[simp] theorem Gk1.countCore_reqs : (s.countCore core i n).reqs = s.reqs := by obtain ⟨_, _, h⟩ := s.countCore_eq core i n; rw [h]
@[simp] theorem Gk1.countCore_msgs : (s.countCore core i n).msgs = s.msgs := by obtain ⟨_, _, h⟩ := s.countCore_eq core i n; rw [h]
@[simp] theorem Gk1.countCore_epochs : (s.countCore core i n).epochs = s.epochs := by obtain ⟨_, _, h⟩ := s.countCore_eq core i n; rw [h]
@[simp] theorem Gk1.countCore_queues : (s.countCore core i n).queues = s.queues := by obtain ⟨_, _, h⟩ := s.countCore_eq core i n; rw [h]
@[simp] theorem Gk1.countCore_kernels : (s.countCore core i n).kernels = s.kernels := by obtain ⟨_, _, h⟩ := s.countCore_eq core i n; rw [h]
@[simp] theorem Gk1.countCore_ownerWatches : (s.countCore core i n).ownerWatches = s.ownerWatches := by obtain ⟨_, _, h⟩ := s.countCore_eq core i n; rw [h]
@[simp] theorem Gk1.countCore_importWatches : (s.countCore core i n).importWatches = s.importWatches := by obtain ⟨_, _, h⟩ := s.countCore_eq core i n; rw [h]
@[simp] theorem Gk1.countCore_ports : (s.countCore core i n).ports = s.ports := by obtain ⟨_, _, h⟩ := s.countCore_eq core i n; rw [h]
@[simp] theorem Gk1.countCore_drops : (s.countCore core i n).drops = s.drops := by obtain ⟨_, _, h⟩ := s.countCore_eq core i n; rw [h]
@[simp] theorem Gk1.countCore_unreachable : (s.countCore core i n).unreachable = s.unreachable := by obtain ⟨_, _, h⟩ := s.countCore_eq core i n; rw [h]
@[simp] theorem Gk1.countCore_kept : (s.countCore core i n).kept = s.kept := by obtain ⟨_, _, h⟩ := s.countCore_eq core i n; rw [h]
@[simp] theorem Gk1.countCore_routedAt : (s.countCore core i n).routedAt = s.routedAt := by obtain ⟨_, _, h⟩ := s.countCore_eq core i n; rw [h]
@[simp] theorem Gk1.countCore_jobs : (s.countCore core i n).jobs = s.jobs := by obtain ⟨_, _, h⟩ := s.countCore_eq core i n; rw [h]
@[simp] theorem Gk1.countCore_buckets : (s.countCore core i n).buckets = s.buckets := by obtain ⟨_, _, h⟩ := s.countCore_eq core i n; rw [h]
@[simp] theorem Gk1.countCore_snaps : (s.countCore core i n).snaps = s.snaps := by obtain ⟨_, _, h⟩ := s.countCore_eq core i n; rw [h]
@[simp] theorem Gk1.countCore_posted : (s.countCore core i n).posted = s.posted := by obtain ⟨_, _, h⟩ := s.countCore_eq core i n; rw [h]
@[simp] theorem Gk1.countCore_postHeld : (s.countCore core i n).postHeld = s.postHeld := by obtain ⟨_, _, h⟩ := s.countCore_eq core i n; rw [h]

end

end Sys2Proof.Machine

/-! ## Barrier objects (R356-R372) -/

namespace Sys2Proof.Machine

theorem NMap.getD_mapVals {α : Type} (m : NMap α) (f : α → α) (k : Nat) {d : α} (hd : f d = d) :
    NMap.getD (NMap.mapVals m fun _ x => f x) k d = f (NMap.getD m k d) := by
  induction m with
  | nil => exact hd.symm
  | cons e m ih =>
    simp only [NMap.getD, NMap.get?, NMap.mapVals, List.map_cons] at ih ⊢
    by_cases h : e.1 = k
    · simp [h]
    · simp only [h]
      exact ih

section
variable (C : Core) (b cnt src slot : Nat)

/-- The object of a core that was replaced. -/
theorem Core.bar_set (B : Bar) (a : Nat) : Core.bar { C with bars := NMap.set C.bars b B } a = if b = a then B else C.bar a := by
  simp [Core.bar]

/-- An arrival changes its own object alone. -/
theorem Core.bar_arrive (a : Nat) :
    (C.arrive b cnt src slot).bar a = if b = a then (C.bar b).arrive cnt src slot else C.bar a := by
  rw [← Core.bar_set]
  unfold Core.arrive
  dsimp only
  split <;> rfl

@[simp] theorem Core.store_arrive : (C.arrive b cnt src slot).store = C.store := by
  unfold Core.arrive
  dsimp only
  split <;> rfl

/-- The groups go on when the phase is complete, and stay otherwise. -/
theorem Core.group_arrive (g : Nat) : (C.arrive b cnt src slot).group g =
    if ((C.bar b).arrive cnt src slot).gen = (C.bar b).gen then C.group g else (C.group g).release b := by
  unfold Core.arrive
  dsimp only
  split
  · rfl
  · exact NMap.getD_mapVals C.groups (fun G => G.release b) g rfl

end

/-- An arrival that leaves more to come. -/
theorem Bar.arrive_of_lt (B : Bar) (cnt src slot : Nat) (h : cnt < B.count - B.arrived) :
    B.arrive cnt src slot = { B with arrived := B.arrived + cnt, lsrc := src, lslot := slot } := if_pos h

/-- An arrival that completes the phase. -/
theorem Bar.arrive_of_le (B : Bar) (cnt src slot : Nat) (h : B.count - B.arrived ≤ cnt) :
    B.arrive cnt src slot = { B with
      arrived := 0, waiters := 0, gen := B.gen + 1, lsrc := src, lslot := slot
      overflow := B.overflow || decide (B.count - B.arrived < cnt) } := if_neg (Nat.not_lt.2 h)

theorem Bar.gen_succ_ne (B : Bar) : B.gen + 1 ≠ B.gen := by
  intro h
  have := congrArg BitVec.toNat h
  simp at this
  omega

/-- A group that is not stalled stays as it is. -/
theorem Group.release_of_none (G : Group) (b : Nat) (h : G.stall = .none) : G.release b = G := by
  unfold Group.release
  rw [h]
  rfl

end Sys2Proof.Machine

namespace Sys2Proof.Claims

open Sys2Proof.Machine

theorem stall_of_issues {maj core grp : Nat} {isOp : Nat → Bool} {ok : Nat → Nat → Bool} {regs : Nat → List Nat} {s : Gk1}
    (h : issues maj isOp ok regs core grp s = true) : (s.group core grp).stall = .none := by
  simp only [issues, Gk1.ready, Bool.and_eq_true, decide_eq_true_eq] at h
  obtain ⟨⟨⟨⟨⟨⟨-, ⟨-, hstall⟩, -⟩, -⟩, -⟩, -⟩, -⟩, -⟩ := h
  exact hstall

/-- A bar instruction whose guard holds runs on the object that its word names. -/
theorem act_barIns {op core grp : Nat} {ok : Nat → Bool} {regs : Nat → List Nat} {run : GI → Nat → Iss} {s : State} {p : Gk1}
    (h : issues 0x28 (op3Is op) (fun w _ => ok w) regs core grp s.toGk1 = true)
    (hguard : (s.group core grp).issues (fetched s.toGk1 core grp false).w = true)
    (hrun : run (fetched s.toGk1 core grp false) (fld (fetched s.toGk1 core grp false).w 14 6) = .ok p) :
    s.act (barIns op ok regs run core grp) = .next (passed s core grp 1 0 p) := by
  refine act_issue_short rfl h ?_
  have hguard' : (fetched s.toGk1 core grp false).G.issues (fetched s.toGk1 core grp false).w = true := hguard
  simp only [hguard', Bool.not_true, Bool.false_eq_true, if_false]
  exact hrun

/-- bar.init: its three outcomes (R370-R372). -/
theorem act_barInit {core grp : Nat} {s : State} {i : GI}
    (h : issues 0x28 (op3Is 0) (fun w _ => barOk true false false w && fld w 20 8 ≠ 0) (fun _ => []) core grp s.toGk1 = true)
    (hi : fetched s.toGk1 core grp false = i) (hguard : i.G.issues i.w = true) :
    let B := i.C.bar (fld i.w 14 6)
    let B' : Bar := { B with count := fld i.w 20 8, arrived := 0, overflow := B.overflow || decide (B.arrived ≠ 0) }
    (B.waiters ≠ 0 → exec (.barInit core grp) s = .next (became s (s.groupFault core grp 0x2C))) ∧
    (B.waiters = 0 → B.engpend ≠ 0 →
      exec (.barInit core grp) s = .next (became s (s.toGk1.modGroup core grp fun G => { G with stall := .engpend }))) ∧
    (B.waiters = 0 → B.engpend = 0 → exec (.barInit core grp) s = .next (passed s core grp 1 0
      (i.s.modCore i.core fun C => { C with bars := NMap.set C.bars (fld i.w 14 6) B' }))) := by
  have hi' : fetched s.toGk1 core grp (isLong 0x28) = i := hi
  intro B B'
  change (_ → execBarInit core grp s = _) ∧ (_ → _ → execBarInit core grp s = _) ∧ (_ → _ → execBarInit core grp s = _)
  unfold execBarInit doBarInit
  refine ⟨fun hwait => act_issue_fault h ?_, fun hidle hpend => act_issue_stall h ?_, fun hidle hpend => act_issue_short rfl h ?_⟩
  · rw [hi']
    simp only [hguard, Bool.not_true, Bool.false_eq_true, if_false]
    exact if_pos hwait
  · rw [hi']
    simp only [hguard, Bool.not_true, Bool.false_eq_true, if_false]
    exact (if_neg (not_not.2 hidle)).trans (if_pos hpend)
  · rw [hi]
    simp only [hguard, Bool.not_true, Bool.false_eq_true, if_false]
    exact (if_neg (not_not.2 hidle)).trans (if_neg (not_not.2 hpend))

/-- The core of an instruction that changed its core. -/
theorem core_of_set (s : Gk1) (core : Nat) (C : Core) : (s.setCore core C).core core = C :=
  (Gk1.core_setCore ..).trans (if_pos rfl)

/-- The group after an instruction that changed its core. -/
theorem group_passed_setCore (s : State) (core grp words vport g : Nat) (C : Core) :
    (passed s core grp words vport (s.toGk1.setCore core C)).group core g =
      if g = grp then { C.group grp with pc := (s.group core grp).pc + words } else C.group g := by
  rw [Gk1.group, core_passed, core_of_set]
  change (C.setGroup grp _).group g = _
  rw [Core.group_setGroup]
  simp only [eq_comm]

theorem bar_passed_setCore (s : State) (core grp words vport b : Nat) (C : Core) :
    ((passed s core grp words vport (s.toGk1.setCore core C)).core core).bar b = C.bar b := by
  rw [core_passed, core_of_set]
  rfl

/-- An arrival that leaves more to come changes its object alone. -/
theorem arrive_of_lt {C : Core} {b cnt src slot : Nat} (h : cnt < (C.bar b).count - (C.bar b).arrived) :
    let B : Bar := { C.bar b with arrived := (C.bar b).arrived + cnt, lsrc := src, lslot := slot }
    C.arrive b cnt src slot = { C with bars := NMap.set C.bars b B } := by
  unfold Core.arrive
  dsimp only
  rw [Bar.arrive_of_lt _ _ _ _ h, if_pos rfl]

theorem group_arrive_of_lt {C : Core} {b cnt src slot : Nat} (h : cnt < (C.bar b).count - (C.bar b).arrived) (g : Nat) :
    (C.arrive b cnt src slot).group g = C.group g := by
  rw [Core.group_arrive, Bar.arrive_of_lt _ _ _ _ h, if_pos rfl]

theorem group_arrive_of_le {C : Core} {b cnt src slot : Nat} (h : (C.bar b).count - (C.bar b).arrived ≤ cnt) (g : Nat) :
    (C.arrive b cnt src slot).group g = (C.group g).release b := by
  rw [Core.group_arrive, Bar.arrive_of_le _ _ _ _ h, if_neg (Bar.gen_succ_ne _)]

theorem group_await (C : Core) (b grp g : Nat) :
    (C.await b grp).group g = if g = grp then { C.group grp with stall := .bar b } else C.group g := by
  change (C.setGroup grp _).group g = _
  rw [Core.group_setGroup]
  simp only [eq_comm]

theorem bar_await (C : Core) (b grp a : Nat) : (C.await b grp).bar a =
    if b = a then { C.bar b with waiters := (C.bar b).waiters ||| BitVec.ofNat 8 (2 ^ grp) } else C.bar a :=
  Core.bar_set { C.setGroup grp { C.group grp with stall := .bar b } with bars := C.bars } b _ a

/-! ## Engine arrivals -/

/-- A report of a blocked arrival changes no core and no message. -/
theorem foreign_frame (s : Gk1) (m : Msg) :
    (s.foreign m).cores = s.cores ∧ (s.foreign m).msgs = s.msgs ∧ (s.foreign m).dram = s.dram := by
  simp [Gk1.foreign]

/-- The core of an engine arrival that takes effect. -/
def arrivedCore (C : Core) (m : Msg) : Core :=
  Core.arrive { C with bars := NMap.set C.bars m.bar { C.bar m.bar with engpend := (C.bar m.bar).engpend - 1 } } m.bar 1 m.src m.slot

section
variable {id : Nat} {m : Msg} {s : State} (hmsg : NMap.get? s.msgs id = some m) (hkind : m.kind = .arrival)
include hmsg hkind

theorem exec_engineArrival (hkid : (s.core m.core).kid = some m.kid) : exec (.engineArrival id) s = .next (became s
    ({ s.toGk1 with msgs := NMap.erase s.msgs id }.setCore m.core (arrivedCore (s.core m.core) m))) := by
  change execEngineArrival id s = _
  refine State.act_of_next _ _ _ ?_
  simp only [hmsg]
  rw [if_neg (not_not.2 hkind)]
  exact if_neg (not_not.2 hkid)

theorem exec_engineArrival_blocked (hkid : (s.core m.core).kid ≠ some m.kid) : exec (.engineArrival id) s =
    .next (became s ({ s.toGk1 with msgs := NMap.erase s.msgs id }.foreign m)) := by
  change execEngineArrival id s = _
  refine State.act_of_next _ _ _ ?_
  simp only [hmsg]
  rw [if_neg (not_not.2 hkind)]
  exact if_pos hkid

end

theorem bar_arrivedCore (C : Core) (m : Msg) (b : Nat) : (arrivedCore C m).bar b = if m.bar = b
    then Bar.arrive { C.bar m.bar with engpend := (C.bar m.bar).engpend - 1 } 1 m.src m.slot else C.bar b := by
  rw [arrivedCore, Core.bar_arrive, Core.bar_set, if_pos rfl, Core.bar_set]
  split <;> rfl

/-- Settles O22. -/
theorem barriersAndArrivals : Obligations.BarriersAndArrivals := by
  refine ⟨fun core grp s => ?_, fun id m s hmsg hkind => ?_⟩
  · intro G w b cnt B withBar left hguard
    refine ⟨fun h => act_barInit h rfl hguard, fun h => ⟨fun hmore => ?_, fun hlast => ?_⟩,
      fun h => ⟨fun hgen => ?_, fun hgen => ?_⟩, fun h => ⟨fun hmore => ?_, fun hlast => ?_⟩, fun h => ?_, fun h => ?_⟩
    · refine act_barIns h hguard ?_
      change Iss.ok (s.toGk1.modCore core fun C => C.arrive b cnt 1 grp) = .ok (withBar _)
      rw [Gk1.modCore, arrive_of_lt hmore]
      rfl
    · refine ⟨_, act_barIns (p := s.toGk1.setCore core ((s.core core).arrive b cnt 1 grp)) h hguard rfl, ?_, fun g hg => ?_, ?_, ?_⟩
      · rw [bar_passed_setCore, Core.bar_arrive, if_pos rfl, Bar.arrive_of_le _ _ _ _ hlast]
      · rw [group_passed_setCore, if_neg hg, group_arrive_of_le hlast, Gk1.group]
      · rw [dram_passed]; rfl
      · rw [core_passed, core_of_set]
        exact Core.store_arrive ..
    · exact act_barIns h hguard (if_pos hgen)
    · refine ⟨_, act_barIns (p := s.toGk1.setCore core ((s.core core).await b grp)) h hguard (if_neg (not_not.2 hgen)), ?_, ?_,
        fun g hg => ?_⟩
      · rw [group_passed_setCore, if_pos rfl, group_await, if_pos rfl]
        rfl
      · rw [bar_passed_setCore, bar_await, if_pos rfl]
      · rw [group_passed_setCore, if_neg hg, group_await, if_neg hg, Gk1.group]
    · have hbar : ((s.core core).arrive b cnt 1 grp).bar b = { B with arrived := B.arrived + cnt, lsrc := 1, lslot := grp } := by
        rw [Core.bar_arrive, if_pos rfl, Bar.arrive_of_lt _ _ _ _ hmore]
      refine ⟨_, act_barIns (p := s.toGk1.setCore core (((s.core core).arrive b cnt 1 grp).await b grp)) h hguard (if_neg ?_), ?_, ?_, ?_⟩
      · rw [not_not]
        exact (congrArg Bar.gen hbar).trans rfl
      · rw [group_passed_setCore, if_pos rfl, group_await, if_pos rfl, group_arrive_of_lt hmore]
        rfl
      · rw [bar_passed_setCore, bar_await, if_pos rfl, hbar]
      · rw [bar_passed_setCore, bar_await, if_pos rfl, hbar]
    · have hbar : (((s.core core).arrive b cnt 1 grp).bar b).gen = B.gen + 1 := by
        rw [Core.bar_arrive, if_pos rfl, Bar.arrive_of_le _ _ _ _ hlast]
      refine ⟨_, act_barIns (p := s.toGk1.setCore core ((s.core core).arrive b cnt 1 grp)) h hguard (if_pos ?_), ?_, ?_, ?_⟩
      · exact fun hgen => Bar.gen_succ_ne B (hbar.symm.trans hgen)
      · rw [group_passed_setCore, if_pos rfl, group_arrive_of_le hlast]
        exact (congrArg Group.stall (Group.release_of_none _ b (stall_of_issues h))).trans (stall_of_issues h)
      · rw [bar_passed_setCore, hbar]
      · rw [group_passed_setCore, if_pos rfl]
    · refine act_barIns h hguard ?_
      change Iss.ok (groupIs s core grp (G.setS _ (BitVec.ofNat 32 B.gen.toNat))) = _
      rw [BitVec.ofNat_toNat]
    · exact act_barIns h hguard rfl
  · intro B
    refine ⟨fun hkid => ⟨_, exec_engineArrival hmsg hkind hkid, ?_⟩, fun hkid => ⟨_, exec_engineArrival_blocked hmsg hkind hkid, ?_⟩⟩
    · have hcore : (became s ({ s.toGk1 with msgs := NMap.erase s.msgs id }.setCore m.core (arrivedCore (s.core m.core) m))).core m.core =
          arrivedCore (s.core m.core) m := core_of_set ..
      rw [hcore]
      refine ⟨?_, ?_, ?_, fun b hb => ?_, fun c hc => ?_, (NMap.get?_erase ..).trans (if_pos rfl), rfl⟩
      · rw [bar_arrivedCore, if_pos rfl, Bar.arrive]
        dsimp only
        split <;> rfl
      · rw [bar_arrivedCore, if_pos rfl, Bar.arrive]
        dsimp only
        split <;> rfl
      · rw [bar_arrivedCore, if_pos rfl, Bar.arrive]
        dsimp only
        split <;> rfl
      · rw [bar_arrivedCore, if_neg hb.symm]
      · exact (Gk1.core_setCore ..).trans (if_neg hc.symm)
    · obtain ⟨hcores, hmsgs, hdram⟩ := foreign_frame { s.toGk1 with msgs := NMap.erase s.msgs id } m
      exact ⟨hcores, (congrArg (NMap.get? · id) hmsgs).trans ((NMap.get?_erase ..).trans (if_pos rfl)), hdram⟩

end Sys2Proof.Claims

/-! Fences. -/

namespace Sys2Proof.Claims

open Sys2Proof.Machine

/-- The fence that an instruction puts behind the group's pending ones (R327). -/
def issuedFence (s : Gk1) (core grp scope : Nat) (acq rel : Bool) : PFence :=
  { acq := acq, rel := rel, scope := scope, waits := if rel then fenceWaits s core grp scope else [] }

/-- A fence leaves the group's pending fences and itself, or none when there is nothing to wait for (R328). -/
theorem act_fence {sem core grp : Nat} {acq rel : Bool} {s : State} {i : GI}
    (h : issues 0x29 (fun w => wSem w = sem) (fun w _ => fld w 15 49 = 0) (fun _ => []) core grp s.toGk1 = true)
    (hi : fetched s.toGk1 core grp false = i) (hguard : i.G.issues i.w = true) :
    let f := issuedFence s.toGk1 core grp (fld i.w 11 2) acq rel
    let before := pendingFences s.toGk1 (s.group core grp)
    s.act (fence sem acq rel core grp) = .next (passed s core grp 1 0 (groupIs s core grp { s.group core grp with
      fences := if before.isEmpty && f.waits.isEmpty then [] else before ++ [f] })) := by
  refine act_issue_short rfl h ?_
  rw [hi]
  simp only [hguard, Bool.not_true, Bool.false_eq_true, if_false]
  subst hi
  rfl

/-- Settles O23. -/
theorem fencesCoverEarlierRequests : Obligations.FencesCoverEarlierRequests := by
  intro r hr core grp s h G w scope waits before hguard
  have hexec : exec (r.1 core grp) s = s.act (fence r.2.1 r.2.2.1 r.2.2.2 core grp) := by
    simp only [List.mem_cons, List.not_mem_nil, or_false] at hr
    rcases hr with rfl | rfl | rfl <;> rfl
  have hfence := hexec.trans (act_fence h rfl hguard)
  have hwaits : (issuedFence s.toGk1 core grp scope r.2.2.1 r.2.2.2).waits = waits := rfl
  refine ⟨fun hnone hperformed => ?_, fun hsome => ?_⟩
  · refine hfence.trans ?_
    have hempty : (before.isEmpty && (issuedFence s.toGk1 core grp scope r.2.2.1 r.2.2.2).waits.isEmpty) = true := by
      rw [hwaits, hnone, hperformed]; rfl
    rw [if_pos hempty]
  · refine hfence.trans ?_
    have hleft : ¬ (before.isEmpty && (issuedFence s.toGk1 core grp scope r.2.2.1 r.2.2.2).waits.isEmpty) = true := by
      rw [hwaits, Bool.and_eq_true, List.isEmpty_iff, List.isEmpty_iff]
      tauto
    rw [if_neg hleft]
    rfl

end Sys2Proof.Claims

/-! What the network sender changes: ports, the epochs of its cores, messages, and the requests that a message belongs to. -/

namespace Sys2Proof.Machine

/-- Sending changes ports and the count of drops. -/
theorem Gk1.sendOn_eq (s : Gk1) (n : Nat) (w : Option Nat × Packet) : ∃ ports, s.sendOn n w = { s with ports := ports } := by
  unfold Gk1.sendOn
  dsimp only
  split
  · exact ⟨_, rfl⟩
  · exact ⟨_, rfl⟩

theorem Gk1.sendPacket_eq (s : Gk1) (p : Packet) : ∃ ports drops, (s.sendPacket p).1 = { s with ports := ports, drops := drops } := by
  unfold Gk1.sendPacket Gk1.sendFrom
  split
  · exact ⟨_, _, rfl⟩
  · exact ⟨_, _, rfl⟩
  · exact ⟨_, _, rfl⟩
  · obtain ⟨ports, h⟩ := s.sendOn_eq ‹Nat› (none, p)
    exact ⟨ports, s.drops, by rw [h]⟩

/-- From s to t only a network sender has worked: cores differ in their epochs, and a mover's or sender's request in what of it is left
on this part. -/
structure Sends (s t : Gk1) : Prop where
  core : ∀ c, ∃ es, t.core c = { s.core c with epochs := es }
  req : ∀ r q, NMap.get? s.reqs r = some q → q.kind.byMover = true → ∃ here, NMap.get? t.reqs r = some { q with leftHere := here }

theorem Sends.refl (s : Gk1) : Sends s s := ⟨fun _ => ⟨_, rfl⟩, fun _ q h _ => ⟨q.leftHere, h⟩⟩

theorem Sends.trans {s t u : Gk1} (h : Sends s t) (h' : Sends t u) : Sends s u where
  core c := by
    obtain ⟨es, hes⟩ := h.core c
    obtain ⟨es', hes'⟩ := h'.core c
    exact ⟨es', by rw [hes', hes]⟩
  req r q hq hk := by
    obtain ⟨here, hhere⟩ := h.req r q hq hk
    obtain ⟨here', hhere'⟩ := h'.req r _ hhere hk
    exact ⟨here', hhere'⟩

/-- The cores and the requests stay. -/
theorem Sends.of_eq {s t : Gk1} (hcores : t.cores = s.cores) (hreqs : t.reqs = s.reqs) : Sends s t where
  core c := ⟨_, by rw [Gk1.core, hcores, Gk1.core]⟩
  req _ q hq _ := ⟨q.leftHere, by rw [hreqs]; exact hq⟩

theorem Sends.foldl {α : Type} {f : Gk1 → α → Gk1} (hf : ∀ s a, Sends s (f s a)) (l : List α) (s : Gk1) : Sends s (l.foldl f s) := by
  induction l generalizing s with
  | nil => exact Sends.refl s
  | cons a l ih => exact (hf s a).trans (ih _)

theorem Gk1.sendPeer_sends (s : Gk1) (id : Nat) (m : Msg) : Sends s (s.sendPeer id m) := by
  obtain ⟨ports, drops, h⟩ := s.sendPacket_eq (s.packetOf id m)
  unfold Gk1.sendPeer
  dsimp only
  rw [h]
  exact Sends.of_eq rfl rfl

/-- The epochs of a core are its sender's own. -/
theorem Sends.of_epochs {s t : Gk1} {core : Nat} {es : List EpochRec}
    (hcores : t.cores = NMap.set s.cores core { s.core core with epochs := es }) (hreqs : t.reqs = s.reqs) : Sends s t where
  core c := by
    rw [Gk1.core, hcores, NMap.getD_set]
    split
    · next h => exact ⟨es, by rw [h]⟩
    · exact ⟨_, rfl⟩
  req _ q hq _ := ⟨q.leftHere, by rw [hreqs]; exact hq⟩

theorem Gk1.endEpoch_sends (s : Gk1) (core : Nat) (r : EpochRec) (ctx kid : Nat) (last : Bool) :
    Sends s (s.endEpoch core r ctx kid last) := by
  unfold Gk1.endEpoch
  dsimp only
  split
  · refine Sends.trans ?_ (Gk1.sendPeer_sends _ _ _)
    exact Sends.of_epochs rfl rfl
  · exact Sends.of_epochs rfl rfl

theorem Gk1.openRec_sends {s t : Gk1} {core st : Nat} {tgt : Target} (h : s.openRec core st tgt = some t) : Sends s t := by
  unfold Gk1.openRec at h
  dsimp only at h
  split at h
  · cases h; exact Sends.refl s
  · obtain ⟨rs, -, rfl⟩ := Option.map_eq_some_iff.1 h
    exact Sends.of_epochs rfl rfl

theorem NMap.get?_upd {α : Type} (m : NMap α) (k j : Nat) (f : α → α) :
    NMap.get? (NMap.upd m k f) j = if j = k then (NMap.get? m j).map f else NMap.get? m j := by
  induction m with
  | nil => simp [NMap.upd]
  | cons e m ih =>
    simp only [NMap.get?, NMap.upd, List.map_cons] at ih ⊢
    by_cases hek : e.1 = k
    · by_cases hkj : k = j
      · simp [hek, hkj]
      · simp [hek, hkj, Ne.symm hkj, ih]
    · by_cases hej : e.1 = j
      · simp [hek, hej, show ¬ j = k from fun h => hek (hej.trans h)]
      · simp [hek, hej, ih]

theorem Gk1.dropReq_eq (s : Gk1) (rid : Nat) : ∃ reqs, s.dropReq rid = { s with reqs := reqs } := by
  unfold Gk1.dropReq
  split
  · exact ⟨_, rfl⟩
  · split
    · exact ⟨_, rfl⟩
    · exact ⟨_, rfl⟩

theorem Gk1.performed_eq (s : Gk1) (rid n here : Nat) : ∃ reqs, s.performed rid n here = { s with reqs := reqs } := by
  obtain ⟨reqs, h⟩ := Gk1.dropReq_eq
    { s with reqs := NMap.upd s.reqs rid fun q => { q with left := q.left - n, leftHere := q.leftHere - here } } rid
  exact ⟨reqs, h⟩

/-- A mover's or sender's request ends with its own event. -/
theorem Gk1.get?_dropReq (s : Gk1) (rid r : Nat) {q : Req} (hq : NMap.get? s.reqs r = some q) (hk : q.kind.byMover = true) :
    NMap.get? (s.dropReq rid).reqs r = some q := by
  unfold Gk1.dropReq
  split
  · exact hq
  · next p hp =>
    split
    · next hdrop =>
      have hne : ¬ rid = r := by
        rintro rfl
        rw [hq] at hp
        cases hp
        simp [hk] at hdrop
      exact (NMap.get?_erase ..).trans ((if_neg hne).trans hq)
    · exact hq

/-- Performing no more than what is on this part leaves a mover's request in place. -/
theorem Gk1.performed_here_sends (s : Gk1) (rid here : Nat) : Sends s (s.performed rid 0 here) where
  core c := by
    obtain ⟨reqs, h⟩ := s.performed_eq rid 0 here
    rw [h]
    exact ⟨_, rfl⟩
  req r q hq hk := by
    by_cases hr : r = rid
    · exact ⟨q.leftHere - here, Gk1.get?_dropReq _ _ _ (by rw [NMap.get?_upd, if_pos hr, hq]; rfl) hk⟩
    · exact ⟨q.leftHere, Gk1.get?_dropReq _ _ _ (by rw [NMap.get?_upd, if_neg hr, hq]) hk⟩

theorem Gk1.writeBytes_eq (s : Gk1) (m : Msg) : ∃ free, (s.writeBytes m).2 = { s with free := free } := by
  unfold Gk1.writeBytes
  split
  · exact ⟨_, rfl⟩
  · exact ⟨_, rfl⟩

/-- A message that goes: to a peer by a packet, on this part as it stands. -/
theorem Gk1.dispatch_sends (s : Gk1) (id c n : Nat) (peer : Bool) (m : Msg) :
    Sends s (if peer = true then (s.countCtx c 9 n).sendPeer id m else s.setMsg id m) := by
  split
  · refine Sends.trans ?_ (Gk1.sendPeer_sends _ _ _)
    exact Sends.of_eq (Gk1.countCtx_cores ..) (Gk1.countCtx_reqs ..)
  · exact Sends.of_eq rfl rfl

/-- The late source bytes of a message are read, and its epoch's record counts it. -/
theorem Gk1.readLate_sends (s : Gk1) (m : Msg) (away : Bool) (core : Nat) (f : EpochRec → EpochRec) :
    let t := (if away = true then s.writeBytes m else (m.data, s)).2.modCore core fun C => { C with epochs := C.epochs.map f }
    Sends s (if away = true then t.performed m.rid 0 1 else t) := by
  cases away
  · exact Sends.of_epochs rfl rfl
  · obtain ⟨free, h⟩ := s.writeBytes_eq m
    refine Sends.trans ?_ (Gk1.performed_here_sends _ _ _)
    change Sends s ((s.writeBytes m).2.modCore core _)
    rw [h]
    exact Sends.of_epochs rfl rfl

theorem Gk1.trySend_sends (s : Gk1) (id : Nat) (m : Msg) : Sends s (s.trySend id m) := by
  unfold Gk1.trySend
  dsimp only
  split
  · exact Sends.refl s
  split
  · exact Sends.refl s
  split
  · exact Sends.refl s
  split
  · exact Gk1.dispatch_sends ..
  split
  · exact Gk1.dispatch_sends ..
  split
  · exact Sends.refl s
  · next t hopen =>
    have ht := Gk1.openRec_sends hopen
    split
    · exact ht
    split
    · exact ht
    · exact ht.trans ((Gk1.readLate_sends _ m _ m.core _).trans (Gk1.dispatch_sends ..))

theorem Gk1.pump_sends (s : Gk1) (core : Nat) : Sends s (s.pump core) := by
  unfold Gk1.pump
  refine Sends.trans (t := s.endFull core) ?_ (Sends.foldl (fun s (e : Nat × Msg) => Gk1.trySend_sends s e.1 e.2) _ _)
  unfold Gk1.endFull
  refine Sends.foldl (fun s r => ?_) _ _
  dsimp only
  split
  · exact Sends.refl s
  · exact Gk1.endEpoch_sends ..

end Sys2Proof.Machine

/-! Requests of the movers and the network sender. -/

namespace Sys2Proof.Machine

section
variable (s : Gk1) (kid ctx rid core code addr : Nat)

/-- A fault of an access is counted and recorded, and the kernel's first one is reported; no core, request or message changes. -/
@[simp] theorem Gk1.accessFault_cores : (s.accessFault kid ctx rid core code addr).cores = s.cores := by
  unfold Gk1.accessFault Gk1.kernelFault
  dsimp only
  split
  · simp [Gk1.modKernel]
  · split <;> simp [Gk1.modKernel]

@[simp] theorem Gk1.accessFault_reqs : (s.accessFault kid ctx rid core code addr).reqs = s.reqs := by
  unfold Gk1.accessFault Gk1.kernelFault
  dsimp only
  split
  · simp [Gk1.modKernel]
  · split <;> simp [Gk1.modKernel]

@[simp] theorem Gk1.accessFault_msgs : (s.accessFault kid ctx rid core code addr).msgs = s.msgs := by
  unfold Gk1.accessFault Gk1.kernelFault
  dsimp only
  split
  · simp [Gk1.modKernel]
  · split <;> simp [Gk1.modKernel]

end

/-- Messages are added at the next numbers. -/
theorem Gk1.foldl_addMsg (msgs : List Msg) (s : Gk1) : ∃ M, msgs.foldl Gk1.addMsg s = { s with msgs := M, nextId := s.nextId + msgs.length } ∧
    (∀ k m, msgs[k]? = some m → NMap.get? M (s.nextId + k) = some m) ∧
    (∀ id, id < s.nextId → NMap.get? M id = NMap.get? s.msgs id) := by
  induction msgs generalizing s with
  | nil => exact ⟨s.msgs, rfl, by simp, fun _ _ => rfl⟩
  | cons m msgs ih =>
    obtain ⟨M, hM, hnew, hold⟩ := ih (s.addMsg m)
    refine ⟨M, ?_, fun k x hx => ?_, fun id hid => ?_⟩
    · rw [List.foldl_cons, hM, List.length_cons, ← Nat.add_assoc, Nat.add_right_comm]
      rfl
    · cases k with
      | zero =>
        obtain rfl : m = x := by simpa using hx
        exact (hold _ (Nat.lt_succ_self _)).trans ((NMap.get?_set ..).trans (if_pos rfl))
      | succ k => rw [Nat.add_succ, ← Nat.succ_add]; exact hnew k x hx
    · rw [hold id (Nat.lt_succ_of_lt hid)]
      exact (NMap.get?_set ..).trans (if_neg (by omega))

/-- The request that an accepted instruction leaves, with its messages. -/
def GI.request (i : GI) (kind : ReqKind) (done : Option Nat) (src : Nat) (msgs : List Msg) : Req :=
  { kind := kind, core := i.core, slot := i.grp, kid := i.C.kid.getD 0, ctx := i.s.ctxOf i.core
    left := msgs.length, leftHere := (msgs.map Msg.here).sum, done := done, src := src, handed := true }

theorem GI.accept_eq (i : GI) (kind : ReqKind) (done : Option Nat) (src : Nat) (msgs : List Msg) : ∃ bars M nextId,
    i.accept kind done src msgs = { i.s with
      cores := NMap.set i.s.cores i.core { i.C with bars := bars }
      reqs := NMap.set i.s.reqs i.s.nextId (i.request kind done src msgs), msgs := M, nextId := nextId } ∧
    (∀ k m, msgs[k]? = some m → NMap.get? M (i.s.nextId + 1 + k) = some m) := by
  obtain ⟨bars, hbars⟩ := i.C.promise_eq done.toList
  have hcore : Gk1.core { i.s with
      reqs := NMap.set i.s.reqs i.s.nextId (i.request kind done src msgs), nextId := i.s.nextId + 1 } i.core = i.C := rfl
  obtain ⟨M, hM, hnew, -⟩ := Gk1.foldl_addMsg msgs (Gk1.modCore { i.s with
      reqs := NMap.set i.s.reqs i.s.nextId (i.request kind done src msgs), nextId := i.s.nextId + 1 } i.core fun C => C.promise done.toList)
  refine ⟨bars, M, i.s.nextId + 1 + msgs.length, ?_, hnew⟩
  refine Eq.trans hM ?_
  rw [Gk1.modCore, hcore, hbars]
  rfl

end Sys2Proof.Machine

/-! mv and ns requests, and their end. -/

namespace Sys2Proof.Claims

open Sys2Proof.Machine

section
variable (s : State) (core grp words vport : Nat) (p : Gk1)

@[simp] theorem reqs_passed : (passed s core grp words vport p).reqs = p.reqs := by
  obtain ⟨_, _, h⟩ := passed_eq s core grp words vport p
  rw [h]; rfl

@[simp] theorem msgs_passed : (passed s core grp words vport p).msgs = p.msgs := by
  obtain ⟨_, _, h⟩ := passed_eq s core grp words vport p
  rw [h]; rfl

/-- After an instruction whose effect changes a core only in its barrier objects and epochs, the group has passed and the core store stays. -/
theorem group_store_passed {bars : NMap Bar} {es : List EpochRec} (h : p.core core = { s.core core with bars := bars, epochs := es }) :
    (passed s core grp words vport p).group core grp = { s.group core grp with pc := (s.group core grp).pc + words } ∧
    ((passed s core grp words vport p).core core).store = (s.core core).store := by
  refine ⟨group_passed_of_groups _ _ _ _ _ _ (by rw [h]), ?_⟩
  rw [core_passed, h]
  rfl

end

/-! ## mv -/

theorem act_mv {op core grp : Nat} {kind : ReqKind} {f : GI → Nat × Nat → Msg} {s : State} {i : GI}
    (h : issues 0x2A (op3Is op) (fun w _ => fld w 62 2 = 0 && evenBase (fld w 19 5))
      (fun w => [fld w 14 5, fld w 19 5, fld w 19 5 + 1, fld w 24 5, fld w 29 5, fld w 34 5]) core grp s.toGk1 = true)
    (hi : fetched s.toGk1 core grp false = i) (hguard : i.G.issues i.w = true) :
    (i.mvArgs.ok = false → s.act (mv op kind f core grp) = .next (became s (s.groupFault core grp 0x22))) ∧
    (i.mvArgs.ok = true → engineHeld i true true = false → i.C.pendFull (doneOf i.w 39 40).toList = false →
      s.act (mv op kind f core grp) = .next (passed s core grp 1 0
        (i.accept kind (doneOf i.w 39 40) 4 (i.mvArgs.sectors.map (f i))))) := by
  have hi' : fetched s.toGk1 core grp (isLong 0x2A) = i := hi
  refine ⟨fun hok => act_issue_fault h ?_, fun hok hheld hpend => act_issue_short rfl h ?_⟩
  · rw [hi']
    simp only [hguard, hok, Bool.not_true, Bool.not_false, Bool.false_eq_true, if_false, if_true]
  · rw [hi]
    simp only [hguard, hok, hheld, hpend, Bool.not_true, Bool.false_eq_true, if_false]

/-- An mv has one sector access for each 32 bytes of each row. -/
theorem length_sectors (a : MvArgs) : a.sectors.length = a.rows * (a.len / 32) := by
  simp [MvArgs.sectors]

/-! ## ns -/

theorem act_ns {op core grp : Nat} {put : Bool} {kind : ReqKind} {f : GI → NsArgs → Nat × Nat × Bool → Msg} {s : State} {i : GI}
    (h : issues 0x2B (op3Is op) (nsOk put)
      (fun w => [fld w 16 5, fld w 21 5, fld w 26 5] ++ (if fld w 14 2 = 0 then [] else [fld w 26 5 + 1])
        ++ (if fld w 14 2 = 2 then [fld w 31 5] else [])) core grp s.toGk1 = true)
    (hi : fetched s.toGk1 core grp true = i) (hguard : i.G.issues i.w = true) :
    (i.nsArgs.ok = false → s.act (ns op put kind f core grp) = .next (became s (s.groupFault core grp 0x22))) ∧
    (i.nsArgs.ok = true → engineHeld i true true = false → i.C.pendFull (doneOf i.w 41 42).toList = false →
      i.nsRefused i.nsArgs = false → i.nsBlocked put i.nsArgs = false →
      s.act (ns op put kind f core grp) = .next (passed s core grp 2 0
        ((i.acceptNs kind (doneOf i.w 41 42) i.nsArgs (f i i.nsArgs)).pump i.core))) := by
  have hi' : fetched s.toGk1 core grp (isLong 0x2B) = i := hi
  refine ⟨fun hok => act_issue_fault h ?_, fun hok hheld hpend hown hfree => act_issue_ok h ?_⟩
  · rw [hi']
    simp only [hguard, hok, Bool.not_true, Bool.not_false, Bool.false_eq_true, if_false, if_true]
  · rw [hi']
    simp only [hguard, hok, hheld, hpend, hown, hfree, Bool.not_true, Bool.false_eq_true, if_false]

/-- Faults of pieces and the network sender leave the accepted request as it is, but for what of it is on this part. -/
theorem acceptNs_sends (i : GI) (kind : ReqKind) (done : Option Nat) (a : NsArgs) (f : Nat × Nat × Bool → Msg) :
    Sends (i.accept kind done 6 ((a.pieces.filter fun p => !a.badPiece p).map f)) ((i.acceptNs kind done a f).pump i.core) := by
  refine Sends.trans ?_ (Gk1.pump_sends _ _)
  exact Sends.foldl (fun s p => Sends.of_eq (Gk1.accessFault_cores ..) (Gk1.accessFault_reqs ..)) _ _

/-! ## The end of a request -/

theorem exec_moverComplete {rid : Nat} {q : Req} {s : State} (hq : NMap.get? s.reqs rid = some q) (hmover : q.kind.byMover = true)
    (hhanded : q.handed = true) (hleft : q.left = 0) : exec (.moverComplete rid) s = .next (became s (match q.done with
      | some b => { s.toGk1 with
          reqs := NMap.erase s.reqs rid
          msgs := NMap.set s.msgs s.nextId { kind := .arrival, core := q.core, slot := q.slot, kid := q.kid, ctx := q.ctx, bar := b, src := q.src }
          nextId := s.nextId + 1 }
      | none => { s.toGk1 with reqs := NMap.erase s.reqs rid })) := by
  change execMoverComplete rid s = _
  refine State.act_of_next _ _ _ ?_
  simp only [hq, hmover, hhanded, hleft, decide_true, Bool.and_self, Bool.not_true, Bool.false_eq_true, if_false]
  cases q.done with
  | none => rfl
  | some b => rfl

/-- Settles O24. -/
theorem moverRequests : Obligations.MoverRequests := by
  refine ⟨fun core grp s => ?_, fun rid q s hq hmover hhanded hleft => ?_⟩
  · intro G C
    refine ⟨?_, ?_⟩
    · intro r hr h i a hguard
      obtain ⟨f, hf, hexec⟩ : ∃ f : GI → Nat × Nat → Msg,
          (∀ p, (f i p).kind = r.2.2.2 ∧ (f i p).rid = s.nextId ∧ (f i p).place = .dev p.2 ∧ (f i p).local_ = p.1 ∧ (f i p).len = 32) ∧
          exec (r.1 core grp) s = s.act (mv r.2.1 r.2.2.1 f core grp) := by
        simp only [List.mem_cons, List.not_mem_nil, or_false] at hr
        rcases hr with rfl | rfl
        · exact ⟨_, fun p => ⟨rfl, rfl, rfl, rfl, rfl⟩, rfl⟩
        · exact ⟨_, fun p => ⟨rfl, rfl, rfl, rfl, rfl⟩, rfl⟩
      obtain ⟨hbad, hgood⟩ := act_mv (kind := r.2.2.1) (f := f) (i := i) h rfl hguard
      refine ⟨fun hok => hexec.trans (hbad hok), fun hok hheld hpend => ?_⟩
      obtain ⟨bars, M, nextId, hp, hM⟩ := i.accept_eq r.2.2.1 (doneOf i.w 39 40) 4 (a.sectors.map (f i))
      have hcore : (i.accept r.2.2.1 (doneOf i.w 39 40) 4 (a.sectors.map (f i))).core core = { s.core core with bars := bars } := by
        rw [hp]
        exact (Gk1.core_setCore ..).trans (if_pos rfl)
      obtain ⟨hgroup, hstore⟩ := group_store_passed s core grp 1 0 _ hcore
      refine ⟨_, i.request r.2.2.1 (doneOf i.w 39 40) 4 (a.sectors.map (f i)), hexec.trans (hgood hok hheld hpend), ?_, rfl, rfl, rfl, ?_, rfl,
        fun k p hk => ?_, hgroup, hstore, ?_⟩
      · rw [reqs_passed, hp]
        exact (NMap.get?_set ..).trans (if_pos rfl)
      · exact (List.length_map _).trans (length_sectors a)
      · refine ⟨f i p, ?_, hf p⟩
        rw [msgs_passed, hp]
        exact hM k _ (by rw [List.getElem?_map, hk]; rfl)
      · rw [dram_passed, hp]; rfl
    · intro r hr h i a hguard
      obtain ⟨f, hexec, hmover⟩ : ∃ f : GI → NsArgs → Nat × Nat × Bool → Msg,
          exec (r.1 core grp) s = s.act (ns r.2.1 r.2.2.1 r.2.2.2 f core grp) ∧ r.2.2.2.byMover = true := by
        simp only [List.mem_cons, List.not_mem_nil, or_false] at hr
        rcases hr with rfl | rfl
        · exact ⟨_, rfl, rfl⟩
        · exact ⟨_, rfl, rfl⟩
      obtain ⟨hbad, hgood⟩ := act_ns (put := r.2.2.1) (kind := r.2.2.2) (f := f) (i := i) h rfl hguard
      refine ⟨fun hok => hexec.trans (hbad hok), fun hok hheld hpend hown hfree => ?_⟩
      let msgs := (a.pieces.filter fun p => !a.badPiece p).map (f i a)
      obtain ⟨bars, M, nextId, hp, -⟩ := i.accept_eq r.2.2.2 (doneOf i.w 41 42) 6 msgs
      have hsends := acceptNs_sends i r.2.2.2 (doneOf i.w 41 42) a (f i a)
      have hcore0 : (i.accept r.2.2.2 (doneOf i.w 41 42) 6 msgs).core core = { s.core core with bars := bars } := by
        rw [hp]
        exact (Gk1.core_setCore ..).trans (if_pos rfl)
      have hreq0 : NMap.get? (i.accept r.2.2.2 (doneOf i.w 41 42) 6 msgs).reqs s.nextId =
          some (i.request r.2.2.2 (doneOf i.w 41 42) 6 msgs) := by
        rw [hp]
        exact (NMap.get?_set ..).trans (if_pos rfl)
      obtain ⟨es, hes⟩ := hsends.core core
      obtain ⟨here, hhere⟩ := hsends.req s.nextId _ hreq0 hmover
      have hcore : ((i.acceptNs r.2.2.2 (doneOf i.w 41 42) a (f i a)).pump core).core core =
          { s.core core with bars := bars, epochs := es } := by
        rw [hcore0] at hes
        exact hes
      obtain ⟨hgroup, hstore⟩ := group_store_passed s core grp 2 0 _ hcore
      refine ⟨_, _, hexec.trans (hgood hok hheld hpend hown hfree), (congrArg (NMap.get? · s.nextId) (reqs_passed ..)).trans hhere,
        rfl, rfl, rfl, List.length_map _, rfl, rfl, hgroup, hstore, ?_⟩
      rw [dram_passed, Gk1.pump_dram, GI.acceptNs_dram]
      rfl
  · refine ⟨_, exec_moverComplete hq hmover hhanded hleft, ?_⟩
    cases hdone : q.done with
    | none => exact ⟨(NMap.get?_erase ..).trans (if_pos rfl), fun r hr => (NMap.get?_erase ..).trans (if_neg hr.symm), fun _ => rfl,
        fun _ hb => absurd hb nofun, rfl, rfl⟩
    | some b =>
      refine ⟨(NMap.get?_erase ..).trans (if_pos rfl), fun r hr => (NMap.get?_erase ..).trans (if_neg hr.symm), fun hnone => absurd hnone nofun,
        fun c hc => ?_, rfl, rfl⟩
      cases hc
      exact (NMap.get?_set ..).trans (if_pos rfl)

end Sys2Proof.Claims

/-! Device-memory atomics and the heap. -/

namespace Sys2Proof.Machine

/-! ## Allocation (R495, R496) -/

theorem heapClass_eq_none {size : Nat} (h : size = 0 ∨ 2 ^ 20 < size) : heapClass size = none := by
  unfold heapClass
  rcases h with rfl | h
  · rfl
  · rw [if_neg (by omega), List.find?_eq_none]
    simp only [List.mem_cons, List.not_mem_nil, or_false, decide_eq_true_eq, forall_eq_or_imp, forall_eq]
    omega

/-- The class of a size is the least power of two from 256 bytes that holds it. -/
theorem heapClass_eq_some {size k : Nat} (h : heapClass size = some k) : 8 ≤ k ∧ k ≤ 20 ∧ size ≤ 2 ^ k ∧ (k = 8 ∨ 2 ^ (k - 1) < size) := by
  unfold heapClass at h
  split at h
  · cases h
  · obtain ⟨hk, i, hi, hget, hbefore⟩ := List.find?_eq_some_iff_getElem.1
      (show (List.range' 8 13).find? (fun k => decide (size ≤ 2 ^ k)) = some k from h)
    rw [List.length_range'] at hi
    rw [List.getElem_range', Nat.one_mul] at hget
    have hk' : size ≤ 2 ^ k := by simpa using hk
    refine ⟨by omega, by omega, hk', ?_⟩
    rcases i with _ | i
    · exact .inl hget.symm
    · have hlast := hbefore i (Nat.lt_succ_self i)
      rw [List.getElem_range', Nat.one_mul] at hlast
      right
      rw [show k - 1 = 8 + i by omega]
      simpa using hlast

theorem mem_of_pick {free a : Nat} {l : List Nat} (h : pick free l = some a) : a ∈ l := List.mem_of_getElem? h

theorem Ctx.le_of_mem_freeIn {c : Ctx} {k ch a : Nat} (h : a ∈ c.freeIn k ch) : c.heapVA ≤ a := by
  obtain ⟨j, -, hj⟩ := List.mem_filterMap.1 h
  dsimp only at hj
  split at hj
  · cases hj
  · cases hj; omega

/-- An allocation gives address 0 and changes nothing, or gives a block of the size's class. -/
theorem Ctx.alloc_cases (c : Ctx) (free region size : Nat) : c.alloc free region size = (0, c) ∨
    ∃ a k c', c.alloc free region size = (a, c') ∧ heapClass size = some k ∧ c.heapVA ≤ a ∧ c'.blocks = c.blocks ++ [(a, k)] := by
  unfold Ctx.alloc
  split
  · exact .inl rfl
  · next k hk =>
    dsimp only
    split
    · split
      · next a ha => exact .inr ⟨a, k, _, rfl, hk, Ctx.le_of_mem_freeIn (mem_of_pick ha), rfl⟩
      · exact .inl rfl
    · split
      · exact .inl rfl
      · split
        · next a ha =>
          refine .inr ⟨_, k, _, rfl, hk, ?_, rfl⟩
          split
          · exact Ctx.le_of_mem_freeIn (mem_of_pick ha)
          · exact Nat.le_add_right ..
        · exact .inr ⟨_, k, _, rfl, hk, Nat.le_add_right .., rfl⟩

end Sys2Proof.Machine

namespace Sys2Proof.Claims

open Sys2Proof.Machine

/-- An instruction that does not occupy the V port only passes its group. -/
theorem passed_zero (s : State) (core grp words : Nat) (p : Gk1) :
    passed s core grp words 0 p = became s (p.passPc core grp ((s.group core grp).pc + words)) := rfl

theorem ctxs_passed_zero (s : State) (core grp words : Nat) (p : Gk1) : (passed s core grp words 0 p).ctxs = p.ctxs := by
  rw [passed_zero]
  rfl

/-! ## m.atom -/

/-- The message of an atomic (R313). -/
def atomMsg (i : GI) (op : Nat) : Msg :=
  { i.msg with
    kind := .atom, place := .dev (i.G.pair (fld i.w 21 5)), len := 4, op := op, value := (i.G.s (fld i.w 26 5)).setWidth 64
    cmp := i.G.s (fld i.w 31 5), reg := fld i.w 16 5, ret := i.w.testBit 36 }

/-- The part that an accepted atomic leaves: with RET the group awaits SD (R224, R353). -/
def atomAccepted (i : GI) (op : Nat) : Gk1 :=
  ((i.accept .atom none 0 [atomMsg i op]).markShare i.core fun h => { h with unsafe_ := true }).modGroup i.core i.grp fun G =>
    if (atomMsg i op).ret then { G with awaiting := addNew G.awaiting (atomMsg i op).reg } else G

theorem act_mAtom {op core grp : Nat} {s : State} {i : GI}
    (h : issues 0x2D (opIs op) (fun w _ => evenBase (fld w 21 5) && (op = 12 || fld w 31 5 = 0) && fld w 37 27 = 0)
      (fun w => [fld w 21 5, fld w 21 5 + 1, fld w 26 5] ++ (if op = 12 then [fld w 31 5] else [])
        ++ (if w.testBit 36 then [fld w 16 5] else [])) core grp s.toGk1 = true)
    (hi : fetched s.toGk1 core grp false = i) (hguard : i.G.issues i.w = true) (hheld : engineHeld i true true = false) :
    s.act (mAtom op core grp) = .next (passed s core grp 1 0 (atomAccepted i op)) := by
  refine act_issue_short rfl h ?_
  rw [hi]
  simp only [hguard, hheld, Bool.not_true, Bool.false_eq_true, if_false]
  rfl

theorem exec_mAtomRow : ∀ e ∈ mAtomRows.zip (List.range 13), ∀ (core grp : Nat) (s : State),
    exec (e.1 core grp) s = s.act (mAtom e.2 core grp) := by
  intro e he core grp s
  simp only [mAtomRows, List.range, List.range.loop, List.zip, List.zipWith, List.mem_cons, List.not_mem_nil, or_false] at he
  rcases he with rfl | rfl | rfl | rfl | rfl | rfl | rfl | rfl | rfl | rfl | rfl | rfl | rfl <;> rfl

/-- The accepted request of one message, marked in its share: its core, its message, and what stays. -/
theorem accept_one (i : GI) (kind : ReqKind) (m : Msg) : ∃ bars M reqs nextId kernels,
    (i.accept kind none 0 [m]).markShare i.core (fun h => { h with unsafe_ := true }) = { i.s with
      cores := NMap.set i.s.cores i.core { i.C with bars := bars }, reqs := reqs, msgs := M, nextId := nextId, kernels := kernels } ∧
    NMap.get? M (i.s.nextId + 1) = some m := by
  obtain ⟨bars, M, nextId, hp, hM⟩ := i.accept_eq kind none 0 [m]
  obtain ⟨kernels, hmark⟩ := (i.accept kind none 0 [m]).markShare_eq i.core fun h => { h with unsafe_ := true }
  exact ⟨bars, M, _, nextId, kernels, by rw [hmark, hp], hM 0 m rfl⟩

/-- The group after an effect that set the barrier objects of its core and then changed the group. -/
theorem group_passed_modGroup {s : State} {core grp : Nat} {p : Gk1} {bars : NMap Bar} (words : Nat) (f : Group → Group)
    (h : p.core core = { s.core core with bars := bars }) :
    (passed s core grp words 0 (p.modGroup core grp f)).group core grp =
      { f (s.group core grp) with pc := (s.group core grp).pc + words } := by
  have hgroup : p.group core grp = s.group core grp := by rw [Gk1.group, h]; rfl
  rw [group_passed, Gk1.modGroup, Gk1.group_setGroup, if_pos ⟨rfl, rfl⟩, hgroup]

theorem store_passed_modGroup {s : State} {core grp : Nat} {p : Gk1} {bars : NMap Bar} (words : Nat) (f : Group → Group)
    (h : p.core core = { s.core core with bars := bars }) :
    ((passed s core grp words 0 (p.modGroup core grp f)).core core).store = (s.core core).store := by
  rw [core_passed, Gk1.modGroup, Gk1.setGroup, core_of_set, h]
  rfl

/-! ## The heap -/

/-- What the allocator answers an h.alloc (R495). -/
def heapAnswer (i : GI) : Nat × Ctx :=
  (i.s.ctx (i.s.ctxOf i.core)).alloc i.s.free (regionOf (clusterOf i.core)) (i.G.sn (fld i.w 19 5))

/-- Its reply on the way to the pair. -/
def heapMsg (i : GI) : Msg := { i.msg with kind := .heapReply, reg := fld i.w 14 5, value := BitVec.ofNat 64 (heapAnswer i).1 }

/-- The part whose allocator has answered. -/
def heapGiven (i : GI) : Gk1 :=
  let s := (i.accept .heap none 0 [heapMsg i]).markShare i.core fun h => { h with unsafe_ := true }
  { s.modCtx (i.s.ctxOf i.core) fun _ => (heapAnswer i).2 with free := s.free + 2 }

theorem act_hAlloc {core grp : Nat} {s : State} {i : GI}
    (h : issues 0x2C (op3Is 0) (fun w _ => evenBase (fld w 14 5) && fld w 24 40 = 0)
      (fun w => [fld w 14 5, fld w 14 5 + 1, fld w 19 5]) core grp s.toGk1 = true)
    (hi : fetched s.toGk1 core grp false = i) (hguard : i.G.issues i.w = true) (hheld : engineHeld i false true = false) :
    exec (.hAlloc core grp) s = .next (passed s core grp 1 0 ((heapGiven i).modGroup i.core i.grp fun G =>
      { G with awaiting := addNew (addNew G.awaiting (fld i.w 14 5)) (fld i.w 14 5 + 1) })) := by
  refine act_issue_short rfl h ?_
  rw [hi]
  simp only [hguard, hheld, Bool.not_true, Bool.false_eq_true, if_false]
  rfl

/-- The part that an h.free leaves: of 0 it does nothing, and of no block's address it counts as misuse (R497). -/
def heapFreed (i : GI) : Gk1 :=
  let s := i.s.markShare i.core fun h => { h with unsafe_ := true }
  if i.G.pair (fld i.w 19 5) = 0 then s else
  match (s.ctx (i.s.ctxOf i.core)).free (i.G.pair (fld i.w 19 5)) with
  | some c => s.modCtx (i.s.ctxOf i.core) fun _ => c
  | none => s.countCtx (i.s.ctxOf i.core) 12 1

theorem act_hFree {core grp : Nat} {s : State} {i : GI}
    (h : issues 0x2C (op3Is 1) (fun w _ => fld w 14 5 = 0 && evenBase (fld w 19 5) && fld w 24 40 = 0)
      (fun w => [fld w 19 5, fld w 19 5 + 1]) core grp s.toGk1 = true)
    (hi : fetched s.toGk1 core grp false = i) (hguard : i.G.issues i.w = true) (hheld : engineHeld i true true = false) :
    exec (.hFree core grp) s = .next (passed s core grp 1 0 (heapFreed i)) := by
  refine act_issue_short rfl h ?_
  rw [hi]
  simp only [hguard, hheld, Bool.not_true, Bool.false_eq_true, if_false]
  unfold heapFreed
  dsimp only
  split
  · rfl
  · generalize Ctx.free _ _ = freed
    cases freed with
    | none => rfl
    | some c => rfl

/-- The three outcomes of an h.free. -/
theorem heapFreed_eq (i : GI) : ∃ kernels, heapFreed i =
    (if i.G.pair (fld i.w 19 5) = 0 then { i.s with kernels := kernels }
    else (((i.s.ctx (i.s.ctxOf i.core)).free (i.G.pair (fld i.w 19 5))).map fun c =>
      { i.s with kernels := kernels }.modCtx (i.s.ctxOf i.core) fun _ => c).getD
        ({ i.s with kernels := kernels }.countCtx (i.s.ctxOf i.core) 12 1)) := by
  obtain ⟨kernels, hmark⟩ := i.s.markShare_eq i.core fun h => { h with unsafe_ := true }
  refine ⟨kernels, ?_⟩
  unfold heapFreed
  rw [hmark]
  dsimp only
  refine if_congr Iff.rfl rfl ?_
  change _ = (((Gk1.ctx { i.s with kernels := kernels } (i.s.ctxOf i.core)).free (i.G.pair (fld i.w 19 5))).map _).getD _
  generalize Ctx.free _ _ = freed
  cases freed with
  | none => rfl
  | some c => rfl

/-- Only contexts and the share's record change. -/
theorem heapFreed_cores (i : GI) : (heapFreed i).cores = i.s.cores := by
  obtain ⟨kernels, h⟩ := heapFreed_eq i
  rw [h]
  split
  · rfl
  · cases (i.s.ctx (i.s.ctxOf i.core)).free (i.G.pair (fld i.w 19 5)) with
    | none => exact Gk1.countCtx_cores ..
    | some c => rfl

theorem heapFreed_dram (i : GI) : (heapFreed i).dram = i.s.dram := by
  obtain ⟨kernels, h⟩ := heapFreed_eq i
  rw [h]
  split
  · rfl
  · cases (i.s.ctx (i.s.ctxOf i.core)).free (i.G.pair (fld i.w 19 5)) with
    | none => exact Gk1.countCtx_dram ..
    | some c => rfl

/-- A counter of a context after it was raised. -/
theorem counters_countCtx (s : Gk1) (c i n : Nat) (hn : n ≠ 0) :
    NMap.getD ((s.countCtx c i n).ctx c).counters i 0 = NMap.getD (s.ctx c).counters i 0 + BitVec.ofNat 64 n := by
  unfold Gk1.countCtx
  rw [if_neg hn, Gk1.ctx_modCtx, if_pos rfl, bump, NMap.getD_put, if_pos rfl]

theorem blocks_countCtx (s : Gk1) (c d i n : Nat) : ((s.countCtx c i n).ctx d).blocks = (s.ctx d).blocks := by
  unfold Gk1.countCtx
  split
  · rfl
  · rw [Gk1.ctx_modCtx]
    split
    · next h => rw [h]
    · rfl

/-- Settles O25. -/
theorem deviceAtomicsAndHeap : Obligations.DeviceAtomicsAndHeap := by
  refine ⟨fun core grp s => ?_, fun c free region size a c' halloc hva => ?_⟩
  · intro G i ctx hguard
    refine ⟨fun e he h hheld => ?_, fun h hheld => ?_, fun h hheld => ?_⟩
    · obtain ⟨bars, M, reqs, nextId, kernels, hp, hmsg⟩ := accept_one i .atom (atomMsg i e.2)
      have hcore : ((i.accept .atom none 0 [atomMsg i e.2]).markShare core fun h => { h with unsafe_ := true }).core core =
          { s.core core with bars := bars } := by
        refine (congrArg (Gk1.core · core) hp).trans ?_
        exact (Gk1.core_setCore i.s core core { i.C with bars := bars }).trans (if_pos rfl)
      refine ⟨_, atomMsg i e.2, (exec_mAtomRow e he core grp s).trans (act_mAtom (i := i) h rfl hguard hheld), ?_, rfl, rfl, rfl, rfl, rfl,
        rfl, rfl, ?_, store_passed_modGroup 1 _ hcore, ?_⟩
      · rw [msgs_passed]
        exact (congrArg (fun t : Gk1 => NMap.get? t.msgs (s.nextId + 1)) hp).trans hmsg
      · refine (group_passed_modGroup 1 _ hcore).trans ?_
        rw [show (atomMsg i e.2).ret = i.w.testBit 36 from rfl]
        cases i.w.testBit 36
        · rfl
        · rfl
      · simp [atomAccepted, i, fetched]
    · obtain ⟨bars, M, reqs, nextId, kernels, hp, hmsg⟩ := accept_one i .heap (heapMsg i)
      have hcore : (heapGiven i).core core = { s.core core with bars := bars } := by
        refine (congrArg (Gk1.core · core) hp).trans ?_
        exact (Gk1.core_setCore i.s core core { i.C with bars := bars }).trans (if_pos rfl)
      refine ⟨_, heapMsg i, act_hAlloc (i := i) h rfl hguard hheld, ?_, rfl, rfl, rfl, ?_, group_passed_modGroup 1 _ hcore, ?_⟩
      · rw [msgs_passed]
        exact (congrArg (fun t : Gk1 => NMap.get? t.msgs (s.nextId + 1)) hp).trans hmsg
      · rw [Gk1.ctx, ctxs_passed_zero]
        exact (NMap.getD_set ..).trans (if_pos rfl)
      · simp [heapGiven, i, fetched]
    · obtain ⟨kernels, hfreed⟩ := heapFreed_eq i
      have hctx : (passed s core grp 1 0 (heapFreed i)).ctxs = (heapFreed i).ctxs := ctxs_passed_zero ..
      refine ⟨_, act_hFree (i := i) h rfl hguard hheld, ?_, (dram_passed ..).trans (heapFreed_dram i), fun hzero => ?_, fun c hne hc => ?_,
        fun hne hnone => ?_⟩
      · exact group_passed_of_groups _ _ _ _ _ _ (by rw [Gk1.core, heapFreed_cores]; rfl)
      · rw [hctx, hfreed, if_pos (show i.G.pair (fld i.w 19 5) = 0 from hzero)]
        rfl
      · rw [Gk1.ctx, hctx, hfreed, if_neg (show ¬ i.G.pair (fld i.w 19 5) = 0 from hne), show (i.s.ctx (i.s.ctxOf i.core)).free (i.G.pair (fld i.w 19 5)) = some c from hc]
        exact (NMap.getD_set ..).trans (if_pos rfl)
      · rw [Gk1.ctx, hctx, hfreed, if_neg (show ¬ i.G.pair (fld i.w 19 5) = 0 from hne), show (i.s.ctx (i.s.ctxOf i.core)).free (i.G.pair (fld i.w 19 5)) = none from hnone]
        exact ⟨blocks_countCtx _ ctx ctx 12 1, counters_countCtx _ ctx 12 1 one_ne_zero⟩
  · rcases c.alloc_cases free region size with hnone | ⟨b, k, d, hsome, hk, hb, hblocks⟩
    · rw [hnone] at halloc
      cases halloc
      exact ⟨fun _ => ⟨rfl, rfl⟩, fun _ => rfl, fun h => absurd rfl h⟩
    · rw [hsome] at halloc
      cases halloc
      obtain ⟨hmin, hmax, hfits, hleast⟩ := heapClass_eq_some hk
      refine ⟨fun hsize => ?_, fun hzero => absurd hzero (by omega), fun _ => ⟨k, hmin, hmax, hfits, hleast, hblocks, hb⟩⟩
      rw [heapClass_eq_none hsize] at hk
      cases hk

end Sys2Proof.Claims

/-! The way of a packet over the mesh (R32, R33). -/

namespace Sys2Proof.Machine

theorem getElem?_stepsFrom (a b i : Nat) :
    (stepsFrom a b)[i]? = if i ≤ (b - a) + (a - b) then some (if a ≤ b then a + i else a - i) else none := by
  unfold stepsFrom
  split
  · by_cases hi : i ≤ (b - a) + (a - b)
    · rw [if_pos hi, List.getElem?_map, List.getElem?_range (by omega)]
      rfl
    · rw [if_neg hi, List.getElem?_eq_none (by simp; omega)]
  · by_cases hi : i ≤ (b - a) + (a - b)
    · rw [if_pos hi, List.getElem?_map, List.getElem?_range (by omega)]
      rfl
    · rw [if_neg hi, List.getElem?_eq_none (by simp; omega)]

theorem length_stepsFrom (a b : Nat) : (stepsFrom a b).length = (b - a) + (a - b) + 1 := by
  unfold stepsFrom
  split
  · simp; omega
  · simp; omega

/-- The points of a path: along x in the first row, then along y in the last column. -/
theorem getElem?_gridPath (a b : Nat × Nat) (i : Nat) : (gridPath a b)[i]? =
    let dx := (b.1 - a.1) + (a.1 - b.1)
    if i ≤ dx then some (if a.1 ≤ b.1 then a.1 + i else a.1 - i, a.2)
    else if i ≤ dx + ((b.2 - a.2) + (a.2 - b.2)) then some (b.1, if a.2 ≤ b.2 then a.2 + (i - dx) else a.2 - (i - dx)) else none := by
  dsimp only
  unfold gridPath
  rw [List.getElem?_append, List.length_map, length_stepsFrom, List.getElem?_map, List.getElem?_map, List.getElem?_drop,
    getElem?_stepsFrom, getElem?_stepsFrom]
  generalize b.1 - a.1 + (a.1 - b.1) = dx
  by_cases hx : i ≤ dx
  · rw [if_pos (show i < dx + 1 by omega), if_pos hx, if_pos hx]
    rfl
  · rw [if_neg (show ¬ i < dx + 1 by omega), if_neg hx, show 1 + (i - (dx + 1)) = i - dx by omega]
    by_cases hy : i ≤ dx + ((b.2 - a.2) + (a.2 - b.2))
    · rw [if_pos (by omega), if_pos hy]
      rfl
    · rw [if_neg (by omega), if_neg hy]
      rfl

theorem length_gridPath (a b : Nat × Nat) : (gridPath a b).length = (b.1 - a.1) + (a.1 - b.1) + ((b.2 - a.2) + (a.2 - b.2)) + 1 := by
  unfold gridPath
  rw [List.length_append, List.length_map, List.length_map, List.length_drop, length_stepsFrom, length_stepsFrom]
  omega

/-- A path ends at its last point. -/
theorem getLast?_gridPath (a b : Nat × Nat) : (gridPath a b).getLast? = some b := by
  rw [List.getLast?_eq_getElem?, length_gridPath, getElem?_gridPath]
  obtain ⟨bx, b_y⟩ := b
  dsimp only
  split
  · refine congrArg some (Prod.ext ?_ ?_)
    · dsimp only; split <;> omega
    · dsimp only; omega
  · rw [if_pos (by omega)]
    refine congrArg some (Prod.ext rfl ?_)
    dsimp only; split <;> omega

theorem headD_gridPath (a b d : Nat × Nat) : (gridPath a b).headD d = a := by
  have hfirst := getElem?_gridPath a b 0
  rw [if_pos (Nat.zero_le _)] at hfirst
  rw [List.headD_eq_head?_getD, List.head?_eq_getElem?, hfirst]
  refine Prod.ext ?_ rfl
  dsimp only [Option.getD]
  split <;> omega

/-- Two points of a path that follow each other are neighbours, and one that differs in x lies in the first row. -/
theorem neighbours_gridPath (a b : Nat × Nat) (i : Nat) (p q : Nat × Nat) (hp : (gridPath a b)[i]? = some p)
    (hq : (gridPath a b)[i + 1]? = some q) :
    (p.1 - q.1) + (q.1 - p.1) + (p.2 - q.2) + (q.2 - p.2) = 1 ∧ (p.1 ≠ q.1 → p.2 = a.2) := by
  rw [getElem?_gridPath] at hp hq
  dsimp only at hp hq
  split at hp
  · cases hp
    split at hq
    · cases hq
      dsimp only
      split <;> omega
    · split at hq
      · cases hq
        dsimp only
        split <;> split <;> omega
      · cases hq
  · split at hp
    · cases hp
      rw [if_neg (by omega)] at hq
      split at hq
      · cases hq
        dsimp only
        split <;> omega
      · cases hq
    · cases hp

/-- A way over regions ends at the last one. -/
theorem getLast?_regionPath (src dst : Nat) : (regionPath src dst).getLast? = some dst := by
  unfold regionPath
  rw [List.getLast?_map, getLast?_gridPath]
  exact congrArg some (by simp only [regionXY]; omega)

/-- A packet enters no region when its region is the last one. -/
theorem entrySide_eq_none (src dst : Nat) : entrySide src dst = none ↔ src = dst := by
  unfold entrySide regionXY
  dsimp only
  repeat' split
  all_goals simp
  all_goals omega

end Sys2Proof.Machine

/-! Replies and the ends of requests. -/

namespace Sys2Proof.Machine

@[simp] theorem Gk1.dropReq_cores (s : Gk1) (rid : Nat) : (s.dropReq rid).cores = s.cores := by
  obtain ⟨_, h⟩ := s.dropReq_eq rid
  rw [h]

section
variable (s : Gk1) (rid n here : Nat)

@[simp] theorem Gk1.performed_cores : (s.performed rid n here).cores = s.cores := by
  obtain ⟨_, h⟩ := s.performed_eq rid n here
  rw [h]

@[simp] theorem Gk1.performed_msgs : (s.performed rid n here).msgs = s.msgs := by
  obtain ⟨_, h⟩ := s.performed_eq rid n here
  rw [h]

@[simp] theorem Gk1.performed_ctxs : (s.performed rid n here).ctxs = s.ctxs := by
  obtain ⟨_, h⟩ := s.performed_eq rid n here
  rw [h]

@[simp] theorem Gk1.performed_cache : (s.performed rid n here).cache = s.cache := by
  obtain ⟨_, h⟩ := s.performed_eq rid n here
  rw [h]

end

section
variable (s : Gk1) (kid ctx rid core code addr : Nat)

@[simp] theorem Gk1.accessFault_cache : (s.accessFault kid ctx rid core code addr).cache = s.cache := by
  unfold Gk1.accessFault Gk1.kernelFault
  dsimp only
  split
  · simp [Gk1.modKernel]
  · split <;> simp [Gk1.modKernel]

/-- A faulted access counts in its context. -/
@[simp] theorem Gk1.accessFault_ctxs : (s.accessFault kid ctx rid core code addr).ctxs = (s.countCtx ctx 11 1).ctxs := by
  unfold Gk1.accessFault Gk1.kernelFault
  dsimp only
  split
  · simp [Gk1.modKernel]
  · split <;> simp [Gk1.modKernel]

end

/-- With no epoch full and nothing of a core unsent, its network sender does nothing. -/
theorem Gk1.pump_of_quiet (s : Gk1) (core : Nat) (h : Claims.quiet s core = true) : s.pump core = s := by
  simp only [Claims.quiet, Bool.and_eq_true, List.all_eq_true, Bool.not_eq_true', decide_eq_true_eq] at h
  obtain ⟨hsent, hroom⟩ := h
  have hunsent : ∀ e ∈ s.msgs, e.2.core = core → e.2.unsent = false := by
    intro e he hc
    simpa [hc] using hsent e he
  have hfull : s.endFull core = s := by
    unfold Gk1.endFull
    refine List.foldlRecOn (motive := fun t => t = s) _ _ rfl fun t ht r hr => ?_
    subst ht
    dsimp only
    rw [if_pos ?_]
    have hnone : (List.filter (fun e : Nat × Msg => e.2.ofStream core (some r.stream) && decide (e.2.place.target = r.target)) t.msgs).find?
        (fun e => e.2.unsent) = none := by
      rw [List.find?_eq_none]
      intro e he
      obtain ⟨hmem, hof⟩ := List.mem_filter.1 he
      have hcore : e.2.core = core := by
        simp only [Msg.ofStream, Bool.and_eq_true, decide_eq_true_eq] at hof
        obtain ⟨⟨⟨⟨-, hcore⟩, -⟩, -⟩, -⟩ := hof
        exact hcore
      simp [hunsent e hmem hcore]
    have hfits : r.sent + 1 ≤ epochLimit := hroom r hr
    rw [hnone]
    simp only [Option.map_none, Option.getD_none, hfits, decide_true, Bool.or_true]
  have hempty : (List.filter (fun e : Nat × Msg => e.2.unsent && decide (e.2.core = core)) s.msgs) = [] := by
    rw [List.filter_eq_nil_iff]
    intro e he
    rw [Bool.and_eq_true, decide_eq_true_eq]
    rintro ⟨hu, hc⟩
    rw [hunsent e he hc] at hu
    cases hu
  unfold Gk1.pump
  rw [hfull]
  exact congrArg (List.foldl (fun (s : Gk1) (e : Nat × Msg) => s.trySend e.1 e.2) s) hempty

end Sys2Proof.Machine

namespace Sys2Proof.Claims

open Sys2Proof.Machine

section
variable {id : Nat} {m : Msg} {s : State} (hmsg : NMap.get? s.msgs id = some m)
include hmsg

/-! ## Replies that fill registers -/

theorem exec_mAtomReply (hkind : m.kind = .atomReply) : exec (.mAtomReply id) s = .next (became s
    (((s.replyRegs m [(m.reg, m.value.setWidth 32)]).delMsg id).performed m.rid 1 1)) := by
  change execMAtomReply id s = _
  refine State.act_of_next _ _ _ ?_
  simp only [hmsg]
  exact if_pos hkind

theorem exec_heapReply (hkind : m.kind = .heapReply) : exec (.heapReply id) s = .next (became s
    (((s.replyRegs m [(m.reg, m.value.setWidth 32), (m.reg + 1, (m.value >>> 32).setWidth 32)]).delMsg id).performed m.rid 1 1)) := by
  change execHeapReply id s = _
  refine State.act_of_next _ _ _ ?_
  simp only [hmsg]
  exact if_pos hkind

/-! ## Writes, acknowledgements and reads -/

theorem exec_meshWriteArrival (hkind : m.kind = .write) (hsent : m.unsent = false) (hreturned : m.returned = none) :
    exec (.meshWriteArrival id) s = .next (became s (s.arrive id m)) := by
  change execMeshWriteArrival id s = _
  refine State.act_of_next _ _ _ ?_
  simp only [hmsg, hkind, hsent, hreturned]
  rfl

theorem exec_closingWriteResend {t0 : Nat} (hkind : m.kind = .write) (hreturned : m.returned = some t0) (hdue : t0 + 1000 ≤ s.dtime)
    (hplace : m.place.isPeer = false) :
    exec (.closingWriteResend id) s = .next (became s (s.setMsg id { m with returned := none })) := by
  change execClosingWriteResend id s = _
  refine State.act_of_next _ _ _ ?_
  have hwait : (decide (m.kind = .write) && decide (t0 + 1000 ≤ s.dtime)) = true := by simp [hkind, hdue]
  simp only [hmsg, hreturned]
  cases hp : m.place with
  | peer p va => rw [hp] at hplace; cases hplace
  | store c a => exact if_pos hwait
  | dev va => exact if_pos hwait
  | host a => exact if_pos hwait

theorem exec_meshAck (hkind : m.kind = .ack) : exec (.meshAck id) s = .next (became s (s.answered id m)) := by
  change execMeshAck id s = _
  refine State.act_of_next _ _ _ ?_
  simp only [hmsg]
  exact if_pos hkind

theorem exec_meshReadReply (hkind : m.kind = .readReply) :
    exec (.meshReadReply id) s = .next (became s ((s.deliver id m (m.data.map Prod.snd)).pump m.core)) := by
  change execMeshReadReply id s = _
  refine State.act_of_next _ _ _ ?_
  simp only [hmsg, hkind]

end

/-- A message fewer, and a request's count lower, leave a quiet core quiet. -/
theorem quiet_performed {s : Gk1} {core : Nat} (h : quiet s core = true) (id rid n here : Nat) :
    quiet ((s.delMsg id).performed rid n here) core = true := by
  simp only [quiet, Bool.and_eq_true, List.all_eq_true] at h ⊢
  obtain ⟨hsent, hroom⟩ := h
  refine ⟨fun e he => hsent e ?_, fun r hr => hroom r ?_⟩
  · rw [Gk1.performed_msgs] at he
    exact List.mem_of_mem_filter he
  · simpa [Gk1.core, Gk1.delMsg] using hr

theorem drainFault_msgs (s : Gk1) (core rid : Nat) : (s.drainFault core rid).msgs = s.msgs := rfl

/-- A write whose only byte has no translation lands nothing. -/
theorem land_untranslated {s : Gk1} {m : Msg} {va e : Nat} (hplace : m.place = .dev va) (hlate : m.late = false) (hdata : m.data = [(0, 0)])
    (hsnap : s.snapOf m.ctx (va / 32 * 32) = none) (htrans : s.translate m.ctx true m.enforced (va / 32 * 32) = .error e) :
    s.land m = .done s 0 (some e) := by
  have hbytes : s.writeBytes m = (m.data, s) := by
    unfold Gk1.writeBytes
    rw [hlate]
    rfl
  have hsector : s.landSector m.ctx m.enforced m.pkt.isSome (va / 32 * 32) (patchIn va (va / 32) m.data) = (.fault e, s) := by
    unfold Gk1.landSector
    simp only [hsnap, htrans]
  unfold Gk1.land
  simp only [hplace, hbytes]
  have hsecs : patchSectors va m.data = [va / 32] := by
    simp only [patchSectors, hdata, List.map_cons, List.map_nil, Nat.add_zero, List.eraseDups_cons, List.filter_nil, List.eraseDups_nil]
  have hsome : m.data.isEmpty = false := by rw [hdata]; rfl
  simp only [hsecs, hsome, Bool.false_eq_true, if_false, Gk1.landSectors, hsector, if_true]

/-- A write to a core store with power lands in it. -/
theorem land_store {s : Gk1} {m : Msg} {c a : Nat} (hplace : m.place = .store c a) (hlate : m.late = false) (hstream : m.stream = none)
    (hrails : s.coreRails (clusterOf c) = true) : ∃ kernels,
    s.land m = .done { s.modCore c (fun C => { C with store := Mem.patch C.store a m.data }) with kernels := kernels } 1 none := by
  have hbytes : s.writeBytes m = (m.data, s) := by
    unfold Gk1.writeBytes
    rw [hlate]
    rfl
  have hlost : (s.cluster (clusterOf c)).lost = false := by
    simp only [Gk1.coreRails, Bool.and_eq_true, Bool.not_eq_true'] at hrails
    exact hrails.2
  have hok : s.storeFault m c = none := by
    unfold Gk1.storeFault
    simp [hstream]
  unfold Gk1.land
  simp only [hplace, hlost, hok, hbytes, hrails, if_true, Bool.false_eq_true, if_false]
  split
  · exact ⟨_, rfl⟩
  · obtain ⟨kernels, h⟩ := Gk1.markShare_eq (s.modCore c fun C => { C with store := Mem.patch C.store a m.data }) c
      fun h => { h with unsafe_ := true }
    exact ⟨kernels, by rw [h]⟩

/-- A write outside streams and epochs, of this part, is carried out when it arrives. -/
theorem arrive_plain {s t : Gk1} {id : Nat} {m : Msg} {landed : Nat} {f : Option Nat} (hclosing : m.closing = false)
    (hstream : m.stream = none) (hbefore : s.drainBefore id m = false) (hland : s.land m = .done t landed f) :
    s.arrive id m = t.wrote id m landed f := by
  unfold Gk1.arrive Gk1.tryWrite
  simp only [hclosing, hbefore, hland, hstream, Bool.not_false, if_true, Bool.false_eq_true, if_false, Option.isNone_none, Bool.true_or]

/-- A plain write of this part that has landed, or faulted, ends. -/
theorem wrote_plain {s : Gk1} {id : Nat} {m : Msg} (hstream : m.stream = none) (hpkt : m.pkt = none) (landed : Nat) :
    s.wrote id m landed none = (s.delMsg id).performed m.rid 1 m.here ∧ ∀ e, s.wrote id m landed (some e) =
      (((s.accessFault m.kid m.ctx m.rid m.core e m.place.addr).drainFault m.core m.rid).delMsg id).performed m.rid 1 m.here := by
  unfold Gk1.wrote
  simp only [hstream, hpkt, Option.isSome_none, Bool.false_eq_true, if_false, implies_true, and_self]

theorem erased (msgs : NMap Msg) (id : Nat) : NMap.get? (NMap.erase msgs id) id = none := (NMap.get?_erase ..).trans (if_pos rfl)

/-- A group whose registers a reply has filled. -/
theorem group_replyRegs {s : Gk1} {m : Msg} (hkid : (s.core m.core).kid = some m.kid) (vals : List (Nat × BitVec 32)) (id rid n here : Nat) :
    (((s.replyRegs m vals).delMsg id).performed rid n here).group m.core m.slot =
      vals.foldl (fun G v => { G.setS v.1 v.2 with awaiting := G.awaiting.filter (· ≠ v.1) }) (s.group m.core m.slot) := by
  rw [Gk1.group, Gk1.core, Gk1.performed_cores]
  change (s.replyRegs m vals).group m.core m.slot = _
  unfold Gk1.replyRegs
  rw [if_neg (not_not.2 hkid), Gk1.modGroup, Gk1.group_setGroup, if_pos ⟨rfl, rfl⟩]

theorem msgs_replyRegs (s : Gk1) (m : Msg) (vals : List (Nat × BitVec 32)) : (s.replyRegs m vals).msgs = s.msgs := by
  unfold Gk1.replyRegs
  split <;> rfl

theorem s_setS_awaiting (G : Group) (n k : Nat) (v : BitVec 32) (l : List Nat) :
    Group.s { G.setS n v with awaiting := l } k = if n = k then v else G.s k := Group.s_setS G n k v

/-- Data that land in the core store of a kernel that still runs. -/
theorem deliver_eq {s : Gk1} {m : Msg} (hkid : (s.core m.core).kid = some m.kid) (id : Nat) (data : List Byte) : s.deliver id m data =
    ((s.modCore m.core fun C => { C with store := Mem.writeAll C.store m.local_ data }).delMsg id).performed m.rid 1 m.here := by
  unfold Gk1.deliver
  rw [if_pos hkid]

theorem quiet_modStore {s : Gk1} {core : Nat} (h : quiet s core = true) (f : Mem → Mem) :
    quiet (s.modCore core fun C => { C with store := f C.store }) core = true := by
  simp only [quiet, Gk1.core_modCore, if_true] at h ⊢
  exact h

/-- Settles O26. -/
theorem requestsAndReplies : Obligations.RequestsAndReplies := by
  refine ⟨fun s src dst n => ?_, fun id m s hmsg hkid => ?_, fun id m s hmsg => ?_⟩
  · intro ends
    have hends : ∀ a b, ends (gridPath a b) b := fun a b => ⟨getLast?_gridPath a b, fun i p q hp hq => by
      rw [headD_gridPath]; exact neighbours_gridPath a b i p q hp hq⟩
    exact ⟨hends _ _, getLast?_regionPath _ _, hends _ _, entrySide_eq_none _ _⟩
  · intro G
    refine ⟨fun hkind => ⟨_, exec_mAtomReply hmsg hkind, ?_, ?_, group_replyRegs hkid _ _ _ _ _⟩,
      fun hkind => ⟨_, exec_heapReply hmsg hkind, ?_, ?_, ?_⟩⟩
    · refine (congrArg (NMap.get? · id) (Gk1.performed_msgs ..)).trans (erased _ _)
    · simp [became]
    · refine (congrArg (NMap.get? · id) (Gk1.performed_msgs ..)).trans (erased _ _)
    · simp [became]
    · have hgroup := group_replyRegs hkid [(m.reg, m.value.setWidth 32), (m.reg + 1, (m.value >>> 32).setWidth 32)] id m.rid 1 1
      have hgroup' : (became s (((s.replyRegs m [(m.reg, m.value.setWidth 32), (m.reg + 1, (m.value >>> 32).setWidth 32)]).delMsg
        id).performed m.rid 1 1)).group m.core m.slot = _ := hgroup
      rw [hgroup']
      simp only [List.foldl_cons, List.foldl_nil]
      refine ⟨?_, ?_, fun n hn hn1 => ?_, ?_, ?_⟩
      · exact (s_setS_awaiting ..).trans ((if_neg (Nat.succ_ne_self _)).trans ((s_setS_awaiting ..).trans (if_pos rfl)))
      · exact (s_setS_awaiting ..).trans (if_pos rfl)
      · exact (s_setS_awaiting ..).trans ((if_neg hn1.symm).trans ((s_setS_awaiting ..).trans (if_neg hn.symm)))
      · simp
      · simp
  · refine ⟨fun c a hkind hsent hreturned hplace hclosing hlate hstream hpkt hrails hbefore => ?_,
      fun va e hkind hsent hreturned hplace hclosing hlate hstream hpkt hdata hsnap hbefore htrans => ?_,
      fun t0 hkind hreturned hdue hplace => exec_closingWriteResend hmsg hkind hreturned hdue hplace, fun hkind hquiet => ?_,
      fun hkind hkid hquiet => ?_⟩
    · obtain ⟨kernels, hland⟩ := land_store hplace hlate hstream hrails
      refine ⟨_, exec_meshWriteArrival hmsg hkind hsent hreturned, ?_⟩
      rw [arrive_plain hclosing hstream hbefore hland, (wrote_plain hstream hpkt 1).1]
      have hcore : ∀ k, (became s (((Gk1.delMsg { s.modCore c (fun C => { C with store := Mem.patch C.store a m.data }) with kernels := kernels }
          id).performed m.rid 1 m.here))).core k =
          (s.modCore c fun C => { C with store := Mem.patch C.store a m.data }).core k := fun k => by
        change Gk1.core (Gk1.performed _ _ _ _) k = _
        rw [Gk1.core, Gk1.performed_cores]
        rfl
      refine ⟨?_, (congrArg (NMap.get? · id) (Gk1.performed_msgs ..)).trans (erased _ _), fun k hk => ?_, ?_, by simp [became]⟩
      · rw [hcore, Gk1.core_modCore, if_pos rfl]
      · rw [hcore, Gk1.core_modCore, if_neg hk.symm]
      · rw [hcore, Gk1.core_modCore, if_pos rfl]
    · refine ⟨_, exec_meshWriteArrival hmsg hkind hsent hreturned, ?_⟩
      rw [arrive_plain hclosing hstream hbefore (land_untranslated hplace hlate hdata hsnap htrans), (wrote_plain hstream hpkt 0).2]
      refine ⟨(congrArg (NMap.get? · id) (Gk1.performed_msgs ..)).trans (erased _ _), by simp [became], ?_, ?_⟩
      · exact (Gk1.performed_cache ..).trans (Gk1.accessFault_cache ..)
      · have hctxs : (Gk1.performed (Gk1.delMsg ((s.accessFault m.kid m.ctx m.rid m.core e m.place.addr).drainFault m.core m.rid) id) m.rid 1
            m.here).ctxs = (s.countCtx m.ctx 11 1).ctxs := (Gk1.performed_ctxs ..).trans (Gk1.accessFault_ctxs ..)
        exact (congrArg (fun x : NMap Ctx => NMap.getD (NMap.getD x m.ctx {}).counters 11 0) hctxs).trans
          (counters_countCtx s.toGk1 m.ctx 11 1 one_ne_zero)
    · rw [exec_meshAck hmsg hkind, Gk1.answered, Gk1.pump_of_quiet _ _ (quiet_performed hquiet id m.rid 1 0)]
    · refine ⟨_, exec_meshReadReply hmsg hkind, ?_⟩
      rw [deliver_eq hkid, Gk1.pump_of_quiet _ _ (quiet_performed (quiet_modStore hquiet fun M =>
        Mem.writeAll M m.local_ (m.data.map Prod.snd)) id m.rid 1 m.here)]
      have hcore : ∀ k, (became s (Gk1.performed (Gk1.delMsg (s.modCore m.core fun C =>
          { C with store := Mem.writeAll C.store m.local_ (m.data.map Prod.snd) }) id) m.rid 1 m.here)).core k =
          (s.modCore m.core fun C => { C with store := Mem.writeAll C.store m.local_ (m.data.map Prod.snd) }).core k := fun k => by
        change Gk1.core (Gk1.performed _ _ _ _) k = _
        rw [Gk1.core, Gk1.performed_cores]
        rfl
      refine ⟨?_, (congrArg (NMap.get? · id) (Gk1.performed_msgs ..)).trans (erased _ _), fun k hk => ?_, by simp [became]⟩
      · rw [hcore, Gk1.core_modCore, if_pos rfl]
      · rw [hcore, Gk1.core_modCore, if_neg hk.symm]

end Sys2Proof.Claims

/-! The feeder, the array and the completion of its instructions. -/

namespace Sys2Proof.Machine

/-! ## Frames -/

section
variable (s : Gk1) (core : Nat) (x : MxInstr)

@[simp] theorem Gk1.unitFault_cores (code : Nat) : (s.unitFault core x code).cores = s.cores := by
  unfold Gk1.unitFault Gk1.kernelFault
  dsimp only
  split
  · rfl
  · split
    · rfl
    · rw [Gk1.report_cores]; rfl

@[simp] theorem Gk1.gangAclk_cores : (s.gangAclk core x).cores = s.cores := by
  unfold Gk1.gangAclk
  dsimp only
  split <;> rfl

theorem Gk1.gangAclk_lastWork (cl : Nat) : ((s.gangAclk core x).cluster cl).lastWork = (s.cluster cl).lastWork := by
  unfold Gk1.gangAclk
  dsimp only
  split
  · rw [Gk1.cluster_modCluster]
    split
    · next h => rw [h]
    · rfl
  · rfl

@[simp] theorem Gk1.countAclk_cores (i : Nat) : (s.countAclk core x i).cores = s.cores := by
  unfold Gk1.countAclk
  dsimp only
  rw [Gk1.gangAclk_cores]
  split
  · rw [foldl_keeps (fun s : Gk1 => s.cores) (fun s c => s.countCore_cores c i 1)]
    split <;> rfl
  · rw [Gk1.countCore_cores]
    split <;> rfl

theorem Gk1.countAclk_core (i c : Nat) : (s.countAclk core x i).core c = s.core c := by
  rw [Gk1.core, Gk1.countAclk_cores, Gk1.core]

/-- An ACLK that is counted is not yet work. -/
theorem Gk1.countAclk_lastWork (i cl : Nat) : ((s.countAclk core x i).cluster cl).lastWork = (s.cluster cl).lastWork := by
  have hran : ∀ (n : Nat) (t : Gk1), t.clusters = (if i ≠ 0 then s else s.modCluster (clusterOf core) fun c =>
      { c with ran := c.ran + n }).clusters → (t.cluster cl).lastWork = (s.cluster cl).lastWork := by
    intro n t ht
    rw [Gk1.cluster, ht]
    split
    · rfl
    · change ((s.modCluster (clusterOf core) _).cluster cl).lastWork = _
      rw [Gk1.cluster_modCluster]
      split
      · next h => rw [h]
      · rfl
  unfold Gk1.countAclk
  dsimp only
  rw [Gk1.gangAclk_lastWork]
  split
  · exact hran 4 _ (foldl_keeps (fun s : Gk1 => s.clusters) (fun s c => s.countCore_clusters c i 1) _ _)
  · exact hran 1 _ (Gk1.countCore_clusters ..)

@[simp] theorem Gk1.stepStarts_cores : (s.stepStarts core x).cores = s.cores := by
  unfold Gk1.stepStarts
  split <;> rfl

end

/-! ## Instructions of a core -/

section
variable (C : Core) (x : MxInstr)

theorem Core.setMx_mq_length : (C.setMx x).mq.length = C.mq.length := List.length_map _

/-- The replaced instruction stands in the queue. -/
theorem Core.mem_setMx_mq {y : MxInstr} (hy : y ∈ C.mq) (hrid : y.rid = x.rid) : x ∈ (C.setMx x).mq :=
  List.mem_map.2 ⟨y, hy, if_pos hrid⟩

/-- An instruction that is replaced and then leaves the pipeline has left it. -/
theorem Core.filter_setMx_pipe : (C.setMx x).pipe.filter (fun y => y.rid ≠ x.rid) = C.pipe.filter fun y => y.rid ≠ x.rid := by
  change (C.pipe.map fun y => if y.rid = x.rid then x else y).filter _ = _
  induction C.pipe with
  | nil => rfl
  | cons y l ih =>
    by_cases h : y.rid = x.rid
    · simpa [h] using ih
    · simpa [h] using ih

end

/-- K positions change runs and the position alone. -/
theorem MxInstr.advance_fst (x : MxInstr) (en : FeedEntry) (n : Nat) :
    ∃ runs, (x.advance en n).1 = { x with runs := runs, kpos := x.kpos + n } := by
  induction n generalizing x with
  | zero => exact ⟨x.runs, rfl⟩
  | succ n ih =>
    obtain ⟨runs, h⟩ := ih { x with runs := (x.position en x.kpos).1, kpos := x.kpos + 1 }
    exact ⟨runs, h.trans (by rw [Nat.add_assoc, Nat.add_comm 1 n])⟩

/-- Promotion changes the elements and flags of a total. -/
theorem Total.take_frame (t : Total) (l : List (Nat × Term)) : (t.take l).tsw = t.tsw ∧ (t.take l).count = t.count := by
  unfold Total.take
  refine List.foldlRecOn (motive := fun u : Total => u.tsw = t.tsw ∧ u.count = t.count) l _ ⟨rfl, rfl⟩ fun u hu e _ => ?_
  exact hu

theorem NMap.upd_id {α : Type} (m : NMap α) (k : Nat) (f : α → α) (h : ∀ a, f a = a) : NMap.upd m k f = m := by
  unfold NMap.upd
  conv_rhs => rw [← List.map_id m]
  refine List.map_congr_left fun e _ => ?_
  rw [h]
  split <;> rfl

end Sys2Proof.Machine

namespace Sys2Proof.Claims

open Sys2Proof.Machine

theorem coreOk_of_lt {core : Nat} (h : core < nCores) : (!coreOk core) = false := by
  rw [coreOk, decide_eq_true (show core < coreCount from h)]
  rfl

/-! ## The feeder -/

/-- The instruction with its next entry filled. -/
def filled (x : MxInstr) (en : FeedEntry) (tsw : BitVec 64) : MxInstr :=
  { x with
    entries := x.entries ++ [en], tsw := tsw
    fillEnt := if x.mnk.2.2 / 8 ≤ x.fillEnt + 1 then 0 else x.fillEnt + 1
    fillPass := if x.mnk.2.2 / 8 ≤ x.fillEnt + 1 then x.fillPass + 1 else x.fillPass }

theorem core_became (s : State) (p : Gk1) (c : Nat) : (became s p).core c = p.core c := rfl

theorem cluster_became (s : State) (p : Gk1) (cl : Nat) : (became s p).cluster cl = p.cluster cl := rfl

/-- What an action on the part gives, of its next state. -/
theorem act_exists {s : State} {f : Gk1 → Out} {P : State → Prop} (h : ∃ p, f s.toGk1 = .next p ∧ P (became s p)) :
    ∃ t, s.act f = .next t ∧ P t := by
  obtain ⟨p, hp, hP⟩ := h
  exact ⟨_, State.act_of_next _ _ _ hp, hP⟩

/-- The parts of a state that feeding one core leaves: its queue holds the filled instruction, other cores stay. -/
def FeedsTo (s : Gk1) (core : Nat) (C : Core) (t : Gk1) : Prop :=
  (∃ totals, t.core core = { C with totals := totals }) ∧ (∀ c, c ≠ core → t.core c = s.core c) ∧ t.dram = s.dram

theorem FeedsTo.of_eq {s t u : Gk1} {core : Nat} {C : Core} (h : FeedsTo s core C t) (hcores : u.cores = t.cores)
    (hdram : u.dram = t.dram) : FeedsTo s core C u := by
  obtain ⟨hcore, hother, hd⟩ := h
  have heq : ∀ c, u.core c = t.core c := fun c => by rw [Gk1.core, hcores, Gk1.core]
  exact ⟨by rw [heq]; exact hcore, fun c hc => by rw [heq]; exact hother c hc, hdram.trans hd⟩

theorem FeedsTo.undef {s t : Gk1} {core tid : Nat} {C : Core} (h : FeedsTo s core C t) :
    FeedsTo s core C (t.modCore core fun C => C.undefTotal tid) := by
  obtain ⟨⟨totals, hcore⟩, hother, hd⟩ := h
  refine ⟨⟨NMap.upd totals tid fun t => { t with undef := true }, ?_⟩, fun c hc => ?_, hd⟩
  · rw [Gk1.core_modCore, if_pos rfl, hcore]; rfl
  · rw [Gk1.core_modCore, if_neg hc.symm]; exact hother c hc

theorem handOff_cores (s : Gk1) (rid : Nat) : (s.handOff rid).cores = s.cores := Gk1.dropReq_cores ..

/-- The part whose feeder has filled an entry, with the faults of a variant id and of KSEL (R124, R191). -/
def fedBy (s : Gk1) (core : Nat) (x y : MxInstr) (badV badK : Bool) (wc : Nat) : Gk1 :=
  let s := s.setCore core ((s.core core).setMx y)
  let s := if badV = true then (s.unitFault core x 0x26).modCore core fun C => C.undefTotal x.tid else s
  let s := if badK = true then (s.unitFault core x 0x2B).modWgs (clusterOf core) x.gid fun g => g.undefTiles (List.range wc) else s
  let s := { s with free := s.free + 2 }
  if (y.fed && y.drain.isNone) = true then s.handOff x.rid else s

theorem fedBy_feeds (s : Gk1) (core : Nat) (x y : MxInstr) (badV badK : Bool) (wc : Nat) :
    FeedsTo s core ((s.core core).setMx y) (fedBy s core x y badV badK wc) := by
  have hset : FeedsTo s core ((s.core core).setMx y) (s.setCore core ((s.core core).setMx y)) := by
    refine ⟨⟨((s.core core).setMx y).totals, ?_⟩, fun c hc => ?_, rfl⟩
    · exact (Gk1.core_setCore ..).trans (if_pos rfl)
    · exact (Gk1.core_setCore ..).trans (if_neg hc.symm)
  unfold fedBy
  dsimp only
  generalize s.setCore core ((s.core core).setMx y) = t at hset ⊢
  have hV : FeedsTo s core ((s.core core).setMx y)
      (if badV = true then (t.unitFault core x 0x26).modCore core fun C => C.undefTotal x.tid else t) := by
    split
    · exact (hset.of_eq (Gk1.unitFault_cores ..) (Gk1.unitFault_dram ..)).undef
    · exact hset
  generalize (if badV = true then (t.unitFault core x 0x26).modCore core fun C => C.undefTotal x.tid else t) = u at hV ⊢
  have hK : FeedsTo s core ((s.core core).setMx y)
      (if badK = true then (u.unitFault core x 0x2B).modWgs (clusterOf core) x.gid fun g => g.undefTiles (List.range wc) else u) := by
    split
    · exact hV.of_eq (Gk1.unitFault_cores ..) (Gk1.unitFault_dram ..)
    · exact hV
  split
  · exact hK.of_eq (handOff_cores ..) (Gk1.handOff_dram ..)
  · exact hK.of_eq rfl rfl

theorem exec_feederFill {core : Nat} {s : State} {x : MxInstr} (hcore : core < nCores)
    (hx : ((s.core core).mq.find? fun x => !x.fed) = some x) (hroom : (s.core core).queued < 8)
    (hpower : (s.cluster (clusterOf core)).lost = false) : ∃ en tsw badV badK wc,
      exec (.feederFill core) s = .next (became s (fedBy s.toGk1 core x (filled x en tsw) badV badK wc)) := by
  have hfull : (decide (8 ≤ (s.core core).queued) || (s.cluster (clusterOf core)).lost) = false := by
    rw [decide_eq_false (Nat.not_le.2 hroom), hpower]; rfl
  change ∃ en tsw badV badK wc, execFeederFill core s = _
  exact ⟨_, _, _, _, _, State.act_of_next _ _ _ (by
    simp only [coreOk_of_lt hcore, hx, hfull, Bool.false_eq_true, if_false, decide_eq_true_eq]
    simp only [fedBy, filled]
    rfl)⟩

/-! ## OPREL -/

theorem exec_oprelArrival {core rid b : Nat} {s : State} {x : MxInstr} (hcore : core < nCores) (hx : (s.core core).mx rid = some x)
    (hb : mxOprel x.w1.toNat = some b) (hforms : x.forms = true) (hfed : x.fed = true) (hdone : x.oprelDone = false) :
    exec (.oprelArrival core rid) s = .next (became s
      ((s.modCore core fun C => C.setMx { x with oprelDone := true }).sendArrival core x.slot x.kid (s.kernelCtx x.kid) b 2)) := by
  change execOprelArrival core rid s = _
  refine State.act_of_next _ _ _ ?_
  simp only [coreOk_of_lt hcore, hx, Gk1.arriveOprel, hb, hforms, hfed, hdone, Bool.false_eq_true, if_false, Bool.not_true, Bool.or_self]

/-! ## One ACLK of an array -/


/-- What an array and its promotions change of a part's cores: queues, pipelines and totals. -/
structure ArrayKeeps (s t : Gk1) : Prop where
  core : ∀ c, ∃ mq pipe totals, t.core c = { s.core c with mq := mq, pipe := pipe, totals := totals }
  dram : t.dram = s.dram

theorem ArrayKeeps.of_eq {s t : Gk1} (hcores : t.cores = s.cores) (hdram : t.dram = s.dram) : ArrayKeeps s t where
  core c := ⟨_, _, _, by rw [Gk1.core, hcores, Gk1.core]⟩
  dram := hdram

theorem ArrayKeeps.trans {s t u : Gk1} (h : ArrayKeeps s t) (h' : ArrayKeeps t u) : ArrayKeeps s u where
  core c := by
    obtain ⟨mq, pipe, totals, hc⟩ := h.core c
    obtain ⟨mq', pipe', totals', hc'⟩ := h'.core c
    exact ⟨mq', pipe', totals', by rw [hc', hc]⟩
  dram := h'.dram.trans h.dram

theorem ArrayKeeps.modCore (s : Gk1) (core : Nat) (f : Core → Core)
    (hf : ∀ C, ∃ mq pipe totals, f C = { C with mq := mq, pipe := pipe, totals := totals }) : ArrayKeeps s (s.modCore core f) where
  core c := by
    rw [Gk1.core_modCore]
    split
    · next h => rw [← h]; exact hf _
    · exact ⟨_, _, _, rfl⟩
  dram := rfl

theorem ArrayKeeps.setMx (s : Gk1) (core : Nat) (x : MxInstr) : ArrayKeeps s (s.modCore core fun C => C.setMx x) :=
  ArrayKeeps.modCore s core _ fun _ => ⟨_, _, _, rfl⟩

theorem ArrayKeeps.promoteAll (s : Gk1) (core : Nat) (x : MxInstr) (l : List (Nat × Term)) : ArrayKeeps s (s.promoteAll core x l) := by
  unfold Gk1.promoteAll
  split
  · exact ArrayKeeps.of_eq rfl rfl
  · exact ArrayKeeps.modCore s core _ fun _ => ⟨_, _, _, rfl⟩

theorem ArrayKeeps.countAclk (s : Gk1) (core : Nat) (x : MxInstr) (i : Nat) : ArrayKeeps s (s.countAclk core x i) :=
  ArrayKeeps.of_eq (Gk1.countAclk_cores ..) (Gk1.countAclk_dram ..)

theorem ArrayKeeps.stepStarts (s : Gk1) (core : Nat) (x : MxInstr) : ArrayKeeps s (s.stepStarts core x) :=
  ArrayKeeps.of_eq (Gk1.stepStarts_cores ..) (Gk1.stepStarts_dram ..)

/-- The instruction with the K positions of a step behind it. -/
def stepped (x : MxInstr) (en : FeedEntry) (es : List FeedEntry) : MxInstr :=
  { (x.advance en x.pace.2).1 with sub := 0, entries := if (x.advance en x.pace.2).1.kpos % 8 = 0 then es else en :: es }

/-- Its last pass is at its end. -/
def lastPass (y : MxInstr) : Bool := decide (y.mnk.2.2 ≤ y.kpos) && decide (y.passes ≤ y.pass + 1)

/-- Its pass is at its end, and was not the last one. -/
def turns (y : MxInstr) : Bool := decide (y.mnk.2.2 ≤ y.kpos) && !lastPass y

/-- The terms that a step promotes: at the end of a pass those of the open runs too (R136). -/
def stepTerms (x : MxInstr) (en : FeedEntry) (y : MxInstr) : List (Nat × Term) :=
  if turns y = true then (x.advance en x.pace.2).2 ++ y.closeRuns else (x.advance en x.pace.2).2

/-- The instruction after the step, at the next pass when its pass is at its end. -/
def turned (y : MxInstr) : MxInstr := if turns y = true then { y with runs := [], kpos := 0, pass := y.pass + 1 } else y

/-- The instruction with the tiles that terms enter noted (R199). -/
def touching (y : MxInstr) (terms : List (Nat × Term)) : MxInstr := { y with touched := (y.touched ++ tilesOf terms).eraseDups }

/-- What a step answers: it waits while a promotion is held, and else promotes (R156). -/
def stepEnd (s : Gk1) (core : Nat) (x y : MxInstr) (terms : List (Nat × Term)) (final : Bool) : Out :=
  if (!terms.isEmpty && s.promoteHeld core x) = true then .next (s.gangAclk core x) else
  .next ((((s.stepStarts core x).promoteAll core y terms).modCore core fun C =>
    if final = true then { C with mq := C.mq.filter (fun z => z.rid ≠ x.rid), pipe := C.pipe ++ [{ y with arrayDone := true }] }
    else C.setMx y).countAclk core x 0)

section
variable {core : Nat} {s : State} {x : MxInstr} {rest : List MxInstr} (hcore : core < nCores)
  (hmq : (s.core core).mq = x :: rest) (hrun : s.mayRun core x = true)
include hcore hmq hrun

/-- With no entry the array counts a feeder stall. -/
theorem exec_kStep_empty (hempty : x.entries = []) : exec (.kStep core) s = .next (became s (s.countAclk core x 1)) := by
  change execKStep core s = _
  refine State.act_of_next _ _ _ ?_
  simp only [coreOk_of_lt hcore, hmq, List.head?_cons, hrun, hempty, Bool.false_eq_true, if_false, Bool.not_true]

/-- With an escape owed it waits. -/
theorem exec_kStep_wait {en : FeedEntry} {es : List FeedEntry} (hentries : x.entries = en :: es) (hstall : en.stall ≠ 0) :
    exec (.kStep core) s = .next (became s ((s.modCore core fun C => C.setMx { x with
      entries := { en with stall := en.stall - 1 } :: es }).countAclk core x 2)) := by
  change execKStep core s = _
  refine State.act_of_next _ _ _ ?_
  simp only [coreOk_of_lt hcore, hmq, List.head?_cons, hrun, hentries, Bool.false_eq_true, if_false, Bool.not_true]
  exact if_pos hstall

/-- A step of several ACLK goes on. -/
theorem exec_kStep_on {en : FeedEntry} {es : List FeedEntry} (hentries : x.entries = en :: es) (hstall : en.stall = 0)
    (hpace : x.sub + 1 < x.pace.1) : exec (.kStep core) s = .next (became s
      (((s.stepStarts core x).modCore core fun C => C.setMx { x with sub := x.sub + 1 }).countAclk core x 0)) := by
  change execKStep core s = _
  refine State.act_of_next _ _ _ ?_
  simp only [coreOk_of_lt hcore, hmq, List.head?_cons, hrun, hentries, hstall, hpace, Bool.false_eq_true, if_false, Bool.not_true,
    if_true, not_true, ne_eq]

/-- The last ACLK of a step takes its K positions. -/
theorem exec_kStep_last {en : FeedEntry} {es : List FeedEntry} (hentries : x.entries = en :: es) (hstall : en.stall = 0)
    (hpace : x.pace.1 ≤ x.sub + 1) : exec (.kStep core) s = s.act fun s =>
      stepEnd s core x (touching (turned (stepped x en es)) (stepTerms x en (stepped x en es))) (stepTerms x en (stepped x en es))
        (lastPass (stepped x en es)) := by
  change execKStep core s = _
  simp only [execKStep, State.act, coreOk_of_lt hcore, hmq, List.head?_cons, hrun, Bool.false_eq_true, if_false, Bool.not_true]
  rw [hentries]
  dsimp only
  rw [if_neg (not_not.2 hstall), if_neg (Nat.not_lt.2 hpace)]
  unfold stepEnd touching turned stepTerms turns lastPass stepped
  generalize x.advance en x.pace.2 = a
  rfl

end

theorem Gk1.promoteAll_lastWork (s : Gk1) (core : Nat) (x : MxInstr) (l : List (Nat × Term)) (cl : Nat) :
    ((s.promoteAll core x l).cluster cl).lastWork = (s.cluster cl).lastWork := by
  unfold Gk1.promoteAll
  split
  · refine (congrArg Cluster.lastWork (Gk1.cluster_modCluster ..)).trans ?_
    split
    · next h => rw [h]
    · rfl
  · rfl

/-- With no term a promotion leaves the totals. -/
theorem Gk1.promoteAll_nil_totals (s : Gk1) (core : Nat) (x : MxInstr) (c : Nat) :
    ((s.promoteAll core x []).core c).totals = (s.core c).totals ∧ ((s.promoteAll core x []).core c).mq = (s.core c).mq := by
  unfold Gk1.promoteAll
  split
  · exact ⟨rfl, rfl⟩
  · rw [Gk1.core_modCore]
    split
    · next h => rw [← h]; exact ⟨NMap.upd_id _ _ _ fun _ => rfl, rfl⟩
    · exact ⟨rfl, rfl⟩

/-- A step ends in a next state, of which cores change in queues, pipelines and totals alone. -/
theorem stepEnd_keeps (s : Gk1) (core : Nat) (x y : MxInstr) (terms : List (Nat × Term)) (final : Bool) :
    ∃ t, stepEnd s core x y terms final = .next t ∧ ArrayKeeps s t := by
  unfold stepEnd
  split
  · exact ⟨_, rfl, ArrayKeeps.of_eq (Gk1.gangAclk_cores ..) (Gk1.gangAclk_dram ..)⟩
  · refine ⟨_, rfl, ((((ArrayKeeps.stepStarts ..).trans (ArrayKeeps.promoteAll ..)).trans (ArrayKeeps.modCore _ _ _ fun C => ?_)).trans
      (ArrayKeeps.countAclk ..))⟩
    split <;> exact ⟨_, _, _, rfl⟩

/-- An ACLK of an array always ends in a next state, of which cores change in queues, pipelines and totals alone. -/
theorem exec_kStep_keeps {core : Nat} {s : State} {x : MxInstr} {rest : List MxInstr} (hcore : core < nCores)
    (hmq : (s.core core).mq = x :: rest) (hrun : s.mayRun core x = true) :
    ∃ t, exec (.kStep core) s = .next t ∧ ArrayKeeps s.toGk1 t.toGk1 := by
  cases hentries : x.entries with
  | nil => exact ⟨_, exec_kStep_empty hcore hmq hrun hentries, ArrayKeeps.countAclk ..⟩
  | cons en es =>
    by_cases hstall : en.stall = 0
    · by_cases hpace : x.sub + 1 < x.pace.1
      · exact ⟨_, exec_kStep_on hcore hmq hrun hentries hstall hpace,
          ((ArrayKeeps.stepStarts ..).trans (ArrayKeeps.setMx ..)).trans (ArrayKeeps.countAclk ..)⟩
      · rw [exec_kStep_last hcore hmq hrun hentries hstall (Nat.not_lt.1 hpace)]
        exact act_exists (stepEnd_keeps ..)
    · exact ⟨_, exec_kStep_wait hcore hmq hrun hentries hstall, (ArrayKeeps.setMx ..).trans (ArrayKeeps.countAclk ..)⟩

theorem ArrayKeeps.store_groups {s t : Gk1} (h : ArrayKeeps s t) (core : Nat) :
    (t.core core).store = (s.core core).store ∧ (t.core core).groups = (s.core core).groups := by
  obtain ⟨_, _, _, hc⟩ := h.core core
  rw [hc]
  exact ⟨rfl, rfl⟩

/-- Without a term a step that is not the last puts the instruction back. -/
theorem stepEnd_nil {s : Gk1} {core : Nat} {x y : MxInstr} {rest : List MxInstr} (hmq : (s.core core).mq = x :: rest)
    (hrid : x.rid = y.rid) : ∃ t, stepEnd s core x y [] false = .next t ∧ y ∈ (t.core core).mq ∧
      (t.core core).totals = (s.core core).totals ∧ (x.sub = 0 → (t.cluster (clusterOf core)).lastWork = s.dtime) := by
  have hnil : (!([] : List (Nat × Term)).isEmpty && s.promoteHeld core x) = false := rfl
  have hput : ∀ C : Core, (if false = true then { C with
      mq := C.mq.filter (fun z => z.rid ≠ x.rid), pipe := C.pipe ++ [{ y with arrayDone := true }] } else C.setMx y) = C.setMx y :=
    fun _ => if_neg Bool.false_ne_true
  have hstarts : (s.stepStarts core x).core core = s.core core := by rw [Gk1.core, Gk1.stepStarts_cores, Gk1.core]
  have hstep : ∀ t : Gk1, t.core core = ((((s.stepStarts core x).promoteAll core y []).modCore core fun C => C.setMx y).core core) →
      y ∈ (t.core core).mq ∧ (t.core core).totals = (s.core core).totals := by
    intro t ht
    obtain ⟨htotals, hmq'⟩ := Gk1.promoteAll_nil_totals (s.stepStarts core x) core y core
    rw [ht, Gk1.core_modCore, if_pos rfl]
    refine ⟨Core.mem_setMx_mq (y := x) _ _ ?_ hrid, htotals.trans (by rw [hstarts])⟩
    rw [hmq', hstarts, hmq]
    exact List.mem_cons_self
  unfold stepEnd
  simp only [hnil, hput]
  rw [if_neg Bool.false_ne_true]
  refine ⟨_, rfl, ?_, ?_, fun hsub => ?_⟩
  · exact (hstep _ (by rw [Gk1.core, Gk1.countAclk_cores, Gk1.core])).1
  · exact (hstep _ (by rw [Gk1.core, Gk1.countAclk_cores, Gk1.core])).2
  · rw [Gk1.countAclk_lastWork]
    refine (Gk1.promoteAll_lastWork ..).trans ?_
    unfold Gk1.stepStarts
    rw [if_neg (not_not.2 hsub), Gk1.cluster_modCluster, if_pos rfl]

/-- Within a pass and without a term: the K positions are behind the instruction. -/
theorem stepEnd_within {s : Gk1} {core : Nat} {x : MxInstr} {rest : List MxInstr} {en : FeedEntry} {es : List FeedEntry}
    (hmq : (s.core core).mq = x :: rest) (hterms : (x.advance en x.pace.2).2 = []) (hpass : x.kpos + x.pace.2 < x.mnk.2.2) :
    ∃ t y, stepEnd s core x (touching (turned (stepped x en es)) (stepTerms x en (stepped x en es))) (stepTerms x en (stepped x en es))
        (lastPass (stepped x en es)) = .next t ∧ y ∈ (t.core core).mq ∧ y.rid = x.rid ∧
      y.kpos = x.kpos + x.pace.2 ∧ y.runs = (x.advance en x.pace.2).1.runs ∧
      y.entries = (if (x.kpos + x.pace.2) % 8 = 0 then es else en :: es) ∧ (t.core core).totals = (s.core core).totals ∧
      (x.sub = 0 → (t.cluster (clusterOf core)).lastWork = s.dtime) := by
  obtain ⟨runs, hadv⟩ := MxInstr.advance_fst x en x.pace.2
  have hy : stepped x en es = { x with
      runs := runs, kpos := x.kpos + x.pace.2, sub := 0, entries := if (x.kpos + x.pace.2) % 8 = 0 then es else en :: es } := by
    unfold stepped
    rw [hadv]
  have hruns : (x.advance en x.pace.2).1.runs = runs := by rw [hadv]
  have hk : decide ((stepped x en es).mnk.2.2 ≤ (stepped x en es).kpos) = false := by
    rw [hy]
    exact decide_eq_false (Nat.not_le.2 hpass)
  have hlast : lastPass (stepped x en es) = false := by unfold lastPass; rw [hk]; rfl
  have hturns : turns (stepped x en es) = false := by unfold turns; rw [hk]; rfl
  have hst : stepTerms x en (stepped x en es) = [] := by
    unfold stepTerms
    rw [hturns, if_neg Bool.false_ne_true, hterms]
  have hturned : turned (stepped x en es) = stepped x en es := by
    unfold turned
    rw [hturns, if_neg Bool.false_ne_true]
  rw [hst, hturned, hlast]
  have hrid : x.rid = (touching (stepped x en es) []).rid := by rw [hy]; rfl
  obtain ⟨t, ht, hmem, htotals, hwork⟩ := stepEnd_nil (y := touching (stepped x en es) []) hmq hrid
  refine ⟨t, touching (stepped x en es) [], ht, hmem, hrid.symm, ?_, ?_, ?_, htotals, hwork⟩
  · rw [hy]; rfl
  · rw [hy, hruns]; rfl
  · rw [hy]; rfl

/-! ## Completion -/

/-- The DONE arrival of an instruction without a drain. -/
def doneArrival (s : Gk1) (core : Nat) (x : MxInstr) : Gk1 :=
  match x.drain, mxDone x.w1.toNat with
  | none, some b => s.sendArrival core x.slot x.kid (s.kernelCtx x.kid) b 3
  | _, _ => s

/-- An instruction with the tiles of its last terms noted. -/
def closed (x : MxInstr) : MxInstr := { x with touched := (x.touched ++ tilesOf x.closeRuns).eraseDups }

theorem doneArrival_cores_dram (s : Gk1) (core : Nat) (x : MxInstr) :
    (∀ c, (doneArrival s core x).core c = s.core c) ∧ (doneArrival s core x).dram = s.dram := by
  unfold doneArrival
  split <;> exact ⟨fun _ => rfl, rfl⟩

theorem doneArrival_cluster (s : Gk1) (core : Nat) (x : MxInstr) (cl : Nat) : (doneArrival s core x).cluster cl = s.cluster cl := by
  unfold doneArrival
  split <;> rfl

/-- The arrival on DONE. -/
theorem doneArrival_msg {s : Gk1} {core b : Nat} {x : MxInstr} (hdrain : x.drain = none) (hb : mxDone x.w1.toNat = some b) :
    NMap.get? (doneArrival s core (closed x)).msgs s.nextId = some { kind := .arrival, core := core, slot := x.slot, kid := x.kid, ctx := s.kernelCtx x.kid, bar := b, src := 3 } := by
  have h : doneArrival s core (closed x) = s.sendArrival core x.slot x.kid (s.kernelCtx x.kid) b 3 := by
    unfold doneArrival closed
    simp only [hdrain, hb]
  rw [h]
  exact (NMap.get?_set ..).trans (if_pos rfl)

theorem sendArrival_core (s : Gk1) (core slot kid ctx bar src c : Nat) : (s.sendArrival core slot kid ctx bar src).core c = s.core c := rfl

theorem modWgs_core (s : Gk1) (cl gid : Nat) (f : WGroup → WGroup) (c : Nat) : (s.modWgs cl gid f).core c = s.core c := rfl

theorem modCluster_core (s : Gk1) (cl : Nat) (f : Cluster → Cluster) (c : Nat) : (s.modCluster cl f).core c = s.core c := rfl

/-- What an OPREL arrival leaves of a core. -/
theorem arriveOprel_frame (s : Gk1) (core : Nat) (x : MxInstr) :
    ((s.arriveOprel core x).core core).totals = (s.core core).totals ∧ ((s.arriveOprel core x).core core).store = (s.core core).store ∧
    ((s.arriveOprel core x).core core).pipe.filter (fun y => y.rid ≠ x.rid) = (s.core core).pipe.filter (fun y => y.rid ≠ x.rid) ∧
    s.nextId ≤ (s.arriveOprel core x).nextId ∧ (s.arriveOprel core x).nextId ≤ s.nextId + 1 ∧
    (s.arriveOprel core x).dram = s.dram := by
  unfold Gk1.arriveOprel
  split
  · exact ⟨rfl, rfl, rfl, le_rfl, Nat.le_succ _, rfl⟩
  · split
    · exact ⟨rfl, rfl, rfl, le_rfl, Nat.le_succ _, rfl⟩
    · rw [sendArrival_core, Gk1.core_modCore, if_pos rfl]
      exact ⟨rfl, rfl, Core.filter_setMx_pipe (s.core core) { x with oprelDone := true }, Nat.le_succ _, le_rfl, rfl⟩

/-- The part after the last promotion of an mma. -/
def mmaDone (s : Gk1) (core : Nat) (x : MxInstr) : Gk1 :=
  (((((s.arriveOprel core x).promoteAll core (closed x) x.closeRuns).modCore core fun C =>
    { C with pipe := C.pipe.filter fun y => y.rid ≠ x.rid }).modCore core fun C =>
    { C with totals := NMap.upd C.totals x.tid fun t => { t with tsw := tswSum t.tsw x.tsw, count := min (t.count + 1) 0xFFFF } }))

theorem complete_mma {s : Gk1} {core : Nat} {x : MxInstr} (hkind : x.kind = .mma) :
    s.complete core x = doneArrival (mmaDone s core x) core (closed x) := by
  unfold Gk1.complete
  have hk : ¬ x.kind = .mmaWg := by rw [hkind]; exact fun h => nomatch h
  dsimp only
  rw [if_neg hk]
  rfl

theorem mmaDone_core {s : Gk1} {core : Nat} {x : MxInstr} (hkind : x.kind = .mma) :
    (mmaDone s core x).core core = { (s.arriveOprel core x).core core with
      pipe := ((s.arriveOprel core x).core core).pipe.filter fun y => y.rid ≠ x.rid
      totals := NMap.upd (NMap.upd ((s.arriveOprel core x).core core).totals x.tid fun t => t.take x.closeRuns) x.tid fun t =>
        { t with tsw := tswSum t.tsw x.tsw, count := min (t.count + 1) 0xFFFF } } := by
  have hk : ¬ (closed x).kind = .mmaWg := by
    change ¬ x.kind = .mmaWg
    rw [hkind]
    exact fun h => nomatch h
  unfold mmaDone Gk1.promoteAll
  rw [if_neg hk, Gk1.core_modCore, if_pos rfl, Gk1.core_modCore, if_pos rfl, Gk1.core_modCore, if_pos rfl]
  rfl

theorem exec_mxComplete {kind : MxKind} {core rid : Nat} {s : State} {x : MxInstr} (hcore : core < nCores)
    (hx : ((s.core core).pipe.find? fun x => x.rid = rid) = some x) (hkind : x.kind = kind) (hheld : s.promoteHeld core x = false) :
    (s.act fun s => mxComplete kind core rid s) = .next (became s (s.complete core x)) := by
  refine State.act_of_next _ _ _ ?_
  have hk : (decide (x.kind ≠ kind) || s.promoteHeld core x) = false := by rw [hheld, hkind]; simp
  unfold mxComplete
  simp only [coreOk_of_lt hcore, hx, hk, Bool.false_eq_true, if_false]

/-- The part after the last promotion of an mma.wg into the gradient store. -/
def mmaWgDone (s : Gk1) (core : Nat) (x : MxInstr) : Gk1 :=
  (((((s.arriveOprel core x).promoteAll core (closed x) x.closeRuns).modCore core fun C =>
    { C with pipe := C.pipe.filter fun y => y.rid ≠ x.rid }).modWgs (clusterOf core) x.gid fun g => { g with
      tiles := (closed x).touched.foldl (fun ts t =>
        let w : WTile := NMap.getD ts t {}
        NMap.set ts t { w with insts := NMap.set w.insts x.rid x.tsw }) g.tiles }).modCluster
    (clusterOf core) fun c => ({ c with wops := c.wops.filter fun o => o.rid ≠ x.rid }).runDiscards)

theorem complete_mmaWg {s : Gk1} {core : Nat} {x : MxInstr} (hkind : x.kind = .mmaWg) :
    s.complete core x = doneArrival (mmaWgDone s core x) core (closed x) := by
  unfold Gk1.complete
  dsimp only
  rw [if_pos hkind]
  rfl

theorem mmaDone_frame (s : Gk1) {core : Nat} {x : MxInstr} (hkind : x.kind = .mma) :
    (mmaDone s core x).nextId = (s.arriveOprel core x).nextId ∧ (mmaDone s core x).dram = (s.arriveOprel core x).dram := by
  have hk : ¬ (closed x).kind = .mmaWg := by
    change ¬ x.kind = .mmaWg
    rw [hkind]
    exact fun h => nomatch h
  unfold mmaDone Gk1.promoteAll
  rw [if_neg hk]
  exact ⟨rfl, rfl⟩

theorem mmaWgDone_dram (s : Gk1) (core : Nat) (x : MxInstr) :
    (mmaWgDone s core x).dram = (s.arriveOprel core x).dram := by
  unfold mmaWgDone
  exact (ArrayKeeps.promoteAll ..).dram

theorem mmaWgDone_core {s : Gk1} {core : Nat} {x : MxInstr} (hkind : x.kind = .mmaWg) :
    (mmaWgDone s core x).core core = { (s.arriveOprel core x).core core with
      pipe := ((s.arriveOprel core x).core core).pipe.filter fun y => y.rid ≠ x.rid } := by
  have hk : (closed x).kind = .mmaWg := hkind
  unfold mmaWgDone Gk1.promoteAll
  rw [if_pos hk, modCluster_core, modWgs_core, Gk1.core_modCore, if_pos rfl, modWgs_core]

/-- Discards only end operations. -/
theorem runDiscards_wops (c : Cluster) : ∀ o ∈ c.runDiscards.wops, o ∈ c.wops := by
  unfold Cluster.runDiscards
  refine List.foldlRecOn (motive := fun d : Cluster => ∀ o ∈ d.wops, o ∈ c.wops) _ _ (fun _ h => h) fun d hd p _ => ?_
  split
  · exact hd
  · exact fun o ho => hd o (List.mem_of_mem_filter ho)

theorem mmaWgDone_wops (s : Gk1) (core : Nat) (x : MxInstr) : ∀ o ∈ ((mmaWgDone s core x).cluster (clusterOf core)).wops, o.rid ≠ x.rid := by
  intro o ho
  unfold mmaWgDone at ho
  rw [Gk1.cluster_modCluster, if_pos rfl] at ho
  simpa using (List.mem_filter.1 (runDiscards_wops _ o ho)).2

/-- Settles O27. -/
theorem matrixArrays : Obligations.MatrixArrays := by
  unfold Obligations.MatrixArrays
  refine ⟨fun core s hcore => ?_, fun core s hcore => ?_⟩
  · refine ⟨fun x hx hroom hpower => ?_, fun rid x b hx hb hforms hfed hdone => ?_⟩
    · obtain ⟨en, tsw, badV, badK, wc, h⟩ := exec_feederFill hcore hx hroom hpower
      obtain ⟨⟨totals, hc⟩, hother, hdram⟩ := fedBy_feeds s.toGk1 core x (filled x en tsw) badV badK wc
      refine ⟨_, filled x en tsw, h, ?_, rfl, ?_, ?_, ?_, ?_, hdram, hother⟩
      · rw [core_became, hc]
        exact Core.mem_setMx_mq _ _ (List.mem_of_find?_eq_some hx) rfl
      · exact List.length_append
      · unfold filled
        dsimp only
        split <;> rfl
      · rw [core_became, hc]
        exact Core.setMx_mq_length ..
      · rw [core_became, hc]
        rfl
    · refine ⟨_, _, exec_oprelArrival hcore hx hb hforms hfed hdone, (NMap.get?_set ..).trans (if_pos rfl), rfl, rfl, rfl, rfl, rfl, ?_, ?_, rfl⟩
      all_goals
        rw [core_became, sendArrival_core, Gk1.core_modCore, if_pos rfl]
        rfl
  · refine ⟨fun x rest hmq hrun => ⟨?_, fun hempty => ?_, fun en es hentries hstall => ?_, fun en es hentries hstall hpace hterms hpass => ?_⟩,
      fun rid x hx hheld => ⟨fun hkind T hT => ?_, fun hkind => ?_⟩⟩
    · obtain ⟨t, ht, hkeeps⟩ := exec_kStep_keeps hcore hmq hrun
      obtain ⟨hstore, hgroups⟩ := hkeeps.store_groups core
      refine ⟨t, ht, hstore, hkeeps.dram, hgroups, fun hempty => ?_, fun en es hentries hstall => ?_⟩
      · rw [exec_kStep_empty hcore hmq hrun hempty] at ht
        cases ht
        exact Gk1.countAclk_lastWork ..
      · rw [exec_kStep_wait hcore hmq hrun hentries hstall] at ht
        cases ht
        exact Gk1.countAclk_lastWork ..
    · exact ⟨_, exec_kStep_empty hcore hmq hrun hempty, Gk1.countAclk_cores ..⟩
    · refine ⟨_, _, exec_kStep_wait hcore hmq hrun hentries hstall, ?_, rfl, ?_⟩
      all_goals rw [core_became, Gk1.countAclk_core, Gk1.core_modCore, if_pos rfl]
      · exact Core.mem_setMx_mq (y := x) _ _ (by rw [hmq]; exact List.mem_cons_self) rfl
      · rfl
    · obtain ⟨p, y, hp, h⟩ := stepEnd_within (en := en) (es := es) hmq hterms hpass
      refine ⟨_, y, (exec_kStep_last hcore hmq hrun hentries hstall hpace).trans (State.act_of_next _ _ _ hp), h⟩
    · have hrid : x.rid = rid := by simpa using List.find?_some hx
      obtain ⟨htotals, hstore, hpipe, hlow, hhigh, hdram⟩ := arriveOprel_frame s.toGk1 core x
      obtain ⟨hcores, hdram'⟩ := doneArrival_cores_dram (mmaDone s.toGk1 core x) core (closed x)
      obtain ⟨htsw, hcount⟩ := Total.take_frame T x.closeRuns
      obtain ⟨hnext, hdone⟩ := mmaDone_frame s.toGk1 hkind
      have hcomplete := exec_mxComplete hcore hx hkind hheld
      rw [complete_mma hkind] at hcomplete
      refine ⟨_, hcomplete, ?_, ?_, fun b hdrain hb => ?_, ?_, ?_⟩
      · rw [core_became, hcores, mmaDone_core hkind, ← hrid]
        exact hpipe
      · rw [core_became, hcores, mmaDone_core hkind]
        dsimp only
        rw [NMap.get?_upd, if_pos rfl, NMap.get?_upd, if_pos rfl, htotals, hT]
        dsimp only [Option.map_some]
        rw [htsw, hcount]
      · refine ⟨(mmaDone s.toGk1 core x).nextId, _, ?_, ?_, doneArrival_msg hdrain hb, rfl, rfl, rfl, rfl⟩
        · rw [hnext]; exact hlow
        · rw [hnext]; exact hhigh
      · rw [core_became, hcores, mmaDone_core hkind]
        exact hstore
      · exact hdram'.trans (hdone.trans hdram)
    · have hrid : x.rid = rid := by simpa using List.find?_some hx
      obtain ⟨htotals, hstore, hpipe, _, _, hdram⟩ := arriveOprel_frame s.toGk1 core x
      obtain ⟨hcores, hdram'⟩ := doneArrival_cores_dram (mmaWgDone s.toGk1 core x) core (closed x)
      have hcomplete := exec_mxComplete hcore hx hkind hheld
      rw [complete_mmaWg hkind] at hcomplete
      refine ⟨_, hcomplete, ?_, ?_, ?_, ?_, ?_⟩
      · rw [core_became, hcores, mmaWgDone_core hkind, ← hrid]
        exact hpipe
      · rw [← hrid]
        intro o ho
        refine mmaWgDone_wops s.toGk1 core x o ?_
        rwa [cluster_became, doneArrival_cluster] at ho
      · rw [core_became, hcores, mmaWgDone_core hkind]
        exact htotals
      · rw [core_became, hcores, mmaWgDone_core hkind]
        exact hstore
      · exact hdram'.trans ((mmaWgDone_dram s.toGk1 core x).trans hdram)

end Sys2Proof.Claims

/-! Upkeep of the stacks: the guard code of a good word, scrubbing, refresh and sparing. -/

namespace Sys2Proof.Machine

/-! ## The guard code of a word without errors (R395, R397) -/

theorem gfMul_zero (a : Nat) : gfMul a 0 = 0 := by simp [gfMul, gfDouble]

theorem zero_gfMul (b : Nat) : gfMul 0 b = 0 := by simp [gfMul, gfDouble]

/-- Syndromes of zero stay so when a point is removed. -/
theorem gfStrip_zeros (a : Nat) (l : List Nat) (h : ∀ x ∈ l, x = 0) : ∀ x ∈ gfStrip a l, x = 0 := by
  induction l using gfStrip.induct with
  | case1 x y l ih =>
    intro z hz
    obtain ⟨hx, hyl⟩ := List.forall_mem_cons.1 h
    obtain ⟨hy, _⟩ := List.forall_mem_cons.1 hyl
    rw [gfStrip] at hz
    rcases List.mem_cons.1 hz with rfl | hz
    · rw [hx, hy, gfMul_zero, Nat.xor_self]
    · exact ih hyl z hz
  | case2 => intro z hz; exact absurd hz List.not_mem_nil
  | case3 => intro z hz; exact absurd hz List.not_mem_nil

theorem strips_zeros (pt : Nat → Nat) (lanes l : List Nat) (h : ∀ x ∈ l, x = 0) :
    ∀ x ∈ lanes.foldl (fun s l => gfStrip (pt l) s) l, x = 0 :=
  List.foldlRecOn (motive := fun s => ∀ x ∈ s, x = 0) lanes _ h fun _ hs k _ => gfStrip_zeros (pt k) _ hs

/-- Syndromes of zero say that the erased lanes carry no error. -/
theorem gfSolve_zeros (syn lanes : List Nat) (h : ∀ x ∈ syn, x = 0) : gfSolve syn lanes = some (lanes.map fun l => (l, 0)) := by
  have hany : (lanes.foldl (fun s l => gfStrip (gfPow (symPos l)) s) syn).any (· ≠ 0) = false :=
    List.any_eq_false.2 fun x hx => by simpa using strips_zeros _ lanes syn h x hx
  have hhead : ∀ others : List Nat, (others.foldl (fun s o => gfStrip (gfPow (symPos o)) s) syn).getD 0 0 = 0 := by
    intro others
    have hz := strips_zeros (fun o => gfPow (symPos o)) others syn h
    generalize others.foldl (fun s o => gfStrip (gfPow (symPos o)) s) syn = s at hz ⊢
    cases s with
    | nil => rfl
    | cons x l => exact hz x List.mem_cons_self
  unfold gfSolve
  simp only [hany, hhead, zero_gfMul, Bool.false_eq_true, if_false]

/-- A word without errors is read as it stands, while at most four lanes are erased. -/
theorem guardFixBy_zeros (syn erased : List Nat) (h : ∀ x ∈ syn, x = 0) (hfew : erased.length ≤ 4) :
    guardFixBy syn [] erased = some ([], []) := by
  have hdecode : guardDecode syn erased = some (erased.map fun l => (l, 0)) := by
    unfold guardDecode
    simp only [if_neg (Nat.not_lt.2 hfew), gfSolve_zeros syn erased h]
  have hfix : ∀ l, symErr (erased.map fun l => (l, 0)) l 0 = 0 := by
    intro l
    unfold symErr
    refine List.foldlRecOn (motive := fun x => x = 0) _ _ rfl fun x hx e he => ?_
    obtain ⟨k, _, rfl⟩ := List.mem_map.1 he
    rw [hx]
    split
    · exact Nat.xor_self 0
    · rfl
  unfold guardFixBy
  rw [hdecode, Option.map_some]
  have hwrong : ((List.range 32).map fun l => (l, symErr [] l 0 ^^^ symErr (erased.map fun l => (l, 0)) l 0)).filter (fun e => e.2 ≠ 0) = [] := by
    refine List.filter_eq_nil_iff.2 fun e he => ?_
    obtain ⟨l, _, rfl⟩ := List.mem_map.1 he
    rw [hfix, symErr]
    simp
  have hfixed : ((erased.map fun l => (l, 0)).filter fun e : Nat × Nat => e.2 ≠ 0 && !erased.contains e.1) = [] := by
    refine List.filter_eq_nil_iff.2 fun e he => ?_
    obtain ⟨l, _, rfl⟩ := List.mem_map.1 he
    simp
  rw [hwrong, hfixed]
  rfl

theorem guardCheck_length (data : List Nat) (addr : Nat) : (guardCheck data addr).length = 4 := by
  unfold guardCheck
  exact List.foldlRecOn (motive := fun c : List Nat => c.length = 4) _ _ rfl fun _ _ _ _ => rfl

theorem sectorBytes_length (m : Mem) (base sec : Nat) : (sectorBytes m base sec).length = 32 := by
  simp [sectorBytes, Mem.bytes]

/-- A word read as it was stored has syndromes of zero. -/
theorem wordSyn_wordSymbols (data : List Byte) (addr : Nat) (hlen : data.length = 32) :
    ∀ x ∈ wordSyn ((List.range 36).map fun l => symErr [] l ((wordSymbols data addr).getD l 0)) addr, x = 0 := by
  have hsent : (wordSymbols data addr).length = 36 := by
    rw [wordSymbols, List.length_append, List.length_map, hlen, guardCheck_length]
  have hread : ((List.range 36).map fun l => symErr [] l ((wordSymbols data addr).getD l 0)) = wordSymbols data addr := by
    refine List.ext_getElem (by rw [List.length_map, List.length_range, hsent]) fun i h1 h2 => ?_
    rw [List.getElem_map, List.getElem_range, symErr, List.foldl_nil, List.getD_eq_getElem _ _ h2]
  have htake : (wordSymbols data addr).take 32 = data.map BitVec.toNat := by
    rw [wordSymbols, List.take_left' (by rw [List.length_map, hlen])]
  have hcheck : ∀ i, (wordSymbols data addr).getD (32 + i) 0 = (guardCheck (data.map BitVec.toNat) addr).getD i 0 := by
    intro i
    have hd : (data.map BitVec.toNat).length = 32 := by rw [List.length_map, hlen]
    rw [wordSymbols, List.getD_append_right _ _ _ _ (by rw [hd]; exact Nat.le_add_right _ _), hd, Nat.add_sub_cancel_left]
  rw [hread]
  intro x hx
  unfold wordSyn at hx
  obtain ⟨j, _, rfl⟩ := List.mem_map.1 hx
  refine List.foldlRecOn (motive := fun x => x = 0) _ _ rfl fun y hy i _ => ?_
  rw [hy, htake, hcheck, Nat.xor_self, zero_gfMul, Nat.xor_self]

/-- A word without errors is read as it stands. -/
theorem readWord_clean (gid sec : Nat) (data : List Byte) (erased : List Nat) (hlen : data.length = 32) (hfew : erased.length ≤ 4) :
    readWord gid sec data [] erased = some ([], []) :=
  guardFixBy_zeros _ _ (wordSyn_wordSymbols data _ hlen) hfew

theorem firstSome_mem {α β : Type} {f : α → Option β} {l : List α} {b : β} (h : firstSome f l = some b) : ∃ a ∈ l, f a = some b := by
  induction l with
  | nil => cases h
  | cons x l ih =>
    rw [firstSome] at h
    cases hx : f x with
    | some c =>
      rw [hx] at h
      exact ⟨x, List.mem_cons_self, hx.trans h⟩
    | none =>
      rw [hx] at h
      obtain ⟨a, ha, hb⟩ := ih h
      exact ⟨a, List.mem_cons_of_mem _ ha, hb⟩

theorem gfSolve_length {syn lanes : List Nat} {r : List (Nat × Nat)} (h : gfSolve syn lanes = some r) : r.length = lanes.length := by
  unfold gfSolve at h
  dsimp only at h
  split at h
  · cases h
  · cases h
    exact List.length_map _

/-- The decoder removes errors of at most two lanes that were not erased. -/
theorem guardDecode_length {syn erased : List Nat} {fix : List (Nat × Nat)} (h : guardDecode syn erased = some fix) :
    fix.length ≤ erased.length + 2 := by
  unfold guardDecode at h
  dsimp only at h
  split at h
  · cases h
  · split at h
    · next r hr =>
      cases h
      exact (gfSolve_length hr).le.trans (Nat.le_add_right _ _)
    · split at h
      · cases h
      · split at h
        · next r hr =>
          cases h
          obtain ⟨l, _, hl⟩ := firstSome_mem hr
          rw [gfSolve_length hl, List.length_append]
          simp
        · split at h
          · cases h
          · obtain ⟨l, _, hl⟩ := firstSome_mem h
            obtain ⟨k, _, hk⟩ := firstSome_mem hl
            split at hk
            · rw [gfSolve_length hk, List.length_append]
              simp
            · cases hk

/-- At most two lanes beside the erased ones are corrected. -/
theorem readWord_fixed_length {gid sec : Nat} {data : List Byte} {err wrong : List (Nat × Nat)} {erased fixed : List Nat}
    (h : readWord gid sec data err erased = some (wrong, fixed)) : fixed.length ≤ erased.length + 2 := by
  unfold readWord guardFixBy at h
  dsimp only at h
  obtain ⟨fix, hfix, heq⟩ := Option.map_eq_some_iff.1 h
  rw [← (Prod.mk.inj heq).2, List.length_map]
  exact (List.length_filter_le ..).trans (guardDecode_length hfix)

/-! ## Lanes -/

theorem Gk1.channel_modChannel (s : Gk1) (r c : Nat) (f : Channel → Channel) (q d : Nat) :
    ((s.modChannel r c f).region q).channel d = if r = q ∧ c = d then f ((s.region r).channel c) else (s.region q).channel d := by
  unfold Gk1.modChannel
  rw [Gk1.region_modRegion]
  by_cases hr : r = q
  · subst hr
    rw [if_pos rfl, Region.channel, NMap.getD_set]
    by_cases hc : c = d
    · simp [hc]
    · simp [hc, Region.channel]
  · simp [hr]

/-- What happens to a channel changes its region's channels alone. -/
theorem Gk1.region_modChannel (s : Gk1) (r c : Nat) (f : Channel → Channel) (q : Nat) :
    ∃ cs, (s.modChannel r c f).region q = { s.region q with channels := cs } := by
  unfold Gk1.modChannel
  rw [Gk1.region_modRegion]
  split
  · next h => exact ⟨_, by rw [← h]⟩
  · exact ⟨_, rfl⟩

theorem Channel.erasuresAt_length (C : Channel) (slot : Nat) : (C.erasuresAt slot).length ≤ C.erasures.length := by
  unfold Channel.erasuresAt
  split
  · next l p hre =>
    split
    · exact (List.length_filter_le ..).trans (by rw [Channel.erasures, List.length_append]; exact Nat.le_add_right _ _)
    · exact le_rfl
  · exact le_rfl

theorem Channel.erasuresAt_nil {C : Channel} (h : C.erasures = []) (slot : Nat) : C.erasuresAt slot = [] :=
  List.eq_nil_of_length_eq_zero (Nat.le_zero.1 ((C.erasuresAt_length slot).trans (by rw [h]; rfl)))

/-- No lane is on its way out without erasures. -/
theorem Channel.rebuild_of_erasures_nil {C : Channel} (h : C.erasures = []) : C.rebuild = none := by
  obtain ⟨he, hr⟩ := List.append_eq_nil_iff.1 (show C.erased ++ _ = [] from h)
  cases hre : C.rebuild with
  | none => rfl
  | some lp =>
    rw [hre, he] at hr
    exact absurd hr (List.cons_ne_nil _ _)

/-- The lane erased or rebuilt. -/
def Channel.loses (C0 C : Channel) (lane : Nat) : Channel :=
  if C.erasures.contains lane then C0
  else if C.rebuild.isSome || C.hasSpare.isNone then { C0 with erased := C.erased ++ [lane] }
  else { C0 with rebuild := some (lane, 0) }

theorem Channel.loses_erasures (C : Channel) (lane : Nat) : (C.loses C lane).erasures.length ≤ C.erasures.length + 1 := by
  unfold Channel.loses
  split
  · exact Nat.le_succ _
  · split
    · simp only [Channel.erasures, List.length_append]
      cases C.rebuild with
      | none => simp
      | some lp =>
        by_cases h : C.erased.contains lp.1
        · have h' : (C.erased ++ [lane]).contains lp.1 = true := by
            rw [List.contains_eq_mem, decide_eq_true_eq] at h ⊢
            exact List.mem_append_left _ h
          simp only [h, h', if_true]
          simp
        · rw [Bool.not_eq_true] at h
          simp only [h, Bool.false_eq_true, if_false]
          split <;> simp
    · simp only [Channel.erasures, List.length_append]
      split
      · simp
        omega
      · simp

/-- What a lane's loss leaves of a part: memory, the counts of its regions, and at most one more erasure in the channel. -/
structure LaneLost (n : Nat) (s t : Gk1) : Prop where
  dram : t.dram = s.dram
  corr : ∀ r, (t.region r).corr = (s.region r).corr
  erasures : ∀ r c, ((t.region r).channel c).erasures.length ≤ ((s.region r).channel c).erasures.length + n

theorem LaneLost.refl (s : Gk1) : LaneLost 0 s s := ⟨rfl, fun _ => rfl, fun _ _ => le_rfl⟩

theorem LaneLost.trans {m n : Nat} {s t u : Gk1} (h : LaneLost m s t) (h' : LaneLost n t u) : LaneLost (m + n) s u where
  dram := h'.dram.trans h.dram
  corr r := (h'.corr r).trans (h.corr r)
  erasures r c := by
    have h1 := h.erasures r c
    have h2 := h'.erasures r c
    omega

theorem LaneLost.loseStack (s : Gk1) (r : Nat) : LaneLost 0 s (s.loseStack r) := by
  unfold Gk1.loseStack
  split
  · exact LaneLost.refl s
  · have hregion : ∀ rep q, ((s.modRegion r fun R => { R with stackLost := true }).report rep).region q =
        if r = q then { s.region r with stackLost := true } else s.region q := by
      intro rep q
      rw [Gk1.region, Gk1.report_regions]
      exact Gk1.region_modRegion ..
    refine ⟨by rw [Gk1.report_dram]; rfl, fun q => ?_, fun q c => ?_⟩
    all_goals
      rw [hregion]
      split
      · next h => subst h; rfl
      · rfl

theorem LaneLost.modChannel (s : Gk1) (r c n : Nat) (f : Channel → Channel)
    (hf : (f ((s.region r).channel c)).erasures.length ≤ ((s.region r).channel c).erasures.length + n) :
    LaneLost n s (s.modChannel r c f) where
  dram := rfl
  corr q := by
    obtain ⟨cs, h⟩ := s.region_modChannel r c f q
    rw [h]
  erasures q d := by
    rw [Gk1.channel_modChannel]
    split
    · next h => rw [← h.1, ← h.2]; exact hf
    · exact Nat.le_add_right _ _

theorem LaneLost.eraseLane (s : Gk1) (r c lane : Nat) : LaneLost 1 s (s.eraseLane r c lane) := by
  have hlane : LaneLost 1 s (s.modChannel r c fun C0 => C0.loses ((s.region r).channel c) lane) :=
    LaneLost.modChannel _ _ _ _ _ (Channel.loses_erasures _ _)
  unfold Gk1.eraseLane
  dsimp only
  change LaneLost 1 s (if 4 < (((s.modChannel r c fun C0 => C0.loses ((s.region r).channel c) lane).region r).channel c).lost
    then (s.modChannel r c fun C0 => C0.loses ((s.region r).channel c) lane).loseStack r
    else s.modChannel r c fun C0 => C0.loses ((s.region r).channel c) lane)
  split
  · exact hlane.trans (LaneLost.loseStack ..)
  · exact hlane

/-! ## Scrubbing one word -/

/-- A good word's scrub changes nothing. -/
theorem scrubWord_clean (s : Gk1) (gid sec : Nat) (hfew : ((s.region (gStack gid)).channel (gChannel gid)).erasures.length ≤ 4) :
    s.scrubWord gid sec [] = s := by
  unfold Gk1.scrubWord
  split
  · rfl
  · dsimp only
    rw [readWord_clean _ _ _ _ (sectorBytes_length ..) ((Channel.erasuresAt_length ..).trans hfew)]
    rfl

theorem xorBytes_nil (bs : List Byte) : xorBytes bs [] = bs := by
  unfold xorBytes
  simp only [List.foldl_nil]
  exact List.map_snd_zip (by rw [List.length_range])

/-- Bytes written back over themselves read the same. -/
theorem Mem.read_writeAll_bytes (m : Mem) (a n x : Nat) : Mem.read (Mem.writeAll m a (Mem.bytes m a n)) x = Mem.read m x := by
  have hlen : (Mem.bytes m a n).length = n := by simp [Mem.bytes]
  by_cases h : x < a ∨ a + n ≤ x
  · exact Mem.read_writeAll_other _ _ _ _ (by rw [hlen]; exact h)
  · obtain ⟨i, rfl⟩ := Nat.exists_eq_add_of_le (show a ≤ x by omega)
    have hi : i < (Mem.bytes m a n).length := by rw [hlen]; omega
    rw [Mem.read_writeAll _ _ _ _ hi]
    simp [Mem.bytes]

/-- The scrub of a word whose errors are all corrected: it is counted once, and what it reads as stays. -/
theorem scrubWord_fixed (s : Gk1) (gid sec : Nat) (err : List (Nat × Nat)) (fixed : List Nat) (hlisted : s.listed gid sec = false)
    (hgood : ((s.region (gStack gid)).channel (gChannel gid)).erasures = [])
    (hread : readWord gid sec (sectorBytes s.dram (gid * 256) sec) err [] = some ([], fixed)) :
    (∀ a, Mem.read (s.scrubWord gid sec err).dram a = Mem.read s.dram a) ∧
    ((s.scrubWord gid sec err).region (gStack gid)).corr =
      (if fixed = [] then (s.region (gStack gid)).corr else min ((s.region (gStack gid)).corr + 1) 0xFFFF) ∧
    (((s.scrubWord gid sec err).region (gStack gid)).channel (gChannel gid)).erasures.length ≤ 4 := by
  unfold Gk1.scrubWord
  rw [hlisted, if_neg Bool.false_ne_true]
  dsimp only
  rw [Channel.erasuresAt_nil hgood, hread]
  dsimp only
  by_cases hfixed : fixed = []
  · rw [hfixed]
    refine ⟨fun _ => rfl, rfl, ?_⟩
    change ((s.region (gStack gid)).channel (gChannel gid)).erasures.length ≤ 4
    rw [hgood]
    exact Nat.zero_le _
  · have hempty : (fixed.isEmpty && ([] : List (Nat × Nat)).isEmpty) = false := by
      rw [List.isEmpty_eq_false_iff.2 hfixed]
      rfl
    rw [hempty, if_neg Bool.false_ne_true, if_neg hfixed, xorBytes_nil]
    have hfew : fixed.length ≤ 2 := readWord_fixed_length hread
    have hcount : ∀ (l : List Nat) (u : Gk1), LaneLost l.length u (l.foldl (fun s l =>
        let n := NMap.getD ((s.region (gStack gid)).channel (gChannel gid)).laneCorr l 0 + 1
        let s := s.modChannel (gStack gid) (gChannel gid) fun C => { C with laneCorr := NMap.set C.laneCorr l n }
        let thr := fld s.scrubCtl 16 8
        if thr ≠ 0 && decide (thr ≤ n) then s.eraseLane (gStack gid) (gChannel gid) l else s) u) := by
      intro l
      induction l with
      | nil => exact LaneLost.refl
      | cons lane l ih =>
        intro u
        rw [List.foldl_cons, List.length_cons, Nat.add_comm]
        refine LaneLost.trans ?_ (ih _)
        dsimp only
        have hset : LaneLost 0 u (u.modChannel (gStack gid) (gChannel gid) fun C => { C with
            laneCorr := NMap.set C.laneCorr lane (NMap.getD ((u.region (gStack gid)).channel (gChannel gid)).laneCorr lane 0 + 1) }) :=
          LaneLost.modChannel _ _ _ _ _ le_rfl
        split
        · exact hset.trans (LaneLost.eraseLane ..)
        · exact ⟨hset.dram, hset.corr, fun r c => (hset.erasures r c).trans (Nat.le_succ _)⟩
    have h := hcount fixed { s.modRegion (gStack gid) fun R => { R with corr := upTo16 (R.corr + 1) } with
      dram := Mem.writeAll s.dram (gid * 256 + 32 * sec) (sectorBytes s.dram (gid * 256) sec) }
    have hregion : ∀ d : Mem, ({ s.modRegion (gStack gid) fun R => { R with corr := upTo16 (R.corr + 1) } with dram := d } : Gk1).region (gStack gid) =
        { s.region (gStack gid) with corr := upTo16 ((s.region (gStack gid)).corr + 1) } :=
      fun d => (show _ = (s.modRegion (gStack gid) fun R => { R with corr := upTo16 (R.corr + 1) }).region (gStack gid) from rfl).trans
        ((Gk1.region_modRegion ..).trans (if_pos rfl))
    refine ⟨fun a => ?_, ?_, ?_⟩
    · exact (congrArg (fun m => Mem.read m a) h.dram).trans (Mem.read_writeAll_bytes ..)
    · exact (h.corr _).trans (congrArg Region.corr (hregion _))
    · refine (h.erasures _ _).trans ?_
      rw [hregion]
      change ((s.region (gStack gid)).channel (gChannel gid)).erasures.length + _ ≤ 4
      rw [hgood]
      simp only [List.length_nil]
      omega

end Sys2Proof.Machine

namespace Sys2Proof.Claims

open Sys2Proof.Machine

/-! ## Refresh, retraining, the sweep and MEM_SEL -/

theorem exec_dramRefresh {s : State} {r c b : Nat} (hr : r < 64) (hc : c < 32) (hb : b < 64)
    (hdue : ∀ t0, NMap.get? ((s.region r).channel c).refreshed b = some t0 →
      t0 + (if (s.region r).hot = true then 1950 else 3900) ≤ s.dtime) :
    exec (.dramRefresh r c b) s = .next (became s (s.modChannel r c fun C => { C with refreshed := NMap.set C.refreshed b s.dtime })) := by
  change execDramRefresh r c b s = _
  refine State.act_of_next _ _ _ ?_
  simp only [hr, hc, hb, decide_true, Bool.and_self, Bool.not_true, Bool.false_eq_true, if_false]
  cases h : NMap.get? ((s.region r).channel c).refreshed b with
  | none => rfl
  | some t0 => exact if_pos (decide_eq_true (hdue t0 h))

theorem exec_dramRetrain {s : State} {r c : Nat} (hr : r < 64) (hc : c < 32)
    (hdue : ∀ t0, ((s.region r).channel c).retrained = some t0 → t0 + 100000000 ≤ s.dtime) :
    exec (.dramRetrain r c) s = .next (became s (s.modChannel r c fun C => { C with retrained := some s.dtime })) := by
  change execDramRetrain r c s = _
  refine State.act_of_next _ _ _ ?_
  simp only [hr, hc, decide_true, Bool.and_self, Bool.not_true, Bool.false_eq_true, if_false]
  cases h : ((s.region r).channel c).retrained with
  | none => rfl
  | some t0 => exact if_neg (Nat.not_lt.2 (hdue t0 h))

theorem exec_memSelClr {s : State} (v : BitVec 32) (hwork : s.blocksWork = true) :
    exec (.memSelClr v) s = .next (became s (s.writeMemSel v.toNat)) := by
  change execMemSelClr v s = _
  refine State.act_of_next _ _ _ (congrArg _ ?_)
  simp [Gk1.writeReg, Reg.gated, hwork, Gk1.writePtMem]

/-- MEM_SEL keeps the region's number; CLR clears its counts. -/
theorem writeMemSel_fields (s : Gk1) (v : Nat) :
    (s.writeMemSel v).reg 0x300C08 0 = fld v 0 6 ∧ (s.writeMemSel v).dram = s.dram ∧
    (v.testBit 31 = true → (s.writeMemSel v).region (fld v 0 6) = { s.region (fld v 0 6) with corr := 0, uncorr := 0 }) ∧
    (v.testBit 31 = false → (s.writeMemSel v).regions = s.regions) := by
  have hreg : (s.setReg 0x300C08 0 (fld v 0 6)).reg 0x300C08 0 = fld v 0 6 := by
    rw [Gk1.reg_setReg, if_pos rfl, Nat.mod_eq_of_lt ((fld_lt v 0 6).trans (by decide))]
  unfold Gk1.writeMemSel
  dsimp only
  cases hclr : v.testBit 31
  · exact ⟨hreg, rfl, fun h => absurd h Bool.false_ne_true, fun _ => rfl⟩
  · refine ⟨hreg, rfl, fun _ => ?_, fun h => absurd h.symm Bool.false_ne_true⟩
    rw [if_pos rfl, Gk1.region_modRegion, if_pos rfl]
    rfl

/-! ## Scrubbing a granule -/

/-- A region whose scrub pass begins. -/
def begunPass (R : Region) (t : Nat) : Region :=
  { R with scrubbed := [], scrubAt := some t, channels := NMap.mapVals R.channels fun (_ : Nat) (C : Channel) => { C with laneCorr := [] } }

theorem scrubPass_eq (s : Gk1) (r : Nat) : s.scrubPass r = s ∨ s.scrubPass r = s.modRegion r fun R => begunPass R s.dtime := by
  unfold Gk1.scrubPass
  exact (ite_eq_or_eq ..).symm

theorem begunPass_erasures (R : Region) (t c : Nat) : ((begunPass R t).channel c).erasures = (R.channel c).erasures := by
  have hc : NMap.getD (NMap.mapVals R.channels fun _ C => { C with laneCorr := [] }) c {} =
      { NMap.getD R.channels c {} with laneCorr := [] } := NMap.getD_mapVals _ (fun C : Channel => { C with laneCorr := [] }) _ rfl
  rw [Region.channel, begunPass, hc]
  rfl

/-- A pass that begins changes lane counts, its time and what it has scrubbed. -/
theorem scrubPass_region (s : Gk1) (r q : Nat) : ((s.scrubPass r).region q).corr = (s.region q).corr ∧
    ((s.scrubPass r).region q).badWords = (s.region q).badWords ∧
    ∀ c, (((s.scrubPass r).region q).channel c).erasures = ((s.region q).channel c).erasures := by
  obtain h | h := scrubPass_eq s r
  · rw [h]
    exact ⟨rfl, rfl, fun _ => rfl⟩
  · rw [h, Gk1.region_modRegion]
    split
    · next h =>
      subst h
      exact ⟨rfl, rfl, begunPass_erasures _ _⟩
    · exact ⟨rfl, rfl, fun _ => rfl⟩

theorem scrubPass_cache (s : Gk1) (r : Nat) : (s.scrubPass r).cache = s.cache := by
  obtain h | h := scrubPass_eq s r <;> rw [h]
  rfl

/-- The pass with a granule noted as read. -/
def passing (s : Gk1) (g : Nat) : Gk1 :=
  (s.scrubPass (gStack g)).modRegion (gStack g) fun R => { R with scrubbed := g :: R.scrubbed }

theorem passing_region (s : Gk1) (g : Nat) : ((passing s g).region (gStack g)).corr = (s.region (gStack g)).corr ∧
    ((passing s g).region (gStack g)).badWords = (s.region (gStack g)).badWords ∧
    ∀ c, (((passing s g).region (gStack g)).channel c).erasures = ((s.region (gStack g)).channel c).erasures := by
  obtain ⟨hcorr, hbad, hers⟩ := scrubPass_region s (gStack g) (gStack g)
  unfold passing
  rw [Gk1.region_modRegion, if_pos rfl]
  exact ⟨hcorr, hbad, hers⟩

/-- The errors of one word of a granule. -/
def noiseIn (noise : List (Nat × Byte)) (sec : Nat) : List (Nat × Nat) :=
  ((noiseOf noise).filter fun e => e.1 / 36 = sec).map fun e => (e.1 % 36, e.2)

/-- Errors in the first word alone. -/
theorem noiseIn_first {noise : List (Nat × Byte)} (h : ∀ e ∈ noise, e.1 < 36) :
    noiseIn noise 0 = noiseOf noise ∧ ∀ sec, sec ≠ 0 → noiseIn noise sec = [] := by
  have hlow : ∀ e ∈ noiseOf noise, e.1 < 36 := by
    intro e he
    obtain ⟨d, hd, rfl⟩ := List.mem_map.1 he
    exact h d hd
  constructor
  · have hall : (noiseOf noise).filter (fun e => e.1 / 36 = 0) = noiseOf noise :=
      List.filter_eq_self.2 fun e he => decide_eq_true (Nat.div_eq_of_lt (hlow e he))
    rw [noiseIn, hall]
    refine (List.map_congr_left fun e he => ?_).trans (List.map_id _)
    rw [Nat.mod_eq_of_lt (hlow e he)]
    rfl
  · intro sec hsec
    have hnone : (noiseOf noise).filter (fun e => e.1 / 36 = sec) = [] :=
      List.filter_eq_nil_iff.2 fun e he => by rw [Nat.div_eq_of_lt (hlow e he)]; simpa using hsec.symm
    rw [noiseIn, hnone]
    rfl

section
variable {s : State} {g : Nat} {noise : List (Nat × Byte)} (hg : g < 2048 * granulesPerChannel) (hon : s.scrubCtl.testBit 0 = true)
  (hstack : (s.region (gStack g)).stackLost = false) (hmargin : (s.region (gStack g)).margining = false)
include hg hon hstack hmargin

/-- A granule in the region cache is passed over. -/
theorem exec_scrub_cached (hcache : NMap.has s.cache g = true) : ∃ t, exec (.scrub g noise) s = .next t ∧ t.dram = s.dram ∧
    (t.region (gStack g)).corr = (s.region (gStack g)).corr := by
  have hc : NMap.has (passing s.toGk1 g).cache g = true := by rw [← hcache, ← scrubPass_cache s.toGk1 (gStack g)]; rfl
  change ∃ t, execScrub g noise s = _ ∧ _
  refine act_exists ?_
  simp only [hg, hon, hstack, hmargin, decide_true, Bool.not_true, Bool.or_self, Bool.false_eq_true, if_false]
  split
  · exact ⟨_, rfl, Gk1.scrubPass_dram .., (scrubPass_region s.toGk1 _ _).1⟩
  · exact ⟨_, if_pos hc, Gk1.scrubPass_dram .., (passing_region s.toGk1 g).1⟩

/-- A granule that the pass has not read, without lanes on their way out. -/
theorem exec_scrub (hcache : NMap.has s.cache g = false) (hgood : ((s.region (gStack g)).channel (gChannel g)).erasures = [])
    (hfirst : ((s.scrubPass (gStack g)).region (gStack g)).scrubbed.contains g = false) :
    exec (.scrub g noise) s = .next (became s ((List.range 8).foldl (fun s sec => s.scrubWord g sec (noiseIn noise sec)) (passing s.toGk1 g))) := by
  have hsweep : (passing s.toGk1 g).sweepOn (gStack g) (gChannel g) = passing s.toGk1 g := by
    have hre := Channel.rebuild_of_erasures_nil (((passing_region s.toGk1 g).2.2 (gChannel g)).trans hgood)
    unfold Gk1.sweepOn
    rw [hre]
  have hc : NMap.has (passing s.toGk1 g).cache g = false := by rw [← hcache, ← scrubPass_cache s.toGk1 (gStack g)]; rfl
  change execScrub g noise s = _
  refine State.act_of_next _ _ _ ?_
  simp only [hg, hon, hstack, hmargin, decide_true, Bool.not_true, Bool.or_self, Bool.false_eq_true, if_false]
  rw [hfirst, if_neg Bool.false_ne_true]
  change (if NMap.has (passing s.toGk1 g).cache g = true then _ else Host.Outcome.next (List.foldl _
    ((passing s.toGk1 g).sweepOn (gStack g) (gChannel g)) _)) = _
  rw [hc, if_neg Bool.false_ne_true, hsweep]
  rfl

end

/-- The words of a granule, the first one with errors that are all corrected. -/
theorem scrubWords (s : Gk1) (g : Nat) {noise : List (Nat × Byte)} {fixed : List Nat} (hlisted : s.listed g 0 = false)
    (hgood : ((s.region (gStack g)).channel (gChannel g)).erasures = []) (hnoise : ∀ e ∈ noise, e.1 < 36)
    (hread : readWord g 0 (sectorBytes s.dram (g * 256) 0) (noiseOf noise) [] = some ([], fixed)) :
    (List.range 8).foldl (fun s sec => s.scrubWord g sec (noiseIn noise sec)) s = s.scrubWord g 0 (noiseOf noise) := by
  obtain ⟨hzero, hrest⟩ := noiseIn_first hnoise
  obtain ⟨_, _, hfew⟩ := scrubWord_fixed s g 0 (noiseOf noise) fixed hlisted hgood hread
  have hstay : ∀ l : List Nat, 0 ∉ l → l.foldl (fun s sec => s.scrubWord g sec (noiseIn noise sec)) (s.scrubWord g 0 (noiseOf noise)) =
      s.scrubWord g 0 (noiseOf noise) := by
    intro l hl
    induction l with
    | nil => rfl
    | cons sec l ih =>
      obtain ⟨hsec, hl⟩ := not_or.1 (fun h => hl (List.mem_cons.2 h))
      rw [List.foldl_cons, hrest sec (Ne.symm hsec), scrubWord_clean _ _ _ hfew, ih hl]
  have hwords : List.range 8 = 0 :: [1, 2, 3, 4, 5, 6, 7] := rfl
  rw [hwords, List.foldl_cons, hzero]
  exact hstay _ (by decide)

/-- The sweep of the next lane that waits for one, while a spare is free (R400). -/
def nextSweep (C : Channel) : Channel := match C.erased, C.hasSpare with
  | l :: rest, some _ => { C with rebuild := some (l, 0), erased := rest }
  | _, _ => C

theorem nextSweep_some {C : Channel} {l sp : Nat} {rest : List Nat} (herased : C.erased = l :: rest) (hsp : C.hasSpare = some sp) :
    nextSweep C = { C with rebuild := some (l, 0), erased := rest } := by simp [nextSweep, herased, hsp]

theorem nextSweep_none {C : Channel} (h : C.erased = [] ∨ C.hasSpare = none) : nextSweep C = C := by
  unfold nextSweep
  split
  · next l rest sp herased hsp =>
    rcases h with h | h
    · rw [h] at herased; cases herased
    · rw [h] at hsp; cases hsp
  · rfl

theorem modChannel_const (s : Gk1) (r c : Nat) (f : Channel → Channel) :
    s.modChannel r c f = s.modChannel r c fun _ => f ((s.region r).channel c) := rfl

theorem exec_rebuildSweepEnd {s : State} {r c lane p spare : Nat} (hr : r < 64) (hc : c < 32) (hmargin : (s.region r).margining = false)
    (hre : ((s.region r).channel c).rebuild = some (lane, p)) (hspare : ((s.region r).channel c).hasSpare = some spare) :
    exec (.rebuildSweepEnd r c) s = .next (became s (s.modChannel r c fun _ => nextSweep { (s.region r).channel c with
      spared := ((s.region r).channel c).spared ++ [(lane, spare)], rebuild := none })) := by
  change execRebuildSweepEnd r c s = _
  refine State.act_of_next _ _ _ ?_
  simp only [hr, hc, hmargin, hre, hspare, decide_true, Bool.and_self, Bool.not_true, Bool.false_eq_true, if_false]
  rw [modChannel_const]
  rfl

/-- Settles O30. -/
theorem stackUpkeep : Obligations.StackUpkeep := by
  unfold Obligations.StackUpkeep
  refine ⟨fun s r c b hr hc hb hdue => ?_, fun s r c hr hc hdue => ?_, fun s g noise hg hon hstack hmargin => ?_,
    fun s r c lane p spare hr hc hmargin hre hspare => ?_, fun s v hwork => ?_⟩
  · refine ⟨_, exec_dramRefresh hr hc hb hdue, ?_, rfl, rfl⟩
    change NMap.get? (((s.modChannel r c _).region r).channel c).refreshed b = _
    rw [Gk1.channel_modChannel, if_pos ⟨rfl, rfl⟩, NMap.get?_set, if_pos rfl]
  · refine ⟨_, exec_dramRetrain hr hc hdue, ?_, rfl, rfl⟩
    change (((s.modChannel r c _).region r).channel c).retrained = _
    rw [Gk1.channel_modChannel, if_pos ⟨rfl, rfl⟩]
  · refine ⟨exec_scrub_cached hg hon hstack hmargin, fun fixed hcache hgood hnoise hlisted hfirst hread => ?_⟩
    obtain ⟨hcorr, hbad, hers⟩ := passing_region s.toGk1 g
    have hl : (passing s.toGk1 g).listed g 0 = false := by rw [Gk1.listed, hbad]; exact hlisted
    have hdram : (passing s.toGk1 g).dram = s.dram := Gk1.scrubPass_dram ..
    have hr : readWord g 0 (sectorBytes (passing s.toGk1 g).dram (g * 256) 0) (noiseOf noise) [] = some ([], fixed) := by rw [hdram]; exact hread
    obtain ⟨hmem, hcount, _⟩ := scrubWord_fixed (passing s.toGk1 g) g 0 (noiseOf noise) fixed hl ((hers _).trans hgood) hr
    have hexec := exec_scrub (noise := noise) hg hon hstack hmargin hcache hgood hfirst
    rw [scrubWords (passing s.toGk1 g) g hl ((hers _).trans hgood) hnoise hr] at hexec
    refine ⟨_, hexec, fun a => (hmem a).trans (by rw [hdram]), hcount.trans (by rw [hcorr])⟩
  · intro C
    rw [exec_rebuildSweepEnd hr hc hmargin hre hspare]
    refine ⟨fun hlast => ?_, fun l rest sp herased hsp => ?_⟩
    · rw [nextSweep_none hlast]
    · rw [nextSweep_some herased hsp]
  · obtain ⟨hreg, hdram, hclr, hkeep⟩ := writeMemSel_fields s.toGk1 v.toNat
    exact ⟨_, exec_memSelClr v hwork, hreg, hdram, fun h => hclr (by rwa [BitVec.getLsbD] at h), fun h => hkeep (by rwa [BitVec.getLsbD] at h)⟩

end Sys2Proof.Claims

/-! The host link. -/

namespace Sys2Proof.Claims

open Sys2Proof.Machine

/-- The link trained, at x16 or at x8. -/
def linkTrained (s : Gk1) (full : Bool) : Gk1 :=
  { s with edge := { s.edge with
    linkUp := true, trained := true, width := if full then 16 else 8
    retrains := if s.edge.trained then min (s.edge.retrains + 1) 0xFF else s.edge.retrains } }

theorem exec_hostLinkTrain {s : State} {lanes : Nat} (hoff : s.part ≠ .off) (hramp : s.part ≠ .powerRamp) (hlanes : 8 ≤ lanes) :
    exec (.hostLinkTrain lanes) s = .next (became s
      (linkTrained (if 16 ≤ lanes then s.toGk1 else s.setErr hlErr 4) (decide (16 ≤ lanes))).flush) := by
  have hgo : (decide (s.part = .off) || decide (s.part = .powerRamp) || decide (lanes < 8)) = false := by
    rw [decide_eq_false hoff, decide_eq_false hramp, decide_eq_false (Nat.not_lt.2 hlanes)]
    rfl
  change execHostLinkTrain lanes s = _
  refine State.act_of_next _ _ _ ?_
  simp only [hgo, Bool.false_eq_true, if_false, decide_eq_true_eq, linkTrained]

/-- What is held back changes only where it stands. -/
theorem flush_fields (s : Gk1) : s.flush.edge = s.edge ∧ s.flush.regs = s.regs ∧ s.flush.queues = s.queues ∧ s.flush.dram = s.dram := by
  unfold Gk1.flush
  split <;> exact ⟨rfl, rfl, rfl, rfl⟩

theorem flush_open {s : Gk1} (h : s.linkOpen = true) : s.flush = { s with posted := s.posted ++ s.postHeld, postHeld := [] } := if_pos h

theorem exec_hostCompletion {s : State} {id : Nat} {m : Msg} {data : List Byte} (hm : NMap.get? s.msgs id = some m) (hkind : m.kind = .hostRead)
    (hopen : s.linkOpen = true) (hlen : data.length = m.len) : exec (.hostCompletion id true data) s
      = .next (became s (s.setMsg id { m with kind := .readReply, data := (List.range m.len).zip data })) := by
  change execHostCompletion id true data s = _
  refine State.act_of_next _ _ _ ?_
  simp [hm, hkind, hopen, hlen]

theorem exec_hostCompletion_failed {s : State} {id : Nat} {m : Msg} (data : List Byte) (hm : NMap.get? s.msgs id = some m)
    (hkind : m.kind = .hostRead) (hopen : s.linkOpen = true) :
    exec (.hostCompletion id false data) s = .next (became s (s.hostReadFault id m)) := by
  change execHostCompletion id false data s = _
  refine State.act_of_next _ _ _ ?_
  simp [hm, hkind, hopen]

theorem exec_hostCompletionTimeout {s : State} {id : Nat} {m : Msg} (hm : NMap.get? s.msgs id = some m)
    (hkind : m.kind = .hostRead) (hlate : m.sentAt + 50000000 ≤ s.dtime) :
    exec (.hostCompletionTimeout id) s = .next (became s (s.hostReadFault id m)) := by
  change execHostCompletionTimeout id s = _
  refine State.act_of_next _ _ _ ?_
  simp [hm, hkind, hlate]

theorem exec_ptmDialogue {s : State} {mtime ltime : Nat} (hopen : s.linkOpen = true) (hon : s.ptmCtl.testBit 0 = true)
    (hfirst : s.edge.ptmAt = none) (htime : ltime ≤ s.dtime) : exec (.ptmDialogue mtime ltime) s = .next (became s { s.toGk1 with
      edge := { s.edge with ptm := (mtime % 2 ^ 64, ltime) :: s.edge.ptm.take 1, ptmAt := some s.dtime, ptmReset := false } }) := by
  change execPtmDialogue mtime ltime s = _
  refine State.act_of_next _ _ _ ?_
  simp [hopen, hon, hfirst, htime]

section
variable {s : State} {v : Nat} (hopen : s.linkOpen = true)
  (hwaits : (s.edge.msixWait.any fun w => w.1 = v && decide (w.2 ≤ s.dtime)) = true)
include hopen hwaits

theorem exec_msixMessage_masked (hmasked : s.msixMasked v = true) : exec (.msixMessage v) s = .next (became s
    { s.toGk1 with edge := { s.edge with
      msixWait := s.edge.msixWait.filter fun w => w.1 ≠ v, msixPending := addNew s.edge.msixPending v } }) := by
  change execMsixMessage v s = _
  refine State.act_of_next _ _ _ ?_
  simp only [hopen, hwaits, hmasked, Bool.and_self, Bool.not_true, Bool.false_eq_true, if_false, if_true]

theorem exec_msixMessage (hclear : s.msixMasked v = false) : exec (.msixMessage v) s = .next (became s (s.msixSend v)) := by
  change execMsixMessage v s = _
  refine State.act_of_next _ _ _ ?_
  simp only [hopen, hwaits, hclear, Bool.and_self, Bool.not_true, Bool.false_eq_true, if_false]

end

theorem mem_addNew (l : List Nat) (x : Nat) : x ∈ addNew l x := by
  unfold addNew
  split
  · next h => simpa using h
  · exact List.mem_append_right _ List.mem_cons_self

theorem filter_ne_fst {l : List (Nat × Nat)} {v : Nat} : ∀ w ∈ l.filter (fun w => w.1 ≠ v), w.1 ≠ v :=
  fun _ hw => by simpa using (List.mem_filter.1 hw).2

/-- Sending a message answers its vector. -/
theorem msixSend_edge (s : Gk1) (v : Nat) : (∀ w ∈ (s.msixSend v).edge.msixWait, w.1 ≠ v) ∧
    (s.msixSend v).edge.msixSent = s.edge.msixSent ++ [v] ∧ v ∉ (s.msixSend v).edge.msixPending ∧
    NMap.get? (s.msixSend v).edge.msixLast v = some s.dtime := by
  unfold Gk1.msixSend
  dsimp only
  rw [Gk1.post_edge, Gk1.post_dtime]
  exact ⟨filter_ne_fst, rfl, fun h => by simpa using (List.mem_filter.1 h).2, (NMap.get?_set ..).trans (if_pos rfl)⟩

/-- Settles O31. -/
theorem hostLinkEvents : Obligations.HostLinkEvents := by
  unfold Obligations.HostLinkEvents
  refine ⟨fun s lanes hoff hramp hlanes => ?_, fun s => rfl, fun s => rfl, fun s hup => ?_, fun s id m data hm hkind => ?_,
    fun s mtime ltime hopen hon hfirst htime => exec_ptmDialogue hopen hon hfirst htime, fun s v hopen hwaits => ?_⟩
  · obtain ⟨hedge, hregs, hqueues, hdram⟩ :=
      flush_fields (linkTrained (if 16 ≤ lanes then s.toGk1 else s.setErr hlErr 4) (decide (16 ≤ lanes)))
    have hpick : ∀ {α : Type} (f : Gk1 → α), f (s.setErr hlErr 4) = f s.toGk1 → f (if 16 ≤ lanes then s.toGk1 else s.setErr hlErr 4) = f s.toGk1 := by
      intro α f h
      split
      · rfl
      · exact h
    refine ⟨_, exec_hostLinkTrain hoff hramp hlanes, ?_, ?_, fun hfew => ?_, fun hd0 => ?_, ?_, ?_⟩
    · exact congrArg Edge.linkUp hedge
    · refine (congrArg Edge.width hedge).trans ?_
      simp only [linkTrained, decide_eq_true_eq]
    · rw [became, Gk1.reg, hregs, if_neg (Nat.not_le.2 hfew)]
      exact s.toGk1.testBit_reg_setErr hlErr (by decide)
    · have hd : (if 16 ≤ lanes then s.toGk1 else s.setErr hlErr 4).edge.d3hot = false := (hpick (fun s => s.edge.d3hot) rfl).trans hd0
      have hopen : (linkTrained (if 16 ≤ lanes then s.toGk1 else s.setErr hlErr 4) (decide (16 ≤ lanes))).linkOpen = true := by
        change (true && !(if 16 ≤ lanes then s.toGk1 else s.setErr hlErr 4).edge.d3hot) = true
        rw [hd]
        rfl
      rw [flush_open hopen]
      exact ⟨hpick (fun s => s.posted ++ s.postHeld) rfl, rfl⟩
    · exact hqueues.trans (hpick (fun s => s.queues) rfl)
    · exact hdram.trans (hpick (fun s => s.dram) rfl)
  · have hopen : ({ s.toGk1 with edge := { s.edge with d3hot := false } } : Gk1).linkOpen = true := by
      change (s.edge.linkUp && true) = true
      rw [hup]
      rfl
    change execD0Return s = _
    exact State.act_of_next _ _ _ (congrArg _ (flush_open hopen))
  · exact ⟨fun hopen hlen => exec_hostCompletion hm hkind hopen hlen, fun hopen => exec_hostCompletion_failed data hm hkind hopen,
      fun hlate => exec_hostCompletionTimeout hm hkind hlate⟩
  · cases hmask : s.msixMasked v
    · obtain ⟨hwait, hsent, hpending, hlast⟩ := msixSend_edge s.toGk1 v
      exact ⟨_, exec_msixMessage hopen hwaits hmask, hwait, fun h => absurd h Bool.false_ne_true, fun _ => ⟨hsent, hpending, hlast⟩⟩
    · exact ⟨_, exec_msixMessage_masked hopen hwaits hmask, filter_ne_fst, fun _ => ⟨mem_addNew .., rfl⟩,
        fun h => absurd h.symm Bool.false_ne_true⟩

end Sys2Proof.Claims

/-! Polls of the summary and fetches of descriptors. -/

namespace Sys2Proof.Machine

theorem Gk1.setErr_reg_of_ne (s : Gk1) {off o2 : Nat} (hne : off ≠ o2) (bit d : Nat) : (s.setErr off bit).reg o2 d = s.reg o2 d :=
  Gk1.reg_setReg_of_ne _ hne ..

/-- What a doorbell word leaves: every other queue, the rings' sizes, and the rest of the part. -/
structure DoorbellKeeps (l : List Nat) (s t : Gk1) : Prop where
  queue : ∀ q, q ∉ l → t.queue q = s.queue q
  qctl : ∀ q, t.qctl q = s.qctl q
  posted : t.posted = s.posted
  edge : t.edge = s.edge
  dram : t.dram = s.dram

theorem DoorbellKeeps.doorbell (s : Gk1) (k : Nat) (w : Option (BitVec 64)) : DoorbellKeeps [k] s (s.doorbell k w) := by
  have hmod : ∀ f, DoorbellKeeps [k] s (s.modQueue k f) := fun f =>
    ⟨fun q hq => (Gk1.queue_modQueue ..).trans (if_neg fun h => hq (List.mem_singleton.2 h.symm)), fun _ => rfl, rfl, rfl, rfl⟩
  unfold Gk1.doorbell
  split
  · exact ⟨fun _ _ => rfl, fun q => Gk1.setErr_reg_of_ne _ (by rw [hlErr]; omega) .., rfl, rfl, rfl⟩
  · dsimp only
    split
    · exact hmod _
    · exact hmod _

/-- A list of doorbell words keeps every queue outside it. -/
theorem DoorbellKeeps.doorbells (words : List (Nat × Option (BitVec 64))) (l : List Nat) (s : Gk1) :
    DoorbellKeeps l s (s.doorbells l words) := by
  unfold Gk1.doorbells
  induction l generalizing s with
  | nil => exact ⟨fun _ _ => rfl, fun _ => rfl, rfl, rfl, rfl⟩
  | cons k l ih =>
    rw [List.foldl_cons]
    have hk := DoorbellKeeps.doorbell s k ((words.find? fun w => w.1 = k).bind Prod.snd)
    have hl := ih (s.doorbell k ((words.find? fun w => w.1 = k).bind Prod.snd))
    exact ⟨fun q hq => (hl.queue q fun h => hq (List.mem_cons_of_mem _ h)).trans
        (hk.queue q fun h => hq (by rw [List.mem_singleton.1 h]; exact List.mem_cons_self)),
      fun q => (hl.qctl q).trans (hk.qctl q), hl.posted.trans hk.posted, hl.edge.trans hk.edge, hl.dram.trans hk.dram⟩

/-- Of a list without repetitions, each queue takes its own word. -/
theorem doorbells_queue (words : List (Nat × Option (BitVec 64))) {l : List Nat} (hl : l.Nodup) {q : Nat} (hq : q ∈ l) (s : Gk1) :
    ∃ t, DoorbellKeeps (l.erase q) s t ∧ (s.doorbells l words).queue q = (t.doorbell q ((words.find? fun w => w.1 = q).bind Prod.snd)).queue q := by
  obtain ⟨l1, l2, rfl⟩ := List.append_of_mem hq
  have h1 : q ∉ l1 := fun h => (List.nodup_append.1 hl).2.2 q h q List.mem_cons_self rfl
  have h2 : q ∉ l2 := (List.nodup_cons.1 (List.nodup_append.1 hl).2.1).1
  refine ⟨s.doorbells l1 words, ?_, ?_⟩
  · have h := DoorbellKeeps.doorbells words l1 s
    refine ⟨fun k hk => h.queue k fun hk1 => hk ?_, h.qctl, h.posted, h.edge, h.dram⟩
    rw [List.erase_append_right _ h1]
    exact List.mem_append_left _ hk1
  · have hfold : s.doorbells (l1 ++ q :: l2) words =
        ((s.doorbells l1 words).doorbell q ((words.find? fun w => w.1 = q).bind Prod.snd)).doorbells l2 words := by
      unfold Gk1.doorbells
      rw [List.foldl_append, List.foldl_cons]
    rw [hfold]
    exact (DoorbellKeeps.doorbells words l2 _).queue q h2

end Sys2Proof.Machine

namespace Sys2Proof.Claims

open Sys2Proof.Machine

section
variable (s : State) (p : Gk1) (n : Nat)

theorem queue_became : (became s p).queue n = p.queue n := rfl

theorem region_became : (became s p).region n = p.region n := rfl

theorem ctx_became : (became s p).ctx n = p.ctx n := rfl

theorem reg_became (d : Nat) : (became s p).reg n d = p.reg n d := rfl

end

/-- The part after the summary's byte i is cleared. -/
def cleared (s : Gk1) (i : Nat) : Gk1 :=
  { s with edge := { s.edge with polledAt := some s.dtime }, posted := s.posted ++ [(fld s.summaryReg 6 58 * 64 + i, [0])] }

theorem exec_summaryPoll {s : State} {bytes : List Byte} {i : Nat} (words : List (Nat × Option (BitVec 64))) (hdue : s.pollDue = true)
    (hi : i < 512) (hone : ∀ k, k < 512 → (bytes.getD k 0 ≠ 0 ↔ k = i)) (hheld : s.postHeld = []) :
    exec (.summaryPoll (some bytes) words) s = .next (became s ((cleared s.toGk1 i).doorbells ((cleared s.toGk1 i).polled [i]) words)) := by
  have hset : ((List.range 512).filter fun k => bytes.getD k 0 ≠ 0) = [i] := by
    have hf : ((List.range 512).filter fun k => bytes.getD k 0 ≠ 0) = (List.range 512).filter (· = i) :=
      List.filter_congr fun k hk => by rw [decide_eq_decide]; exact hone k (List.mem_range.1 hk)
    rw [hf, List.filter_eq, List.count_eq_one_of_mem List.nodup_range (List.mem_range.2 hi)]
    rfl
  have hopen : s.linkOpen = true := by
    have h := hdue
    unfold Gk1.pollDue at h
    simp only [Bool.and_eq_true] at h
    exact h.1.2
  have hpost : ({ s.toGk1 with edge := { s.edge with polledAt := some s.dtime } } : Gk1).post (fld s.summaryReg 6 58 * 64 + i) [0] = cleared s.toGk1 i := by
    unfold Gk1.post
    refine if_pos ?_
    change (s.linkOpen && s.postHeld.isEmpty) = true
    rw [hopen, hheld]
    rfl
  change execSummaryPoll (some bytes) words s = _
  refine State.act_of_next _ _ _ ?_
  simp only [hdue, hset, List.foldl_cons, List.foldl_nil, Bool.not_true, Bool.false_eq_true, if_false]
  rw [show ∀ e : Edge, ({ s.toGk1 with edge := e } : Gk1).summaryReg = s.summaryReg from fun _ => rfl, hpost]

theorem exec_descriptorFetch {s : State} {q : Nat} {ds : List (List (BitVec 64))} (hq : q < nQueues) (hrun : s.queuesRun = true)
    (hopen : s.linkOpen = true) (hactive : (s.queue q).state = 1) (hnew : ds.length ≤ (s.queue q).submitted - (s.queue q).fetchedN)
    (hread : ds.length ≤ 64) (hroom : (s.queue q).fetched.length + ds.length ≤ 256) (hring : (s.queue q).sqHead + ds.length ≤ s.sqSize q)
    (hwords : ∀ d ∈ ds, d.length = 8) : exec (.descriptorFetch q ds) s = .next (became s (s.modQueue q fun Q => { Q with
      fetched := Q.fetched ++ (ds.zip (List.range ds.length)).map fun d =>
        { ring := ((s.queue q).sqHead + d.2) % s.sqSize q, seq := (s.queue q).fetchedN + d.2, q := d.1 }
      fetchedN := Q.fetchedN + ds.length, sqHead := (Q.sqHead + ds.length) % s.sqSize q })) := by
  have hall : (ds.all fun d => d.length = 8) = true := List.all_eq_true.2 fun d hd => decide_eq_true (hwords d hd)
  have hn : ¬ queueCount ≤ q := Nat.not_le.2 hq
  change execDescriptorFetch q ds s = _
  refine State.act_of_next _ _ _ ?_
  simp only [hn, hrun, hopen, hactive, hnew, hread, hroom, hring, hall, decide_true, Bool.and_self, Bool.not_true, Bool.false_eq_true, if_false]

/-- Settles O33. -/
theorem pollsAndFetches : Obligations.PollsAndFetches := by
  unfold Obligations.PollsAndFetches
  refine ⟨fun s bytes words i hdue hi hone hheld => ?_, fun s q ds hq hrun hopen hactive hnew hread hroom hring hwords => ?_⟩
  · have hk := DoorbellKeeps.doorbells words ((cleared s.toGk1 i).polled [i]) (cleared s.toGk1 i)
    have hmem : ∀ q, q ∈ (cleared s.toGk1 i).polled [i] ↔ q / 8 = i ∧ ((s.queue q).state = 1 ∨ (s.queue q).state = 2) := by
      intro q
      have hq : (∃ k < 8, 8 * i + k = q) ↔ q / 8 = i :=
        ⟨fun ⟨k, hk, h⟩ => by omega, fun h => ⟨q % 8, Nat.mod_lt _ (by decide), by omega⟩⟩
      unfold Gk1.polled
      simp only [List.mem_filter, List.flatMap_cons, List.flatMap_nil, List.append_nil, List.mem_map, List.mem_range, hq,
        Bool.or_eq_true, decide_eq_true_eq]
      rfl
    have hnodup : ((cleared s.toGk1 i).polled [i]).Nodup := by
      unfold Gk1.polled
      rw [List.flatMap_cons, List.flatMap_nil, List.append_nil]
      exact (List.Nodup.map (fun _ _ h => Nat.add_left_cancel h) List.nodup_range).filter _
    refine ⟨_, exec_summaryPoll words hdue hi hone hheld, congrArg Edge.polledAt hk.edge, hk.posted, hk.dram, fun q w hq hstate hw => ?_,
      fun q hq => hk.queue q fun h => hq ((hmem q).1 h).1⟩
    obtain ⟨t, ht, hqueue⟩ := doorbells_queue words hnodup ((hmem q).2 ⟨hq, .inl hstate⟩) (cleared s.toGk1 i)
    have htq : t.queue q = s.queue q := ht.queue q fun h => (hnodup.mem_erase_iff.1 h).1 rfl
    have hsq : t.sqSize q = s.sqSize q := by unfold Gk1.sqSize; rw [ht.qctl]; rfl
    have hcq : t.cqSize q = s.cqSize q := by unfold Gk1.cqSize; rw [ht.qctl]; rfl
    rw [hw] at hqueue
    have hbell : t.doorbell q ((some (q, some w)).bind Prod.snd) = if s.sqSize q ≤ fld w.toNat 0 16 || s.cqSize q ≤ fld w.toNat 32 16
        then t.queueError q 1 else t.modQueue q fun Q => { Q with
          submitted := Q.submitted + (fld w.toNat 0 16 + s.sqSize q - Q.sqTail) % s.sqSize q, sqTail := fld w.toNat 0 16, cqHead := fld w.toNat 32 16 } := by
      rw [← hsq, ← hcq]
      rfl
    rw [hbell] at hqueue
    rw [queue_became, hqueue]
    refine ⟨fun hin => ?_, fun hpast => ?_⟩
    · have hok : (decide (s.sqSize q ≤ fld w.toNat 0 16) || decide (s.cqSize q ≤ fld w.toNat 32 16)) = false := by
        rw [decide_eq_false (Nat.not_le.2 hin.1), decide_eq_false (Nat.not_le.2 hin.2)]
        rfl
      rw [hok, if_neg Bool.false_ne_true, Gk1.queue_modQueue, if_pos rfl]
      exact ⟨rfl, rfl, by rw [htq]; exact hstate⟩
    · have hbad : (decide (s.sqSize q ≤ fld w.toNat 0 16) || decide (s.cqSize q ≤ fld w.toNat 32 16)) = true := by
        rw [Bool.or_eq_true, decide_eq_true_eq, decide_eq_true_eq]
        exact hpast
      rw [hbad, if_pos rfl, Gk1.queueError, Gk1.queue_modQueue, if_pos rfl]
      exact ⟨rfl, rfl⟩
  · refine ⟨_, exec_descriptorFetch hq hrun hopen hactive hnew hread hroom hring hwords, ?_, ?_, ?_, fun k hk => ?_, rfl, rfl⟩
    · rw [queue_became, Gk1.queue_modQueue, if_pos rfl, List.map_append, List.map_map]
      refine congrArg _ (Eq.trans ?_ (List.map_fst_zip (l₁ := ds) (l₂ := List.range ds.length) (by rw [List.length_range])))
      rfl
    · rw [queue_became, Gk1.queue_modQueue, if_pos rfl]
    · rw [queue_became, Gk1.queue_modQueue, if_pos rfl]
    · exact (Gk1.queue_modQueue ..).trans (if_neg hk.symm)

end Sys2Proof.Claims

/-! Writes of registers that take effect, and accesses that do not. -/

namespace Sys2Proof.Machine

/-! ## Bits of fields and of merged values -/

theorem testBit_fld (w lo len i : Nat) : (fld w lo len).testBit i = (decide (i < len) && w.testBit (lo + i)) := by
  rw [fld, Nat.testBit_mod_two_pow, Nat.testBit_shiftRight]

theorem testBit_mergeBits (old m v i : Nat) :
    (mergeBits old m v).testBit i = ((old.testBit i && (decide (i < 64) && !m.testBit i)) || (v.testBit i && m.testBit i)) := by
  have hm : m % 2 ^ 64 < 2 ^ 64 := Nat.mod_lt _ (Nat.two_pow_pos 64)
  have hflip : 2 ^ 64 - 1 - m % 2 ^ 64 = 2 ^ 64 - (m % 2 ^ 64 + 1) := by omega
  rw [mergeBits, Nat.testBit_or, Nat.testBit_and, Nat.testBit_and, hflip, Nat.testBit_two_pow_sub_succ hm, Nat.testBit_mod_two_pow]
  by_cases hi : i < 64 <;> simp [hi]

/-- A field takes the written value when every bit of it is written. -/
theorem fld_mergeBits (old m v lo len : Nat) (h : ∀ i, i < len → m.testBit (lo + i) = true) :
    fld (mergeBits old m v) lo len = fld v lo len := by
  refine Nat.eq_of_testBit_eq fun i => ?_
  rw [testBit_fld, testBit_fld, testBit_mergeBits]
  by_cases hi : i < len
  · simp [hi, h i hi]
  · simp [hi]

theorem fld_mod (w n lo len : Nat) (h : lo + len ≤ n) : fld (w % 2 ^ n) lo len = fld w lo len := by
  refine Nat.eq_of_testBit_eq fun i => ?_
  rw [testBit_fld, testBit_fld, Nat.testBit_mod_two_pow]
  by_cases hi : i < len
  · simp [hi, show lo + i < n by omega]
  · simp [hi]

/-- A write of every bit writes the value. -/
theorem mergeBits_all (old v : Nat) (hv : v < 2 ^ 64) : mergeBits old (2 ^ 64 - 1) v = v := by
  refine Nat.eq_of_testBit_eq fun i => ?_
  rw [testBit_mergeBits, Nat.testBit_two_pow_sub_one]
  by_cases hi : i < 64
  · simp [hi]
  · have hbit : v.testBit i = false := Nat.testBit_lt_two_pow (hv.trans_le (Nat.pow_le_pow_right (by decide) (Nat.le_of_not_lt hi)))
    simp [hi, hbit]

/-- The lowest bit replaced. -/
theorem setFld_low (w b : Nat) (hb : b < 2) : setFld w 0 1 b = w - w % 2 + b := by
  simp [setFld, fld, Nat.mod_eq_of_lt hb]

theorem fld_setFld_low (w b : Nat) (hb : b < 2) : fld (setFld w 0 1 b) 4 4 = fld w 4 4 := by
  rw [setFld_low w b hb, fld, fld, Nat.shiftRight_eq_div_pow, Nat.shiftRight_eq_div_pow]
  omega

theorem testBit_setFld_low (w : Nat) (b : Bool) : (setFld w 0 1 (b2n b)).testBit 0 = b := by
  have hb : b2n b < 2 := by cases b <;> decide
  rw [setFld_low w _ hb, Nat.testBit_zero]
  have hmod : (w - w % 2 + b2n b) % 2 = b2n b := by omega
  rw [hmod]
  cases b <;> rfl

/-! ## PT_EVEN -/

/-- PT_EVEN after a write that may note a broken promise. -/
theorem evenWritten (s : Gk1) {w : Nat} (hw : w ≤ 0xF1) (b c : Bool) :
    let t := s.setReg 0x200030 (15 * 16) (setFld w 0 1 (b2n b))
    let u := if c = true then t.ledgerFlag 9 else t
    u.evenPoint = fld w 4 4 ∧ u.dram = s.dram ∧ u.even = b := by
  intro t u
  have hb : b2n b < 2 := by cases b <;> decide
  have hlow : setFld w 0 1 (b2n b) < 2 ^ 64 := by
    rw [setFld_low _ _ hb]
    omega
  have hreg : u.evenReg = setFld w 0 1 (b2n b) := by
    have ht : u.evenReg = t.evenReg := by cases c <;> rfl
    rw [ht, Gk1.evenReg, Gk1.reg_setReg, if_pos rfl, Nat.mod_eq_of_lt hlow]
  refine ⟨?_, by cases c <;> rfl, ?_⟩
  · rw [Gk1.evenPoint, hreg, fld_setFld_low _ _ hb]
  · rw [Gk1.even, hreg, testBit_setFld_low]

/-- PT_EVEN takes POINT, and EN above the guard point alone (R625). -/
theorem writeEven_fields (s : Gk1) (v : Nat) : (s.writeEven v).evenPoint = fld v 4 4 ∧ (s.writeEven v).dram = s.dram ∧
    (s.writeEven v).even = (v.testBit 0 && decide (s.power.guard < fld v 4 4)) := by
  have hpoint : fld (v &&& 0xF1) 4 4 = fld v 4 4 := by
    refine Nat.eq_of_testBit_eq fun i => ?_
    rw [testBit_fld, testBit_fld, Nat.testBit_and]
    by_cases hi : i < 4
    · have hmask : ∀ i < 4, (0xF1 : Nat).testBit (4 + i) = true := by decide
      rw [hmask i hi, Bool.and_true]
    · simp [hi]
  have hon : (v &&& 0xF1).testBit 0 = v.testBit 0 := by
    rw [Nat.testBit_and]
    exact Bool.and_true _
  obtain ⟨hp, hdram, he⟩ := evenWritten s (w := v &&& 0xF1) Nat.and_le_right
    ((v &&& 0xF1).testBit 0 && decide (s.power.guard < fld (v &&& 0xF1) 4 4)) _
  exact ⟨hp.trans hpoint, hdram, he.trans (by rw [hon, hpoint])⟩

/-! ## Offsets -/

/-- FAB_ROUTE_G stands 8 bytes apart from 0x401000 on. -/
theorem regBase_routeG {i : Nat} (hi : i < 256) : regBase (0x401000 + 8 * i) = some (.routeG i) := by
  have hblock : (0x401000 + 8 * i) / 0x10000 = 0x40 := by omega
  have hofs : (0x401000 + 8 * i) % 0x10000 = 0x1000 + 8 * i := by omega
  have harr : arr 0x1000 8 256 Reg.routeG (0x1000 + 8 * i) = some (.routeG i) := by
    rw [arr, Nat.add_sub_cancel_left, Nat.mul_div_cancel_left _ (by decide), Nat.mul_mod_right]
    simp [hi]
  rw [regBase, if_neg (by omega), hblock, hofs]
  change regFab (0x1000 + 8 * i) = _
  rw [regFab, firstReg, List.findSome?_cons, harr]
  all_goals omega

end Sys2Proof.Machine

namespace Sys2Proof.Claims

open Sys2Proof.Machine

/-- A 4-byte write reaches the register that stands at its offset. -/
theorem exec_registerWrite_four {s : State} {off : Nat} (h4 : off % 4 = 0) (v : BitVec 64) :
    exec (.registerWrite off 4 v) s = .next (became s (s.write4 off v.toNat)) := by
  change execRegisterWrite off 4 v s = _
  exact State.act_of_next _ _ _ (congrArg _ (Gk1.barWrite_four _ h4 _))

/-- A ring base of a DISABLED queue takes a write. -/
theorem baseWrite {s : Gk1} {q o m : Nat} (hwork : s.blocksWork = true) (hoff : (s.queue q).state = 0)
    (ho : o ∈ [0x00, 0x08]) (v : Nat) : ∃ r, queueReg q o = some r ∧ r.wide = true ∧ s.writeReg r m v =
      s.setReg (0x100000 + 0x40 * q + o) 0 (mergeBits (s.reg (0x100000 + 0x40 * q + o) 0) (m &&& (2 ^ 64 - 4096)) v) := by
  have hput : ∀ off, s.putQe q off 0 (2 ^ 64 - 4096) m v id = s.setReg off 0 (mergeBits (s.reg off 0) (m &&& (2 ^ 64 - 4096)) v) :=
    fun off => if_neg (not_not.2 hoff)
  simp only [List.mem_cons, List.not_mem_nil, or_false] at ho
  obtain rfl | rfl := ho
  · refine ⟨.sqBase q, rfl, rfl, ?_⟩
    rw [← hput]
    simp [Gk1.writeReg, Reg.gated, hwork, Gk1.writeHlQe]
  · refine ⟨.cqBase q, rfl, rfl, ?_⟩
    rw [← hput, show 0x100000 + 0x40 * q + 8 = 0x100008 + 0x40 * q by omega]
    simp [Gk1.writeReg, Reg.gated, hwork, Gk1.writeHlQe]

/-- Settles O37. -/
theorem registerWrites : Obligations.RegisterWrites := by
  unfold Obligations.RegisterWrites
  refine ⟨fun s q v hq hwork hoff o ho => ?_, fun s i v hi hne hwork hvalid => ?_, fun s i v hi hne hwork hmask => ?_,
    fun s v hwork => ?_, fun s i v hi hwork => ?_, fun s off size v => ⟨fun hbad hwork => ?_, fun hsize h4 hnone => ?_,
    fun r hsize h4 hr hdead => ?_, fun hwork => ?_⟩⟩
  · have ho8 : o % 8 = 0 ∧ o < 0x1C := by
      simp only [List.mem_cons, List.not_mem_nil, or_false] at ho
      omega
    obtain ⟨r, hr, hwide, hw⟩ := baseWrite (m := reach 8 0) hwork hoff ho v.toNat
    have hbar : s.barWrite (0x100000 + 0x40 * q + o) 8 v.toNat =
        s.setReg (0x100000 + 0x40 * q + o) 0 (mergeBits (s.reg (0x100000 + 0x40 * q + o) 0) (reach 8 0 &&& (2 ^ 64 - 4096)) v.toNat) := by
      rw [Gk1.barWrite_eight_wide s.toGk1 (by omega) ((regBase_queue hq (by omega)).trans hr) hwide]
      exact hw
    refine ⟨became s (s.setReg (0x100000 + 0x40 * q + o) 0 (mergeBits (s.reg (0x100000 + 0x40 * q + o) 0) (reach 8 0 &&& (2 ^ 64 - 4096)) v.toNat)), ?_, rfl, rfl,
      ?_, fun p d hp => ?_⟩
    · change execQeConfigWrite _ 8 v s = _
      refine State.act_of_next _ _ _ ?_
      rw [isQeConfig_queue hq ho8.2 (by omega), if_pos rfl, hbar]
    · rw [reg_became, Gk1.reg_setReg, if_pos rfl, fld_mod _ 64 _ _ (by decide), fld_mergeBits]
      intro k hk
      have hmask : ∀ k < 52, (reach 8 0 &&& (2 ^ 64 - 4096)).testBit (12 + k) = true := by decide
      exact hmask k hk
    · exact Gk1.reg_setReg_of_ne _ (Ne.symm hp) _ _ _
  · have hw : s.writeReg (.placeMask i) (reach 8 0) (present 8 0 v.toNat) = s.setReg (0x300000 + 8 * i) 0 v.toNat := by
      have hgo : (decide (i = 0) || (s.reg (0x300800 + 4 * i) 0).testBit 0) = false := by rw [decide_eq_false hne, hvalid]; rfl
      have hput : s.putRw (0x300000 + 8 * i) 0 (2 ^ 64 - 1) (reach 8 0) (present 8 0 v.toNat) = s.setReg (0x300000 + 8 * i) 0 v.toNat := by
        rw [Gk1.putRw]
        exact congrArg _ (mergeBits_all _ _ v.isLt)
      simp only [Gk1.writeReg, Reg.gated, hwork, Gk1.writePtMem, hgo, hput, if_true, Bool.not_true, Bool.false_eq_true, if_false]
    refine ⟨_, exec_memPlaceMaskWrite hi (.inl rfl) v, ?_, ?_, fun p d hp => ?_⟩
    all_goals rw [hw]
    · rw [reg_became, Gk1.reg_setReg, if_pos rfl, Nat.mod_eq_of_lt v.isLt]
    · rfl
    · exact Gk1.reg_setReg_of_ne _ (Ne.symm hp) _ _ _
  · refine ⟨_, exec_memPlaceAttrWrite hi v, ?_, ?_, fun p d hp => ?_⟩
    all_goals rw [Gk1.writeReg_placeAttr hwork]
    · have hok : (decide (i = 0) || (v.toNat.testBit 0 && maskOk (s.reg (0x300000 + 8 * i) 0))) = v.toNat.testBit 0 := by
        rw [decide_eq_false hne, Bool.false_or]
        rcases hmask with h | h
        · rw [show maskOk (s.reg (0x300000 + 8 * i) 0) = true from List.contains_iff_mem.2 h, Bool.and_true]
        · rw [show v.toNat.testBit 0 = false from h, Bool.false_and]
      rw [reg_became, Gk1.writeAttr, hok, decide_eq_false hne]
      refine (Gk1.reg_setReg ..).trans ((if_pos rfl).trans ?_)
      have h0 : b2n (v.toNat.testBit 0) = v.toNat % 2 := by
        rw [Nat.testBit_zero]
        obtain h | h := Nat.mod_two_eq_zero_or_one v.toNat <;> rw [h] <;> rfl
      rw [h0, fld, fld, Nat.shiftRight_eq_div_pow]
      omega
    · rfl
    · exact Gk1.reg_setReg_of_ne _ (Ne.symm hp) _ _ _
  · obtain ⟨hpoint, hdram, heven⟩ := writeEven_fields s.toGk1 v.toNat
    have hw : s.writeReg .ptEven (reach 4 0) v.toNat = s.writeEven v.toNat := by
      simp [Gk1.writeReg, Reg.gated, hwork, Gk1.writePtMem]
    exact ⟨became s (s.writeEven v.toNat), congrArg (fun p => Host.Outcome.next (became s p)) hw, hpoint, hdram, heven⟩
  · have hw : s.barWrite (0x401000 + 8 * i) 8 v.toNat =
        (s.putRw (0x401000 + 8 * i) 0 (2 ^ 48 - 1) (reach 8 0) v.toNat).routed (0x401000 + 8 * i) := by
      rw [Gk1.barWrite_eight_wide s.toGk1 (by omega) (regBase_routeG hi) rfl]
      simp [Gk1.writeReg, Reg.gated, hwork, Gk1.writeFabCk]
    refine ⟨became s ((s.putRw (0x401000 + 8 * i) 0 (2 ^ 48 - 1) (reach 8 0) v.toNat).routed (0x401000 + 8 * i)),
      congrArg (fun p => Host.Outcome.next (became s p)) hw, ?_, fun p d hp => ?_, rfl⟩
    · change fld ((s.putRw (0x401000 + 8 * i) 0 (2 ^ 48 - 1) (reach 8 0) v.toNat).reg (0x401000 + 8 * i) 0) 0 48 = _
      rw [Gk1.putRw, Gk1.reg_setReg, if_pos rfl, fld_mod _ 64 _ _ (by decide), fld_mergeBits]
      intro k hk
      have hmask : ∀ k < 48, (reach 8 0 &&& (2 ^ 48 - 1)).testBit (0 + k) = true := by decide
      exact hmask k hk
    · exact Gk1.reg_setReg_of_ne _ (Ne.symm hp) _ _ _
  · change execRegisterWrite off size v s = _
    refine State.act_of_next _ _ _ (congrArg _ ?_)
    simp [Gk1.barWrite, hbad, Gk1.badAccess, hwork, hlErr]
  · subst hsize
    rw [exec_registerWrite_four h4, Gk1.write4, hnone]
    rfl
  · subst hsize
    obtain ⟨r, half⟩ := r
    have hw : s.write4 off v.toNat = s.toGk1 := by
      rw [Gk1.write4, hr]
      change s.writeReg r _ _ = _
      unfold Gk1.writeReg
      exact if_pos (by rw [show (if r.gated = true then s.blocksWork else s.regsWork) = false from hdead]; rfl)
    rw [exec_registerWrite_four h4, hw]
    rfl
  · have hw : s.write4 0x60 v.toNat = s.clearW1c hlErr 63 (reach 4 0) (present 4 0 v.toNat) := by
      have hat : regAt 0x60 = some (.hlErr, 0) := rfl
      simp [Gk1.write4, hat, Gk1.writeReg, Reg.gated, hwork, Gk1.writeHlQe]
    refine ⟨_, exec_registerWrite_four rfl v, fun k hk => ?_⟩
    have hm : ∀ k < 6, (reach 4 0).testBit k = true ∧ (63 : Nat).testBit k = true := by decide
    obtain ⟨hreach, hmask⟩ := hm k hk
    have hv : (present 4 0 v.toNat).testBit k = v.getLsbD k := by
      rw [present, if_neg (by decide), Nat.mul_zero, Nat.pow_zero, Nat.mul_one, Nat.testBit_mod_two_pow, BitVec.getLsbD]
      simp [show k < 32 by omega]
    rw [hw, reg_became, Gk1.clearW1c]
    change (((s.setReg hlErr 0 _).reg hlErr 0).testBit k) = _
    rw [Gk1.reg_setReg, if_pos rfl, Nat.testBit_mod_two_pow, testBit_mergeBits, Nat.testBit_and, Nat.testBit_and, hreach, hmask, hv,
      Nat.zero_testBit]
    simp [show k < 64 by omega, hlErr]

end Sys2Proof.Claims

/-! Starting, running and completing descriptors. -/

namespace Sys2Proof.Machine

/-! ## What starts and completions leave -/

theorem Gk1.start_eq (s : Gk1) (q : Nat) (d : Desc) : ∃ qs, s.start q d = { s with queues := qs } := ⟨_, rfl⟩

theorem Gk1.finish_eq (s : Gk1) (q : Nat) (d : Desc) (f : Fin_) : ∃ qs, s.finish q d f = { s with queues := qs } := by
  have hsettle : ∀ t : Gk1, ∃ qs, t.settle q = { t with queues := qs } := by
    intro t
    unfold Gk1.settle
    split <;> exact ⟨_, rfl⟩
  obtain ⟨qs, h⟩ := hsettle _
  exact ⟨qs, h⟩

/-- Posted writes, one after the other. -/
theorem Gk1.posts_eq (s : Gk1) (l : List (Nat × List Byte)) :
    ∃ ps hs, l.foldl (fun s p => s.post p.1 p.2) s = { s with posted := ps, postHeld := hs } := by
  induction l generalizing s with
  | nil => exact ⟨_, _, rfl⟩
  | cons p l ih =>
    obtain ⟨ps, hs, h⟩ := s.post_eq p.1 p.2
    obtain ⟨ps', hs', h'⟩ := ih (s.post p.1 p.2)
    exact ⟨ps', hs', by rw [List.foldl_cons, h', h]⟩

theorem Gk1.finishMgmt_eq (s : Gk1) (d : Desc) (bs : List Byte) :
    ∃ ps hs qs, s.finishMgmt d bs = { s with posted := ps, postHeld := hs, queues := qs } := by
  unfold Gk1.finishMgmt
  obtain ⟨ps, hs, h⟩ := s.posts_eq (hostPieces (bs.length + 1) (d.w 1) bs)
  dsimp only
  rw [h]
  obtain ⟨qs, h'⟩ := Gk1.finish_eq { s with posted := ps, postHeld := hs } 0 d { data := bs.length }
  exact ⟨_, _, qs, h'⟩

section
variable (s : Gk1) (q : Nat) (d : Desc)

@[simp] theorem Gk1.start_free : (s.start q d).free = s.free := by obtain ⟨_, h⟩ := s.start_eq q d; rw [h]
@[simp] theorem Gk1.start_part : (s.start q d).part = s.part := by obtain ⟨_, h⟩ := s.start_eq q d; rw [h]
@[simp] theorem Gk1.start_dtime : (s.start q d).dtime = s.dtime := by obtain ⟨_, h⟩ := s.start_eq q d; rw [h]
@[simp] theorem Gk1.start_regs : (s.start q d).regs = s.regs := by obtain ⟨_, h⟩ := s.start_eq q d; rw [h]
@[simp] theorem Gk1.start_edge : (s.start q d).edge = s.edge := by obtain ⟨_, h⟩ := s.start_eq q d; rw [h]
@[simp] theorem Gk1.start_boot : (s.start q d).boot = s.boot := by obtain ⟨_, h⟩ := s.start_eq q d; rw [h]
@[simp] theorem Gk1.start_clocks : (s.start q d).clocks = s.clocks := by obtain ⟨_, h⟩ := s.start_eq q d; rw [h]
@[simp] theorem Gk1.start_line : (s.start q d).line = s.line := by obtain ⟨_, h⟩ := s.start_eq q d; rw [h]
@[simp] theorem Gk1.start_power : (s.start q d).power = s.power := by obtain ⟨_, h⟩ := s.start_eq q d; rw [h]
@[simp] theorem Gk1.start_ledger : (s.start q d).ledger = s.ledger := by obtain ⟨_, h⟩ := s.start_eq q d; rw [h]
@[simp] theorem Gk1.start_held : (s.start q d).held = s.held := by obtain ⟨_, h⟩ := s.start_eq q d; rw [h]
@[simp] theorem Gk1.start_obs : (s.start q d).obs = s.obs := by obtain ⟨_, h⟩ := s.start_eq q d; rw [h]
@[simp] theorem Gk1.start_cores : (s.start q d).cores = s.cores := by obtain ⟨_, h⟩ := s.start_eq q d; rw [h]
@[simp] theorem Gk1.start_clusters : (s.start q d).clusters = s.clusters := by obtain ⟨_, h⟩ := s.start_eq q d; rw [h]
@[simp] theorem Gk1.start_regions : (s.start q d).regions = s.regions := by obtain ⟨_, h⟩ := s.start_eq q d; rw [h]
@[simp] theorem Gk1.start_cache : (s.start q d).cache = s.cache := by obtain ⟨_, h⟩ := s.start_eq q d; rw [h]
@[simp] theorem Gk1.start_stamp : (s.start q d).stamp = s.stamp := by obtain ⟨_, h⟩ := s.start_eq q d; rw [h]
@[simp] theorem Gk1.start_fills : (s.start q d).fills = s.fills := by obtain ⟨_, h⟩ := s.start_eq q d; rw [h]
@[simp] theorem Gk1.start_nextId : (s.start q d).nextId = s.nextId := by obtain ⟨_, h⟩ := s.start_eq q d; rw [h]
@[simp] theorem Gk1.start_reqs : (s.start q d).reqs = s.reqs := by obtain ⟨_, h⟩ := s.start_eq q d; rw [h]
@[simp] theorem Gk1.start_msgs : (s.start q d).msgs = s.msgs := by obtain ⟨_, h⟩ := s.start_eq q d; rw [h]
@[simp] theorem Gk1.start_epochs : (s.start q d).epochs = s.epochs := by obtain ⟨_, h⟩ := s.start_eq q d; rw [h]
@[simp] theorem Gk1.start_ctxs : (s.start q d).ctxs = s.ctxs := by obtain ⟨_, h⟩ := s.start_eq q d; rw [h]
@[simp] theorem Gk1.start_kernels : (s.start q d).kernels = s.kernels := by obtain ⟨_, h⟩ := s.start_eq q d; rw [h]
@[simp] theorem Gk1.start_ownerWatches : (s.start q d).ownerWatches = s.ownerWatches := by obtain ⟨_, h⟩ := s.start_eq q d; rw [h]
@[simp] theorem Gk1.start_importWatches : (s.start q d).importWatches = s.importWatches := by obtain ⟨_, h⟩ := s.start_eq q d; rw [h]
@[simp] theorem Gk1.start_ports : (s.start q d).ports = s.ports := by obtain ⟨_, h⟩ := s.start_eq q d; rw [h]
@[simp] theorem Gk1.start_drops : (s.start q d).drops = s.drops := by obtain ⟨_, h⟩ := s.start_eq q d; rw [h]
@[simp] theorem Gk1.start_unreachable : (s.start q d).unreachable = s.unreachable := by obtain ⟨_, h⟩ := s.start_eq q d; rw [h]
@[simp] theorem Gk1.start_kept : (s.start q d).kept = s.kept := by obtain ⟨_, h⟩ := s.start_eq q d; rw [h]
@[simp] theorem Gk1.start_routedAt : (s.start q d).routedAt = s.routedAt := by obtain ⟨_, h⟩ := s.start_eq q d; rw [h]
@[simp] theorem Gk1.start_jobs : (s.start q d).jobs = s.jobs := by obtain ⟨_, h⟩ := s.start_eq q d; rw [h]
@[simp] theorem Gk1.start_buckets : (s.start q d).buckets = s.buckets := by obtain ⟨_, h⟩ := s.start_eq q d; rw [h]
@[simp] theorem Gk1.start_snaps : (s.start q d).snaps = s.snaps := by obtain ⟨_, h⟩ := s.start_eq q d; rw [h]
@[simp] theorem Gk1.start_posted : (s.start q d).posted = s.posted := by obtain ⟨_, h⟩ := s.start_eq q d; rw [h]
@[simp] theorem Gk1.start_postHeld : (s.start q d).postHeld = s.postHeld := by obtain ⟨_, h⟩ := s.start_eq q d; rw [h]

end

section
variable (s : Gk1) (q : Nat) (d : Desc) (f : Fin_)

@[simp] theorem Gk1.finish_free : (s.finish q d f).free = s.free := by obtain ⟨_, h⟩ := s.finish_eq q d f; rw [h]
@[simp] theorem Gk1.finish_part : (s.finish q d f).part = s.part := by obtain ⟨_, h⟩ := s.finish_eq q d f; rw [h]
@[simp] theorem Gk1.finish_dtime : (s.finish q d f).dtime = s.dtime := by obtain ⟨_, h⟩ := s.finish_eq q d f; rw [h]
@[simp] theorem Gk1.finish_regs : (s.finish q d f).regs = s.regs := by obtain ⟨_, h⟩ := s.finish_eq q d f; rw [h]
@[simp] theorem Gk1.finish_edge : (s.finish q d f).edge = s.edge := by obtain ⟨_, h⟩ := s.finish_eq q d f; rw [h]
@[simp] theorem Gk1.finish_boot : (s.finish q d f).boot = s.boot := by obtain ⟨_, h⟩ := s.finish_eq q d f; rw [h]
@[simp] theorem Gk1.finish_clocks : (s.finish q d f).clocks = s.clocks := by obtain ⟨_, h⟩ := s.finish_eq q d f; rw [h]
@[simp] theorem Gk1.finish_line : (s.finish q d f).line = s.line := by obtain ⟨_, h⟩ := s.finish_eq q d f; rw [h]
@[simp] theorem Gk1.finish_power : (s.finish q d f).power = s.power := by obtain ⟨_, h⟩ := s.finish_eq q d f; rw [h]
@[simp] theorem Gk1.finish_ledger : (s.finish q d f).ledger = s.ledger := by obtain ⟨_, h⟩ := s.finish_eq q d f; rw [h]
@[simp] theorem Gk1.finish_held : (s.finish q d f).held = s.held := by obtain ⟨_, h⟩ := s.finish_eq q d f; rw [h]
@[simp] theorem Gk1.finish_obs : (s.finish q d f).obs = s.obs := by obtain ⟨_, h⟩ := s.finish_eq q d f; rw [h]
@[simp] theorem Gk1.finish_cores : (s.finish q d f).cores = s.cores := by obtain ⟨_, h⟩ := s.finish_eq q d f; rw [h]
@[simp] theorem Gk1.finish_clusters : (s.finish q d f).clusters = s.clusters := by obtain ⟨_, h⟩ := s.finish_eq q d f; rw [h]
@[simp] theorem Gk1.finish_regions : (s.finish q d f).regions = s.regions := by obtain ⟨_, h⟩ := s.finish_eq q d f; rw [h]
@[simp] theorem Gk1.finish_cache : (s.finish q d f).cache = s.cache := by obtain ⟨_, h⟩ := s.finish_eq q d f; rw [h]
@[simp] theorem Gk1.finish_stamp : (s.finish q d f).stamp = s.stamp := by obtain ⟨_, h⟩ := s.finish_eq q d f; rw [h]
@[simp] theorem Gk1.finish_fills : (s.finish q d f).fills = s.fills := by obtain ⟨_, h⟩ := s.finish_eq q d f; rw [h]
@[simp] theorem Gk1.finish_nextId : (s.finish q d f).nextId = s.nextId := by obtain ⟨_, h⟩ := s.finish_eq q d f; rw [h]
@[simp] theorem Gk1.finish_reqs : (s.finish q d f).reqs = s.reqs := by obtain ⟨_, h⟩ := s.finish_eq q d f; rw [h]
@[simp] theorem Gk1.finish_msgs : (s.finish q d f).msgs = s.msgs := by obtain ⟨_, h⟩ := s.finish_eq q d f; rw [h]
@[simp] theorem Gk1.finish_epochs : (s.finish q d f).epochs = s.epochs := by obtain ⟨_, h⟩ := s.finish_eq q d f; rw [h]
@[simp] theorem Gk1.finish_ctxs : (s.finish q d f).ctxs = s.ctxs := by obtain ⟨_, h⟩ := s.finish_eq q d f; rw [h]
@[simp] theorem Gk1.finish_ownerWatches : (s.finish q d f).ownerWatches = s.ownerWatches := by obtain ⟨_, h⟩ := s.finish_eq q d f; rw [h]
@[simp] theorem Gk1.finish_importWatches : (s.finish q d f).importWatches = s.importWatches := by obtain ⟨_, h⟩ := s.finish_eq q d f; rw [h]
@[simp] theorem Gk1.finish_ports : (s.finish q d f).ports = s.ports := by obtain ⟨_, h⟩ := s.finish_eq q d f; rw [h]
@[simp] theorem Gk1.finish_drops : (s.finish q d f).drops = s.drops := by obtain ⟨_, h⟩ := s.finish_eq q d f; rw [h]
@[simp] theorem Gk1.finish_unreachable : (s.finish q d f).unreachable = s.unreachable := by obtain ⟨_, h⟩ := s.finish_eq q d f; rw [h]
@[simp] theorem Gk1.finish_kept : (s.finish q d f).kept = s.kept := by obtain ⟨_, h⟩ := s.finish_eq q d f; rw [h]
@[simp] theorem Gk1.finish_routedAt : (s.finish q d f).routedAt = s.routedAt := by obtain ⟨_, h⟩ := s.finish_eq q d f; rw [h]
@[simp] theorem Gk1.finish_jobs : (s.finish q d f).jobs = s.jobs := by obtain ⟨_, h⟩ := s.finish_eq q d f; rw [h]
@[simp] theorem Gk1.finish_buckets : (s.finish q d f).buckets = s.buckets := by obtain ⟨_, h⟩ := s.finish_eq q d f; rw [h]
@[simp] theorem Gk1.finish_snaps : (s.finish q d f).snaps = s.snaps := by obtain ⟨_, h⟩ := s.finish_eq q d f; rw [h]
@[simp] theorem Gk1.finish_posted : (s.finish q d f).posted = s.posted := by obtain ⟨_, h⟩ := s.finish_eq q d f; rw [h]
@[simp] theorem Gk1.finish_postHeld : (s.finish q d f).postHeld = s.postHeld := by obtain ⟨_, h⟩ := s.finish_eq q d f; rw [h]

end

section
variable (s : Gk1) (d : Desc) (bs : List Byte)

@[simp] theorem Gk1.finishMgmt_free : (s.finishMgmt d bs).free = s.free := by obtain ⟨_, _, _, h⟩ := s.finishMgmt_eq d bs; rw [h]
@[simp] theorem Gk1.finishMgmt_part : (s.finishMgmt d bs).part = s.part := by obtain ⟨_, _, _, h⟩ := s.finishMgmt_eq d bs; rw [h]
@[simp] theorem Gk1.finishMgmt_dtime : (s.finishMgmt d bs).dtime = s.dtime := by obtain ⟨_, _, _, h⟩ := s.finishMgmt_eq d bs; rw [h]
@[simp] theorem Gk1.finishMgmt_regs : (s.finishMgmt d bs).regs = s.regs := by obtain ⟨_, _, _, h⟩ := s.finishMgmt_eq d bs; rw [h]
@[simp] theorem Gk1.finishMgmt_edge : (s.finishMgmt d bs).edge = s.edge := by obtain ⟨_, _, _, h⟩ := s.finishMgmt_eq d bs; rw [h]
@[simp] theorem Gk1.finishMgmt_boot : (s.finishMgmt d bs).boot = s.boot := by obtain ⟨_, _, _, h⟩ := s.finishMgmt_eq d bs; rw [h]
@[simp] theorem Gk1.finishMgmt_clocks : (s.finishMgmt d bs).clocks = s.clocks := by obtain ⟨_, _, _, h⟩ := s.finishMgmt_eq d bs; rw [h]
@[simp] theorem Gk1.finishMgmt_line : (s.finishMgmt d bs).line = s.line := by obtain ⟨_, _, _, h⟩ := s.finishMgmt_eq d bs; rw [h]
@[simp] theorem Gk1.finishMgmt_power : (s.finishMgmt d bs).power = s.power := by obtain ⟨_, _, _, h⟩ := s.finishMgmt_eq d bs; rw [h]
@[simp] theorem Gk1.finishMgmt_ledger : (s.finishMgmt d bs).ledger = s.ledger := by obtain ⟨_, _, _, h⟩ := s.finishMgmt_eq d bs; rw [h]
@[simp] theorem Gk1.finishMgmt_held : (s.finishMgmt d bs).held = s.held := by obtain ⟨_, _, _, h⟩ := s.finishMgmt_eq d bs; rw [h]
@[simp] theorem Gk1.finishMgmt_obs : (s.finishMgmt d bs).obs = s.obs := by obtain ⟨_, _, _, h⟩ := s.finishMgmt_eq d bs; rw [h]
@[simp] theorem Gk1.finishMgmt_cores : (s.finishMgmt d bs).cores = s.cores := by obtain ⟨_, _, _, h⟩ := s.finishMgmt_eq d bs; rw [h]
@[simp] theorem Gk1.finishMgmt_clusters : (s.finishMgmt d bs).clusters = s.clusters := by obtain ⟨_, _, _, h⟩ := s.finishMgmt_eq d bs; rw [h]
@[simp] theorem Gk1.finishMgmt_regions : (s.finishMgmt d bs).regions = s.regions := by obtain ⟨_, _, _, h⟩ := s.finishMgmt_eq d bs; rw [h]
@[simp] theorem Gk1.finishMgmt_cache : (s.finishMgmt d bs).cache = s.cache := by obtain ⟨_, _, _, h⟩ := s.finishMgmt_eq d bs; rw [h]
@[simp] theorem Gk1.finishMgmt_stamp : (s.finishMgmt d bs).stamp = s.stamp := by obtain ⟨_, _, _, h⟩ := s.finishMgmt_eq d bs; rw [h]
@[simp] theorem Gk1.finishMgmt_fills : (s.finishMgmt d bs).fills = s.fills := by obtain ⟨_, _, _, h⟩ := s.finishMgmt_eq d bs; rw [h]
@[simp] theorem Gk1.finishMgmt_nextId : (s.finishMgmt d bs).nextId = s.nextId := by obtain ⟨_, _, _, h⟩ := s.finishMgmt_eq d bs; rw [h]
@[simp] theorem Gk1.finishMgmt_reqs : (s.finishMgmt d bs).reqs = s.reqs := by obtain ⟨_, _, _, h⟩ := s.finishMgmt_eq d bs; rw [h]
@[simp] theorem Gk1.finishMgmt_msgs : (s.finishMgmt d bs).msgs = s.msgs := by obtain ⟨_, _, _, h⟩ := s.finishMgmt_eq d bs; rw [h]
@[simp] theorem Gk1.finishMgmt_epochs : (s.finishMgmt d bs).epochs = s.epochs := by obtain ⟨_, _, _, h⟩ := s.finishMgmt_eq d bs; rw [h]
@[simp] theorem Gk1.finishMgmt_ctxs : (s.finishMgmt d bs).ctxs = s.ctxs := by obtain ⟨_, _, _, h⟩ := s.finishMgmt_eq d bs; rw [h]
@[simp] theorem Gk1.finishMgmt_kernels : (s.finishMgmt d bs).kernels = s.kernels := by obtain ⟨_, _, _, h⟩ := s.finishMgmt_eq d bs; rw [h]
@[simp] theorem Gk1.finishMgmt_ownerWatches : (s.finishMgmt d bs).ownerWatches = s.ownerWatches := by obtain ⟨_, _, _, h⟩ := s.finishMgmt_eq d bs; rw [h]
@[simp] theorem Gk1.finishMgmt_importWatches : (s.finishMgmt d bs).importWatches = s.importWatches := by obtain ⟨_, _, _, h⟩ := s.finishMgmt_eq d bs; rw [h]
@[simp] theorem Gk1.finishMgmt_ports : (s.finishMgmt d bs).ports = s.ports := by obtain ⟨_, _, _, h⟩ := s.finishMgmt_eq d bs; rw [h]
@[simp] theorem Gk1.finishMgmt_drops : (s.finishMgmt d bs).drops = s.drops := by obtain ⟨_, _, _, h⟩ := s.finishMgmt_eq d bs; rw [h]
@[simp] theorem Gk1.finishMgmt_unreachable : (s.finishMgmt d bs).unreachable = s.unreachable := by obtain ⟨_, _, _, h⟩ := s.finishMgmt_eq d bs; rw [h]
@[simp] theorem Gk1.finishMgmt_kept : (s.finishMgmt d bs).kept = s.kept := by obtain ⟨_, _, _, h⟩ := s.finishMgmt_eq d bs; rw [h]
@[simp] theorem Gk1.finishMgmt_routedAt : (s.finishMgmt d bs).routedAt = s.routedAt := by obtain ⟨_, _, _, h⟩ := s.finishMgmt_eq d bs; rw [h]
@[simp] theorem Gk1.finishMgmt_jobs : (s.finishMgmt d bs).jobs = s.jobs := by obtain ⟨_, _, _, h⟩ := s.finishMgmt_eq d bs; rw [h]
@[simp] theorem Gk1.finishMgmt_buckets : (s.finishMgmt d bs).buckets = s.buckets := by obtain ⟨_, _, _, h⟩ := s.finishMgmt_eq d bs; rw [h]
@[simp] theorem Gk1.finishMgmt_snaps : (s.finishMgmt d bs).snaps = s.snaps := by obtain ⟨_, _, _, h⟩ := s.finishMgmt_eq d bs; rw [h]

end

end Sys2Proof.Machine

namespace Sys2Proof.Claims

open Sys2Proof.Machine

/-! ## Completions -/

/-- A completion of the queue's started descriptor, of which the queue is as it stood. -/
theorem completed_finish_of_runs {s t : Gk1} {q : Nat} {c : Cur} (h : runs s q c = true) (hqueue : t.queue q = s.queue q)
    (htime : t.dtime = s.dtime) (f : Fin_) : completed s (t.finish q c.desc f) q c.desc f := by
  simp only [runs, Bool.and_eq_true, decide_eq_true_eq, Bool.not_eq_true'] at h
  obtain ⟨⟨⟨_, hcur⟩, hnew⟩, hactive⟩ := h
  rw [← hqueue] at hcur hactive
  refine ⟨?_, ?_, Gk1.state_finish_of_active _ q _ f hactive hnew⟩
  · rw [Gk1.cur_finish, hcur]
    exact if_pos rfl
  · rw [Gk1.recs_finish_of_active _ q _ f hactive hnew, hqueue, htime]

/-- A descriptor that starts and completes, of which the queue is as the start left it. -/
theorem completed_finish_of_starts {s t : Gk1} {q : Nat} {d : Desc} (h : starts s q d = true)
    (hqueue : t.queue q = (s.start q d).queue q) (htime : t.dtime = s.dtime) (f : Fin_) : completed s (t.finish q d f) q d f := by
  obtain ⟨hq, hmay, hcur, hnext, hnew⟩ := starts_iff.1 h
  have hstate : (s.queue q).state = 1 := by
    simp only [Gk1.mayStart, Bool.and_eq_true, decide_eq_true_eq] at hmay
    obtain ⟨⟨⟨-, hactive⟩, -⟩, -⟩ := hmay
    exact hactive
  have hstart : (s.start q d).queue q = { (s.queue q).take d with cur := some { desc := d, at_ := s.dtime } } := by
    rw [Gk1.start, Gk1.queue_modQueue, if_pos rfl]
  have hactive : (t.queue q).state = 1 := by rw [hqueue, hstart]; exact hstate
  refine ⟨?_, ?_, Gk1.state_finish_of_active _ q _ f hactive hnew⟩
  · rw [Gk1.cur_finish, hqueue, hstart]
    exact if_pos rfl
  · rw [Gk1.recs_finish_of_active _ q _ f hactive hnew, hqueue, hstart, htime]
    rfl

/-- The queue behind a result that is posted. -/
theorem finishMgmt_finish (s : Gk1) (d : Desc) (bs : List Byte) :
    ∃ t : Gk1, s.finishMgmt d bs = t.finish 0 d { data := bs.length } ∧ t.queues = s.queues ∧ t.dtime = s.dtime := by
  obtain ⟨ps, hs, h⟩ := s.posts_eq (hostPieces (bs.length + 1) (d.w 1) bs)
  exact ⟨_, rfl, by rw [h], by rw [h]⟩

theorem completed_finishMgmt_of_starts {s t : Gk1} {d : Desc} (h : starts s 0 d = true)
    (hqueue : t.queue 0 = (s.start 0 d).queue 0) (htime : t.dtime = s.dtime) (bs : List Byte) :
    completed s (t.finishMgmt d bs) 0 d { data := bs.length } := by
  obtain ⟨u, hu, hq, ht⟩ := finishMgmt_finish t d bs
  rw [hu]
  exact completed_finish_of_starts h (by rw [Gk1.queue, hq]; exact hqueue) (ht.trans htime) _

theorem completed_finishMgmt_of_runs {s t : Gk1} {c : Cur} (h : runs s 0 c = true) (hqueue : t.queue 0 = s.queue 0)
    (htime : t.dtime = s.dtime) (bs : List Byte) : completed s (t.finishMgmt c.desc bs) 0 c.desc { data := bs.length } := by
  obtain ⟨u, hu, hq, ht⟩ := finishMgmt_finish t c.desc bs
  rw [hu]
  exact completed_finish_of_runs h (by rw [Gk1.queue, hq]; exact hqueue) (ht.trans htime) _

/-! ## MGMT descriptors -/

theorem mgmt_iff {s : Gk1} {sub : Nat} {d : Desc} : mgmt s sub d = true ↔
    starts s 0 d = true ∧ d.type = 0x10 ∧ d.sub = sub ∧ d.phase ≠ 6 := by
  simp [mgmt, and_assoc]

theorem starts_of_mgmt {s : Gk1} {sub : Nat} {d : Desc} (h : mgmt s sub d = true) : starts s 0 d = true := (mgmt_iff.1 h).1

/-- The MGMT descriptor that may start does so (R446). -/
theorem onMgmt_of_mgmt {s : Gk1} {sub : Nat} {d : Desc} (h : mgmt s sub d = true) (run : Desc → Gk1 → Gk1) :
    onMgmt sub run s = .next (run d (s.start 0 d)) := by
  obtain ⟨hstarts, htype, hsub, hphase⟩ := mgmt_iff.1 h
  unfold onMgmt
  rw [onStart_of_starts hstarts (isRow := fun d => d.type = 0x10 && d.sub = sub) (by simp [htype, hsub]), if_neg hphase]

/-- The descriptor starts as the current one of queue 0. -/
theorem cur_start (s : Gk1) (q : Nat) (d : Desc) : ((s.start q d).queue q).cur = some { desc := d, at_ := s.dtime } := by
  rw [Gk1.start, Gk1.queue_modQueue, if_pos rfl]

/-- A refused command completes as it starts. -/
theorem completed_refuseMgmt {s : Gk1} {d : Desc} (h : starts s 0 d = true) (code : Nat) :
    completed s ((s.start 0 d).refuseMgmt d code) 0 d { status := code } := completed_finish_start h _

end Sys2Proof.Claims

/-! Owners of regions: REGION_ASSIGN and its releases. -/

namespace Sys2Proof.Machine

/-- A mask names a region by its bit. -/
theorem mem_bitsOf {n w i : Nat} : i ∈ bitsOf n w ↔ i < n ∧ w.testBit i = true := by simp [bitsOf]

theorem mem_regionMask {w r : Nat} (hr : r < 64) : r ∈ regionMask w ↔ w.testBit r = true :=
  mem_bitsOf.trans (and_iff_right hr)

theorem Gk1.handOver_eq (s : Gk1) (key : Nat) (rs : List Nat) : ∃ p l, (s.handOver key rs).1 = { s with power := p, ledger := l } := by
  have hset : ∀ (b : Prop) [Decidable b] (more : List Nat), ∃ p l,
      ({ (if b then s.unheld else s) with power := { (if b then s.unheld else s).power with
        handing := NMap.set (if b then s.unheld else s).power.handing key more } } : Gk1) = { s with power := p, ledger := l } := by
    intro b _ more
    split <;> exact ⟨_, _, rfl⟩
  unfold Gk1.handOver
  split
  · exact ⟨_, _, rfl⟩
  · exact hset _ _

/-- Clusters change one after the other. -/
theorem Gk1.modClusters_eq (s : Gk1) (l : List Nat) (f : Nat → Cluster → Cluster) :
    ∃ cs, l.foldl (fun s c => s.modCluster c (f c)) s = { s with clusters := cs } := by
  induction l generalizing s with
  | nil => exact ⟨_, rfl⟩
  | cons c l ih =>
    obtain ⟨cs, h⟩ := ih (s.modCluster c (f c))
    exact ⟨cs, by rw [List.foldl_cons, h]; rfl⟩

theorem Gk1.unown_eq (s : Gk1) (rs : List Nat) : ∃ co cs rg, s.unown rs = { s with cores := co, clusters := cs, regions := rg } := by
  obtain ⟨cs, h⟩ := s.modClusters_eq (rs.flatMap s.heldIn) fun _ c => { c with held := false }
  have hwipe : ∀ (l : List Nat) (t : Gk1), ∃ co cs rg, l.foldl (fun s r => (s.wipeRegion r).modRegion r fun R =>
      { R with owner := none, needsClear := true }) t = { t with cores := co, clusters := cs, regions := rg } := by
    intro l
    induction l with
    | nil => exact fun t => ⟨_, _, _, rfl⟩
    | cons r l ih =>
      intro t
      obtain ⟨co, cs, rg, h⟩ := ih ((t.wipeRegion r).modRegion r fun R => { R with owner := none, needsClear := true })
      exact ⟨co, cs, rg, by rw [List.foldl_cons, h]; rfl⟩
  obtain ⟨co, cs', rg, h'⟩ := hwipe rs { s with clusters := cs }
  refine ⟨co, cs', rg, ?_⟩
  unfold Gk1.unown
  dsimp only
  rw [h, h']

section
variable (s : Gk1) (rs : List Nat)

@[simp] theorem Gk1.unown_free : (s.unown rs).free = s.free := by obtain ⟨_, _, _, h⟩ := s.unown_eq rs; rw [h]
@[simp] theorem Gk1.unown_part : (s.unown rs).part = s.part := by obtain ⟨_, _, _, h⟩ := s.unown_eq rs; rw [h]
@[simp] theorem Gk1.unown_dtime : (s.unown rs).dtime = s.dtime := by obtain ⟨_, _, _, h⟩ := s.unown_eq rs; rw [h]
@[simp] theorem Gk1.unown_regs : (s.unown rs).regs = s.regs := by obtain ⟨_, _, _, h⟩ := s.unown_eq rs; rw [h]
@[simp] theorem Gk1.unown_edge : (s.unown rs).edge = s.edge := by obtain ⟨_, _, _, h⟩ := s.unown_eq rs; rw [h]
@[simp] theorem Gk1.unown_boot : (s.unown rs).boot = s.boot := by obtain ⟨_, _, _, h⟩ := s.unown_eq rs; rw [h]
@[simp] theorem Gk1.unown_clocks : (s.unown rs).clocks = s.clocks := by obtain ⟨_, _, _, h⟩ := s.unown_eq rs; rw [h]
@[simp] theorem Gk1.unown_line : (s.unown rs).line = s.line := by obtain ⟨_, _, _, h⟩ := s.unown_eq rs; rw [h]
@[simp] theorem Gk1.unown_power : (s.unown rs).power = s.power := by obtain ⟨_, _, _, h⟩ := s.unown_eq rs; rw [h]
@[simp] theorem Gk1.unown_ledger : (s.unown rs).ledger = s.ledger := by obtain ⟨_, _, _, h⟩ := s.unown_eq rs; rw [h]
@[simp] theorem Gk1.unown_held : (s.unown rs).held = s.held := by obtain ⟨_, _, _, h⟩ := s.unown_eq rs; rw [h]
@[simp] theorem Gk1.unown_obs : (s.unown rs).obs = s.obs := by obtain ⟨_, _, _, h⟩ := s.unown_eq rs; rw [h]
@[simp] theorem Gk1.unown_cache : (s.unown rs).cache = s.cache := by obtain ⟨_, _, _, h⟩ := s.unown_eq rs; rw [h]
@[simp] theorem Gk1.unown_stamp : (s.unown rs).stamp = s.stamp := by obtain ⟨_, _, _, h⟩ := s.unown_eq rs; rw [h]
@[simp] theorem Gk1.unown_fills : (s.unown rs).fills = s.fills := by obtain ⟨_, _, _, h⟩ := s.unown_eq rs; rw [h]
@[simp] theorem Gk1.unown_nextId : (s.unown rs).nextId = s.nextId := by obtain ⟨_, _, _, h⟩ := s.unown_eq rs; rw [h]
@[simp] theorem Gk1.unown_reqs : (s.unown rs).reqs = s.reqs := by obtain ⟨_, _, _, h⟩ := s.unown_eq rs; rw [h]
@[simp] theorem Gk1.unown_msgs : (s.unown rs).msgs = s.msgs := by obtain ⟨_, _, _, h⟩ := s.unown_eq rs; rw [h]
@[simp] theorem Gk1.unown_epochs : (s.unown rs).epochs = s.epochs := by obtain ⟨_, _, _, h⟩ := s.unown_eq rs; rw [h]
@[simp] theorem Gk1.unown_queues : (s.unown rs).queues = s.queues := by obtain ⟨_, _, _, h⟩ := s.unown_eq rs; rw [h]
@[simp] theorem Gk1.unown_ctxs : (s.unown rs).ctxs = s.ctxs := by obtain ⟨_, _, _, h⟩ := s.unown_eq rs; rw [h]
@[simp] theorem Gk1.unown_kernels : (s.unown rs).kernels = s.kernels := by obtain ⟨_, _, _, h⟩ := s.unown_eq rs; rw [h]
@[simp] theorem Gk1.unown_ownerWatches : (s.unown rs).ownerWatches = s.ownerWatches := by obtain ⟨_, _, _, h⟩ := s.unown_eq rs; rw [h]
@[simp] theorem Gk1.unown_importWatches : (s.unown rs).importWatches = s.importWatches := by obtain ⟨_, _, _, h⟩ := s.unown_eq rs; rw [h]
@[simp] theorem Gk1.unown_ports : (s.unown rs).ports = s.ports := by obtain ⟨_, _, _, h⟩ := s.unown_eq rs; rw [h]
@[simp] theorem Gk1.unown_drops : (s.unown rs).drops = s.drops := by obtain ⟨_, _, _, h⟩ := s.unown_eq rs; rw [h]
@[simp] theorem Gk1.unown_unreachable : (s.unown rs).unreachable = s.unreachable := by obtain ⟨_, _, _, h⟩ := s.unown_eq rs; rw [h]
@[simp] theorem Gk1.unown_kept : (s.unown rs).kept = s.kept := by obtain ⟨_, _, _, h⟩ := s.unown_eq rs; rw [h]
@[simp] theorem Gk1.unown_routedAt : (s.unown rs).routedAt = s.routedAt := by obtain ⟨_, _, _, h⟩ := s.unown_eq rs; rw [h]
@[simp] theorem Gk1.unown_jobs : (s.unown rs).jobs = s.jobs := by obtain ⟨_, _, _, h⟩ := s.unown_eq rs; rw [h]
@[simp] theorem Gk1.unown_buckets : (s.unown rs).buckets = s.buckets := by obtain ⟨_, _, _, h⟩ := s.unown_eq rs; rw [h]
@[simp] theorem Gk1.unown_snaps : (s.unown rs).snaps = s.snaps := by obtain ⟨_, _, _, h⟩ := s.unown_eq rs; rw [h]
@[simp] theorem Gk1.unown_posted : (s.unown rs).posted = s.posted := by obtain ⟨_, _, _, h⟩ := s.unown_eq rs; rw [h]
@[simp] theorem Gk1.unown_postHeld : (s.unown rs).postHeld = s.postHeld := by obtain ⟨_, _, _, h⟩ := s.unown_eq rs; rw [h]

end

/-- Regions that become unowned have no owner, and are cleared before the next one's first kernel; the others keep theirs. -/
theorem Gk1.unown_region (s : Gk1) (rs : List Nat) (r : Nat) :
    (r ∈ rs → ((s.unown rs).region r).owner = none ∧ ((s.unown rs).region r).needsClear = true) ∧
    (r ∉ rs → (s.unown rs).region r = s.region r) := by
  have hfold : ∀ (l : List Nat) (t : Gk1),
      let u := l.foldl (fun s r => (s.wipeRegion r).modRegion r fun R => { R with owner := none, needsClear := true }) t
      ((r ∈ l ∨ (t.region r).owner = none ∧ (t.region r).needsClear = true) → (u.region r).owner = none ∧ (u.region r).needsClear = true) ∧
      (r ∉ l → u.region r = t.region r) := by
    intro l
    induction l with
    | nil => exact fun t => ⟨fun h => h.resolve_left List.not_mem_nil, fun _ => rfl⟩
    | cons k l ih =>
      intro t
      obtain ⟨hin, hout⟩ := ih ((t.wipeRegion k).modRegion k fun R => { R with owner := none, needsClear := true })
      rw [Gk1.region_modRegion] at hin hout
      refine ⟨fun h => hin ?_, fun h => ?_⟩
      · by_cases hk : k = r
        · exact .inr (by rw [if_pos hk]; exact ⟨rfl, rfl⟩)
        · rw [if_neg hk]
          exact h.imp_left fun hm => (List.mem_cons.1 hm).resolve_left (Ne.symm hk)
      · obtain ⟨hk, hl⟩ := not_or.1 fun hm => h (List.mem_cons.2 hm)
        exact (hout hl).trans (if_neg (Ne.symm hk))
  obtain ⟨cs, h⟩ := s.modClusters_eq (rs.flatMap s.heldIn) fun _ c => { c with held := false }
  obtain ⟨hin, hout⟩ := hfold rs { s with clusters := cs }
  have heq : s.unown rs = rs.foldl (fun s r => (s.wipeRegion r).modRegion r fun R => { R with owner := none, needsClear := true })
      { s with clusters := cs } := by
    unfold Gk1.unown
    dsimp only
    rw [h]
  rw [heq]
  exact ⟨fun hm => hin (.inl hm), hout⟩

/-- A region given to a context: what it was while it is that context's already. -/
theorem Gk1.giveRegions_region (s : Gk1) (c : Nat) (l : List Nat) (r : Nat) : (l.foldl (fun s r => s.giveRegion c r) s).region r =
    if r ∈ l ∧ (s.region r).owner ≠ some c then { s.region r with owner := some c, needsClear := true } else s.region r := by
  induction l generalizing s with
  | nil => exact (if_neg fun h => List.not_mem_nil h.1).symm
  | cons k l ih =>
    rw [List.foldl_cons, ih, Gk1.giveRegion, Gk1.region_modRegion]
    by_cases hk : k = r
    · subst hk
      by_cases ho : (s.region k).owner = some c
      · simp [ho]
      · simp [ho]
    · simp [hk, Ne.symm hk]

theorem Gk1.giveRegions_eq (s : Gk1) (c : Nat) (l : List Nat) : ∃ rg, l.foldl (fun s r => s.giveRegion c r) s = { s with regions := rg } := by
  induction l generalizing s with
  | nil => exact ⟨_, rfl⟩
  | cons k l ih =>
    obtain ⟨rg, h⟩ := ih (s.giveRegion c k)
    exact ⟨rg, by rw [List.foldl_cons, h]; rfl⟩

end Sys2Proof.Machine

namespace Sys2Proof.Claims

open Sys2Proof.Machine

/-- A REGION_ASSIGN that may start, and keeps its PHASE rules, is refused or runs (R469, R470). -/
theorem onAssign_of_mgmt {s : Gk1} {d : Desc} {rel : Bool} (h : mgmt s 0xE d = true) (hrel : d.raRelease = rel) (run : Desc → Gk1 → Gk1) :
    onAssign rel run s = .next (if s.assignRefused d then (s.start 0 d).refuseMgmt d 6 else run d (s.start 0 d)) := by
  obtain ⟨hstarts, htype, hsub, hphase⟩ := mgmt_iff.1 h
  unfold onAssign
  rw [onStart_of_starts hstarts (isRow := fun d => d.type = 0x10 && d.sub = 0xE && d.raRelease = rel) (by simp [htype, hsub, hrel]),
    if_neg hphase]
  rfl

theorem exec_regionAssign_refused {s : State} {d : Desc} (h : mgmt s.toGk1 0xE d = true) (hrel : d.raRelease = false)
    (hbad : s.assignRefused d = true) : exec .regionAssign s = .next (became s ((s.start 0 d).refuseMgmt d 6)) := by
  change execRegionAssign s = _
  refine State.act_of_next _ _ _ ((onAssign_of_mgmt h hrel _).trans ?_)
  rw [hbad, if_pos rfl]

theorem exec_regionAssign {s : State} {d : Desc} (h : mgmt s.toGk1 0xE d = true) (hrel : d.raRelease = false)
    (hok : s.assignRefused d = false) : exec .regionAssign s = .next (became s
      (((regionMask (d.w 3)).foldl (fun s r => s.giveRegion d.raCtx r) (s.start 0 d)).finishMgmt d [])) := by
  change execRegionAssign s = _
  refine State.act_of_next _ _ _ ((onAssign_of_mgmt h hrel _).trans ?_)
  rw [hok, if_neg Bool.false_ne_true]

theorem exec_regionRelease {s : State} {d : Desc} (h : mgmt s.toGk1 0xE d = true) (hrel : d.raRelease = true)
    (hok : s.assignRefused d = false) : exec .regionRelease s = .next (became s
      { s.start 0 d with held := { s.held with releasing := regionMask (d.w 3) } }) := by
  change execRegionRelease s = _
  refine State.act_of_next _ _ _ ((onAssign_of_mgmt h hrel _).trans ?_)
  rw [hok, if_neg Bool.false_ne_true]
  rfl

/-- The part without the release that it held. -/
def unreleased (s : Gk1) : Gk1 := { s.handed 64 with held := { s.held with releasing := [] } }

section
variable {s : State} {c : Cur} (hc : s.heldRelease = some c)
include hc

theorem exec_regionReleaseEffect_waits
    (hfree : (s.clusters.any fun e => (regionMask (c.desc.w 3)).contains (regionOf e.1) && !e.2.free) = false)
    (hover : (s.handOver 64 (regionMask (c.desc.w 3))).2 = false) :
    exec .regionReleaseEffect s = .next (became s (s.handOver 64 (regionMask (c.desc.w 3))).1) := by
  change execRegionReleaseEffect s = _
  refine State.act_of_next _ _ _ ?_
  simp only [hc, hfree, hover, Bool.false_eq_true, if_false, Bool.not_false, if_true]

theorem exec_regionReleaseEffect
    (hfree : (s.clusters.any fun e => (regionMask (c.desc.w 3)).contains (regionOf e.1) && !e.2.free) = false)
    (hover : (s.handOver 64 (regionMask (c.desc.w 3))).2 = true) :
    exec .regionReleaseEffect s = .next (became s ((({ (s.handOver 64 (regionMask (c.desc.w 3))).1.handed 64 with
      held := { s.held with releasing := [] } } : Gk1).unown (regionMask (c.desc.w 3))).finishMgmt c.desc [])) := by
  change execRegionReleaseEffect s = _
  refine State.act_of_next _ _ _ ?_
  simp only [hc, hfree, hover, Bool.false_eq_true, if_false, Bool.not_true]

theorem exec_regionReleaseTimeout (hlate : c.at_ + 10000000 ≤ s.dtime) :
    exec .regionReleaseTimeout s = .next (became s ((unreleased s.toGk1).refuseMgmt c.desc 7)) := by
  change execRegionReleaseTimeout s = _
  refine State.act_of_next _ _ _ ?_
  simp only [hc, Nat.not_lt.2 hlate, if_false]
  rfl

end

/-- Settles O38. -/
theorem regionOwnership : Obligations.RegionOwnership := by
  unfold Obligations.RegionOwnership
  refine ⟨fun s d h hrel => ⟨fun hbad => ?_, fun hok => ?_⟩, fun s d h hrel hok => ?_, fun s c hruns hc => ⟨?_, fun hfree hover => ?_, fun hlate => ?_⟩⟩
  · exact ⟨_, exec_regionAssign_refused h hrel hbad, completed_refuseMgmt (starts_of_mgmt h) _, Gk1.finish_regions .., Gk1.finish_dram ..⟩
  · obtain ⟨rg, hgive⟩ := Gk1.giveRegions_eq (s.start 0 d) d.raCtx (regionMask (d.w 3))
    refine ⟨_, exec_regionAssign h hrel hok, completed_finishMgmt_of_starts (starts_of_mgmt h) (by rw [hgive]; rfl) (by rw [hgive]; rfl) [], ?_, fun r hr => ?_⟩
    · exact (Gk1.finishMgmt_dram ..).trans (by rw [hgive]; rfl)
    · rw [region_became, Gk1.region, Gk1.finishMgmt_regions, ← Gk1.region, Gk1.giveRegions_region]
      simp only [mem_regionMask hr]
      rfl
  · exact ⟨_, exec_regionRelease h hrel hok, cur_start .., rfl, rfl, rfl⟩
  · exact exec_regionReleaseEffect_waits hc
  · obtain ⟨p, l, hover'⟩ := s.toGk1.handOver_eq 64 (regionMask (c.desc.w 3))
    refine ⟨_, exec_regionReleaseEffect hc hfree hover, completed_finishMgmt_of_runs hruns ?_ ?_ [], ?_, fun r hr hbit => ?_, fun r hr hbit => ?_⟩
    · rw [Gk1.queue, Gk1.unown_queues, hover']
      rfl
    · rw [Gk1.unown_dtime, hover']
      rfl
    · refine (Gk1.finishMgmt_dram ..).trans ((Gk1.unown_dram ..).trans ?_)
      rw [hover']
      rfl
    · rw [region_became, Gk1.region, Gk1.finishMgmt_regions, ← Gk1.region]
      exact (Gk1.unown_region ..).1 ((mem_regionMask hr).2 hbit)
    · rw [region_became, Gk1.region, Gk1.finishMgmt_regions, ← Gk1.region,
        (Gk1.unown_region ..).2 fun hm => absurd ((mem_regionMask hr).1 hm) (by rw [hbit]; exact Bool.false_ne_true), hover']
      rfl
  · exact ⟨_, exec_regionReleaseTimeout hc hlate, completed_finish_of_runs (t := unreleased s.toGk1) hruns rfl rfl _, Gk1.finish_regions ..,
      congrArg Held.releasing (Gk1.finish_held ..), Gk1.finish_dram ..⟩

end Sys2Proof.Claims

/-! The launch of a kernel whose clusters are busy. -/

namespace Sys2Proof.Claims

open Sys2Proof.Machine

/-- A kernel that the queue engine takes. -/
def taking (s : Gk1) (kid queue : Nat) : Gk1 :=
  { s with nextId := s.nextId + 1, edge := { s.edge with rr := queue + 1 } }.modKernel kid fun K => { K with taken := some s.nextId }

theorem exec_kernelLaunch {s : State} {kid : Nat} {K : Kernel} (hK : NMap.get? s.kernels kid = some K) (hready : s.kernelReady K = true)
    (hfresh : K.taken = none) (hnext : s.nextTaken = some kid) :
    exec (.kernelLaunch kid) s = .next (became s ((taking s.toGk1 kid K.queue).tryLaunch kid)) := by
  change execKernelLaunch kid s = _
  refine State.act_of_next _ _ _ ?_
  simp only [hK, hready, hfresh, hnext, Option.isSome_none, Bool.not_true, Bool.false_eq_true, if_false, ne_eq, not_true]
  rfl

section
variable {s : Gk1} {kid : Nat} {K : Kernel} (hK : NMap.get? s.kernels kid = some K) (howns : s.owns K.ctx K.desc = true)
include hK howns

theorem tryLaunch_waits (hcan : s.canLaunch kid K = false) : s.tryLaunch kid = s.modKernel kid fun J => { J with
    reserved := (J.reserved ++ s.busyOf J).eraseDups } := by
  unfold Gk1.tryLaunch
  simp only [hK, howns, hcan, Bool.not_true, Bool.not_false, Bool.false_eq_true, if_false, if_true]

end

/-- A kernel of cluster 5. -/
def onCluster5 : Kernel := { queue := 1, ctx := 0, desc := { ring := 0, seq := 0, q := [0, 0, 0, 0x40005] } }

/-- A stopped kernel of no cluster. -/
def onNoCluster : Kernel := { queue := 1, ctx := 0, desc := { ring := 0, seq := 0, q := [] }, stopped := true }

/-- A part whose kernel number 7 stands for both, with cluster 5 busy and its region owned by context 0. -/
def twice7 : State :=
  { toGk1 := { kernels := [(7, onCluster5), (7, onNoCluster)], clusters := [(5, { asking := some 9 })], regions := [(0, { owner := some 0 })] }
    pending := [] }

/-- The busy clusters that the second entry of a part's kernels has reserved. -/
def secondReserved (s : State) : Option (List Nat) := (s.kernels[1]?).map fun e => e.2.reserved

/-- Refutes O40: where one kernel number is listed twice, each entry reserves the busy clusters of its own kernel, and not those of
the first one. -/
theorem not_kernelsStartAndLaunch : ¬ Obligations.KernelsStartAndLaunch := by
  unfold Obligations.KernelsStartAndLaunch
  intro h
  obtain ⟨-, -, hlaunch⟩ := h
  have hwaits := (hlaunch twice7 7 onCluster5 rfl (by decide) rfl (by decide) (by decide)).1 (by decide)
  rw [exec_kernelLaunch (s := twice7) (K := onCluster5) rfl (by decide) rfl (by decide)] at hwaits
  have hown := tryLaunch_waits (s := taking twice7.toGk1 7 1) (kid := 7) (K := { onCluster5 with taken := some 1 }) rfl (by decide) (by decide)
  rw [show onCluster5.queue = 1 from rfl, hown] at hwaits
  have hsecond := congrArg secondReserved (Host.Outcome.next.inj hwaits)
  exact absurd hsecond (by decide)

end Sys2Proof.Claims

/-! What the path to device memory changes: lines, bytes and lists of bad words. -/

namespace Sys2Proof.Machine

/-- Two parts differ in the region caches, device memory and the regions' lists alone. -/
def MemoryOnly (s t : Gk1) : Prop := ∃ ca st rg d, t = { s with cache := ca, stamp := st, regions := rg, dram := d }

theorem MemoryOnly.refl (s : Gk1) : MemoryOnly s s := ⟨_, _, _, _, rfl⟩

theorem MemoryOnly.trans {s t u : Gk1} (h : MemoryOnly s t) (h' : MemoryOnly t u) : MemoryOnly s u := by
  obtain ⟨ca, st, rg, d, rfl⟩ := h
  obtain ⟨ca', st', rg', d', rfl⟩ := h'
  exact ⟨ca', st', rg', d', rfl⟩

theorem MemoryOnly.setCache (s : Gk1) (ca : NMap Line) (st : Nat) : MemoryOnly s { s with cache := ca, stamp := st } := ⟨_, _, _, _, rfl⟩

theorem MemoryOnly.setDram (s : Gk1) (d : Mem) : MemoryOnly s { s with dram := d } := ⟨_, _, _, _, rfl⟩

theorem MemoryOnly.foldl {α : Type} (l : List α) {f : Gk1 → α → Gk1} (hf : ∀ s a, MemoryOnly s (f s a)) (s : Gk1) :
    MemoryOnly s (l.foldl f s) :=
  List.foldlRecOn (motive := fun t => MemoryOnly s t) l f (MemoryOnly.refl s) fun t ht a _ => ht.trans (hf t a)

section
variable (s : Gk1)

theorem MemoryOnly.unlist (gid sec : Nat) : MemoryOnly s (s.unlist gid sec) := by
  unfold Gk1.unlist
  split
  · exact ⟨_, _, _, _, rfl⟩
  · exact MemoryOnly.refl s

theorem MemoryOnly.writeBack (gid : Nat) (L : Line) : MemoryOnly s (s.writeBack gid L) := by
  refine MemoryOnly.foldl _ (fun t sec => ?_) s
  split
  · exact (MemoryOnly.unlist t gid sec).trans (MemoryOnly.setDram _ _)
  · exact MemoryOnly.refl t

theorem MemoryOnly.evict (gid : Nat) : MemoryOnly s (s.evict gid) := by
  unfold Gk1.evict
  split
  · exact MemoryOnly.refl s
  · exact (MemoryOnly.writeBack s _ _).trans (MemoryOnly.setCache _ _ _)

theorem MemoryOnly.allocLine (gid ctx : Nat) (stream : Bool) : MemoryOnly s (s.allocLine gid ctx stream) := by
  unfold Gk1.allocLine
  split
  · exact MemoryOnly.refl s
  · dsimp only
    split
    · exact MemoryOnly.setCache s _ _
    · split
      · exact (MemoryOnly.evict s _).trans (MemoryOnly.setCache _ _ _)
      · exact MemoryOnly.refl s

theorem MemoryOnly.touch (gid sec : Nat) : MemoryOnly s (s.touch gid sec) := MemoryOnly.setCache s _ _

theorem MemoryOnly.cacheWrite {gid sec : Nat} {patch : Mem} {ctx : Nat} {t : Gk1} (h : s.cacheWrite gid sec patch ctx = .done t) :
    MemoryOnly s t := by
  unfold Gk1.cacheWrite at h
  split at h
  · cases h
  · dsimp only at h
    split at h
    · have hline := (MemoryOnly.allocLine s gid ctx false).trans (MemoryOnly.unlist _ gid sec)
      split at h
      · cases h
        exact (hline.trans (MemoryOnly.setCache _ _ _)).trans (MemoryOnly.touch _ _ _)
      · cases h
        exact hline.trans (MemoryOnly.setDram _ _)
    · split at h
      · cases h
      · split at h
        · cases h
        · split at h
          · cases h
          · cases h
            exact (MemoryOnly.setCache s _ _).trans (MemoryOnly.touch _ _ _)

theorem MemoryOnly.poke {gid ofs : Nat} {bytes : List Byte} {ctx : Nat} {stream : Bool} {t : Gk1}
    (h : s.poke gid ofs bytes ctx stream = .ok t) : MemoryOnly s t := by
  have hdone : ∀ u : Gk1, MemoryOnly s u → (match u.cacheWrite gid (ofs / 32) (((List.range bytes.length).zip bytes).map fun e => (ofs + e.1, e.2)) ctx with
      | .done s => Except.ok s
      | .fault e => .error e
      | .miss => .ok { u with dram := Mem.writeAll u.dram (gid * 256 + ofs) bytes }) = .ok t → MemoryOnly s t := by
    intro u hu h
    split at h
    · next v hv =>
      cases h
      exact hu.trans (MemoryOnly.cacheWrite u hv)
    · cases h
    · cases h
      exact hu.trans (MemoryOnly.setDram _ _)
  unfold Gk1.poke at h
  dsimp only at h
  split at h
  · cases h
  · refine hdone _ ?_ h
    split
    · exact MemoryOnly.refl s
    · exact (MemoryOnly.allocLine s _ _ _).trans (MemoryOnly.setCache _ _ _)

theorem MemoryOnly.putFrameWord (c frame ofs v : Nat) : MemoryOnly s (s.putFrameWord c frame ofs v) := by
  unfold Gk1.putFrameWord
  split
  · exact MemoryOnly.refl s
  · split
    · next t ht => exact MemoryOnly.poke s ht
    · exact MemoryOnly.refl s

theorem MemoryOnly.putCb (c ofs v : Nat) : MemoryOnly s (s.putCb c ofs v) := MemoryOnly.putFrameWord ..

theorem MemoryOnly.setEntryState (c : Nat) (isFence : Bool) (n v : Nat) : MemoryOnly s (s.setEntryState c isFence n v) :=
  MemoryOnly.putCb ..

end

/-! ## What stays -/

section
variable {s t : Gk1} (h : MemoryOnly s t)
include h

theorem MemoryOnly.ctxs : t.ctxs = s.ctxs := by obtain ⟨_, _, _, _, rfl⟩ := h; rfl

theorem MemoryOnly.edge : t.edge = s.edge := by obtain ⟨_, _, _, _, rfl⟩ := h; rfl

theorem MemoryOnly.posted : t.posted = s.posted := by obtain ⟨_, _, _, _, rfl⟩ := h; rfl

theorem MemoryOnly.postHeld : t.postHeld = s.postHeld := by obtain ⟨_, _, _, _, rfl⟩ := h; rfl

theorem MemoryOnly.queues : t.queues = s.queues := by obtain ⟨_, _, _, _, rfl⟩ := h; rfl

theorem MemoryOnly.dtime : t.dtime = s.dtime := by obtain ⟨_, _, _, _, rfl⟩ := h; rfl

theorem MemoryOnly.regs : t.regs = s.regs := by obtain ⟨_, _, _, _, rfl⟩ := h; rfl

theorem MemoryOnly.part : t.part = s.part := by obtain ⟨_, _, _, _, rfl⟩ := h; rfl

theorem MemoryOnly.ctx (c : Nat) : t.ctx c = s.ctx c := by rw [Gk1.ctx, h.ctxs, Gk1.ctx]

theorem MemoryOnly.linkOpen : t.linkOpen = s.linkOpen := by rw [Gk1.linkOpen, h.edge, Gk1.linkOpen]

end

end Sys2Proof.Machine

/-! Copies to host memory, and the release of objects and fences. -/

namespace Sys2Proof.Machine

/-- Posted writes go out one after the other while the link is open and none waits. -/
theorem Gk1.posts_open {s : Gk1} (hopen : s.linkOpen = true) (hheld : s.postHeld = []) (l : List (Nat × List Byte)) :
    l.foldl (fun s p => s.post p.1 p.2) s = { s with posted := s.posted ++ l } := by
  induction l generalizing s with
  | nil => rw [List.append_nil]; rfl
  | cons p l ih =>
    have hpost : s.post p.1 p.2 = { s with posted := s.posted ++ [p] } := by
      unfold Gk1.post
      rw [if_pos (by rw [hopen, hheld]; rfl)]
    rw [List.foldl_cons, hpost, ih (s := { s with posted := s.posted ++ [p] }) hopen hheld, List.append_assoc]
    rfl

theorem Gk1.post_open {s : Gk1} (hopen : s.linkOpen = true) (hheld : s.postHeld = []) (a : Nat) (bs : List Byte) :
    s.post a bs = { s with posted := s.posted ++ [(a, bs)] } := Gk1.posts_open hopen hheld [(a, bs)]

end Sys2Proof.Machine

namespace Sys2Proof.Claims

open Sys2Proof.Machine

theorem runs_iff {s : Gk1} {q : Nat} {c : Cur} : runs s q c = true ↔
    q < nQueues ∧ (s.queue q).cur = some c ∧ c.desc.replayed = false ∧ (s.queue q).state = 1 := by
  simp [runs, and_assoc]

theorem exec_copyStart {s : State} {q : Nat} {d : Desc} (h : starts s.toGk1 q d = true) (htype : d.type = 2) :
    exec (.copyStart q) s = .next (became s (if s.copyRefusal q d ≠ 0 ∨ d.copyLen = 0
      then (s.start q d).finish q d { status := s.copyRefusal q d } else s.start q d)) := by
  change execCopyStart q s = _
  refine State.act_of_next _ _ _ ((onStart_of_starts h (by simp [htype]) _).trans ?_)
  simp only [Bool.or_eq_true, decide_eq_true_eq]
  rfl

/-- A value of the open ones is drawn. -/
def drew (s : Gk1) : Gk1 := { s with free := s.free + 1 }

/-- What a copy from device to host memory hands on. -/
def copiedOut (s : Gk1) (q : Nat) (d : Desc) (bs : List Byte) : Gk1 :=
  ({ drew s with posted := s.posted ++ hostPieces (bs.length + 1) (d.w 2) bs } : Gk1).hasRead (s.qctx q) (d.w 1) bs.length

theorem exec_copyComplete {s : State} {q : Nat} {c : Cur} {bs : List Byte} {f : Option (Nat × Nat)} (hruns : runs s.toGk1 q c = true)
    (htype : c.desc.type = 2) (hsrc : c.desc.srcHost = false) (hdst : c.desc.dstHost = true) (hopen : s.linkOpen = true)
    (hheld : s.postHeld = [])
    (hread : s.readUpTo (s.qctx q) (s.qEnforced q) (sectors (c.desc.w 1) c.desc.copyLen) = (bs, f)) :
    exec (.copyComplete q [] true) s = .next (became s ((copiedOut s.toGk1 q c.desc bs).endCopy q c.desc bs.length f)) := by
  obtain ⟨hq, hcur, -, -⟩ := runs_iff.1 hruns
  have hn : ¬ queueCount ≤ q := Nat.not_le.2 hq
  have hposts := Gk1.posts_open (s := drew s.toGk1) hopen hheld (hostPieces (bs.length + 1) (c.desc.w 2) bs)
  change execCopyComplete q [] true s = _
  refine State.act_of_next _ _ _ ?_
  have hlink : (s.linkOpen && s.postHeld.isEmpty) = true := by rw [hopen, hheld]; rfl
  simp only [hn, hcur, htype, hsrc, hdst, hlink, hread, Gk1.overlap, ne_eq, not_true, decide_false,
    Bool.false_and, Bool.or_self, Bool.and_self, Bool.not_true, Bool.or_true, Bool.true_or, Bool.false_or, if_true, if_false,
    Bool.false_eq_true]
  exact congrArg (fun t : Gk1 => Host.Outcome.next ((t.hasRead (s.qctx q) (c.desc.w 1) bs.length).endCopy q c.desc bs.length f)) hposts

/-! ## Releases -/

/-- A release that is logged, of which the log entry goes out at once. -/
theorem release_open {s : Gk1} (hopen : s.linkOpen = true) (hheld : s.postHeld = []) (c : Nat) (isFence : Bool) (n : Nat) :
    ((s.release c isFence n).ctx c).rlSeq = ((s.ctx c).rlSeq + 1) % 2 ^ 32 ∧
    (∀ x ∈ ((s.release c isFence n).ctx c).releases, x.1 ≠ (isFence, n)) ∧
    (s.release c isFence n).posted = s.posted ++ [((s.ctx c).rlAddr + 8 * ((s.ctx c).rlSeq % 2 ^ (s.ctx c).rlog),
        leBytes 8 (n + b2n isFence * 2 ^ 16 + ((s.ctx c).rlSeq + 1) % 2 ^ 32 * 2 ^ 32))] := by
  have hmem := MemoryOnly.setEntryState (s.modCtx c fun C => { C with releases := C.releases.filter fun r => r.1 ≠ (isFence, n) }) c isFence n 3
  have hctx := (hmem.ctx c).trans ((Gk1.ctx_modCtx ..).trans (if_pos rfl))
  have hopen1 := hmem.linkOpen.trans (show _ = true from hopen)
  have hheld1 := hmem.postHeld.trans (show _ = [] from hheld)
  have hposted1 := hmem.posted
  unfold Gk1.release
  generalize ((s.modCtx c fun C => { C with releases := C.releases.filter fun r => r.1 ≠ (isFence, n) }).setEntryState c isFence n 3) = t
    at hctx hopen1 hheld1 hposted1 ⊢
  unfold Gk1.releaseLog
  have hnew : ∀ f : Ctx → Ctx, (t.modCtx c f).ctx c = f (t.ctx c) := fun f => (Gk1.ctx_modCtx ..).trans (if_pos rfl)
  have hkeep : ∀ (u : Gk1) (a : Nat) (bs : List Byte), (u.post a bs).ctx c = u.ctx c := fun u a bs => by rw [Gk1.ctx, Gk1.post_ctxs, Gk1.ctx]
  dsimp only
  refine ⟨?_, fun x hx => ?_, ?_⟩
  · rw [hkeep, hnew, hctx]
  · rw [hkeep, hnew, hctx] at hx
    simpa using (List.mem_filter.1 hx).2
  · refine (congrArg Gk1.posted (Gk1.post_open (s := t.modCtx c _) hopen1 hheld1 _ _)).trans ?_
    change t.posted ++ _ = _
    rw [hposted1, hctx]
    rfl

theorem exec_objectReleased {s : State} {c n : Nat} {isFence : Bool} {r : (Bool × Nat) × List (Nat × Nat)} (hc : c < nContexts)
    (hr : ((s.ctx c).releases.find? fun r => r.1 = (isFence, n)) = some r) :
    exec (.objectReleased c isFence n) s = .next (became s (if s.mayRelease c isFence n r.2 = true then s.release c isFence n else s.toGk1)) := by
  have hn : ¬ 64 ≤ c := Nat.not_le.2 hc
  change execObjectReleased c isFence n s = _
  refine State.act_of_next _ _ _ ?_
  simp only [hn, hr, if_false]
  split <;> rfl

/-- Settles O42. -/
theorem copiesAndReleases : Obligations.CopiesAndReleases := by
  unfold Obligations.CopiesAndReleases
  refine ⟨fun s q d h htype => ⟨fun hbad => ?_, fun hok hlen => ?_⟩, fun s q c bs f hruns htype hsrc hdst hopen hheld hread => ?_,
    fun s c isFence n r hc hr => ⟨fun hno => ?_, fun hmay hopen hheld => ?_⟩⟩
  · have hexec := exec_copyStart h htype
    rw [if_pos hbad] at hexec
    exact ⟨_, hexec, completed_finish_start h _, Gk1.finish_dram ..⟩
  · rw [exec_copyStart h htype, if_neg (not_or.2 ⟨not_not.2 hok, hlen⟩)]
  · have hout : (copiedOut s.toGk1 q c.desc bs).dram = s.dram ∧ (copiedOut s.toGk1 q c.desc bs).dtime = s.dtime ∧
        (copiedOut s.toGk1 q c.desc bs).queue q = s.queue q ∧
        (copiedOut s.toGk1 q c.desc bs).posted = s.posted ++ hostPieces (bs.length + 1) (c.desc.w 2) bs := by
      unfold copiedOut Gk1.hasRead
      exact ⟨Gk1.countCtx_dram .., Gk1.countCtx_dtime .., by rw [Gk1.queue, Gk1.countCtx_queues]; rfl, Gk1.countCtx_posted ..⟩
    obtain ⟨hdram, htime, hqueue, hposted⟩ := hout
    refine ⟨_, exec_copyComplete hruns htype hsrc hdst hopen hheld hread, (Gk1.endCopy_dram ..).trans hdram, fun hf => ?_, fun hf => ?_⟩
    · subst hf
      exact ⟨(Gk1.finish_posted ..).trans hposted, completed_finish_of_runs hruns hqueue htime _⟩
    · obtain ⟨⟨e, a⟩, rfl⟩ := Option.ne_none_iff_exists'.1 hf
      have hfault : ((copiedOut s.toGk1 q c.desc bs).bulkFault q e a).queue q = s.queue q := by
        rw [Gk1.queue, Gk1.bulkFault, Gk1.report_queues, Gk1.countCtx_queues]
        exact hqueue
      obtain ⟨-, hcur, -, -⟩ := runs_iff.1 hruns
      rw [queue_became]
      change (((copiedOut s.toGk1 q c.desc bs).bulkFault q e a).finish q c.desc _ |>.queue q).cur = none
      rw [Gk1.cur_finish, hfault, hcur]
      exact if_pos rfl
  · rw [exec_objectReleased hc hr, hno, if_neg Bool.false_ne_true]
    rfl
  · have hexec := exec_objectReleased hc hr
    rw [hmay, if_pos rfl] at hexec
    exact ⟨_, hexec, release_open hopen hheld c isFence n⟩

end Sys2Proof.Claims

/-! A FENCE_SIGNAL whose fence lies in a BAD sector that is not valid. -/

namespace Sys2Proof.Claims

open Sys2Proof.Machine

/-- A FENCE_SIGNAL of fence 0 with VALUE 7. -/
def signalTo7 : Desc := { ring := 0, seq := 0, q := [5, 7] }

/-- A part of which context 1 owns queue 1, whose next descriptor is that FENCE_SIGNAL. Fence 0 of the context is an own one with value 0.
The region cache holds the line of its entry, of which no sector is valid and the first one is BAD. -/
def badBit : State :=
  { toGk1 := {
      part := .ready, regs := [(0x100058, 0x188)], queues := [(1, { state := 1, fetched := [signalTo7] })]
      dram := [(768000000018, 1)], cache := [(3000000000, { bad := 1 })] }
    pending := [] }

/-- The value of fence 0 after a command, 7 when it does not go on. -/
def fenceAfter (a : Answer) : Nat := match a with
  | .next t => t.fenceWord 1 0 0
  | _ => 7

/-- The sector is filled with its BAD bit kept, which the write then meets (R389, R404). -/
theorem fenceAfter_signal : fenceAfter (exec (.fenceSignal 1) badBit) = 0 := by decide

/-- Refutes O43: the fence's word can be read from the stack, but the write of VALUE fills a sector whose BAD bit stands and fails, and
the fence stays below VALUE. -/
theorem not_fencesAndWatches : ¬ Obligations.FencesAndWatches := by
  unfold Obligations.FencesAndWatches
  intro h
  obtain ⟨⟨-, -, hsignal⟩, -⟩ := h
  obtain ⟨t, ht, -, hvalue⟩ := hsignal badBit 1 signalTo7 1 0 0 (by decide) (by decide) (by decide) (by decide) (by decide) rfl
  rw [if_pos ⟨by decide, by decide⟩] at hvalue
  have hafter := fenceAfter_signal
  rw [ht] at hafter
  exact absurd (hvalue.symm.trans hafter) (by decide)

end Sys2Proof.Claims

/-! A commit whose request has a write of two sectors, of which the second one faults. -/

namespace Sys2Proof.Claims

open Sys2Proof.Machine

/-- A commit of a group without tiles. -/
def emptyCommit : WOp := { rid := 5, gid := 0, kind := 1, core := 0 }

def emptyGroup : WGroup := { u0 := 0, wcount := 0, m := 0, n := 0, fmt := 0, w := 0, shared := false, owner := 0, ctx := 0 }

/-- A write of the last sector of the highest valid frame and of one byte behind it. -/
def twoSectors : Msg :=
  { kind := .write, rid := 5, place := .dev (1464832 * 2 ^ 21 - 32), data := (List.range 33).map fun i => (i, 1) }

/-- A part with that commit due and that write pending. The first sector's set of the region cache has no usable way. -/
def faultingCommit : State :=
  { toGk1 := {
      clusters := [(0, { wops := [emptyCommit], wgs := [(0, emptyGroup)] })], msgs := [(0, twoSectors)]
      held := { deadWays := (List.range 16).map fun w => (14, 45, 255, w) } }
    pending := [] }

/-- Device memory after a command, empty when it does not go on. -/
def dramAfter (a : Answer) : Mem := match a with
  | .next t => t.dram
  | _ => []

/-- The sector that does not fault lands in the stack (R694). -/
theorem dramAfter_commit : dramAfter (exec (.wgsCommitComplete 0) faultingCommit) ≠ [] := by decide

/-- Refutes O28: the commit carries out a pending write because its second sector faults, and the first one changes device memory. -/
theorem not_drainsAndCommits : ¬ Obligations.DrainsAndCommits := by
  unfold Obligations.DrainsAndCommits
  intro h
  obtain ⟨-, -, -, hcommit⟩ := h
  obtain ⟨t, bad, ht, -, -, -, hdram⟩ := hcommit 0 faultingCommit emptyCommit emptyGroup (by decide) (by decide) (by decide) rfl
  have hafter := dramAfter_commit
  rw [ht] at hafter
  exact hafter hdram

end Sys2Proof.Claims

/-! Replacing a field of a register word; selections, snapshots and the trace. -/

namespace Sys2Proof.Machine

/-- A word with a field replaced: the bits from the field on, and the bits below it. -/
theorem setFld_eq (w lo len v : Nat) :
    setFld w lo len v = 2 ^ lo * (2 ^ len * (w / 2 ^ lo / 2 ^ len) + v % 2 ^ len) + w % 2 ^ lo := by
  have hw := Nat.div_add_mod w (2 ^ lo)
  have hq := Nat.div_add_mod (w / 2 ^ lo) (2 ^ len)
  rw [setFld, fld, Nat.shiftRight_eq_div_pow]
  generalize w / 2 ^ lo % 2 ^ len = f at *
  generalize w / 2 ^ lo / 2 ^ len = a at *
  generalize w % 2 ^ lo = b at *
  rw [← hw, ← hq, Nat.mul_add, Nat.mul_add, Nat.mul_comm f, Nat.mul_comm (v % 2 ^ len)]
  omega

theorem testBit_setFld (w lo len v i : Nat) : (setFld w lo len v).testBit i =
    if i < lo then w.testBit i else if i < lo + len then v.testBit (i - lo) else w.testBit i := by
  rw [setFld_eq, Nat.testBit_two_pow_mul_add _ (Nat.mod_lt _ (Nat.two_pow_pos lo)), Nat.testBit_mod_two_pow,
    Nat.testBit_two_pow_mul_add _ (Nat.mod_lt _ (Nat.two_pow_pos len)), Nat.testBit_mod_two_pow, Nat.testBit_div_two_pow,
    Nat.testBit_div_two_pow]
  by_cases hlo : i < lo
  · simp [hlo]
  · by_cases hlen : i < lo + len
    · simp [hlo, hlen, show i - lo < len by omega]
    · simp [hlo, hlen, show ¬i - lo < len by omega, show i - lo - len + len + lo = i by omega]

theorem fld_setFld_same (w lo len v : Nat) : fld (setFld w lo len v) lo len = v % 2 ^ len := by
  refine Nat.eq_of_testBit_eq fun i => ?_
  rw [testBit_fld, testBit_setFld, Nat.testBit_mod_two_pow, if_neg (by omega), Nat.add_sub_cancel_left]
  by_cases hi : i < len <;> simp [hi]

/-- A trace record that the selection takes advances SEQ; the times of the last TICK and SAMPLE stay. -/
theorem Gk1.trace_obs (s : Gk1) (kind queue unit : Nat) (data : List Byte) (hon : s.traceCtl.testBit 0 = true) :
    (s.trace kind 0xFF queue unit data).obs.traceSeq =
      (if s.traceCtl.testBit (7 + kind) = true then (s.obs.traceSeq + 1) % 2 ^ 32 else s.obs.traceSeq) := by
  unfold Gk1.trace
  dsimp only
  rw [hon]
  cases h : s.traceCtl.testBit (7 + kind)
  · rfl
  · cases s.traceCtl.testBit 1
    · rfl
    · exact congrArg (fun o : Obs => (o.traceSeq + 1) % 2 ^ 32) (Gk1.post_obs s _ _)

theorem Gk1.trace_ticks (s : Gk1) (kind ctx queue unit : Nat) (data : List Byte) :
    (s.trace kind ctx queue unit data).obs.tickAt = s.obs.tickAt ∧
      (s.trace kind ctx queue unit data).obs.sampleAt = s.obs.sampleAt := by
  unfold Gk1.trace
  dsimp only
  split
  · split <;> simp
  · simp

end Sys2Proof.Machine

namespace Sys2Proof.Claims

open Sys2Proof.Machine Host

/-- A write of the trace control register, where the views are open. -/
theorem exec_obsTraceCtlWrite {s : State} (hopen : s.viewsOpen = true) (v : BitVec 64) :
    ∃ t, exec (.obsTraceCtlWrite 8 0 v) s = .next t ∧ t.traceCtl.testBit 0 = v.getLsbD 0 ∧ t.dram = s.dram ∧
      fld t.traceCtl 3 5 = min (max (fld v.toNat 3 5) 8) 24 ∧
      (v.getLsbD 0 = true → s.traceCtl.testBit 0 = false → t.obs.traceSeq = 0 ∧ t.obs.drops = 0) := by
  have hbit : ∀ i < 43, (reach 8 0 &&& (2 ^ 43 - 1)).testBit i = true := by decide
  have hmerged : ∀ i < 43, (mergeBits s.traceCtl (reach 8 0 &&& (2 ^ 43 - 1)) v.toNat).testBit i = v.toNat.testBit i := by
    intro i hi
    rw [testBit_mergeBits, hbit i hi]
    simp
  have hfld : fld (mergeBits s.traceCtl (reach 8 0 &&& (2 ^ 43 - 1)) v.toNat) 3 5 = fld v.toNat 3 5 :=
    fld_mergeBits _ _ _ _ _ fun i hi => hbit _ (by omega)
  generalize hm : mergeBits s.traceCtl (reach 8 0 &&& (2 ^ 43 - 1)) v.toNat = m at hmerged hfld
  have hlow : (setFld m 3 5 (min (max (fld m 3 5) 8) 24)).testBit 0 = v.getLsbD 0 := by
    rw [testBit_setFld, if_pos (by decide), hmerged 0 (by decide)]
    rfl
  have hw : s.writeTraceCtl (reach 8 0) (present 8 0 v.toNat) =
      (if ((setFld m 3 5 (min (max (fld m 3 5) 8) 24)).testBit 0 && !s.traceCtl.testBit 0) = true then
        { s.setReg 0x700008 (12 * 8) (setFld m 3 5 (min (max (fld m 3 5) 8) 24)) with obs := { s.obs with traceSeq := 0, drops := 0 } }
      else s.setReg 0x700008 (12 * 8) (setFld m 3 5 (min (max (fld m 3 5) 8) 24))) := by
    rw [Gk1.writeTraceCtl, hopen, ← hm]
    rfl
  have hctl : (s.writeTraceCtl (reach 8 0) (present 8 0 v.toNat)).traceCtl = setFld m 3 5 (min (max (fld m 3 5) 8) 24) % 2 ^ 64 := by
    rw [hw]
    split <;> exact (Gk1.reg_setReg ..).trans (if_pos rfl)
  refine ⟨_, show execObsTraceCtlWrite 8 0 v s = _ from State.act_of_next _ _ _ (if_pos rfl), ?_, Gk1.writeTraceCtl_dram .., ?_, fun hon hoff => ?_⟩
  · refine (congrArg (fun n => Nat.testBit n 0) hctl).trans ?_
    rw [Nat.testBit_mod_two_pow, hlow]
    simp
  · refine (congrArg (fun n => fld n 3 5) hctl).trans ?_
    rw [fld_mod _ _ _ _ (by decide), fld_setFld_same, hfld]
    exact Nat.mod_eq_of_lt (by omega)
  · rw [hw, hlow, hon, hoff]
    exact ⟨rfl, rfl⟩

/-- Settles O60: each write and each record by the branch of its command that the conditions select. -/
theorem snapshotsAndTrace : Obligations.SnapshotsAndTrace := by
  unfold Obligations.SnapshotsAndTrace
  refine ⟨fun s v => ⟨fun hclosed => ?_, fun hopen => ?_⟩, fun s hpend hcore => ?_, fun s hpend hcore => ?_,
    fun s v hopen => exec_obsTraceCtlWrite hopen v, fun s hwork hon hdue => ?_, fun s hwork hon hcore hdue => ?_⟩
  · have hshut : ∀ t : Gk1, (if s.viewsOpen = true then t else s.toGk1) = s.toGk1 := fun t => if_neg (by simp [hclosed])
    exact ⟨congrArg (fun p => Outcome.next (became s p)) (hshut _), congrArg (fun p => Outcome.next (became s p)) (hshut _)⟩
  · have hpass : ∀ t : Gk1, (if s.viewsOpen = true then t else s.toGk1) = t := fun t => if_pos hopen
    have hreg : ∀ off n, n < 2 ^ 64 → (s.setReg off 0 n).reg off 0 = n := fun off n hn => by
      rw [Gk1.reg_setReg, if_pos rfl, Nat.mod_eq_of_lt hn]
    exact ⟨⟨_, congrArg (fun p => Outcome.next (became s p)) (hpass _), hreg _ _ ((fld_lt _ _ _).trans (by decide)), rfl, rfl, rfl, rfl, rfl⟩,
      ⟨_, congrArg (fun p => Outcome.next (became s p)) (hpass _), hreg _ _ ((fld_lt _ _ _).trans (by decide)), rfl, rfl, rfl, rfl, rfl⟩⟩
  · change execObsSnapshotReady false s = _
    refine State.act_of_next _ _ _ ?_
    have hcore' : fld (s.reg 0x700400 0) 0 20 < coreCount := hcore
    simp only [hpend, Gk1.coreCounters, hcore', Bool.not_true, Bool.false_eq_true, if_false, if_true]
  · change execObsSnapshotReady true s = _
    refine State.act_of_next _ _ _ ?_
    have hcore' : fld (s.reg 0x700500 0) 0 20 < coreCount := hcore
    simp only [hpend, hcore', Bool.not_true, Bool.false_eq_true, if_false, if_true]
  · refine ⟨_, show execTraceTick s = _ from State.act_of_next _ _ _ (if_neg (by simp [hwork, hon, hdue])), ?_, Gk1.trace_dram .., ?_⟩
    · exact (Gk1.trace_ticks _ _ _ _ _ _).1
    · exact Gk1.trace_obs { s.toGk1 with obs := { s.obs with tickAt := some s.dtime } } _ _ _ _ hon
  · have hcore' : s.sampleCore < coreCount := hcore
    refine ⟨_, show execTraceSample s = _ from State.act_of_next _ _ _ (if_neg (by simp [hwork, hon, hdue, hcore'])), ?_, Gk1.trace_cores ..,
      Gk1.trace_dram .., fun hnone hsel => ?_⟩
    · exact (Gk1.trace_ticks _ _ _ _ _ _).2
    · rw [hnone]
      refine (Gk1.trace_obs { s.toGk1 with obs := { s.obs with sampleAt := some s.dtime } } _ _ _ _ hon).trans (if_pos ?_)
      exact hsel

end Sys2Proof.Claims

/-! Power enable, the entries, POWER_RAMP and the part reset. -/

namespace Sys2Proof.Machine

/-- AUTO touches the clocks alone. -/
theorem Gk1.autoRef_eq (s : Gk1) : ∃ clocks, s.autoRef = { s with clocks := clocks } := by
  unfold Gk1.autoRef
  split
  · exact ⟨_, rfl⟩
  · split
    · exact ⟨_, rfl⟩
    · split <;> exact ⟨_, rfl⟩

/-- With PWR_EN high a part that is OFF leaves it when the entries are in range. -/
theorem Gk1.tryPower_part (s : Gk1) (hen : s.edge.pwrEn = true) :
    s.tryPower.part = (if s.part = .off ∧ s.edge.entriesOk = true then .powerRamp else s.part) := by
  rw [Gk1.tryPower, hen]
  by_cases hoff : s.part = .off <;> by_cases hok : s.edge.entriesOk = true <;> simp [hoff, hok]

theorem Gk1.tryPower_eq (s : Gk1) : ∃ part, s.tryPower = { s with part := part } := by
  rw [Gk1.tryPower]
  split <;> exact ⟨_, rfl⟩

theorem Gk1.tryPower_edge (s : Gk1) : s.tryPower.edge = s.edge := by
  obtain ⟨_, h⟩ := s.tryPower_eq
  rw [h]

end Sys2Proof.Machine

namespace Sys2Proof.Claims

open Sys2Proof.Machine Host

theorem raiseEn_effect (s : Gk1) : s.raiseEn.edge.pwrEn = true ∧ s.raiseEn.edge.riseDue = false ∧
    s.raiseEn.part = (if s.part = .off ∧ s.edge.entriesOk = true then .powerRamp else s.part) := by
  have hedge := Gk1.tryPower_edge { s with edge := { s.edge with pwrEn := true, riseDue := false } }
  exact ⟨congrArg Edge.pwrEn hedge, congrArg Edge.riseDue hedge,
    Gk1.tryPower_part { s with edge := { s.edge with pwrEn := true, riseDue := false } } rfl⟩

theorem partReset_effect (s : Gk1) : s.partReset.part = .rom ∧ s.partReset.dtime = s.dtime ∧
    s.partReset.edge.linkUp = s.edge.linkUp ∧ s.partReset.ledger.seq = s.ledger.seq ∧ s.partReset.ledger.held = [] ∧
    s.partReset.cores = [] ∧ s.partReset.queues = [] ∧ s.partReset.kernels = [] ∧ s.partReset.dram = [] := by
  rw [Gk1.partReset]
  dsimp only
  generalize hu : Gk1.enterRom _ = u
  obtain ⟨clocks, h⟩ := Gk1.autoRef_eq (u.ledgerFlag 14)
  rw [h]
  subst hu
  exact ⟨rfl, rfl, rfl, rfl, rfl, rfl, rfl, rfl, rfl⟩

/-- Settles O58: the power commands build the part anew from what outlives the loss of power. -/
theorem powerAndReset : Obligations.PowerAndReset := by
  unfold Obligations.PowerAndReset
  refine ⟨fun s hlow => ⟨fun hdue => ?_, fun hearly => ?_⟩, fun s hrise => ⟨fun hdue => ?_, fun hearly => ?_⟩, fun s => ?_,
    fun s e he => ?_, fun s => ?_, fun s refsel hramp => ?_, fun s key => ⟨fun hkey => ?_, fun hkey hwork => ?_⟩⟩
  · obtain ⟨hen, -, hpart⟩ := raiseEn_effect s.toGk1
    refine ⟨_, show execPwrEnRise s = _ from State.act_of_next _ _ s.raiseEn ?_, hen, hpart⟩
    simp only [hlow, hdue, Bool.false_eq_true, if_false, if_true]
  · refine show execPwrEnRise s = _ from State.act_of_next _ _ _ ?_
    simp only [hlow, hearly, Bool.false_eq_true, if_false]
  · obtain ⟨hen, hno, hpart⟩ := raiseEn_effect s.toGk1
    refine ⟨_, show execPwrEnDeferredRise s = _ from State.act_of_next _ _ s.raiseEn ?_, hen, hno, hpart⟩
    simp only [hrise, hdue, Bool.and_self, if_true]
  · refine show execPwrEnDeferredRise s = _ from State.act_of_next _ _ _ ?_
    simp only [hearly, Bool.and_false, Bool.false_eq_true, if_false]
  · exact ⟨_, rfl, rfl, rfl, rfl, rfl, rfl, rfl, rfl, rfl⟩
  · exact ⟨_, show execEntryVoltageFault e s = _ from State.act_of_next _ _ _ (if_neg (by omega)), rfl, rfl, rfl, rfl, rfl⟩
  · refine ⟨_, rfl, congrArg Edge.entriesOk (Gk1.tryPower_edge _), ?_⟩
    by_cases hen : s.edge.pwrEn = true
    · refine (Gk1.tryPower_part { s.toGk1 with edge := { s.edge with entriesOk := true } } hen).trans ?_
      simp [hen]
    · refine (congrArg Gk1.part (if_neg ?_)).trans (if_neg fun h => hen h.2).symm
      simp [hen]
  · refine ⟨_, show execPowerRampDone refsel s = _ from State.act_of_next _ _ _ (if_neg ?_), rfl, rfl, rfl, rfl, rfl, rfl, rfl, rfl⟩
    exact not_not.2 hramp
  · refine show execHlResetPart key s = _ from State.act_of_next _ _ _ (congrArg Outcome.next (if_neg fun h => hkey ?_))
    exact of_decide_eq_true ((Bool.and_eq_true_iff.1 h).1)
  · refine ⟨became s s.partReset, show execHlResetPart key s = _ from State.act_of_next _ _ _ (congrArg Outcome.next (if_pos ?_)),
      partReset_effect s.toGk1⟩
    simp [hkey, hwork]

end Sys2Proof.Claims

/-! Bring-up: steps that change one region each, the waves, and the boot commands. -/

namespace Sys2Proof.Machine

section
variable {α : Type} (at_ : α → Nat) (g : α → Region → Region)

theorem foldl_modRegion_eq (l : List α) (s : Gk1) :
    ∃ regions, l.foldl (fun s f => s.modRegion (at_ f) (g f)) s = { s with regions := regions } := by
  induction l generalizing s with
  | nil => exact ⟨_, rfl⟩
  | cons a l ih =>
    obtain ⟨regions, h⟩ := ih (s.modRegion (at_ a) (g a))
    exact ⟨regions, h⟩

/-- What every step keeps, the regions keep. -/
theorem region_foldl_modRegion {P : Region → Prop} {l : List α} (hkeep : ∀ f ∈ l, ∀ R, P R → P (g f R)) {s : Gk1} {r : Nat}
    (h : P (s.region r)) : P ((l.foldl (fun s f => s.modRegion (at_ f) (g f)) s).region r) := by
  induction l generalizing s with
  | nil => exact h
  | cons a l ih =>
    refine ih (fun f hf => hkeep f (List.mem_cons_of_mem _ hf)) ?_
    rw [Gk1.region_modRegion]
    split
    · next hr => exact hkeep a List.mem_cons_self _ (hr ▸ h)
    · exact h

/-- What every step sets, a region that a step names has. -/
theorem region_foldl_modRegion_of_mem {P : Region → Prop} {l : List α} (hset : ∀ f ∈ l, ∀ R, P (g f R)) {s : Gk1} {f : α}
    (hf : f ∈ l) : P ((l.foldl (fun s f => s.modRegion (at_ f) (g f)) s).region (at_ f)) := by
  obtain ⟨l₁, l₂, rfl⟩ := List.append_of_mem hf
  rw [List.foldl_append, List.foldl_cons]
  refine region_foldl_modRegion at_ g (fun e he R _ => hset e (by simp [he]) R) ?_
  rw [Gk1.region_modRegion, if_pos rfl]
  exact hset f hf _

end

/-- Steps 1-3 of a wave where no lane is bad. -/
def stackedRegion (_ : RegionWave) (R : Region) : Region :=
  { R with vfab := true, vmem := true, aLock := true, fLock := true, dLock := true }

theorem Gk1.waveStack_plain {s : Gk1} {f : RegionWave} (hlanes : f.badLanes = []) (hsupp : s.boot.supplement = []) :
    s.waveStack f = s.modRegion f.region (stackedRegion f) := by
  simp [Gk1.waveStack, Gk1.suppLanes, Gk1.suppEntries, Gk1.modRegion, hlanes, hsupp, stackedRegion]

/-- Steps 6 and 7 of a wave where no cluster fails. -/
def tabledRegion (w : Nat) (f : RegionWave) (R : Region) : Region :=
  { R with skips := skipsOf f.region, subs := [], failed := [], wave := w, sbUp := true, bootDone := true }

theorem Gk1.waveTable_plain {s : Gk1} {f : RegionWave} (w : Nat) (hfailed : f.failed = []) (hsupp : s.boot.supplement = []) :
    s.waveTable w f = s.modRegion f.region (tabledRegion w f) := by
  have hranks : s.suppRanks f.region = [] := by simp [Gk1.suppRanks, Gk1.suppEntries, hsupp]
  unfold Gk1.waveTable
  generalize List.range 4096 = ks
  have hrun : (ks.filter fun k => f.failed.contains k && !(s.suppRanks f.region).contains k) = [] :=
    List.filter_eq_nil_iff.2 fun k _ => by simp [hfailed]
  dsimp only
  rw [hrun, hranks]
  rfl

theorem Gk1.foldl_waveStack {fs : List RegionWave} (hlanes : ∀ f ∈ fs, f.badLanes = []) {s : Gk1} (hsupp : s.boot.supplement = []) :
    fs.foldl Gk1.waveStack s = fs.foldl (fun s f => s.modRegion f.region (stackedRegion f)) s := by
  induction fs generalizing s with
  | nil => rfl
  | cons f fs ih =>
    rw [List.foldl_cons, List.foldl_cons, Gk1.waveStack_plain (hlanes f List.mem_cons_self) hsupp]
    exact ih (fun g hg => hlanes g (List.mem_cons_of_mem _ hg)) hsupp

theorem Gk1.foldl_waveTable {fs : List RegionWave} (w : Nat) (hgood : ∀ f ∈ fs, f.started = true ∧ f.failed = []) {s : Gk1}
    (hsupp : s.boot.supplement = []) :
    fs.foldl (fun s f => if f.started = true then s.waveTable w f else
        (s.modRegion f.region fun R => { R with wave := w }).outAtBoot f.region) s =
      fs.foldl (fun s f => s.modRegion f.region (tabledRegion w f)) s := by
  induction fs generalizing s with
  | nil => rfl
  | cons f fs ih =>
    obtain ⟨hstart, hfailed⟩ := hgood f List.mem_cons_self
    rw [List.foldl_cons, List.foldl_cons, if_pos hstart, Gk1.waveTable_plain w hfailed hsupp]
    exact ih (fun g hg => hgood g (List.mem_cons_of_mem _ hg)) hsupp

end Sys2Proof.Machine

namespace Sys2Proof.Claims

open Sys2Proof.Machine Host

/-- The acceptance checks include anti-rollback (R667). -/
theorem arb_le_of_bundleErr {s : Gk1} {b sp : Option (List Byte)} (hok : s.bundleErr b sp = 0) : s.arb ≤ bnum (b.getD []) 10 1 := by
  unfold Gk1.bundleErr at hok
  split at hok
  · refine Nat.le_of_not_lt fun hlt => ?_
    have h5 : bnum (some _ |>.getD []) 10 1 < s.arb := hlt
    simp only [Option.getD_some] at h5
    rw [if_pos h5] at hok
    split at hok
    · cases hok
    · split at hok
      · cases hok
      · split at hok
        · cases hok
        · split at hok <;> cases hok
  · cases hok

theorem blown_arb (s : Gk1) {n : Nat} (h : s.arb ≤ n) :
    Config.arbFuses % 65 + (s.boot.arbBlown + (n - s.arb)) = n := by
  unfold Gk1.arb at *
  omega

section
variable {s : State} {fs : List RegionWave}

/-- The regions of a wave after its stacks are up: service and channels are as they were. -/
def stackedOf (s : Gk1) (fs : List RegionWave) : Gk1 := fs.foldl (fun s f => s.modRegion f.region (stackedRegion f)) s

theorem stackedOf_region (s : Gk1) (fs : List RegionWave) (r : Nat) :
    ((stackedOf s fs).region r).channels = (s.region r).channels ∧ ((stackedOf s fs).region r).service = (s.region r).service :=
  region_foldl_modRegion RegionWave.region stackedRegion
    (P := fun R => R.channels = (s.region r).channels ∧ R.service = (s.region r).service) (fun _ _ _ h => h) ⟨rfl, rfl⟩

theorem stackedOf_boot (s : Gk1) (fs : List RegionWave) : (stackedOf s fs).boot = s.boot := by
  obtain ⟨_, h⟩ := foldl_modRegion_eq RegionWave.region stackedRegion fs s
  rw [stackedOf, h]

theorem stackBad_stackedOf (s : Gk1) (fs : List RegionWave) (hlost : ∀ r, ∀ c ∈ (s.region r).channels, c.2.lost ≤ 4) (f : RegionWave) :
    (stackedOf s fs).stackBad f = !f.trained := by
  rw [Gk1.stackBad, (stackedOf_region s fs f.region).1, Bool.or_eq_left_iff_imp]
  intro h
  obtain ⟨c, hc, hlt⟩ := List.any_eq_true.1 h
  have := hlost _ c hc
  simp only [decide_eq_true_eq] at hlt
  omega

/-- A dispatcher takes its role. -/
def electedOf (s : Gk1) (d : Nat) : Gk1 := { s with boot := { s.boot with disp := d, dvalid := true } }

/-- A wave is over. -/
def countedWave (s : Gk1) (w : Nat) : Gk1 := { s with boot := { s.boot with waves := w + 1 } }

/-- The part after a wave in which all is well, with the dispatcher d. -/
def wavedOf (s : Gk1) (fs : List RegionWave) (d : Nat) : Gk1 :=
  countedWave (fs.foldl (fun u f => u.modRegion f.region (tabledRegion s.boot.waves f)) (electedOf (stackedOf s fs) d)) s.boot.waves

/-- The followers are named anew; after the last wave the part is READY. -/
def endedWave (s : Gk1) (w : Nat) : Gk1 := if w + 1 = 16 then { s.refollow [] with part := .ready } else s.refollow []

theorem endedWave_eq (s : Gk1) (w : Nat) : ∃ follow, endedWave s w =
    { s with boot := { s.boot with follow := follow }, part := if w + 1 = 16 then .ready else s.part } := by
  rw [endedWave]
  split <;> exact ⟨_, rfl⟩

theorem endedWave_boxUp (s : Gk1) (w r : Nat) : (endedWave s w).boxUp r = s.boxUp r := by
  obtain ⟨_, h⟩ := endedWave_eq s w
  rw [h]
  rfl


theorem wavedOf_eq (s : Gk1) (fs : List RegionWave) (d : Nat) : ∃ regions, wavedOf s fs d =
    { s with regions := regions, boot := { s.boot with disp := d, dvalid := true, waves := s.boot.waves + 1 } } := by
  obtain ⟨r1, h1⟩ := foldl_modRegion_eq RegionWave.region stackedRegion fs s
  obtain ⟨r2, h2⟩ := foldl_modRegion_eq RegionWave.region (tabledRegion s.boot.waves) fs (electedOf (stackedOf s fs) d)
  rw [wavedOf, h2, countedWave, electedOf, stackedOf, h1]
  exact ⟨_, rfl⟩

theorem wavedOf_dram (s : Gk1) (fs : List RegionWave) (d : Nat) : (wavedOf s fs d).dram = s.dram := by
  obtain ⟨_, h⟩ := wavedOf_eq s fs d
  rw [h]

/-- What the steps of a wave keep, its regions keep. -/
theorem region_wavedOf {P : Region → Prop} (hstack : ∀ f R, P R → P (stackedRegion f R))
    (htable : ∀ w f R, P R → P (tabledRegion w f R)) {s : Gk1} {fs : List RegionWave} {d r : Nat} (h : P (s.region r)) :
    P ((wavedOf s fs d).region r) :=
  region_foldl_modRegion RegionWave.region (tabledRegion s.boot.waves) (s := electedOf (stackedOf s fs) d) (fun f _ R => htable _ f R)
    (region_foldl_modRegion RegionWave.region stackedRegion (s := s) (fun f _ R => hstack f R) h)

/-- A region of the wave has its rails, its clocks and its signal box up. -/
theorem region_wavedOf_of_mem {s : Gk1} {fs : List RegionWave} {d : Nat} {f : RegionWave} (hf : f ∈ fs) :
    let R := (wavedOf s fs d).region f.region
    R.sbUp = true ∧ R.bootDone = true ∧ R.vfab = true ∧ R.vmem = true ∧ R.aLock = true ∧ R.dLock = true := by
  have hrails := region_foldl_modRegion_of_mem RegionWave.region stackedRegion
    (P := fun R => R.vfab = true ∧ R.vmem = true ∧ R.aLock = true ∧ R.dLock = true) (s := s) (fun _ _ _ => ⟨rfl, rfl, rfl, rfl⟩) hf
  obtain ⟨hup, hdone⟩ := region_foldl_modRegion_of_mem RegionWave.region (tabledRegion s.boot.waves)
    (P := fun R => R.sbUp = true ∧ R.bootDone = true) (s := electedOf (stackedOf s fs) d)
    (fun _ _ _ => ⟨rfl, rfl⟩) hf
  exact ⟨hup, hdone, region_foldl_modRegion RegionWave.region (tabledRegion s.boot.waves)
    (P := fun R => R.vfab = true ∧ R.vmem = true ∧ R.aLock = true ∧ R.dLock = true)
    (s := electedOf (stackedOf s fs) d) (fun _ _ _ h => h) hrails⟩

theorem boxUp_wavedOf {s : Gk1} {fs : List RegionWave} {d r : Nat}
    (h : s.boxUp r = true ∨ ∃ f ∈ fs, f.region = r ∧ (s.region r).service = 0) : (wavedOf s fs d).boxUp r = true := by
  rw [Gk1.boxUp, Bool.and_eq_true, decide_eq_true_eq] at h ⊢
  obtain hup | ⟨f, hf, rfl, hservice⟩ := h
  · exact region_wavedOf (P := fun R => R.sbUp = true ∧ R.service = 0) (fun _ _ h => h) (fun _ _ _ h => ⟨rfl, h.2⟩) hup
  · exact ⟨(region_wavedOf_of_mem hf).1, region_wavedOf (P := fun R => R.service = 0) (fun _ _ h => h) (fun _ _ _ h => h) hservice⟩

theorem electDispatcher_first {fs : List RegionWave} (hmap : fs.map RegionWave.region = waveRegions 0)
    (hstarted : ∀ f ∈ fs, f.started = true) : ∃ f ∈ fs, f.region = 3 ∧ electDispatcher fs = some 3 := by
  have hmem : 3 ∈ fs.map RegionWave.region := by rw [hmap]; decide
  obtain ⟨f, hf, hr⟩ := List.mem_map.1 hmem
  have hany : (fs.any fun f => decide (f.region = 3) && f.started) = true :=
    List.any_eq_true.2 ⟨f, hf, by rw [hr, hstarted f hf]; rfl⟩
  exact ⟨f, hf, hr, by rw [electDispatcher, List.find?_cons, hany]⟩

theorem trained_stackBad {s : Gk1} (hlost : ∀ r, ∀ c ∈ (s.region r).channels, c.2.lost ≤ 4) (htrained : ∀ f ∈ fs, f.trained = true) :
    fs.any (stackedOf s fs).stackBad = false :=
  List.any_eq_false.2 fun f hf => by simp [stackBad_stackedOf s fs hlost, htrained f hf]

variable (hpart : s.part = .waves) (hmap : fs.map RegionWave.region = waveRegions s.boot.waves) (hsupp : s.boot.supplement = [])
  (hlanes : ∀ f ∈ fs, f.badLanes = []) (hlost : ∀ r, ∀ c ∈ (s.region r).channels, c.2.lost ≤ 4)

include hpart hmap hsupp hlanes

theorem bootWave_goes : (decide (s.part ≠ .waves) || decide ((fs.map fun f => f.region) ≠ waveRegions s.boot.waves)) = false ∧
    fs.foldl Gk1.waveStack s.toGk1 = stackedOf s.toGk1 fs := by
  refine ⟨?_, Gk1.foldl_waveStack hlanes hsupp⟩
  rw [hpart, hmap]
  simp

include hlost

theorem exec_bootWave_untrained (hbad : ∃ f ∈ fs, f.trained = false) :
    exec (.bootWave fs) s = .next (became s ((stackedOf s.toGk1 fs).bootFault 0x0B)) := by
  obtain ⟨f, hf, hno⟩ := hbad
  obtain ⟨hgo, hfold⟩ := bootWave_goes hpart hmap hsupp hlanes
  have hany : fs.any (stackedOf s.toGk1 fs).stackBad = true :=
    List.any_eq_true.2 ⟨f, hf, by rw [stackBad_stackedOf s.toGk1 fs hlost, hno]; rfl⟩
  change execBootWave fs s = _
  refine State.act_of_next _ _ _ ?_
  simp only [hgo, hfold, hany, Bool.false_eq_true, if_false, if_true]

theorem exec_bootWave_unstaged (htrained : ∀ f ∈ fs, f.trained = true) (hbad : ∃ f ∈ fs, f.staged = false) :
    exec (.bootWave fs) s = .next (became s ((stackedOf s.toGk1 fs).bootFault 0x08)) := by
  obtain ⟨f, hf, hno⟩ := hbad
  obtain ⟨hgo, hfold⟩ := bootWave_goes hpart hmap hsupp hlanes
  have hany : (fs.any fun f => !f.staged) = true := List.any_eq_true.2 ⟨f, hf, by rw [hno]; rfl⟩
  change execBootWave fs s = _
  refine State.act_of_next _ _ _ ?_
  simp only [hgo, hfold, trained_stackBad hlost htrained, hany, Bool.false_eq_true, if_false, if_true]

theorem exec_bootWave_unstarted (hall : ∀ f ∈ fs, f.trained = true ∧ f.staged = true ∧ f.started = false) (hfirst : s.boot.waves = 0) :
    exec (.bootWave fs) s = .next (became s ((stackedOf s.toGk1 fs).bootFault 0x0A)) := by
  obtain ⟨hgo, hfold⟩ := bootWave_goes hpart hmap hsupp hlanes
  have hstaged : (fs.any fun f => !f.staged) = false := List.any_eq_false.2 fun f hf => by simp [(hall f hf).2.1]
  have hnone : electDispatcher fs = none := by
    have hno : ∀ r, (fs.any fun f => decide (f.region = r) && f.started) = false := fun r =>
      List.any_eq_false.2 fun f hf => by simp [(hall f hf).2.2]
    simp only [electDispatcher, List.find?_cons, hno, List.find?_nil]
  change execBootWave fs s = _
  refine State.act_of_next _ _ _ ?_
  simp only [hgo, hfold, trained_stackBad hlost fun f hf => (hall f hf).1, hstaged, Bool.false_eq_true, if_false]
  rw [if_pos hfirst, hnone]

theorem exec_bootWave_good (hall : ∀ f ∈ fs, f.trained = true ∧ f.staged = true ∧ f.started = true ∧ f.failed = [])
    {d : Nat} (hd : (if s.boot.waves = 0 then electDispatcher fs else some s.boot.disp) = some d)
    (hup : (wavedOf s.toGk1 fs d).boxUp d = true) : exec (.bootWave fs) s = .next (became s
      (endedWave (wavedOf s.toGk1 fs d) s.boot.waves)) := by
  obtain ⟨hgo, hfold⟩ := bootWave_goes hpart hmap hsupp hlanes
  have hstaged : (fs.any fun f => !f.staged) = false := List.any_eq_false.2 fun f hf => by simp [(hall f hf).2.1]
  have hboot := stackedOf_boot s.toGk1 fs
  have htable := Gk1.foldl_waveTable (s := electedOf (stackedOf s.toGk1 fs) d) s.boot.waves
    (fun f hf => (hall f hf).2.2) (by rw [electedOf, hboot, hsupp])
  have hgood : fs.any (fs.foldl Gk1.waveStack s.toGk1).stackBad = false := by
    rw [hfold]
    exact trained_stackBad hlost fun f hf => (hall f hf).1
  have hgo' := Bool.eq_false_iff.1 hgo
  have hd' : (if s.boot.waves = 0 then electDispatcher fs else some (fs.foldl Gk1.waveStack s.toGk1).boot.disp) = some d := by
    rw [hfold, hboot]
    exact hd
  have hwaved : (fs.foldl (fun u f => if f.started = true then u.waveTable s.boot.waves f else
      (u.modRegion f.region fun R => { R with wave := s.boot.waves }).outAtBoot f.region)
      (electedOf (fs.foldl Gk1.waveStack s.toGk1) d)) =
      fs.foldl (fun u f => u.modRegion f.region (tabledRegion s.boot.waves f)) (electedOf (stackedOf s.toGk1 fs) d) := by
    rw [hfold, ← htable]
  have hend : (endedWave (wavedOf s.toGk1 fs d) s.boot.waves).boxUp (endedWave (wavedOf s.toGk1 fs d) s.boot.waves).boot.disp = true := by
    obtain ⟨_, h⟩ := endedWave_eq (wavedOf s.toGk1 fs d) s.boot.waves
    obtain ⟨_, hw⟩ := wavedOf_eq s.toGk1 fs d
    rw [endedWave_boxUp, h, show (wavedOf s.toGk1 fs d).boot.disp = d by rw [hw]]
    exact hup
  change execBootWave fs s = _
  refine State.act_of_next _ _ _ ((if_neg hgo').trans ?_)
  extract_lets u o
  refine (if_neg (Bool.eq_false_iff.1 hgood)).trans ((if_neg (Bool.eq_false_iff.1 hstaged)).trans ?_)
  rw [show o = some d from hd']
  refine (if_pos ?_).trans (congrArg Outcome.next ?_)
  · change (endedWave (countedWave (fs.foldl _ (electedOf (fs.foldl Gk1.waveStack s.toGk1) d)) s.boot.waves) s.boot.waves).boxUp
      (endedWave (countedWave (fs.foldl _ (electedOf (fs.foldl Gk1.waveStack s.toGk1) d)) s.boot.waves) s.boot.waves).boot.disp = true
    rw [hwaved]
    exact hend
  · change endedWave (countedWave (fs.foldl _ (electedOf (fs.foldl Gk1.waveStack s.toGk1) d)) s.boot.waves) s.boot.waves = _
    rw [hwaved]
    rfl

end

/-- Settles O59: the boot commands by their guards, a wave by the change that its steps make to each region. -/
theorem bootAndFuses : Obligations.BootAndFuses := by
  unfold Obligations.BootAndFuses
  refine ⟨⟨fun s hrom => ⟨fun hup => ?_, fun hdown => ?_, ?_⟩, fun s hlink => ?_, fun s b sp hload => ⟨fun hbad => ?_, fun hok => ?_⟩,
    fun s key hready => ⟨fun hkey harb hblow => ?_, fun hkey => ?_, fun hkey => ?_, fun hkey => ?_⟩, fun s hpow => ?_⟩,
    fun s fs hpart hmap hcount hsupp hlanes hlost => ⟨fun hbad => ?_, fun htr hbad => ?_, fun hall hfirst => ?_, fun hall hdisp => ?_⟩⟩
  · refine ⟨_, show execLinkUp true s = _ from State.act_of_next _ _ _ ((if_neg (not_not.2 hrom)).trans
      ((if_neg Bool.false_ne_true).trans (if_neg ?_))), rfl, rfl, rfl⟩
    simp [hup]
  · refine show execLinkUp true s = _ from State.act_of_next _ _ _ ((if_neg (not_not.2 hrom)).trans
      ((if_neg Bool.false_ne_true).trans (if_pos ?_)))
    simp [hdown]
  · exact ⟨_, show execLinkUp false s = _ from State.act_of_next _ _ _ ((if_neg (not_not.2 hrom)).trans (if_pos rfl)), rfl, rfl⟩
  · exact show execBootGo s = _ from State.act_of_next _ _ _ (congrArg Outcome.next (if_pos hlink))
  · exact show execLoadingDone b sp s = _ from State.act_of_next _ _ _ ((if_neg (not_not.2 hload)).trans (if_pos hbad))
  · exact ⟨_, show execLoadingDone b sp s = _ from State.act_of_next _ _ _ ((if_neg (not_not.2 hload)).trans (if_neg (not_not.2 hok))),
      rfl, rfl, arb_le_of_bundleErr hok, rfl, rfl, rfl, rfl⟩
  · refine show execArbCommit key s = _ from State.act_of_next _ _ _ (congrArg Outcome.next (if_pos ?_))
    simp [hkey, hready, harb, hblow]
  · refine show execArbCommit key s = _ from State.act_of_next _ _ _ (congrArg Outcome.next (if_neg fun h => hkey ?_))
    exact of_decide_eq_true (Bool.and_eq_true_iff.1 (Bool.and_eq_true_iff.1 (Bool.and_eq_true_iff.1 h).1).1).1
  · refine ⟨_, show execDebugLock key s = _ from State.act_of_next _ _ _ (congrArg Outcome.next (if_pos ?_)), rfl, ?_, fun h => ?_, rfl⟩
    · simp [hkey, hready]
    · have hctl := Gk1.reg_setReg_of_ne (s.setReg 0x700008 (12 * 8) (setFld s.traceCtl 0 1 0)) (off := 0x500400) (o2 := 0x700008) (by decide)
        (3 * 2 ^ 10) (setFld ((s.setReg 0x700008 (12 * 8) (setFld s.traceCtl 0 1 0)).reg 0x500400 (3 * 2 ^ 10)) 0 1 0) (12 * 8)
      refine (congrArg (fun n => Nat.testBit n 0) (hctl.trans ((Gk1.reg_setReg ..).trans (if_pos rfl)))).trans ?_
      rw [Nat.testBit_mod_two_pow, testBit_setFld]
      simp
    · change (s.boot.lockBlowing || !s.boot.lockBlown) = true
      rw [h, Bool.not_false, Bool.or_true]
  · refine show execDebugLock key s = _ from State.act_of_next _ _ _ (congrArg Outcome.next (if_neg fun h => hkey ?_))
    exact of_decide_eq_true (Bool.and_eq_true_iff.1 h).1
  · refine ⟨_, show execFuseBlowComplete s = _ from State.act_of_next _ _ _ (congrArg Outcome.next (if_neg ?_)), rfl, rfl,
      fun n hn hle => ?_, fun hn => ?_, rfl, rfl⟩
    · simp [hpow]
    · change Config.arbFuses % 65 + (s.boot.blowing.map fun t => s.boot.arbBlown + (t - s.arb)).getD s.boot.arbBlown = n
      rw [hn]
      exact blown_arb s.toGk1 hle
    · change Config.arbFuses % 65 + (s.boot.blowing.map fun t => s.boot.arbBlown + (t - s.arb)).getD s.boot.arbBlown = s.arb
      rw [hn]
      rfl
  · exact ⟨_, exec_bootWave_untrained hpart hmap hsupp hlanes hlost hbad, rfl, rfl,
      show (stackedOf s.toGk1 fs).boot.waves = _ from congrArg Boot.waves (stackedOf_boot s.toGk1 fs)⟩
  · exact ⟨_, exec_bootWave_unstaged hpart hmap hsupp hlanes hlost htr hbad, rfl, rfl⟩
  · exact ⟨_, exec_bootWave_unstarted hpart hmap hsupp hlanes hlost hall hfirst, rfl, rfl⟩
  · obtain ⟨d, hd, hdis, hup⟩ : ∃ d, (if s.boot.waves = 0 then electDispatcher fs else some s.boot.disp) = some d ∧
        d = (if s.boot.waves = 0 then 3 else s.boot.disp) ∧ (wavedOf s.toGk1 fs d).boxUp d = true := by
      by_cases hfirst : s.boot.waves = 0
      · rw [if_pos hfirst, if_pos hfirst]
        obtain ⟨f, hf, hr, he⟩ := electDispatcher_first (hfirst ▸ hmap) fun f hf => (hall f hf).2.2.1
        exact ⟨3, he, rfl, boxUp_wavedOf (.inr ⟨f, hf, hr, hr ▸ (hall f hf).2.2.2.2⟩)⟩
      · rw [if_neg hfirst, if_neg hfirst]
        exact ⟨_, rfl, rfl, boxUp_wavedOf (.inl (hdisp.resolve_left hfirst))⟩
    have hwave := exec_bootWave_good hpart hmap hsupp hlanes hlost
      (fun f hf => ⟨(hall f hf).1, (hall f hf).2.1, (hall f hf).2.2.1, (hall f hf).2.2.2.1⟩) hd hup
    obtain ⟨follow, he⟩ := endedWave_eq (wavedOf s.toGk1 fs d) s.boot.waves
    obtain ⟨regions, hw⟩ := wavedOf_eq s.toGk1 fs d
    refine ⟨_, hwave, ?_, ?_, ?_, ?_, ?_, fun f hf => ?_⟩
    · rw [became, he, hw]
    · rw [became, he, hw]
      simp [hpart]
    · rw [became, he, hw]
      exact hdis
    · rw [became, he, hw]
    · rw [became, he, hw]
    · rw [region_became, he]
      exact region_wavedOf_of_mem hf

end Sys2Proof.Claims

/-! Ports: what sending on the links keeps of each port, and what taking a packet, losing a link and reporting do. -/

namespace Sys2Proof.Machine

/-- From s to t packets have been sent: every port keeps its state and the replay stores that await recovery, and one that is not up
keeps its replay store and the packets that wait. -/
structure LinksKept (s t : Gk1) : Prop where
  state : ∀ n, (t.port n).state = (s.port n).state
  old : ∀ n, (t.port n).old = (s.port n).old
  down : ∀ n, s.portUp n = false → (t.port n).store = (s.port n).store ∧ (t.port n).waiting = (s.port n).waiting
  regs : t.regs = s.regs

theorem LinksKept.refl (s : Gk1) : LinksKept s s := ⟨fun _ => rfl, fun _ => rfl, fun _ _ => ⟨rfl, rfl⟩, rfl⟩

theorem LinksKept.up {s t : Gk1} (h : LinksKept s t) (n : Nat) : t.portUp n = s.portUp n := by
  rw [Gk1.portUp, Gk1.portUp, h.state]

theorem LinksKept.trans {s t u : Gk1} (h : LinksKept s t) (h' : LinksKept t u) : LinksKept s u where
  state n := (h'.state n).trans (h.state n)
  old n := (h'.old n).trans (h.old n)
  down n hn := by
    obtain ⟨hstore, hwait⟩ := h'.down n ((h.up n).trans hn)
    obtain ⟨hstore', hwait'⟩ := h.down n hn
    exact ⟨hstore.trans hstore', hwait.trans hwait'⟩
  regs := h'.regs.trans h.regs

theorem LinksKept.of_ports {s t : Gk1} (hports : t.ports = s.ports) (hregs : t.regs = s.regs) : LinksKept s t := by
  have h : ∀ n, t.port n = s.port n := fun n => by rw [Gk1.port, hports, Gk1.port]
  exact ⟨fun n => by rw [h], fun n => by rw [h], fun n _ => by rw [h]; exact ⟨rfl, rfl⟩, hregs⟩

theorem LinksKept.foldl {α : Type} {f : Gk1 → α → Gk1} (hf : ∀ s a, LinksKept s (f s a)) (l : List α) (s : Gk1) :
    LinksKept s (l.foldl f s) := by
  induction l generalizing s with
  | nil => exact LinksKept.refl s
  | cons a l ih => exact (hf s a).trans (ih _)

/-- A change of a port that keeps its state, its stores and the packets that wait. -/
theorem LinksKept.of_modPort (s : Gk1) (p : Nat) {f : Port → Port} (hstate : (f (s.port p)).state = (s.port p).state)
    (hold : (f (s.port p)).old = (s.port p).old)
    (hdown : s.portUp p = false → (f (s.port p)).store = (s.port p).store ∧ (f (s.port p)).waiting = (s.port p).waiting) :
    LinksKept s (s.modPort p f) where
  state n := by
    rw [Gk1.port_modPort]
    split
    · next h => exact h ▸ hstate
    · rfl
  old n := by
    rw [Gk1.port_modPort]
    split
    · next h => exact h ▸ hold
    · rfl
  down n hn := by
    rw [Gk1.port_modPort]
    split
    · next h =>
      subst h
      exact hdown hn
    · exact ⟨rfl, rfl⟩
  regs := rfl

theorem Gk1.notify_kept (s : Gk1) (p h1 h3 : Nat) : LinksKept s (s.notify p h1 h3) :=
  LinksKept.of_modPort s p rfl rfl fun _ => ⟨rfl, rfl⟩

theorem Port.transmit_kept {P Q : Port} {p : Packet} (h : P.transmit p = some Q) : Q.state = P.state ∧ Q.old = P.old := by
  unfold Port.transmit at h
  dsimp only at h
  split at h
  · cases h
  · obtain ⟨taken, -, rfl⟩ := Option.map_eq_some_iff.1 h
    exact ⟨rfl, rfl⟩

theorem Gk1.sendOn_kept {s : Gk1} {n : Nat} (hup : s.portUp n = true) (w : Option Nat × Packet) : LinksKept s (s.sendOn n w) := by
  have hnot : ∀ {P : Prop}, s.portUp n = false → P := fun h => absurd (hup.symm.trans h) (by decide)
  unfold Gk1.sendOn
  dsimp only
  split
  · next P' hP =>
    split at hP
    · cases hP
    · obtain ⟨hstate, hold⟩ := Port.transmit_kept hP
      exact (LinksKept.of_modPort s n hstate hold fun h => hnot h).trans (Gk1.notify_kept _ n 0 0)
  · exact LinksKept.of_modPort s n rfl rfl fun h => hnot h

/-- Packets are routed to ports that are up. -/
theorem Gk1.portUp_of_route {s : Gk1} {p : Packet} {n : Nat} (h : s.route p = .port n) : s.portUp n = true := by
  unfold Gk1.route at h
  dsimp only at h
  split at h
  · cases h
  · split at h
    · cases h
    · split at h
      · next m hm =>
        cases h
        exact (List.mem_filter.1 (List.mem_of_getElem? hm)).2
      · cases h

theorem Gk1.sendFrom_kept (s : Gk1) (came : Option Nat) (p : Packet) : LinksKept s (s.sendFrom came p).1 := by
  unfold Gk1.sendFrom
  split
  · exact LinksKept.of_ports rfl rfl
  · exact LinksKept.of_modPort s selfPort (f := fun P => { P with sent := P.sent ++ [p] }) rfl rfl fun _ => ⟨rfl, rfl⟩
  · exact LinksKept.refl s
  · next n h => exact Gk1.sendOn_kept (Gk1.portUp_of_route h) _

theorem Gk1.sendKept_kept (s : Gk1) (p : Packet) : LinksKept s (s.sendKept p) := by
  unfold Gk1.sendKept
  dsimp only
  split
  · exact s.sendFrom_kept none p
  · exact LinksKept.of_ports rfl rfl

theorem Gk1.reply_kept (s : Gk1) (p : Packet) (result status : Nat) (payload : List Byte) : LinksKept s (s.reply p result status payload) :=
  s.sendKept_kept _

theorem Gk1.forward_kept (s : Gk1) (came : Option Nat) (p : Packet) : LinksKept s (s.forward came p) := by
  have hway : ∀ t : Gk1, LinksKept t (t.noWay p) := fun t => by
    unfold Gk1.noWay
    split
    · exact t.reply_kept p 4 0 []
    · split <;> exact LinksKept.of_ports rfl rfl
  unfold Gk1.forward
  dsimp only
  split
  · exact s.sendFrom_kept came p
  · exact hway s

/-- A link is lost: its port has the state given and an empty replay store, and what it held awaits the partner's RECOVER if it was up. -/
theorem Gk1.port_loseLink (s : Gk1) (p : Nat) {st : Nat} (hst : st ≠ 2 ∧ st ≠ 3) : ((s.loseLink p st).port p).state = st ∧
    ((s.loseLink p st).port p).store = [] ∧ ((s.loseLink p st).port p).waiting = [] ∧
    ((s.loseLink p st).port p).old = (if s.portUp p = true then (s.port p).old ++ [(s.port p).store] else (s.port p).old) := by
  unfold Gk1.loseLink
  dsimp only
  generalize hu : Gk1.modPort s p _ = u
  have hport : u.port p = { s.port p with
      state := st, waiting := [], taken := [], room := [], erased := [], switching := [], laneCorr := [], noisy := [], skip := 0
      store := [], old := if (decide ((s.port p).state = 2) || decide ((s.port p).state = 3)) = true then (s.port p).old ++ [(s.port p).store] else (s.port p).old
      downAt := if (decide ((s.port p).state = 2) || decide ((s.port p).state = 3)) = true then s.dtime else (s.port p).downAt } := by
    rw [← hu, Gk1.port_modPort, if_pos rfl]
  have hdown : u.portUp p = false := by
    rw [Gk1.portUp, hport]
    simp [hst.1, hst.2]
  have hsent : LinksKept u (if (decide ((s.port p).state = 2) || decide ((s.port p).state = 3)) = true then
      u.sendKept (({ type := 0xC, dst := (s.port p).partner, src := u.self, addr := p, tag := (s.port p).rxCount } : Hdr).packet []) else u) := by
    split
    · exact u.sendKept_kept _
    · exact LinksKept.refl u
  have hkept := hsent.trans (LinksKept.foldl (fun s (w : Option Nat × Packet) => s.forward_kept w.1 w.2) (s.port p).waiting _)
  obtain ⟨hstore, hwait⟩ := hkept.down p hdown
  refine ⟨(hkept.state p).trans (by rw [hport]), hstore.trans (by rw [hport]), hwait.trans (by rw [hport]), (hkept.old p).trans ?_⟩
  rw [hport]
  rfl

end Sys2Proof.Machine

namespace Sys2Proof.Machine

theorem Gk1.port_report (s : Gk1) (r : Report) (n : Nat) : (s.report r).port n = s.port n := by
  rw [Gk1.port, Gk1.report_ports, Gk1.port]

/-- A port that fails has the state given and is empty, and what it held awaits the partner's RECOVER if it was up. -/
theorem Gk1.port_portFault (s : Gk1) (p : Nat) {st : Nat} (hst : st ≠ 2 ∧ st ≠ 3) : ((s.portFault p st).port p).state = st ∧
    ((s.portFault p st).port p).store = [] ∧ ((s.portFault p st).port p).waiting = [] ∧
    ((s.portFault p st).port p).old = (if s.portUp p = true then (s.port p).old ++ [(s.port p).store] else (s.port p).old) := by
  rw [Gk1.portFault, Gk1.port_report]
  exact s.port_loseLink p hst

theorem Gk1.port_setReg (s : Gk1) (off reset v n : Nat) : (s.setReg off reset v).port n = s.port n := rfl

theorem Gk1.port_modPort_self (s : Gk1) (p : Nat) (f : Port → Port) : (s.modPort p f).port p = f (s.port p) := by
  rw [Gk1.port_modPort, if_pos rfl]

theorem Gk1.port_modPort_of_ne (s : Gk1) {p n : Nat} (h : n ≠ p) (f : Port → Port) : (s.modPort p f).port n = s.port n := by
  rw [Gk1.port_modPort, if_neg (Ne.symm h)]

/-- With no packet waiting for credits a port sends nothing. -/
theorem Gk1.pumpPort_idle {s : Gk1} {p : Nat} (h : (s.port p).waiting = []) :
    s.pumpPort p = s.modPort p fun P => { P with waiting := [] } := by
  have hkeep : ∀ (l : List Nat) (t : Gk1), l.foldl (fun t _ => t) t = t := fun l => by
    induction l with
    | nil => exact fun _ => rfl
    | cons a l ih => exact ih
  unfold Gk1.pumpPort
  simp only [h, List.foldl_nil, List.any_nil, Bool.false_and, Bool.false_eq_true, if_false]
  exact hkeep _ _

end Sys2Proof.Machine

namespace Sys2Proof.Claims

open Sys2Proof.Machine Host

section
variable {s : State} {p : Gk1} {n : Nat}

@[simp] theorem port_became : (became s p).port n = p.port n := rfl

theorem act_became {f : Gk1 → Out} (h : f s.toGk1 = .next p) : s.act f = .next (became s p) := State.act_of_next s f p h

end

theorem port_lt {port : Nat} (h : port < 48) : ¬portCount ≤ port := by
  unfold portCount
  omega

/-- What an uncorrectable flit leaves on its port. -/
def discardingAt (s : Gk1) (a : FlitArrival) : Gk1 :=
  s.modPort a.port fun P => { P with replays := min (P.replays + 1) 0xFFFF, skip := a.behind }

theorem exec_replayRequest_bad {s : State} {a : FlitArrival} (hlt : ¬portCount ≤ a.port) (hup : s.portUp a.port = true)
    (hdec : flitDecode (s.port a.port).erased a.flit a.err = none) : exec (.replayRequest a) s
      = .next (became s ((discardingAt s.toGk1 a).notify a.port (((discardingAt s.toGk1 a).port a.port).rxCount + 2 ^ 32) 0)) := by
  refine show execReplayRequest a s = _ from act_became ((if_neg hlt).trans ((if_neg ?_).trans ?_))
  · simp [hup]
  · rw [hdec]
    rfl

theorem exec_replayRequest_corrected {s : State} {a : FlitArrival} {l : Nat} {ls : List Nat} (hlt : ¬portCount ≤ a.port)
    (hup : s.portUp a.port = true) (hdec : flitDecode (s.port a.port).erased a.flit a.err = some (l :: ls)) :
    exec (.replayRequest a) s
      = .next (became s (s.modPort a.port fun P => P.corrected (fld (s.portCtl a.port) 8 8) s.dtime (l :: ls))) := by
  refine show execReplayRequest a s = _ from act_became ((if_neg hlt).trans ((if_neg ?_).trans ?_))
  · simp [hup]
  · rw [hdec]

/-- What a LINK flit with no request and no notice leaves on its port. -/
def linkTaken (flit : LinkFlit) (P : Port) : Port :=
  { (P.acked (fld flit.h0.toNat 32 32)).credit flit.h2.toNat with partner := fld flit.h3.toNat 32 32 }

theorem Gk1.laneNotice_none {s : Gk1} {p h3 : Nat} (h5 : h3.testBit 5 = false) (h6 : h3.testBit 6 = false) : s.laneNotice p h3 = s := by
  simp [Gk1.laneNotice, h5, h6]

theorem exec_fabLink_plain {s : State} {port : Nat} {flit : LinkFlit} (hlt : ¬portCount ≤ port) (hup : s.portUp port = true)
    (h0 : fld flit.h0.toNat 0 5 = 0x1F) (h1 : flit.h1.toNat.testBit 32 = false) (h5 : flit.h3.toNat.testBit 5 = false)
    (h6 : flit.h3.toNat.testBit 6 = false) (hwait : (s.port port).waiting = []) : exec (.fabLink port flit) s
      = .next (became s ((s.modPort port (linkTaken flit)).modPort port fun P => { P with waiting := [] })) := by
  have hpump : (s.modPort port (linkTaken flit)).pumpPort port = (s.modPort port (linkTaken flit)).modPort port fun P => { P with waiting := [] } :=
    Gk1.pumpPort_idle (by rw [Gk1.port_modPort_self]; exact hwait)
  refine show execFabLink port flit s = _ from act_became ((if_neg hlt).trans ((if_neg ?_).trans ?_))
  · simp [h0, hup]
  · have hlane := Gk1.laneNotice_none (s := (s.modPort port (linkTaken flit)).pumpPort port) (p := port) h5 h6
    refine (if_pos ?_).trans (congrArg Outcome.next (hlane.trans hpump))
    simp [h1]

/-- What a lane that is erased leaves on its port, before the port is judged. -/
def laneErasedAt (s : Gk1) (port lane : Nat) : Gk1 :=
  (s.modPort port fun P => { P with erased := P.erased ++ [lane], noisy := P.noisy.filter (· ≠ lane) }).notify port 0 (lane + 2 ^ 5)

theorem exec_laneErase {s : State} {port : Nat} {loss : LaneLoss} (hport : port < 48) (hlane : loss.lane < 16) (hup : s.portUp port = true)
    (hnot : loss.lane ∉ (s.port port).erased) (hloss : loss.lockLost = true ∨ loss.lane ∈ (s.port port).noisy) :
    exec (.laneErase port loss) s = .next (became s ((laneErasedAt s.toGk1 port loss.lane).judgeLanes port)) := by
  refine show execLaneErase port loss s = _ from act_became ((if_neg ?_).trans ((if_neg ?_).trans rfl))
  · simp [hport, hlane, portCount]
  · obtain h | h := hloss <;> simp [hup, hnot, h]

/-- A port that more than one erased lane has no spare for fails; else it is UP or DEGRADED. -/
theorem Gk1.judgeLanes_of_few {s : Gk1} {p : Nat} (h : (s.port p).erased.length - b2n (s.port p).rxSpare.isNone < 2) :
    s.judgeLanes p = s.modPort p fun P => { P with
      state := if (s.port p).erased.length - b2n (s.port p).rxSpare.isNone = 1 then 3 else 2 } := by
  rw [Gk1.judgeLanes]
  exact if_neg (by omega)

theorem Gk1.judgeLanes_of_many {s : Gk1} {p : Nat} (h : 2 ≤ (s.port p).erased.length - b2n (s.port p).rxSpare.isNone) :
    s.judgeLanes p = s.portFault p 4 := by
  rw [Gk1.judgeLanes]
  exact if_pos h

theorem port_laneErasedAt (s : Gk1) (port lane : Nat) : ((laneErasedAt s port lane).port port).erased = (s.port port).erased ++ [lane] ∧
    ((laneErasedAt s port lane).port port).rxSpare = (s.port port).rxSpare := by
  rw [laneErasedAt, Gk1.notify, Gk1.port_modPort_self, Gk1.port_modPort_self]
  exact ⟨rfl, rfl⟩

/-- What a lane on the spare leaves on its port, before the port is judged. -/
def laneSpared (lane : Nat) (P : Port) : Port :=
  { P with
    rxSpare := some lane, erased := P.erased.filter (· ≠ lane), switching := P.switching.filter fun e => e.1 ≠ lane
    lanes := (P.lanes &&& ~~~(BitVec.ofNat 17 (2 ^ lane))) ||| BitVec.ofNat 17 (2 ^ 16) }

theorem exec_laneSwitch {s : State} {port lane sf : Nat} (hport : port < 48) (hlane : lane < 16) (hup : s.portUp port = true)
    (hfind : ((s.port port).switching.find? fun e => e.1 = lane) = some (lane, sf)) (hreach : s.frameReached port sf = true)
    (hmem : lane ∈ (s.port port).erased) (hspare : (s.port port).rxSpare = none) : exec (.laneSwitch port lane) s
      = .next (became s (((s.modPort port (laneSpared lane)).judgeLanes port).report { kind := 8, unit := port })) := by
  refine show execLaneSwitch port lane s = _ from act_became ((if_neg ?_).trans ?_)
  · simp [hport, hlane, portCount]
  · dsimp only
    rw [hfind]
    refine (if_neg ?_).trans rfl
    simp [hup, hreach, hmem, hspare]

/-- A write of FAB_PORT_CTL that changes ENABLE restarts or stops the port's PLL. -/
def pllSwitched (s : Gk1) (port : Nat) (v : BitVec 32) : Gk1 :=
  (if (s.portCtl port).testBit 0 = v.getLsbD 0 then s else s.modPort port fun P => { P with lock := false, pllAt := some s.dtime }).setReg
    (0x404000 + 0x10 * port) (1 + 64 * 256) (v.toNat &&& 0xFF01)

theorem pllSwitched_port (s : Gk1) (port : Nat) (v : BitVec 32) : ((pllSwitched s port v).port port).state = (s.port port).state := by
  unfold pllSwitched
  split
  · rfl
  · rw [Gk1.port_setReg, Gk1.port_modPort_self]

theorem pllSwitched_portCtl (s : Gk1) (port : Nat) (v : BitVec 32) : (pllSwitched s port v).portCtl port = v.toNat &&& 0xFF01 := by
  unfold pllSwitched Gk1.portCtl
  rw [Gk1.reg_setReg, if_pos rfl]
  exact Nat.mod_eq_of_lt (Nat.lt_of_le_of_lt Nat.and_le_right (by decide))

theorem pllSwitched_reg (s : Gk1) (port : Nat) (v : BitVec 32) {off reset : Nat} (h : 0x404000 + 0x10 * port ≠ off) :
    (pllSwitched s port v).reg off reset = s.reg off reset := by
  unfold pllSwitched
  rw [Gk1.reg_setReg_of_ne _ h]
  split <;> rfl

theorem pllSwitched_dram (s : Gk1) (port : Nat) (v : BitVec 32) : (pllSwitched s port v).dram = s.dram := by
  unfold pllSwitched
  split <;> rfl

theorem Gk1.loseLink_regs (s : Gk1) (p st : Nat) : (s.loseLink p st).regs = s.regs := by
  unfold Gk1.loseLink
  dsimp only
  refine (LinksKept.foldl (fun s (w : Option Nat × Packet) => s.forward_kept w.1 w.2) (s.port p).waiting _).regs.trans ?_
  split
  · exact (Gk1.sendKept_kept _ _).regs
  · rfl

theorem exec_fabPortCtlWrite {s : State} {port : Nat} (hlt : ¬portCount ≤ port) (hwork : s.blocksWork = true) (v : BitVec 32) :
    exec (.fabPortCtlWrite port v) s = .next (became s (if v.getLsbD 0 = true then (pllSwitched s.toGk1 port v).trainPorts
      else if ((pllSwitched s.toGk1 port v).port port).state = 0 then pllSwitched s.toGk1 port v
      else (pllSwitched s.toGk1 port v).loseLink port 0)) := by
  refine show execFabPortCtlWrite port v s = _ from act_became ((if_neg hlt).trans ((if_neg ?_).trans rfl))
  simp [hwork]

/-- One port of trainPorts. -/
def trainPort (s : Gk1) (p : Nat) : Gk1 :=
  if s.mayTrain p && (s.port p).state = 0 then s.modPort p fun P => { P with state := 1 }
  else if !s.mayTrain p && (s.port p).state = 1 then s.modPort p fun P => { P with state := 0 } else s

theorem trainPort_regs (s : Gk1) (p : Nat) : (trainPort s p).regs = s.regs := by
  unfold trainPort
  split
  · rfl
  · split <;> rfl

theorem trainPort_of_ne (s : Gk1) {p n : Nat} (h : n ≠ p) : (trainPort s p).port n = s.port n := by
  unfold trainPort
  split
  · exact Gk1.port_modPort_of_ne s h _
  · split
    · exact Gk1.port_modPort_of_ne s h _
    · rfl

theorem mayTrain_of_regs {s t : Gk1} (h : t.regs = s.regs) (p : Nat) : t.mayTrain p = s.mayTrain p := by
  rw [Gk1.mayTrain, Gk1.mayTrain, Gk1.fabCtl, Gk1.fabCtl, Gk1.portCtl, Gk1.portCtl, Gk1.reg, Gk1.reg, Gk1.reg, Gk1.reg, h]

/-- A port that may train leaves DOWN for TRAINING, and stays there. -/
theorem trainPort_state {s : Gk1} {port : Nat} (hmay : s.mayTrain port = true) (p : Nat)
    (h : (s.port port).state = 0 ∨ (s.port port).state = 1) :
    ((trainPort s p).port port).state = if p = port then 1 else (s.port port).state := by
  split
  · next heq =>
    subst heq
    unfold trainPort
    obtain h | h := h
    · rw [if_pos (by simp [hmay, h]), Gk1.port_modPort_self]
    · rw [if_neg (by simp [h]), if_neg (by simp [hmay]), h]
  · next hne => rw [trainPort_of_ne s (Ne.symm hne)]

theorem foldl_trainPort {port : Nat} (l : List Nat) {s : Gk1} (hmay : s.mayTrain port = true)
    (h : (s.port port).state = 0 ∨ (s.port port).state = 1) : (l.foldl trainPort s).regs = s.regs ∧
    ((l.foldl trainPort s).port port).state = if port ∈ l then 1 else (s.port port).state := by
  induction l generalizing s with
  | nil => exact ⟨rfl, rfl⟩
  | cons p l ih =>
    have hst := trainPort_state hmay p h
    have hregs := trainPort_regs s p
    obtain ⟨hr, hs⟩ := ih (s := trainPort s p) ((mayTrain_of_regs hregs port).trans hmay)
      (by rw [hst]; split <;> simp [h])
    refine ⟨hr.trans hregs, hs.trans ?_⟩
    rw [hst]
    by_cases hp : p = port
    · simp [hp]
    · simp [hp, Ne.symm hp]

theorem trainPorts_down {s : Gk1} {port : Nat} (hport : port < 48) (hmay : s.mayTrain port = true) (h : (s.port port).state = 0) :
    ((s.trainPorts).port port).state = 1 ∧ s.trainPorts.regs = s.regs := by
  obtain ⟨hregs, hst⟩ := foldl_trainPort (List.range portCount) hmay (.inl h)
  exact ⟨hst.trans (if_pos (List.mem_range.2 hport)), hregs⟩

/-- Settles O51: each port event by its one change of the port and what sending keeps. -/
theorem portsAndLinks : Obligations.PortsAndLinks := by
  unfold Obligations.PortsAndLinks
  intro s port hport
  have hlt : ¬portCount ≤ port := port_lt hport
  refine ⟨fun install lanes hmay hstate => ⟨fun hinst hlanes => ?_, fun hbad => ?_⟩, fun hup => ?_, fun flit hup h0 h1 h5 h6 hwait => ?_,
    fun a ha hup hdec => ?_, fun a l ls ha hup hdec => ?_, fun loss hlane hup hnot => ⟨fun hlock hnoisy => ?_, fun hloss => ⟨fun hfew => ?_, fun hmany => ?_⟩⟩,
    fun lane sf hlane hup hfind hreach hmem hspare hlen => ?_, fun v hwork hoff hstate => ?_, fun v hwork hon hfab hstate => ?_⟩
  · refine ⟨_, show execPortTrainUp port install lanes s = _ from act_became ((if_neg hlt).trans ((if_neg ?_).trans (if_neg ?_))),
      ?_, ?_, ?_, ?_, ?_, fun n hn => Gk1.port_modPort_of_ne _ hn _, rfl⟩
    · obtain h | h := hstate <;> simp [hmay, h]
    · simp [hinst]
      exact hlanes
    all_goals rw [port_became, Gk1.port_modPort_self]
  · refine show execPortTrainUp port install lanes s = _ from act_became ((if_neg hlt).trans ((if_neg ?_).trans (if_pos ?_)))
    · obtain h | h := hstate <;> simp [hmay, h]
    · obtain h | h := hbad
      · simp [h]
      · simp
        exact .inr h
  · obtain ⟨hst, -, hwait, -⟩ := s.port_portFault port (st := 0) (by decide)
    exact ⟨_, show execPortDown port s = _ from act_became ((if_neg hlt).trans (congrArg Outcome.next (if_pos hup))), hst, hwait,
      Gk1.portFault_dram ..⟩
  · refine ⟨_, exec_fabLink_plain hlt hup h0 h1 h5 h6 hwait, ?_, ?_, ?_, fun n hn => ?_, rfl⟩
    · rw [port_became, Gk1.port_modPort_self, Gk1.port_modPort_self]
      rfl
    · rw [port_became, Gk1.port_modPort_self, Gk1.port_modPort_self]
      intro e he
      obtain ⟨hold, hnew⟩ := List.mem_filter.1 (show e ∈ (s.port port).store.filter _ from he)
      exact ⟨hold, by simpa using hnew⟩
    · rw [port_became, Gk1.port_modPort_self, Gk1.port_modPort_self]
      rfl
    · rw [port_became, Gk1.port_modPort_of_ne _ hn, Gk1.port_modPort_of_ne _ hn]
  · obtain rfl := ha
    have hP : (discardingAt s.toGk1 a).port a.port = { s.port a.port with
        replays := min ((s.port a.port).replays + 1) 0xFFFF, skip := a.behind } := Gk1.port_modPort_self ..
    refine ⟨_, (discardingAt s.toGk1 a).linkFlit a.port (((discardingAt s.toGk1 a).port a.port).rxCount + 2 ^ 32) 0,
      exec_replayRequest_bad hlt hup hdec, ?_⟩
    rw [port_became, Gk1.notify, Gk1.port_modPort_self, hP]
    refine ⟨rfl, rfl, ?_, rfl, rfl, rfl⟩
    change fld (BitVec.ofNat 64 ((s.port a.port).rxCount + 2 ^ 32)).toNat 0 32 = (s.port a.port).rxCount % 2 ^ 32
    rw [BitVec.toNat_ofNat, fld, Nat.shiftRight_zero]
    omega
  · obtain rfl := ha
    refine ⟨_, exec_replayRequest_corrected hlt hup hdec, ?_⟩
    rw [port_became, Gk1.port_modPort_self]
    exact ⟨rfl, rfl, rfl, rfl⟩
  · refine show execLaneErase port loss s = _ from act_became ((if_neg ?_).trans (if_pos ?_))
    · simp [hport, hlane, portCount]
    · simp [hlock, hnoisy]
  · obtain ⟨herased, hspare⟩ := port_laneErasedAt s.toGk1 port loss.lane
    have hjudge := Gk1.judgeLanes_of_few (s := laneErasedAt s.toGk1 port loss.lane) (p := port)
      (by rw [herased, hspare, List.length_append]; exact hfew)
    refine ⟨_, exec_laneErase hport hlane hup hnot hloss, ?_, ?_, Gk1.judgeLanes_dram ..⟩
    · rw [port_became, hjudge, Gk1.port_modPort_self]
      exact herased
    · rw [hjudge, Gk1.portUp, port_became, Gk1.port_modPort_self]
      dsimp only
      split <;> rfl
  · obtain ⟨herased, hspare⟩ := port_laneErasedAt s.toGk1 port loss.lane
    have hjudge := Gk1.judgeLanes_of_many (s := laneErasedAt s.toGk1 port loss.lane) (p := port)
      (by rw [herased, hspare, List.length_append]; exact hmany)
    refine ⟨_, exec_laneErase hport hlane hup hnot hloss, ?_, Gk1.judgeLanes_dram ..⟩
    rw [port_became, hjudge]
    exact (Gk1.port_portFault _ port (by decide)).1
  · have hlone : (s.port port).erased.filter (· ≠ lane) = [] := by
      have hone : (s.port port).erased.length = 1 := Nat.le_antisymm hlen (List.length_pos_of_mem hmem)
      obtain ⟨x, hx⟩ := List.length_eq_one_iff.1 hone
      rw [hx] at hmem ⊢
      obtain rfl := List.mem_singleton.1 hmem
      simp
    have hP : ((s.modPort port (laneSpared lane)).port port) = laneSpared lane (s.port port) := Gk1.port_modPort_self ..
    have hcount : ((s.modPort port (laneSpared lane)).port port).erased.length - b2n ((s.modPort port (laneSpared lane)).port port).rxSpare.isNone = 0 := by
      rw [hP, laneSpared, hlone]
      rfl
    have hjudge := Gk1.judgeLanes_of_few (s := s.modPort port (laneSpared lane)) (p := port) (by rw [hcount]; decide)
    refine ⟨_, exec_laneSwitch hport hlane hup hfind hreach hmem hspare, ?_⟩
    rw [port_became, Gk1.port_report, hjudge, Gk1.port_modPort_self, hcount, hP]
    refine ⟨rfl, ?_, rfl, ?_⟩
    · change lane ∉ (s.port port).erased.filter (· ≠ lane)
      rw [hlone]
      exact List.not_mem_nil
    · exact (Gk1.report_dram ..).trans rfl
  · have hst : ((pllSwitched s.toGk1 port v).port port).state ≠ 0 := by rw [pllSwitched_port]; exact hstate
    have hw := exec_fabPortCtlWrite hlt hwork v
    rw [if_neg (by rw [hoff]; decide), if_neg hst] at hw
    refine ⟨_, hw, (Gk1.port_loseLink _ port (by decide)).1, ?_, ?_⟩
    · change (((pllSwitched s.toGk1 port v).loseLink port 0).reg _ _) = _
      rw [Gk1.reg, Gk1.loseLink_regs]
      exact pllSwitched_portCtl s.toGk1 port v
    · exact (Gk1.loseLink_dram ..).trans (pllSwitched_dram ..)
  · have hw := exec_fabPortCtlWrite hlt hwork v
    rw [if_pos hon] at hw
    have hctl := pllSwitched_portCtl s.toGk1 port v
    have hmay : (pllSwitched s.toGk1 port v).mayTrain port = true := by
      rw [Gk1.mayTrain, hctl, Gk1.fabCtl, pllSwitched_reg s.toGk1 port v (by omega), ← Gk1.fabCtl, hfab, Nat.testBit_and]
      simpa [BitVec.getLsbD] using hon
    obtain ⟨hst, hregs⟩ := trainPorts_down hport hmay ((pllSwitched_port s.toGk1 port v).trans hstate)
    refine ⟨_, hw, hst, ?_, (Gk1.trainPorts_dram _).trans (pllSwitched_dram ..)⟩
    change (((pllSwitched s.toGk1 port v).trainPorts).reg _ _) = _
    rw [Gk1.reg, hregs]
    exact hctl

end Sys2Proof.Claims

/-! Packets that are delivered; watches of peers, and RECOVER. -/

namespace Sys2Proof.Machine

theorem NMap.get?_mapVals {α : Type} (m : NMap α) (f : Nat → α → α) (k : Nat) :
    NMap.get? (NMap.mapVals m f) k = (NMap.get? m k).map (f k) := by
  induction m with
  | nil => rfl
  | cons e m ih =>
    simp only [NMap.get?, NMap.mapVals, List.map_cons] at ih ⊢
    by_cases h : e.1 = k
    · simp [h]
    · simp only [h, if_false]
      exact ih

end Sys2Proof.Machine

namespace Sys2Proof.Claims

open Sys2Proof.Machine Host

/-- Where a packet addressed to the part itself goes depends on registers alone. -/
theorem route_self_of_regs {s t : Gk1} {p : Packet} (h : t.regs = s.regs) (hself : s.route p = .self) : t.route p = .self := by
  have hadr : t.self = s.self := by rw [Gk1.self, Gk1.reg, h, Gk1.self, Gk1.reg]
  unfold Gk1.route at hself ⊢
  rw [hadr]
  dsimp only at hself ⊢
  split at hself
  · cases hself
  · next hsame =>
    rw [if_neg hsame]
    split at hself
    · next hdst => exact if_pos hdst
    · split at hself <;> cases hself

theorem counted_regs (s : Gk1) (port : Nat) (p : Packet) : (s.counted port p).regs = s.regs := by
  unfold Gk1.counted
  split <;> rfl

/-- What a received packet leaves of the part, its port apart. -/
theorem counted_eq (s : Gk1) (port : Nat) (p : Packet) : ∃ ports, s.counted port p = { s with ports := ports } := by
  unfold Gk1.counted
  split <;> exact ⟨_, rfl⟩

/-- The port that counts a packet keeps its state and its stores. -/
theorem counted_kept (s : Gk1) (port : Nat) (p : Packet) : LinksKept s (s.counted port p) := by
  unfold Gk1.counted
  split
  · exact LinksKept.of_modPort s port (f := fun P => { P with sent := P.sent.erase p }) rfl rfl fun _ => ⟨rfl, rfl⟩
  · exact ((LinksKept.of_modPort s port (f := fun P => { P with rxCount := (P.rxCount + pFlits p) % 2 ^ 32 }) rfl rfl
      fun _ => ⟨rfl, rfl⟩).trans (Gk1.notify_kept _ port 0 0)).trans (LinksKept.of_modPort _ port rfl rfl fun _ => ⟨rfl, rfl⟩)

/-- A delivered packet is taken from its port and handed to its row. -/
theorem onPacket_of_delivered {s : Gk1} {port : Nat} {p : Packet} {type : Nat} (h : delivered s port p type = true)
    {ok : Nat → Bool} (hok : ok type = true) (deliver : Packet → Gk1 → Gk1) :
    onPacket ok port p deliver s = .next (deliver (hop port p) (s.counted port p)) := by
  simp only [delivered, Bool.and_eq_true, Bool.or_eq_true, decide_eq_true_eq] at h
  obtain ⟨⟨⟨⟨hport, htype⟩, htake⟩, hskip⟩, hroute⟩ := h
  have hself := route_self_of_regs (counted_regs s port p) hroute
  have hgo : (!ok (pType p) || !s.mayTake port p) = false := by rw [htype, hok, htake]; rfl
  have hskip' : ¬((decide (port ≠ selfPort) && decide ((s.port port).skip ≠ 0)) = true) := by
    obtain h | h := hskip <;> simp [h]
  unfold onPacket
  refine (if_neg (Nat.not_lt.2 hport)).trans ((if_neg (Bool.eq_false_iff.1 hgo)).trans ((if_neg hskip').trans ?_))
  dsimp only
  rw [show (if port = selfPort then p else hopped p) = hop port p from rfl, hself]

/-- An owner that reports its value keeps the watch with the next WSEQ. -/
theorem sendValue_alive {s : Gk1} {id : Nat} {w : OwnerWatch} {tag : Nat} (hgood : s.watchHolds w.ctx w.gen w.fence w.check.toNat = true)
    (halive : (s.fenceNow (.local_ w.ctx w.fence)).2 = false) : NMap.get? (s.sendValue id w tag).ownerWatches id
      = some { w with wseq := (w.wseq + 1) % 2 ^ 32, lastSent := s.dtime, dirty := false } := by
  have hdead : (!s.watchHolds w.ctx w.gen w.fence w.check.toNat || (s.fenceNow (.local_ w.ctx w.fence)).2) = false := by
    rw [hgood, halive]
    rfl
  unfold Gk1.sendValue
  simp only [hdead, Bool.false_eq_true, if_false]
  exact (NMap.get?_set ..).trans (if_pos rfl)

/-- The watch that a WATCH_REQ asks for. -/
def askedWatch (p : Packet) : OwnerWatch :=
  { part := pSrc p, ctx := fld (pWord p 0) 32 6, gen := fld (pWord p 0) 38 8, fence := fld (pWord p 0) 46 14
    check := BitVec.ofNat 64 (pWord p 1) }

/-- A watch of a peer that the owner does not hold yet is refused a place, or its value is sent. -/
def newWatch (s : Gk1) (p : Packet) : Gk1 :=
  if decide (watchPlaces ≤ s.ownerWatches.length) && s.watchGood (askedWatch p).ctx (askedWatch p).gen (askedWatch p).fence
      (askedWatch p).check.toNat then s.reply p 1 0 []
  else { s with nextId := s.nextId + 1 }.sendValue s.nextId (askedWatch p) (pTag p)

/-- A watch that may stand has a place. -/
theorem newWatch_alive {s : Gk1} {p : Packet} (hroom : s.ownerWatches.length < watchPlaces)
    (hgood : s.watchGood (fld (pWord p 0) 32 6) (fld (pWord p 0) 38 8) (fld (pWord p 0) 46 14) (pWord p 1 % 2 ^ 64) = true)
    (halive : (s.fenceNow (.local_ (fld (pWord p 0) 32 6) (fld (pWord p 0) 46 14))).2 = false) :
    NMap.get? (newWatch s p).ownerWatches s.nextId = some { askedWatch p with wseq := 1, lastSent := s.dtime, dirty := false } ∧
      (newWatch s p).dram = s.dram := by
  have hsend : newWatch s p = { s with nextId := s.nextId + 1 }.sendValue s.nextId (askedWatch p) (pTag p) :=
    if_neg (by simp [Nat.not_le.2 hroom])
  have hcheck : (askedWatch p).check.toNat = pWord p 1 % 2 ^ 64 := BitVec.toNat_ofNat ..
  rw [Gk1.watchGood, Bool.and_eq_true] at hgood
  rw [hsend]
  refine ⟨sendValue_alive ?_ halive, Gk1.sendValue_dram ..⟩
  rw [hcheck]
  exact hgood.2

/-- A WATCH_REQ at its owner. -/
def watchAsked (p : Packet) (s : Gk1) : Gk1 := match s.heldWatch p with
  | some e => s.sendValue e.1 e.2 (pTag p)
  | none => newWatch s p

/-- What a WATCH_VALUE leaves of a watch. -/
def watchTaken (p : Packet) (w : ImportWatch) : ImportWatch :=
  if w.lo.toNat = pWord p 0 && w.check.toNat = pWord p 1 && fld w.lo.toNat 0 32 = pSrc p
      && (match w.wseq with | some q => decide (q < pWord p 3 % 2 ^ 32) | none => true) then
    { w with
      value := BitVec.ofNat 64 (pWord p 2), abandoned := (pWord p 3).testBit 32, wseq := some (pWord p 3 % 2 ^ 32)
      retryAt := none, noRouteAt := none, asked := none }
  else w

/-- A WATCH_VALUE at an importer. -/
def valueTaken (p : Packet) (s : Gk1) : Gk1 :=
  { s with
    unreachable := s.unreachable.filter (· ≠ pSrc p)
    importWatches := NMap.mapVals s.importWatches fun (_ : Nat) (w : ImportWatch) => watchTaken p w }

/-- The packets that a lost link held go on. -/
def sentOn (q : Nat) (p : Packet) (s : Gk1) : Gk1 := match (s.port q).old with
  | [] => s
  | l :: rest =>
    (({ store := l } : Port).acked (pTag p)).store.foldl (fun s e => s.forward none e.2.2) (s.modPort q fun P => { P with old := rest })

/-- A RECOVER for the link of port q. -/
def recovered (q : Nat) (p : Packet) (s : Gk1) : Gk1 :=
  sentOn q p (if (s.port q).old.isEmpty then { s with free := s.free + 1 }.portFault q 0 else { s with free := s.free + 1 })

/-- What sending on leaves: the oldest replay store has gone. -/
theorem sentOn_port (q : Nat) (p : Packet) (s : Gk1) : ((sentOn q p s).port q).old = (s.port q).old.tail ∧
    (sentOn q p s).portUp q = s.portUp q ∧ (s.portUp q = false → ((sentOn q p s).port q).store = (s.port q).store) := by
  unfold sentOn
  split
  · next h => exact ⟨by rw [h]; rfl, rfl, fun _ => rfl⟩
  · next l rest h =>
    have hkept := LinksKept.foldl (fun (s : Gk1) (e : Nat × Nat × Packet) => s.forward_kept none e.2.2)
      (({ store := l } : Port).acked (pTag p)).store (s.modPort q fun P => { P with old := rest })
    have hup : (s.modPort q fun P => { P with old := rest }).portUp q = s.portUp q := by
      rw [Gk1.portUp, Gk1.port_modPort_self, Gk1.portUp]
    refine ⟨?_, (hkept.up q).trans hup, fun hdown => ?_⟩
    · rw [hkept.old, Gk1.port_modPort_self, h]
      rfl
    · rw [(hkept.down q (hup.trans hdown)).1, Gk1.port_modPort_self]

theorem sentOn_dram (q : Nat) (p : Packet) (s : Gk1) : (sentOn q p s).dram = s.dram := by
  unfold sentOn
  split
  · rfl
  · exact (foldl_dram (fun s e => Gk1.forward_dram s _ _) _ _).trans rfl

/-- A RECOVER takes a port that is still up down first. -/
theorem recovered_port {s : Gk1} {q : Nat} (p : Packet) : ((s.port q).old = [] → ((recovered q p s).port q).store = [] ∧
    (recovered q p s).portUp q = false) ∧ ((recovered q p s).port q).old = (s.port q).old.tail := by
  unfold recovered
  cases hold : (s.port q).old with
  | nil =>
    obtain ⟨hst, hstore, -, hlost⟩ := Gk1.port_portFault { s with free := s.free + 1 } q (st := 0) (by decide)
    obtain ⟨htail, hup, hkeep⟩ := sentOn_port q p ({ s with free := s.free + 1 }.portFault q 0)
    have hdown : ({ s with free := s.free + 1 }.portFault q 0).portUp q = false := by rw [Gk1.portUp, hst]; rfl
    refine ⟨fun _ => ⟨(hkeep hdown).trans hstore, hup.trans hdown⟩, htail.trans ?_⟩
    rw [hlost, show (Gk1.port { s with free := s.free + 1 } q).old = [] from hold]
    split <;> rfl
  | cons l rest =>
    obtain ⟨htail, -, -⟩ := sentOn_port q p { s with free := s.free + 1 }
    refine ⟨fun h => (nomatch h), htail.trans ?_⟩
    exact congrArg List.tail hold

theorem recovered_dram (s : Gk1) (q : Nat) (p : Packet) : (recovered q p s).dram = s.dram := by
  rw [recovered, sentOn_dram]
  split
  · exact Gk1.portFault_dram ..
  · rfl

/-- Settles O50: each watch packet by the one entry that it names, RECOVER by what losing a link leaves of the port. -/
theorem watchPacketsAndRecovery : Obligations.WatchPacketsAndRecovery := by
  unfold Obligations.WatchPacketsAndRecovery
  intro s port p
  obtain ⟨ports, ht0⟩ := counted_eq s.toGk1 port p
  refine ⟨fun hdel hnone hroom hgood halive => ?_, fun i w hdel hw hlo hcheck hpart => ?_, fun i w hdel hheld => ?_, fun n hdel hto => ?_⟩
  · have hasked : watchAsked (hop port p) (s.counted port p) = newWatch (s.counted port p) (hop port p) := by rw [watchAsked, hnone]
    have hexec : exec (.watchReq port p) s = .next (became s (newWatch (s.counted port p) (hop port p))) :=
      show execWatchReq port p s = _ from act_became ((onPacket_of_delivered hdel (by simp) _).trans (congrArg Outcome.next hasked))
    have hroom0 : (s.counted port p).ownerWatches.length < watchPlaces := by
      rw [ht0]
      exact hroom
    obtain ⟨hget, hdram⟩ := newWatch_alive hroom0 hgood halive
    rw [show (s.counted port p).nextId = s.nextId by rw [ht0], show (s.counted port p).dtime = s.dtime by rw [ht0]] at hget
    exact ⟨_, _, hexec, hget, rfl, rfl, rfl, rfl, rfl, hdram.trans (Gk1.counted_dram ..)⟩
  · have hexec : exec (.watchValue port p) s = .next (became s (valueTaken (hop port p) (s.counted port p))) :=
      show execWatchValue port p s = _ from act_became (onPacket_of_delivered hdel (by simp) _)
    have hget : NMap.get? (valueTaken (hop port p) (s.counted port p)).importWatches i = some (watchTaken (hop port p) w) := by
      refine (NMap.get?_mapVals (s.counted port p).importWatches (fun _ w => watchTaken (hop port p) w) i).trans ?_
      rw [ht0, hw]
      rfl
    have hmine : (decide (w.lo.toNat = pWord (hop port p) 0) && decide (w.check.toNat = pWord (hop port p) 1)
        && decide (fld w.lo.toNat 0 32 = pSrc (hop port p))) = true := by
      rw [decide_eq_true hlo, decide_eq_true hcheck, decide_eq_true hpart]
      rfl
    refine ⟨_, hexec, Gk1.counted_dram .., fun hnew => hget.trans ?_, fun n hn hle => hget.trans ?_⟩
    · rw [watchTaken, hmine, Bool.true_and, if_pos]
      cases hseq : w.wseq with
      | none => rfl
      | some n => exact decide_eq_true (hnew n hseq)
    · rw [watchTaken, hmine, hn, Bool.true_and, if_neg]
      exact fun h => absurd (of_decide_eq_true h) (Nat.not_lt.2 hle)
  · refine show execWatchEnd port p s = _ from act_became ((onPacket_of_delivered hdel (by simp) _).trans ?_)
    rw [hheld]
  · have hexec : exec (.fabRecover port p) s = .next (became s (recovered n (hop port p) (s.counted port p))) := by
      refine show execFabRecover port p s = _ from act_became ((onPacket_of_delivered hdel (by simp) _).trans ?_)
      rw [hto, show ∀ free, pick free [n] = some n from fun free => by simp [pick, Nat.mod_one]]
      rfl
    obtain ⟨hdown, hold⟩ := recovered_port (s := s.counted port p) (q := n) (hop port p)
    have hsame := (counted_kept s.toGk1 port p).old n
    refine ⟨_, hexec, fun h => hdown (hsame.trans h), hold.trans (congrArg List.tail hsame), ?_⟩
    exact (recovered_dram ..).trans (Gk1.counted_dram ..)

end Sys2Proof.Claims

/-! The reference clocks, their switches, and lost locks. -/

namespace Sys2Proof.Claims

open Sys2Proof.Machine Host

/-- A source is READY, or no longer. -/
def sourced (s : Gk1) (pin ready : Bool) : Gk1 :=
  { s with clocks := { s.clocks with
    linkReady := if pin then s.clocks.linkReady else ready
    pinReady := if pin then ready else s.clocks.pinReady } }

theorem sourced_ready (s : Gk1) (pin ready : Bool) :
    (sourced s pin ready).srcReady pin = ready ∧ (sourced s pin ready).srcReady (!pin) = s.srcReady (!pin) := by
  cases pin <;> exact ⟨rfl, rfl⟩

theorem setRef_fields (s : Gk1) (auto sel : Bool) : (s.setRef auto sel).refAuto = auto ∧ (s.setRef auto sel).refSel = sel := by
  have hreg : (s.setRef auto sel).reg 0x500000 (s.setRef auto sel).refReset = b2n auto + 2 * b2n sel := by
    rw [show (s.setRef auto sel).refReset = s.refReset from rfl, Gk1.setRef, Gk1.reg_setReg, if_pos rfl]
    cases auto <;> cases sel <;> rfl
  rw [Gk1.refAuto, Gk1.refSel, hreg]
  cases auto <;> cases sel <;> exact ⟨rfl, rfl⟩

/-- What a write of the reference touches the selection alone. -/
theorem ref_of_regs {s t : Gk1} (hregs : t.regs = s.regs) (hstrap : t.clocks.refsel = s.clocks.refsel) :
    t.refAuto = s.refAuto ∧ t.refSel = s.refSel := by
  have hreset : t.refReset = s.refReset := by rw [Gk1.refReset, Gk1.refReset, hstrap]
  rw [Gk1.refAuto, Gk1.refSel, Gk1.refAuto, Gk1.refSel, Gk1.reg, Gk1.reg, hregs, hreset]
  exact ⟨rfl, rfl⟩

theorem autoRef_ref (s : Gk1) : s.autoRef.refAuto = s.refAuto ∧ s.autoRef.refSel = s.refSel := by
  unfold Gk1.autoRef
  split
  · exact ⟨rfl, rfl⟩
  · split
    · exact ⟨rfl, rfl⟩
    · split <;> exact ⟨rfl, rfl⟩

/-- Without another source READY the loss of the source in use is holdover. -/
theorem enterHoldover_clocks (s : Gk1) : s.enterHoldover.clocks = { s.clocks with holdover := true } ∧ s.enterHoldover.dram = s.dram := by
  unfold Gk1.enterHoldover
  split
  · next h =>
    refine ⟨?_, rfl⟩
    rw [← h]
  · exact ⟨rfl, rfl⟩

theorem exec_refclkSourceLoss {s : State} {pin : Bool} (hpow : s.powered = true) (hready : s.srcReady pin = true)
    (hsw : s.clocks.switching = none) : exec (.refclkSourceLoss pin) s
      = .next (became s (if s.clocks.cur = pin then (sourced s.toGk1 pin false).refLost else sourced s.toGk1 pin false)) := by
  refine show execRefclkSourceLoss pin s = _ from act_became ((if_neg ?_).trans ?_)
  · simp [hpow, hready]
  · dsimp only
    split
    · next t h => exact absurd (hsw.symm.trans h) (by simp)
    · by_cases h : s.clocks.cur = pin
      · rw [if_pos h, if_pos h]
        rfl
      · rw [if_neg h, if_neg h]
        rfl

/-- The loss of the source in use. -/
theorem refLost_sourced (s : Gk1) (pin : Bool) (hcur : s.clocks.cur = pin) (hsw : s.clocks.switching = none) :
    let t := (sourced s pin false).refLost
    t.srcReady pin = false ∧ t.dram = s.dram ∧
      (s.refAuto = true ∧ s.srcReady (!pin) = true → t.clocks.switching = some (!pin) ∧ t.clocks.holdover = s.clocks.holdover) ∧
      (¬(s.refAuto = true ∧ s.srcReady (!pin) = true) → t.clocks.switching = none ∧ t.clocks.holdover = true) := by
  obtain ⟨hr, ho⟩ := sourced_ready s pin false
  have hcond : ((sourced s pin false).refAuto && (sourced s pin false).srcReady (!(sourced s pin false).clocks.cur)) = true ↔
      s.refAuto = true ∧ s.srcReady (!pin) = true := by
    rw [Bool.and_eq_true, show (sourced s pin false).clocks.cur = pin from hcur, ho]
    rfl
  dsimp only
  unfold Gk1.refLost
  by_cases hauto : s.refAuto = true ∧ s.srcReady (!pin) = true
  · rw [if_pos (hcond.2 hauto)]
    exact ⟨hr, rfl, fun _ => ⟨congrArg (fun b => some !b) hcur, rfl⟩, fun h => absurd hauto h⟩
  · rw [if_neg fun h => hauto (hcond.1 h)]
    obtain ⟨hclocks, hdram⟩ := enterHoldover_clocks (sourced s pin false)
    refine ⟨?_, hdram, fun h => absurd h hauto, fun _ => ⟨?_, ?_⟩⟩
    · rw [Gk1.srcReady, hclocks]
      exact hr
    · rw [hclocks]
      exact hsw
    · rw [hclocks]

/-- A SEL write with AUTO clear while no switch runs is judged at once. -/
theorem exec_ckRefCtlWrite_manual {s : State} {v : BitVec 32} (hwork : s.regsWork = true) (hman : v.getLsbD 0 = false)
    (hsw : s.clocks.switching = none) :
    exec (.ckRefCtlWrite v) s = .next (became s ((s.setRef false s.refSel).judgeSel (v.getLsbD 1))) := by
  refine show execCkRefCtlWrite v s = _ from act_became ((if_neg ?_).trans ((if_neg ?_).trans (if_neg ?_)))
  · simp [hwork]
  · rw [hman]
    decide
  · change ¬(s.clocks.switching.isSome = true)
    rw [hsw]
    decide

/-- SEL names a source that is READY: it is selected, and switched to when it is not in use. -/
theorem judgeSel_ready {s : Gk1} {sel : Bool} (hready : s.srcReady sel = true) (hhold : s.clocks.holdover = false) :
    s.judgeSel sel = if sel = s.clocks.cur then s.setRef false sel else (s.setRef false sel).startSwitch sel := by
  have hready' : (s.setRef false sel).srcReady sel = true := hready
  unfold Gk1.judgeSel
  simp only [hready, hready', if_true, Bool.true_and]
  rw [show (s.setRef false sel).clocks.holdover = false from hhold, show (s.setRef false sel).clocks.cur = s.clocks.cur from rfl]
  by_cases h : sel = s.clocks.cur <;> simp [h]

/-- SEL names a source that is not READY: it is refused. -/
theorem judgeSel_refused {s : Gk1} {sel : Bool} (hnot : s.srcReady sel = false) :
    (s.judgeSel sel).refAuto = s.refAuto ∧ (s.judgeSel sel).refSel = s.refSel ∧ ((s.judgeSel sel).reg 0x500008 0).testBit 0 = true ∧
      (s.judgeSel sel).clocks.cur = s.clocks.cur ∧ (s.judgeSel sel).dram = s.dram := by
  obtain ⟨hregs, hstrap, hcur, hdram⟩ : (s.judgeSel sel).regs = (s.setErr ckErr 0).regs ∧ (s.judgeSel sel).clocks.refsel = s.clocks.refsel ∧
      (s.judgeSel sel).clocks.cur = s.clocks.cur ∧ (s.judgeSel sel).dram = s.dram := by
    unfold Gk1.judgeSel
    simp only [hnot, Bool.false_eq_true, if_false]
    split <;> exact ⟨rfl, rfl, rfl, rfl⟩
  obtain ⟨hauto, hsel⟩ := ref_of_regs hregs hstrap
  have herr : (s.setErr ckErr 0).reg 0x500000 (s.setErr ckErr 0).refReset = s.reg 0x500000 s.refReset :=
    Gk1.reg_setReg_of_ne _ (by decide) _ _ _
  refine ⟨hauto.trans (congrArg (fun n => Nat.testBit n 0) herr), hsel.trans (congrArg (fun n => Nat.testBit n 1) herr), ?_, hcur, hdram⟩
  rw [Gk1.reg, hregs]
  exact Gk1.testBit_reg_setErr s ckErr (by decide)

theorem obsCtl_goes {s : Gk1} {v : BitVec 32} (hwork : s.regsWork = true) (hopen : s.boot.locked = false) (hkind : fld v.toNat 1 3 < 6)
    (hunit : ¬(fld v.toNat 1 3 = 4 ∧ 48 ≤ fld v.toNat 4 6)) : ¬((!s.regsWork || s.boot.locked || decide (6 ≤ fld v.toNat 1 3)
      || (decide (fld v.toNat 1 3 = 4) && decide (48 ≤ fld v.toNat 4 6))) = true) := by
  rw [hwork, hopen, decide_eq_false (Nat.not_le.2 hkind)]
  simpa using hunit

/-- What a lost lock leaves, by its kind. -/
def unlocked (s : Gk1) (kind unit : Nat) : Gk1 := match kind with
  | 1 => s.modRegion unit fun R => { R with aLock := false }
  | 2 => s.modRegion unit fun R => { R with fLock := false, fclkBorrowed := true }
  | 3 => (s.modRegion unit fun R => { R with dLock := false }).loseStack unit
  | 4 =>
    let s := s.modPort unit fun P => { P with lock := false, pllAt := some s.dtime }
    if s.portUp unit then s.portFault unit 0 else s
  | _ => Gk1.switchHia { s with clocks := { s.clocks with hLock := false, hAt := s.dtime } }

theorem exec_pllLockLoss {s : State} {kind unit : Nat}
    (hunit : ((inRange 1 3 kind && decide (unit < 64)) || (decide (kind = 4) && decide (unit < portCount)) || (decide (kind = 5) && decide (unit = 0))) = true)
    (hlock : s.pllReady kind unit = true) {t : Gk1} (ht : unlocked (s.setErr ckErr 3) kind unit = t) :
    exec (.pllLockLoss kind unit) s = .next (became s t) := by
  subst ht
  refine show execPllLockLoss kind unit s = _ from act_became ((if_neg ?_).trans ((if_neg ?_).trans ?_))
  · rw [hunit]
    decide
  · rw [hlock]
    decide
  · rcases kind with _ | _ | _ | _ | _ | kind <;> rfl

/-- The fastest point of a region is set. -/
def capped (s : Gk1) (r : Nat) (v : BitVec 32) : Gk1 :=
  let t := s.setReg (0x500100 + 4 * r) 0 (fld v.toNat 0 4)
  if t.evenPoint < t.capOf r then t.evenBroken else t

theorem capped_regs (s : Gk1) (r : Nat) (v : BitVec 32) : (capped s r v).regs = (s.setReg (0x500100 + 4 * r) 0 (fld v.toNat 0 4)).regs := by
  have hbroken : ∀ t : Gk1, t.evenBroken.regs = t.regs := fun t => by
    unfold Gk1.evenBroken
    split <;> rfl
  unfold capped
  dsimp only
  split
  · exact hbroken _
  · rfl

theorem capped_dram (s : Gk1) (r : Nat) (v : BitVec 32) : (capped s r v).dram = s.dram := by
  unfold capped
  dsimp only
  split
  · exact (Gk1.evenBroken_dram _).trans rfl
  · rfl

theorem exec_ckRgnCtlWrite {s : State} {r : Nat} (hr : r < 64) (hwork : s.regsWork = true) (v : BitVec 32) :
    exec (.ckRgnCtlWrite r v) s = .next (became s (capped s.toGk1 r v)) := by
  refine show execCkRgnCtlWrite r v s = _ from act_became ((if_neg (by omega)).trans ((if_neg ?_).trans rfl))
  simp [hwork]

/-- A stack with a fault is LOST. -/
theorem loseStack_effect (s : Gk1) (r : Nat) : ((s.loseStack r).region r).stackLost = true ∧
    ((s.loseStack r).region r).dLock = (s.region r).dLock ∧ (s.loseStack r).dram = s.dram := by
  refine ⟨?_, ?_, Gk1.loseStack_dram ..⟩
  all_goals
    unfold Gk1.loseStack
    split
  · assumption
  · rw [Gk1.region, Gk1.report_regions, ← Gk1.region, Gk1.region_modRegion, if_pos rfl]
  · rfl
  · rw [Gk1.region, Gk1.report_regions, ← Gk1.region, Gk1.region_modRegion, if_pos rfl]

theorem countInterval_eq (s : Gk1) : ∃ held, s.countInterval = { s with held := held } := by
  unfold Gk1.countInterval
  split <;> exact ⟨_, rfl⟩

/-- The standby interface serves, and host reads are issued again. -/
def switchedHia (s : Gk1) : Gk1 :=
  { s with
    edge := { s.edge with hia := !s.edge.hia, standbyFailed := true }
    msgs := NMap.mapVals s.msgs fun (_ : Nat) (m : Msg) => if decide (m.kind = MsgKind.hostRead) then { m with sentAt := s.dtime } else m }

/-- With a standby the interface switches to it. -/
theorem switchHia_effect {s : Gk1} (h : s.edge.standbyFailed = false) : s.switchHia.clocks = s.clocks ∧
    s.switchHia.edge.hia = (!s.edge.hia) ∧ s.switchHia.edge.standbyFailed = true ∧ (s.switchHia.reg 0x60 0).testBit 5 = true ∧
    s.switchHia.kernels = s.kernels ∧ s.switchHia.dram = s.dram := by
  have heq : s.switchHia = ((switchedHia s).countInterval.setErr hlErr 5).report { kind := 7, unit := b2n (switchedHia s).edge.hia } :=
    if_neg (by rw [h]; decide)
  have herr := Gk1.testBit_reg_setErr (switchedHia s).countInterval hlErr (bit := 5) (by decide)
  obtain ⟨held, hheld⟩ := countInterval_eq (switchedHia s)
  obtain ⟨_, _, _, _, _, hreport⟩ :=
    Gk1.report_eq ((switchedHia s).countInterval.setErr hlErr 5) { kind := 7, unit := b2n (switchedHia s).edge.hia }
  rw [heq, hreport]
  refine ⟨?_, ?_, ?_, herr, ?_, ?_⟩ <;> rw [hheld] <;> rfl

/-- Settles O57: each clock event by the branch of its command that the conditions select. -/
theorem clockSources : Obligations.ClockSources := by
  unfold Obligations.ClockSources
  refine ⟨fun s pin hpow => ⟨?_, fun hready hsw hcur => ?_, fun hready hsw hcur => ?_⟩, fun s hpow hsince hcur hnot hhold hsw hother => ?_,
    fun s pin hsw hafter => ?_, fun s v hwork => ⟨fun hauto => ?_, fun hman hsw hready hhold => ?_, fun hman hsw hnot => ?_⟩,
    fun s v hwork hopen hkind hunit => ⟨fun hon hpll => ?_, fun hok => ?_⟩, fun s r v hr hwork => ?_,
    fun s u hu => ⟨fun hlock => ?_, fun hlock => ?_, fun hlock => ?_, fun hport hlock hup => ?_, fun hlock hstandby => ?_⟩⟩
  · obtain ⟨hr, ho⟩ := sourced_ready s.toGk1 pin true
    refine ⟨became s (if (s.clocks.holdover && s.clocks.switching.isNone && (s.refAuto || decide (s.refSel = pin))) = true then
      (sourced s.toGk1 pin true).startSwitch pin else sourced s.toGk1 pin true), ?_, ?_, ?_, ?_, ?_⟩
    · refine show execRefclkSourceReady pin s = _ from act_became ((if_neg ?_).trans (apply_ite Outcome.next _ _ _).symm)
      simp [hpow]
    · change ((if _ then _ else _ : Gk1)).srcReady pin = _
      split <;> exact hr
    · change ((if _ then _ else _ : Gk1)).srcReady (!pin) = _
      split <;> exact ho
    · change ((if _ then _ else _ : Gk1)).dram = _
      split <;> rfl
    · have hiff : (s.clocks.holdover && s.clocks.switching.isNone && (s.refAuto || decide (s.refSel = pin))) = true ↔
          s.clocks.holdover = true ∧ s.clocks.switching = none ∧ (s.refAuto = true ∨ s.refSel = pin) := by simp [and_assoc]
      by_cases h : s.clocks.holdover = true ∧ s.clocks.switching = none ∧ (s.refAuto = true ∨ s.refSel = pin)
      · rw [if_pos (hiff.2 h), if_pos h]
        rfl
      · rw [if_neg fun hb => h (hiff.1 hb), if_neg h]
        rfl
  · have hexec := exec_refclkSourceLoss hpow hready hsw
    rw [if_pos hcur] at hexec
    exact ⟨_, hexec, refLost_sourced s.toGk1 pin hcur hsw⟩
  · have hexec := exec_refclkSourceLoss hpow hready hsw
    rw [if_neg hcur] at hexec
    exact ⟨_, hexec, (sourced_ready s.toGk1 pin false).1, rfl, hsw, rfl⟩
  · refine show execRefclkFallback s = _ from act_became (if_pos ?_)
    rw [hpow, decide_eq_true hsince, decide_eq_true hcur, hnot, hhold, hsw, hother]
    rfl
  · have hlater : ∀ t : Gk1, t.clocks.selAfter = none → t.judgeLater = t := fun t h => by rw [Gk1.judgeLater, h]
    refine show execRefclkSwitchDone s = _ from act_became ?_
    rw [hsw]
    exact congrArg Outcome.next (hlater _ hafter)
  · refine ⟨became s (s.setRef true (v.getLsbD 1)).autoRef, show execCkRefCtlWrite v s = _ from act_became ((if_neg ?_).trans (if_pos hauto)),
      (autoRef_ref _).1.trans (setRef_fields ..).1, (autoRef_ref _).2.trans (setRef_fields ..).2, ?_⟩
    · simp [hwork]
    · exact (Gk1.autoRef_dram _).trans rfl
  · refine ⟨_, exec_ckRefCtlWrite_manual hwork hman hsw, ?_⟩
    obtain ⟨hauto, hsel⟩ := setRef_fields (s.setRef false s.refSel) false (v.getLsbD 1)
    rw [judgeSel_ready (s := s.setRef false s.refSel) hready hhold]
    change let t := (if v.getLsbD 1 = s.clocks.cur then _ else _ : Gk1); t.refAuto = _ ∧ t.refSel = _ ∧ t.dram = _ ∧ t.clocks.switching = _
    by_cases h : v.getLsbD 1 = s.clocks.cur
    · rw [if_pos h, if_pos h]
      exact ⟨hauto, hsel, rfl, hsw⟩
    · rw [if_neg h, if_neg h]
      exact ⟨hauto, hsel, rfl, rfl⟩
  · obtain ⟨hauto, hsel, herr, hcur, hdram⟩ := judgeSel_refused (s := s.setRef false s.refSel) hnot
    obtain ⟨hauto', hsel'⟩ := setRef_fields s.toGk1 false s.refSel
    exact ⟨_, exec_ckRefCtlWrite_manual hwork hman hsw, hauto.trans hauto', hsel.trans hsel', herr, hcur, hdram⟩
  · refine show execCkObsCtlWrite v s = _ from act_became ((if_neg (obsCtl_goes hwork hopen hkind hunit)).trans (if_pos ?_))
    rw [hpll]
    simpa [BitVec.getLsbD] using hon
  · have hreg : ∀ n, (s.setReg 0x500400 (3 * 2 ^ 10) n).reg 0x500400 0xC00 = n % 2 ^ 64 := fun n => (Gk1.reg_setReg ..).trans (if_pos rfl)
    refine ⟨_, show execCkObsCtlWrite v s = _ from act_became ((if_neg (obsCtl_goes hwork hopen hkind hunit)).trans (if_neg ?_)), ?_, rfl, ?_⟩
    · obtain h | h := hok
      · rw [show v.toNat.testBit 0 = false from h, Bool.false_and]
        decide
      · rw [h]
        simp
    · refine (congrArg (fun n => fld n 0 10) (hreg _)).trans ((fld_mod _ 64 _ _ (by decide)).trans (Nat.eq_of_testBit_eq fun i => ?_))
      rw [testBit_fld, testBit_fld, testBit_setFld, testBit_fld]
      by_cases hi : i < 10
      · simp [hi, show i < 15 by omega]
      · simp [hi]
    · refine (congrArg (fun n => fld n 10 5) (hreg _)).trans ((fld_mod _ 64 _ _ (by decide)).trans ((fld_setFld_same ..).trans ?_))
      exact Nat.mod_eq_of_lt (by omega)
  · refine ⟨_, exec_ckRgnCtlWrite hr hwork v, fun k hk => ?_, capped_dram ..⟩
    change (capped s.toGk1 r v).capOf k = _
    rw [Gk1.capOf, Gk1.reg, capped_regs, ← Gk1.reg]
    by_cases h : k = r
    · subst h
      rw [if_pos rfl, Gk1.reg_setReg, if_pos rfl, fld_mod _ 64 _ _ (by decide)]
      exact Nat.mod_eq_of_lt (fld_lt v.toNat 0 4)
    · rw [if_neg h, Gk1.reg_setReg_of_ne _ (by omega)]
      rfl
  · exact ⟨_, exec_pllLockLoss (kind := 1) (by simp [inRange, hu]) hlock rfl, by simp [unlocked, region_became],
      (Gk1.testBit_reg_setErr s.toGk1 ckErr (bit := 3) (by decide)), rfl⟩
  · exact ⟨_, exec_pllLockLoss (kind := 2) (by simp [inRange, hu]) hlock rfl, by simp [unlocked, region_became],
      by simp [unlocked, region_became], rfl⟩
  · refine ⟨_, exec_pllLockLoss (kind := 3) (by simp [inRange, hu]) hlock rfl, ?_⟩
    obtain ⟨hlost, hdlock, hdram⟩ := loseStack_effect ((s.setErr ckErr 3).modRegion u fun R => { R with dLock := false }) u
    refine ⟨hlost, hdlock.trans ?_, hdram⟩
    simp
  · have hpll : s.pllReady 4 u = true := by
      change ((s.port u).lock || _) = true
      rw [hlock, Bool.true_or]
    have hup' : ((s.setErr ckErr 3).modPort u fun P => { P with lock := false, pllAt := some s.dtime }).portUp u = true := by
      rw [Gk1.portUp, Gk1.port_modPort_self]
      exact hup
    refine ⟨_, exec_pllLockLoss (kind := 4) (by simp [portCount, hport]) hpll (if_pos hup'), ?_, Gk1.portFault_dram ..⟩
    exact (Gk1.port_portFault _ u (by decide)).1
  · have hpll : s.pllReady 5 0 = true := by
      change (s.clocks.hLock || _) = true
      rw [hlock, Bool.true_or]
    refine ⟨_, exec_pllLockLoss (kind := 5) (by simp) hpll rfl, ?_⟩
    obtain ⟨hclocks, hhia, -, -, -, hdram⟩ :=
      switchHia_effect (s := { s.setErr ckErr 3 with clocks := { s.clocks with hLock := false, hAt := s.dtime } }) hstandby
    exact ⟨congrArg Clocks.hLock hclocks, hhia, hdram⟩

end Sys2Proof.Claims

/-! Faults of routers, cache rows, stacks, host interface instances and the part. -/

namespace Sys2Proof.Machine

theorem getLsbD_bit8 {i : Nat} (h : i < 8) : (bit8 i).getLsbD i = true := by
  have hall : ∀ i < 8, (bit8 i).getLsbD i = true := by decide
  exact hall i h

/-- A word that joins the bad-word list, or finds it full. -/
theorem Gk1.listBad_eq (s : Gk1) (g sec : Nat) : ∃ regions edge obs posted postHeld, s.listBad g sec =
    { s with regions := regions, edge := edge, obs := obs, posted := posted, postHeld := postHeld } := by
  unfold Gk1.listBad
  dsimp only
  split
  · obtain ⟨_, _, _, _, _, h⟩ := s.report_eq
      { kind := 5, status := 0x42, ctx := ((s.region (gStack g)).owner).getD 0xFF, unit := gStack g }
    rw [h]
    exact ⟨_, _, _, _, _, rfl⟩
  · exact ⟨_, _, _, _, _, rfl⟩

/-- From s to t only work has been stopped: cores, clusters, requests, messages and epochs may differ. -/
def WorkOnly (s t : Gk1) : Prop := ∃ cores clusters reqs msgs epochs,
  t = { s with cores := cores, clusters := clusters, reqs := reqs, msgs := msgs, epochs := epochs }

theorem WorkOnly.refl (s : Gk1) : WorkOnly s s := ⟨_, _, _, _, _, rfl⟩

theorem WorkOnly.trans {s t u : Gk1} (h : WorkOnly s t) (h' : WorkOnly t u) : WorkOnly s u := by
  obtain ⟨_, _, _, _, _, rfl⟩ := h
  obtain ⟨_, _, _, _, _, rfl⟩ := h'
  exact ⟨_, _, _, _, _, rfl⟩

theorem WorkOnly.foldl {α : Type} {f : Gk1 → α → Gk1} (hf : ∀ s a, WorkOnly s (f s a)) (l : List α) (s : Gk1) :
    WorkOnly s (l.foldl f s) := by
  induction l generalizing s with
  | nil => exact WorkOnly.refl s
  | cons a l ih => exact (hf s a).trans (ih _)

theorem Gk1.performed_work (s : Gk1) (rid n here : Nat) : WorkOnly s (s.performed rid n here) := by
  unfold Gk1.performed Gk1.dropReq
  split
  · exact ⟨_, _, _, _, _, rfl⟩
  · split <;> exact ⟨_, _, _, _, _, rfl⟩

theorem Gk1.dropMsgs_work (s : Gk1) (kid : Nat) (here : Nat → Bool) : WorkOnly s (s.dropMsgs kid here) := by
  unfold Gk1.dropMsgs
  refine WorkOnly.foldl (fun s e => ?_) _ s
  have hepoch : WorkOnly s (if (e.2.closing && !e.2.place.isPeer && !e.2.unsent) = true then s.dropEpoch e.2 else s) := by
    split <;> exact ⟨_, _, _, _, _, rfl⟩
  have hcore : ∀ u : Gk1, WorkOnly u (Gk1.delMsg (if e.2.kind ≠ .epochEnd then u else u.modCore e.2.core fun C => { C with
      epochs := C.epochs.filter fun r => !(r.ending && some r.stream = e.2.stream && r.target = e.2.place.target) }) e.1) := fun u => by
    split <;> exact ⟨_, _, _, _, _, rfl⟩
  exact (hepoch.trans (hcore _)).trans (Gk1.performed_work _ _ _ _)

theorem Gk1.stopCluster_work (s : Gk1) (kid cl : Nat) : WorkOnly s (s.stopCluster kid cl) := by
  unfold Gk1.stopCluster
  refine WorkOnly.trans ?_ ⟨_, _, _, _, _, rfl⟩
  split
  · exact WorkOnly.foldl (fun s c => ⟨_, _, _, _, _, rfl⟩) _ s
  · exact WorkOnly.refl s

theorem Gk1.stopWork_eq (s : Gk1) (kid : Nat) : WorkOnly s (s.stopWork kid) := by
  unfold Gk1.stopWork
  split
  · exact WorkOnly.refl s
  · next K _ =>
    have hclusters := WorkOnly.foldl (fun s cl => Gk1.stopCluster_work s kid cl) (s.kernelClusters K) s
    have hreqs : ∀ u : Gk1, WorkOnly u (u.dropMatrixReqs kid fun _ => true) := fun u => ⟨_, _, _, _, _, rfl⟩
    exact (hclusters.trans (hreqs _)).trans (Gk1.dropMsgs_work _ _ _)

theorem Gk1.stopKernel_eq (s : Gk1) (kid code : Nat) (always : Bool) : ∃ cores clusters reqs msgs epochs kernels, s.stopKernel kid code always =
    { s with cores := cores, clusters := clusters, reqs := reqs, msgs := msgs, epochs := epochs, kernels := kernels } := by
  obtain ⟨_, _, _, _, _, h⟩ := s.stopWork_eq kid
  rw [Gk1.stopKernel, h]
  exact ⟨_, _, _, _, _, _, rfl⟩

section
variable (s : Gk1) (kid : Nat)

@[simp] theorem Gk1.stopWork_free : (s.stopWork kid).free = s.free := by obtain ⟨_, _, _, _, _, h⟩ := s.stopWork_eq kid; rw [h]
@[simp] theorem Gk1.stopWork_part : (s.stopWork kid).part = s.part := by obtain ⟨_, _, _, _, _, h⟩ := s.stopWork_eq kid; rw [h]
@[simp] theorem Gk1.stopWork_dtime : (s.stopWork kid).dtime = s.dtime := by obtain ⟨_, _, _, _, _, h⟩ := s.stopWork_eq kid; rw [h]
@[simp] theorem Gk1.stopWork_regs : (s.stopWork kid).regs = s.regs := by obtain ⟨_, _, _, _, _, h⟩ := s.stopWork_eq kid; rw [h]
@[simp] theorem Gk1.stopWork_edge : (s.stopWork kid).edge = s.edge := by obtain ⟨_, _, _, _, _, h⟩ := s.stopWork_eq kid; rw [h]
@[simp] theorem Gk1.stopWork_boot : (s.stopWork kid).boot = s.boot := by obtain ⟨_, _, _, _, _, h⟩ := s.stopWork_eq kid; rw [h]
@[simp] theorem Gk1.stopWork_clocks : (s.stopWork kid).clocks = s.clocks := by obtain ⟨_, _, _, _, _, h⟩ := s.stopWork_eq kid; rw [h]
@[simp] theorem Gk1.stopWork_line : (s.stopWork kid).line = s.line := by obtain ⟨_, _, _, _, _, h⟩ := s.stopWork_eq kid; rw [h]
@[simp] theorem Gk1.stopWork_power : (s.stopWork kid).power = s.power := by obtain ⟨_, _, _, _, _, h⟩ := s.stopWork_eq kid; rw [h]
@[simp] theorem Gk1.stopWork_ledger : (s.stopWork kid).ledger = s.ledger := by obtain ⟨_, _, _, _, _, h⟩ := s.stopWork_eq kid; rw [h]
@[simp] theorem Gk1.stopWork_held : (s.stopWork kid).held = s.held := by obtain ⟨_, _, _, _, _, h⟩ := s.stopWork_eq kid; rw [h]
@[simp] theorem Gk1.stopWork_obs : (s.stopWork kid).obs = s.obs := by obtain ⟨_, _, _, _, _, h⟩ := s.stopWork_eq kid; rw [h]
@[simp] theorem Gk1.stopWork_regions : (s.stopWork kid).regions = s.regions := by obtain ⟨_, _, _, _, _, h⟩ := s.stopWork_eq kid; rw [h]
@[simp] theorem Gk1.stopWork_cache : (s.stopWork kid).cache = s.cache := by obtain ⟨_, _, _, _, _, h⟩ := s.stopWork_eq kid; rw [h]
@[simp] theorem Gk1.stopWork_stamp : (s.stopWork kid).stamp = s.stamp := by obtain ⟨_, _, _, _, _, h⟩ := s.stopWork_eq kid; rw [h]
@[simp] theorem Gk1.stopWork_fills : (s.stopWork kid).fills = s.fills := by obtain ⟨_, _, _, _, _, h⟩ := s.stopWork_eq kid; rw [h]
@[simp] theorem Gk1.stopWork_nextId : (s.stopWork kid).nextId = s.nextId := by obtain ⟨_, _, _, _, _, h⟩ := s.stopWork_eq kid; rw [h]
@[simp] theorem Gk1.stopWork_queues : (s.stopWork kid).queues = s.queues := by obtain ⟨_, _, _, _, _, h⟩ := s.stopWork_eq kid; rw [h]
@[simp] theorem Gk1.stopWork_ctxs : (s.stopWork kid).ctxs = s.ctxs := by obtain ⟨_, _, _, _, _, h⟩ := s.stopWork_eq kid; rw [h]
@[simp] theorem Gk1.stopWork_kernels : (s.stopWork kid).kernels = s.kernels := by obtain ⟨_, _, _, _, _, h⟩ := s.stopWork_eq kid; rw [h]
@[simp] theorem Gk1.stopWork_ownerWatches : (s.stopWork kid).ownerWatches = s.ownerWatches := by obtain ⟨_, _, _, _, _, h⟩ := s.stopWork_eq kid; rw [h]
@[simp] theorem Gk1.stopWork_importWatches : (s.stopWork kid).importWatches = s.importWatches := by obtain ⟨_, _, _, _, _, h⟩ := s.stopWork_eq kid; rw [h]
@[simp] theorem Gk1.stopWork_ports : (s.stopWork kid).ports = s.ports := by obtain ⟨_, _, _, _, _, h⟩ := s.stopWork_eq kid; rw [h]
@[simp] theorem Gk1.stopWork_drops : (s.stopWork kid).drops = s.drops := by obtain ⟨_, _, _, _, _, h⟩ := s.stopWork_eq kid; rw [h]
@[simp] theorem Gk1.stopWork_unreachable : (s.stopWork kid).unreachable = s.unreachable := by obtain ⟨_, _, _, _, _, h⟩ := s.stopWork_eq kid; rw [h]
@[simp] theorem Gk1.stopWork_kept : (s.stopWork kid).kept = s.kept := by obtain ⟨_, _, _, _, _, h⟩ := s.stopWork_eq kid; rw [h]
@[simp] theorem Gk1.stopWork_routedAt : (s.stopWork kid).routedAt = s.routedAt := by obtain ⟨_, _, _, _, _, h⟩ := s.stopWork_eq kid; rw [h]
@[simp] theorem Gk1.stopWork_jobs : (s.stopWork kid).jobs = s.jobs := by obtain ⟨_, _, _, _, _, h⟩ := s.stopWork_eq kid; rw [h]
@[simp] theorem Gk1.stopWork_buckets : (s.stopWork kid).buckets = s.buckets := by obtain ⟨_, _, _, _, _, h⟩ := s.stopWork_eq kid; rw [h]
@[simp] theorem Gk1.stopWork_snaps : (s.stopWork kid).snaps = s.snaps := by obtain ⟨_, _, _, _, _, h⟩ := s.stopWork_eq kid; rw [h]
@[simp] theorem Gk1.stopWork_posted : (s.stopWork kid).posted = s.posted := by obtain ⟨_, _, _, _, _, h⟩ := s.stopWork_eq kid; rw [h]
@[simp] theorem Gk1.stopWork_postHeld : (s.stopWork kid).postHeld = s.postHeld := by obtain ⟨_, _, _, _, _, h⟩ := s.stopWork_eq kid; rw [h]

end

section
variable (s : Gk1) (kid code : Nat) (always : Bool)

@[simp] theorem Gk1.stopKernel_free : (s.stopKernel kid code always).free = s.free := by obtain ⟨_, _, _, _, _, _, h⟩ := s.stopKernel_eq kid code always; rw [h]
@[simp] theorem Gk1.stopKernel_part : (s.stopKernel kid code always).part = s.part := by obtain ⟨_, _, _, _, _, _, h⟩ := s.stopKernel_eq kid code always; rw [h]
@[simp] theorem Gk1.stopKernel_dtime : (s.stopKernel kid code always).dtime = s.dtime := by obtain ⟨_, _, _, _, _, _, h⟩ := s.stopKernel_eq kid code always; rw [h]
@[simp] theorem Gk1.stopKernel_regs : (s.stopKernel kid code always).regs = s.regs := by obtain ⟨_, _, _, _, _, _, h⟩ := s.stopKernel_eq kid code always; rw [h]
@[simp] theorem Gk1.stopKernel_edge : (s.stopKernel kid code always).edge = s.edge := by obtain ⟨_, _, _, _, _, _, h⟩ := s.stopKernel_eq kid code always; rw [h]
@[simp] theorem Gk1.stopKernel_boot : (s.stopKernel kid code always).boot = s.boot := by obtain ⟨_, _, _, _, _, _, h⟩ := s.stopKernel_eq kid code always; rw [h]
@[simp] theorem Gk1.stopKernel_clocks : (s.stopKernel kid code always).clocks = s.clocks := by obtain ⟨_, _, _, _, _, _, h⟩ := s.stopKernel_eq kid code always; rw [h]
@[simp] theorem Gk1.stopKernel_line : (s.stopKernel kid code always).line = s.line := by obtain ⟨_, _, _, _, _, _, h⟩ := s.stopKernel_eq kid code always; rw [h]
@[simp] theorem Gk1.stopKernel_power : (s.stopKernel kid code always).power = s.power := by obtain ⟨_, _, _, _, _, _, h⟩ := s.stopKernel_eq kid code always; rw [h]
@[simp] theorem Gk1.stopKernel_ledger : (s.stopKernel kid code always).ledger = s.ledger := by obtain ⟨_, _, _, _, _, _, h⟩ := s.stopKernel_eq kid code always; rw [h]
@[simp] theorem Gk1.stopKernel_held : (s.stopKernel kid code always).held = s.held := by obtain ⟨_, _, _, _, _, _, h⟩ := s.stopKernel_eq kid code always; rw [h]
@[simp] theorem Gk1.stopKernel_obs : (s.stopKernel kid code always).obs = s.obs := by obtain ⟨_, _, _, _, _, _, h⟩ := s.stopKernel_eq kid code always; rw [h]
@[simp] theorem Gk1.stopKernel_regions : (s.stopKernel kid code always).regions = s.regions := by obtain ⟨_, _, _, _, _, _, h⟩ := s.stopKernel_eq kid code always; rw [h]
@[simp] theorem Gk1.stopKernel_cache : (s.stopKernel kid code always).cache = s.cache := by obtain ⟨_, _, _, _, _, _, h⟩ := s.stopKernel_eq kid code always; rw [h]
@[simp] theorem Gk1.stopKernel_stamp : (s.stopKernel kid code always).stamp = s.stamp := by obtain ⟨_, _, _, _, _, _, h⟩ := s.stopKernel_eq kid code always; rw [h]
@[simp] theorem Gk1.stopKernel_fills : (s.stopKernel kid code always).fills = s.fills := by obtain ⟨_, _, _, _, _, _, h⟩ := s.stopKernel_eq kid code always; rw [h]
@[simp] theorem Gk1.stopKernel_nextId : (s.stopKernel kid code always).nextId = s.nextId := by obtain ⟨_, _, _, _, _, _, h⟩ := s.stopKernel_eq kid code always; rw [h]
@[simp] theorem Gk1.stopKernel_queues : (s.stopKernel kid code always).queues = s.queues := by obtain ⟨_, _, _, _, _, _, h⟩ := s.stopKernel_eq kid code always; rw [h]
@[simp] theorem Gk1.stopKernel_ctxs : (s.stopKernel kid code always).ctxs = s.ctxs := by obtain ⟨_, _, _, _, _, _, h⟩ := s.stopKernel_eq kid code always; rw [h]
@[simp] theorem Gk1.stopKernel_ownerWatches : (s.stopKernel kid code always).ownerWatches = s.ownerWatches := by obtain ⟨_, _, _, _, _, _, h⟩ := s.stopKernel_eq kid code always; rw [h]
@[simp] theorem Gk1.stopKernel_importWatches : (s.stopKernel kid code always).importWatches = s.importWatches := by obtain ⟨_, _, _, _, _, _, h⟩ := s.stopKernel_eq kid code always; rw [h]
@[simp] theorem Gk1.stopKernel_ports : (s.stopKernel kid code always).ports = s.ports := by obtain ⟨_, _, _, _, _, _, h⟩ := s.stopKernel_eq kid code always; rw [h]
@[simp] theorem Gk1.stopKernel_drops : (s.stopKernel kid code always).drops = s.drops := by obtain ⟨_, _, _, _, _, _, h⟩ := s.stopKernel_eq kid code always; rw [h]
@[simp] theorem Gk1.stopKernel_unreachable : (s.stopKernel kid code always).unreachable = s.unreachable := by obtain ⟨_, _, _, _, _, _, h⟩ := s.stopKernel_eq kid code always; rw [h]
@[simp] theorem Gk1.stopKernel_kept : (s.stopKernel kid code always).kept = s.kept := by obtain ⟨_, _, _, _, _, _, h⟩ := s.stopKernel_eq kid code always; rw [h]
@[simp] theorem Gk1.stopKernel_routedAt : (s.stopKernel kid code always).routedAt = s.routedAt := by obtain ⟨_, _, _, _, _, _, h⟩ := s.stopKernel_eq kid code always; rw [h]
@[simp] theorem Gk1.stopKernel_jobs : (s.stopKernel kid code always).jobs = s.jobs := by obtain ⟨_, _, _, _, _, _, h⟩ := s.stopKernel_eq kid code always; rw [h]
@[simp] theorem Gk1.stopKernel_buckets : (s.stopKernel kid code always).buckets = s.buckets := by obtain ⟨_, _, _, _, _, _, h⟩ := s.stopKernel_eq kid code always; rw [h]
@[simp] theorem Gk1.stopKernel_snaps : (s.stopKernel kid code always).snaps = s.snaps := by obtain ⟨_, _, _, _, _, _, h⟩ := s.stopKernel_eq kid code always; rw [h]
@[simp] theorem Gk1.stopKernel_posted : (s.stopKernel kid code always).posted = s.posted := by obtain ⟨_, _, _, _, _, _, h⟩ := s.stopKernel_eq kid code always; rw [h]
@[simp] theorem Gk1.stopKernel_postHeld : (s.stopKernel kid code always).postHeld = s.postHeld := by obtain ⟨_, _, _, _, _, _, h⟩ := s.stopKernel_eq kid code always; rw [h]

end

end Sys2Proof.Machine

namespace Sys2Proof.Claims

open Sys2Proof.Machine Host

/-- A kernel of a part with a PART fault. -/
def deadKernel (K : Kernel) : Kernel := { K with stopped := true, rerun := false }

theorem foldl_dead_kernels (l : List (Nat × Kernel)) (s : Gk1) :
    (l.foldl (fun s e => (s.stopWork e.1).modKernel e.1 deadKernel) s).kernels = l.foldl (fun m e => NMap.upd m e.1 deadKernel) s.kernels := by
  induction l generalizing s with
  | nil => rfl
  | cons e l ih =>
    rw [List.foldl_cons, List.foldl_cons, ih]
    exact congrArg (fun m => l.foldl _ (NMap.upd m e.1 deadKernel)) (Gk1.stopWork_kernels s e.1)

/-- Kernels that are stopped one after the other are all stopped. -/
theorem stopped_of_foldl {l : List (Nat × Kernel)} {m : NMap Kernel}
    (h : ∀ k K, NMap.get? m k = some K → K.stopped = true ∨ ∃ e ∈ l, e.1 = k) {k : Nat} {K : Kernel}
    (hK : NMap.get? (l.foldl (fun m e => NMap.upd m e.1 deadKernel) m) k = some K) : K.stopped = true := by
  induction l generalizing m with
  | nil => exact (h k K hK).elim id fun ⟨_, he, _⟩ => absurd he List.not_mem_nil
  | cons e l ih =>
    refine ih (fun j J hJ => ?_) hK
    rw [NMap.get?_upd] at hJ
    split at hJ
    · obtain ⟨J', -, rfl⟩ := Option.map_eq_some_iff.1 hJ
      exact .inl rfl
    · next hne =>
      obtain hs | ⟨e', he', hk⟩ := h j J hJ
      · exact .inl hs
      · obtain rfl | hmem := List.mem_cons.1 he'
        · exact absurd hk.symm hne
        · exact .inr ⟨e', hmem, hk⟩

theorem exists_of_get? {α : Type} {m : NMap α} {k : Nat} {v : α} (h : NMap.get? m k = some v) : ∃ e ∈ m, e.1 = k := by
  induction m with
  | nil => cases h
  | cons e m ih =>
    by_cases he : e.1 = k
    · exact ⟨e, List.mem_cons_self, he⟩
    · obtain ⟨e', hmem, hk⟩ := ih (by simpa [NMap.get?, he] using h)
      exact ⟨e', List.mem_cons_of_mem _ hmem, hk⟩

theorem partDead_effect {s : Gk1} (h : s.part ≠ .faulted) : s.partDead.part = .faulted ∧
    (∀ k K, NMap.get? s.partDead.kernels k = some K → K.stopped = true) ∧ s.partDead.dram = s.dram := by
  refine ⟨?_, fun k K hK => ?_, Gk1.partDead_dram s⟩
  · rw [Gk1.partDead, if_neg h]
  · rw [Gk1.partDead, if_neg h] at hK
    refine stopped_of_foldl (l := s.kernels) (fun k K hK => .inr (exists_of_get? hK)) (k := k) ?_
    rw [← foldl_dead_kernels]
    exact hK

/-- A line one of whose rows is uncorrectable. -/
def badRow (sec : Nat) (L : Line) : Line :=
  { L with bad := L.bad ||| bit8 sec, valid := L.valid ||| bit8 sec, dirty := L.dirty &&& ~~~ (bit8 sec) }

theorem badRow_bits (L : Line) {sec : Nat} (h : sec < 8) :
    (badRow sec L).bad.getLsbD sec = true ∧ (badRow sec L).dirty.getLsbD sec = false := by
  rw [badRow, BitVec.getLsbD_or, BitVec.getLsbD_and, BitVec.getLsbD_not, getLsbD_bit8 h]
  simp

theorem exec_cacheRowUncorrectable {s : State} {g sec : Nat} {L : Line} (hg : g < nGranules) (hsec : sec < 8) (hL : NMap.get? s.cache g = some L) :
    ∃ u : Gk1, exec (.cacheRowUncorrectable g sec) s = .next (became s { u with
      cache := NMap.set u.cache g (badRow sec L)
      held := { u.held with deadWays := u.held.deadWays ++ [(gStack g, gSlice g, gSet g, L.way)] } }) ∧
      (u = s.toGk1 ∨ u = s.listBad g sec) := by
  have hgo : ¬((!(decide (g < 2048 * granulesPerChannel) && decide (sec < 8))) = true) := by
    rw [decide_eq_true (show g < 2048 * granulesPerChannel from hg), decide_eq_true hsec]
    decide
  refine ⟨if (L.dirty.getLsbD sec && !s.listed g sec) = true then s.listBad g sec else s.toGk1,
    show execCacheRowUncorrectable g sec s = _ from act_became ((if_neg hgo).trans ?_), ?_⟩
  · rw [hL]
    rfl
  · split
    · exact .inr rfl
    · exact .inl rfl

theorem loseStack_cores (s : Gk1) (r : Nat) : (s.loseStack r).cores = s.cores := by
  unfold Gk1.loseStack
  split
  · rfl
  · exact Gk1.report_cores _ _

/-- Settles O48: each fault by the one unit that it changes and the report that it makes. -/
theorem unitFaults : Obligations.UnitFaults := by
  unfold Obligations.UnitFaults
  refine ⟨fun s x y hx hy => ⟨fun hnew => ?_, fun hold hpart => ?_, ?_⟩, fun s g sec L hg hsec hL => ?_,
    fun s r hot hr => ⟨fun hpow => ?_, ?_⟩, fun s hpow => ⟨fun hstand => ?_, fun hstand => ?_, fun hpart => ?_⟩⟩
  · have hgo : ¬((!(decide (x < 512) && decide (y < 512))) = true) := by simp [hx, hy]
    have hnew' : ¬(s.held.planes.contains (x, y) = true) := by simp [hnew]
    refine ⟨_, show execRouterPlaneSwitch x y s = _ from act_became ((if_neg hgo).trans ((if_neg hnew').trans rfl)), ?_, ?_, ?_, ?_⟩
    · exact congrArg Held.planes (Gk1.report_held _ _)
    · rw [region_became, Gk1.region, Gk1.report_regions, ← Gk1.region, Gk1.region_modRegion, if_pos rfl]
      rfl
    · exact Gk1.report_part _ _
    · exact Gk1.report_dram _ _
  · have hgo : ¬((!(decide (x < 512) && decide (y < 512))) = true) := by simp [hx, hy]
    exact ⟨_, show execRouterPlaneSwitch x y s = _ from act_became ((if_neg hgo).trans (if_pos (by simpa using hold))),
      (partDead_effect hpart).1⟩
  · refine show execFlitRetransmit x y s = _ from act_became (if_neg ?_)
    simp [hx, hy]
  · obtain ⟨u, hexec, hu⟩ := exec_cacheRowUncorrectable hg hsec hL
    obtain ⟨hheld, hdram⟩ : u.held = s.held ∧ u.dram = s.dram := by
      obtain rfl | rfl := hu
      · exact ⟨rfl, rfl⟩
      · obtain ⟨_, _, _, _, _, h⟩ := Gk1.listBad_eq s.toGk1 g sec
        rw [h]
        exact ⟨rfl, rfl⟩
    obtain ⟨hbad, hclean⟩ := badRow_bits L hsec
    refine ⟨_, badRow sec L, hexec, (NMap.get?_set ..).trans (if_pos rfl), hbad, hclean, rfl, ?_, hdram⟩
    exact congrArg (fun h : Held => h.deadWays ++ [(gStack g, gSlice g, gSet g, L.way)]) hheld
  · refine ⟨_, show execStackFault r s = _ from act_became ((if_neg (by omega)).trans (congrArg Outcome.next (if_pos hpow))),
      (loseStack_effect s.toGk1 r).1, (loseStack_effect s.toGk1 r).2.2, ?_⟩
    exact loseStack_cores ..
  · exact show execStackHotChange r hot s = _ from act_became (if_neg (by omega))
  · obtain ⟨-, hhia, hfailed, herr, hkernels, hdram⟩ := switchHia_effect hstand
    exact ⟨_, show execHiaSwitch s = _ from act_became (congrArg Outcome.next (if_pos hpow)), hhia, hfailed, herr, hkernels, hdram⟩
  · have hgo : ¬((!s.powered || s.edge.standbyFailed) = true) := by simp [hpow, hstand]
    obtain ⟨_, _, _, _, _, h⟩ := Gk1.report_eq { s.toGk1 with edge := { s.edge with standbyFailed := true } }
      { kind := 7, unit := b2n (!s.edge.hia) }
    refine ⟨_, show execStandbyHiaFault s = _ from act_became ((if_neg hgo).trans (congrArg Outcome.next h)), rfl, rfl, rfl, rfl⟩
  · exact ⟨_, show execPartFault s = _ from act_became (congrArg Outcome.next (if_pos hpow)), partDead_effect hpart⟩

end Sys2Proof.Claims

/-! Lost shares and regions: what their loss leaves, heartbeats, the dispatcher's role and region resets. -/

namespace Sys2Proof.Machine

/-- From s to t work has been lost: cores, clusters, requests, messages, epochs, kernels, the power controller and the ledger may
differ. -/
def Losses (s t : Gk1) : Prop := ∃ cores clusters reqs msgs epochs kernels power ledger,
  t = { s with cores := cores, clusters := clusters, reqs := reqs, msgs := msgs, epochs := epochs, kernels := kernels, power := power, ledger := ledger }

theorem Losses.refl (s : Gk1) : Losses s s := ⟨_, _, _, _, _, _, _, _, rfl⟩

theorem Losses.trans {s t u : Gk1} (h : Losses s t) (h' : Losses t u) : Losses s u := by
  obtain ⟨_, _, _, _, _, _, _, _, rfl⟩ := h
  obtain ⟨_, _, _, _, _, _, _, _, rfl⟩ := h'
  exact ⟨_, _, _, _, _, _, _, _, rfl⟩

theorem Losses.foldl {α : Type} {f : Gk1 → α → Gk1} (hf : ∀ s a, Losses s (f s a)) (l : List α) (s : Gk1) : Losses s (l.foldl f s) := by
  induction l generalizing s with
  | nil => exact Losses.refl s
  | cons a l ih => exact (hf s a).trans (ih _)

theorem WorkOnly.losses {s t : Gk1} (h : WorkOnly s t) : Losses s t := by
  obtain ⟨_, _, _, _, _, rfl⟩ := h
  exact ⟨_, _, _, _, _, _, _, _, rfl⟩

theorem Gk1.modCore_losses (s : Gk1) (c : Nat) (f : Core → Core) : Losses s (s.modCore c f) := ⟨_, _, _, _, _, _, _, _, rfl⟩

theorem Gk1.modCluster_losses (s : Gk1) (c : Nat) (f : Cluster → Cluster) : Losses s (s.modCluster c f) := ⟨_, _, _, _, _, _, _, _, rfl⟩

theorem Gk1.modKernel_losses (s : Gk1) (k : Nat) (f : Kernel → Kernel) : Losses s (s.modKernel k f) := ⟨_, _, _, _, _, _, _, _, rfl⟩

theorem Gk1.leaveCluster_losses (s : Gk1) (kid cl : Nat) : Losses s (s.leaveCluster kid cl) :=
  ((Losses.foldl (fun s c => s.modCore_losses c Core.ended) (coresOf cl) s).trans (Gk1.modCluster_losses _ _ _)).trans
    (Gk1.modKernel_losses _ _ _)

theorem Gk1.dropShare_losses (s : Gk1) (kid cl code : Nat) : Losses s (s.dropShare kid cl code) := by
  unfold Gk1.dropShare
  extract_lets u
  have hu : Losses s u := s.modKernel_losses kid _
  split
  · exact (hu.trans (u.leaveCluster_losses kid cl)).trans (Gk1.modKernel_losses _ _ _)
  · exact hu.trans (u.modCluster_losses cl _)

theorem Gk1.stopKernel_losses (s : Gk1) (kid code : Nat) (always : Bool) : Losses s (s.stopKernel kid code always) :=
  (s.stopWork_eq kid).losses.trans (Gk1.modKernel_losses _ _ _)

theorem Gk1.dropWork_losses (s : Gk1) (kid : Nat) (here : Nat → Bool) : Losses s (s.dropWork kid here) := ⟨_, _, _, _, _, _, _, _, rfl⟩

theorem Gk1.forgetShare_losses (s : Gk1) (kid cl : Nat) : Losses s (s.forgetShare kid cl) := by
  unfold Gk1.forgetShare
  extract_lets _
  split
  · exact Losses.refl s
  · exact s.modKernel_losses _ _

theorem Gk1.stopForRerun_losses (s : Gk1) (kid : Nat) : Losses s (s.stopForRerun kid) :=
  (s.stopWork_eq kid).losses.trans (Gk1.modKernel_losses _ _ _)

theorem Gk1.loseShare_losses (s : Gk1) (kid cl : Nat) (c : Cause) : Losses s (s.loseShare kid cl c).1 := by
  unfold Gk1.loseShare
  split
  · exact Losses.refl s
  · extract_lets _ _ _ _ v d u
    have hu : Losses s u := (s.dropWork_losses kid _).trans (d.modCluster_losses cl _)
    clear_value v u
    split
    · exact hu
    · split
      · exact hu.trans (u.dropShare_losses _ _ _)
      · exact (hu.trans (u.forgetShare_losses kid cl)).trans (Gk1.modKernel_losses _ _ _)
      · exact (hu.trans (u.modKernel_losses kid _)).trans (Gk1.stopForRerun_losses _ _)

theorem Gk1.dropHeldDraw_losses (s : Gk1) (cs : List Nat) : Losses s (s.dropHeldDraw cs) := by
  unfold Gk1.dropHeldDraw
  extract_lets l u
  have hu : Losses s u := Losses.foldl (fun s c => s.modCluster_losses c _) l s
  split
  · exact hu
  · exact hu.trans ⟨_, _, _, _, _, _, _, _, rfl⟩

theorem Gk1.wipeCluster_losses (s : Gk1) (cl : Nat) : Losses s (s.wipeCluster cl) := by
  unfold Gk1.wipeCluster
  refine (Losses.foldl (fun s c => ?_) _ s).trans (Gk1.modCluster_losses _ _ _)
  split
  · exact s.modCore_losses c _
  · exact Losses.refl s

theorem Gk1.loseRegion_losses (s : Gk1) (r : Nat) (c : Cause) : Losses s (s.loseRegion r c).1 := by
  have hfold : ∀ (l : List Nat) (a : Gk1 × Nat), Losses a.1 (l.foldl (fun (a : Gk1 × Nat) cl =>
      match (a.1.cluster cl).admitted with
      | some k =>
        let b := a.1.loseShare k cl c
        (b.1, if a.2 = 0 then b.2 else a.2)
      | none => a) a).1 := fun l => by
    induction l with
    | nil => exact fun a => Losses.refl a.1
    | cons cl l ih =>
      intro a
      refine Losses.trans ?_ (ih _)
      dsimp only
      split
      · exact a.1.loseShare_losses _ cl c
      · exact Losses.refl a.1
  unfold Gk1.loseRegion
  exact ((s.dropHeldDraw_losses _).trans (hfold (s.knownIn r) (s.dropHeldDraw (s.heldIn r), 0))).trans
    (Losses.foldl (fun s cl => s.wipeCluster_losses cl) _ _)

theorem Losses.rest {s t : Gk1} (h : Losses s t) : t.regions = s.regions ∧ t.boot = s.boot ∧ t.cache = s.cache ∧ t.held = s.held := by
  obtain ⟨_, _, _, _, _, _, _, _, rfl⟩ := h
  exact ⟨rfl, rfl, rfl, rfl⟩

theorem Gk1.dropAsking_losses (s : Gk1) (r : Nat) : Losses s (s.dropAsking r) := by
  unfold Gk1.dropAsking
  refine Losses.foldl (fun s e => ?_) _ s
  split
  · exact s.dropShare_losses _ _ _
  · exact Losses.refl s

end Sys2Proof.Machine

namespace Sys2Proof.Claims

open Sys2Proof.Machine Host

theorem region_of_regions {s t : Gk1} (h : t.regions = s.regions) (r : Nat) : t.region r = s.region r :=
  congrArg (fun m : NMap Region => NMap.getD m r {}) h

theorem region_refollow (s : Gk1) (l : List Nat) (r : Nat) : (s.refollow l).region r = s.region r := rfl

/-- A region in reset. -/
def inReset (R : Region) : Region :=
  { R with service := 1, sbUp := false, resets := upTo8 (R.resets + 1), moving := false, stretch := false }

/-- A region reset: the region itself, its followers and its report; what it loses is no region. -/
theorem resetRegion_effect (s : Gk1) (r : Nat) (c : Cause) : (∀ x, (s.resetRegion r c).region x = if r = x then inReset (s.region x) else s.region x) ∧
    (s.resetRegion r c).boot.disp = s.boot.disp ∧ (s.resetRegion r c).cache = s.cache := by
  obtain ⟨hregions, hboot, hcache, -⟩ := (s.loseRegion_losses r c).rest
  unfold Gk1.resetRegion
  extract_lets a u
  refine ⟨fun x => ?_, ?_, ?_⟩
  · refine (region_of_regions (Gk1.report_regions u _) x).trans ((Gk1.region_modRegion ..).trans ?_)
    rw [region_of_regions hregions r, region_of_regions hregions x]
    split
    · next h => rw [h, inReset]
    · rfl
  · exact (congrArg Boot.disp (Gk1.report_boot u _)).trans (congrArg Boot.disp hboot)
  · exact (Gk1.report_cache u _).trans hcache

theorem resetRegions_service (c : Cause) (l : List Nat) (s : Gk1) (x : Nat) :
    ((l.foldl (fun s r => s.resetRegion r c) s).region x).service = if x ∈ l then 1 else (s.region x).service := by
  induction l generalizing s with
  | nil => rfl
  | cons r l ih =>
    rw [List.foldl_cons, ih, (resetRegion_effect s r c).1 x]
    by_cases hr : r = x
    · subst hr
      simp [inReset]
    · simp [hr, Ne.symm hr]

/-- A region that goes OUT, unowned: service and owner speak of no margin, which alone a PART fault would end. -/
def isOut (s : Gk1) (r : Nat) : Prop := (s.region r).service = 2 ∧ (s.region r).owner = none

theorem isOut_of_regions {s t : Gk1} {r : Nat} (h : t.regions = s.regions) (hs : isOut s r) : isOut t r := by
  rwa [isOut, region_of_regions h]

/-- A region whose stack runs no margin. -/
def noMargin (R : Region) : Region := { R with margining := false }

theorem partDead_isOut {s : Gk1} {r : Nat} (h : isOut s r) : isOut s.partDead r := by
  unfold Gk1.partDead
  split
  · exact h
  · extract_lets u
    have hu : u.regions = s.regions := (show Losses s u from
      Losses.foldl (fun s e => (s.stopWork_eq e.1).losses.trans (Gk1.modKernel_losses _ _ _)) s.kernels s).rest.1
    have hr : NMap.getD (NMap.mapVals u.regions fun (_ : Nat) R => noMargin R) r {} = noMargin (s.region r) := by
      rw [NMap.getD_mapVals u.regions noMargin r rfl, hu]
      rfl
    exact ⟨(congrArg Region.service hr).trans h.1, (congrArg Region.owner hr).trans h.2⟩

theorem goOut_isOut (s : Gk1) (r : Nat) : isOut (s.goOut r) r := by
  unfold Gk1.goOut
  extract_lets a u v w x _ y z
  have hw : isOut w r := by
    rw [isOut, show w = v.modRegion r _ from rfl, Gk1.region_modRegion, if_pos rfl]
    exact ⟨rfl, rfl⟩
  have hx : x.regions = w.regions := (show Losses w x from Losses.foldl (fun s cl => s.modCluster_losses cl _) _ w).rest.1
  have hz : isOut z r := isOut_of_regions ((Gk1.report_regions y _).trans hx) hw
  split
  · split
    · exact isOut_of_regions (Gk1.report_regions _ _) hz
    · exact partDead_isOut hz
  · exact hz

/-- A region with its signal box down. -/
def boxDown (R : Region) : Region := { R with sbUp := false }

/-- The former dispatcher's signal box is down for the choice of the next one. -/
theorem find_follower (s : Gk1) (old : Nat) (l : List Nat) :
    l.find? (s.modRegion old boxDown).boxUp = l.find? fun r => r ≠ old && s.boxUp r := by
  congr 1
  funext r
  rw [Gk1.boxUp, Gk1.region_modRegion, Gk1.boxUp]
  by_cases h : old = r
  · subst h
    simp [boxDown]
  · simp [h, Ne.symm h]

/-- One more takeover of the role counts. -/
def countTakeover (s : Gk1) : Gk1 := { s with boot := { s.boot with takeovers := upTo8 (s.boot.takeovers + 1) } }

/-- The part whose dispatcher role a follower has taken over. -/
def tookOver (s : Gk1) (n : Nat) : Gk1 := ((countTakeover (s.modRegion s.boot.disp boxDown)).moveRole n []).countInterval

theorem exec_dispatcherTakeover {s : State} {n : Nat} (hvalid : s.boot.dvalid = true) (hrun : s.regionsRun = true)
    (hfind : (s.boot.follow.find? fun r => r ≠ s.boot.disp && s.boxUp r) = some n) :
    exec .dispatcherTakeover s = .next (became s (tookOver s.toGk1 n)) := by
  have hgo : ¬((!(s.boot.dvalid && s.regionsRun)) = true) := by simp [hvalid, hrun]
  rw [← find_follower s.toGk1] at hfind
  refine show execDispatcherTakeover s = _ from act_became ((if_neg hgo).trans ?_)
  change (match s.boot.follow.find? (s.modRegion s.boot.disp boxDown).boxUp with
    | none => Outcome.next (s.modRegion s.boot.disp boxDown).partDead
    | some n => Outcome.next (tookOver s.toGk1 n)) = _
  rw [hfind]

theorem tookOver_effect (s : Gk1) (n : Nat) : (tookOver s n).boot.disp = n ∧ (tookOver s n).boot.takeovers = upTo8 (s.boot.takeovers + 1) ∧
    ((tookOver s n).region s.boot.disp).sbUp = false ∧ (tookOver s n).kernels = s.kernels ∧ (tookOver s n).dram = s.dram := by
  obtain ⟨_, hcount⟩ := countInterval_eq ((countTakeover (s.modRegion s.boot.disp boxDown)).moveRole n [])
  obtain ⟨_, _, _, _, _, hreport⟩ := Gk1.report_eq (Gk1.refollow { (countTakeover (s.modRegion s.boot.disp boxDown)) with boot :=
    { (countTakeover (s.modRegion s.boot.disp boxDown)).boot with disp := n } } []) { kind := 6, unit := n }
  have hdown : ((s.modRegion s.boot.disp boxDown).region s.boot.disp).sbUp = false := by
    rw [Gk1.region_modRegion, if_pos rfl]
    rfl
  rw [tookOver, hcount, Gk1.moveRole, hreport]
  exact ⟨rfl, rfl, hdown, rfl, rfl⟩

theorem resetRegions_rest (c : Cause) (l : List Nat) (s : Gk1) : (l.foldl (fun s r => s.resetRegion r c) s).boot.disp = s.boot.disp ∧
    (l.foldl (fun s r => s.resetRegion r c) s).dram = s.dram :=
  ⟨foldl_keeps (fun s : Gk1 => s.boot.disp) (fun s r => (resetRegion_effect s r c).2.1) l s,
    foldl_dram (fun s r => Gk1.resetRegion_dram s r c) l s⟩

/-- The followers of a partition reset are named first, which changes no region and, outside the mask, no dispatcher. -/
theorem exec_partitionResetGo {s : State} (hpart : s.part = .ready) (hup : s.boxUp s.boot.disp = true)
    (hmask : (s.reg 0x780308 0).testBit s.boot.disp = false) :
    ∃ u : Gk1, exec (.partitionResetGo 0x6D2E) s = .next (became s
      (((bitsOf 64 (s.reg 0x780308 0)).filter fun r => (u.region r).service = 0).foldl (fun s r => s.resetRegion r .partition) u)) ∧
      u.regions = s.regions ∧ u.boot.disp = s.boot.disp ∧ u.dram = s.dram := by
  have hgo : ¬((decide ((0x6D2E : BitVec 16) ≠ 0x6D2E) || decide (s.part ≠ .ready)) = true) := by simp [hpart]
  have hout : (bitsOf 64 (s.reg 0x780308 0)).contains s.boot.disp = false := by
    rw [← Bool.not_eq_true, List.contains_iff_mem, mem_bitsOf, hmask]
    simp
  cases hring : s.ringAfter s.boot.disp (bitsOf 64 (s.reg 0x780308 0)) with
  | nil =>
    refine ⟨s.toGk1, show execPartitionResetGo 0x6D2E s = _ from act_became ((if_neg hgo).trans ?_), rfl, rfl, rfl⟩
    dsimp only
    rw [hring]
    exact if_neg (by rw [hout, hup]; decide)
  | cons n l =>
    refine ⟨s.refollow (bitsOf 64 (s.reg 0x780308 0)), show execPartitionResetGo 0x6D2E s = _ from act_became ((if_neg hgo).trans ?_), rfl, rfl, rfl⟩
    dsimp only
    rw [hring, hout]
    rfl

/-- Settles O47. -/
theorem regionsAndTheDispatcher : Obligations.RegionsAndTheDispatcher := by
  unfold Obligations.RegionsAndTheDispatcher
  refine ⟨fun s r hr hvalid hup => ?_, fun s n hvalid hrun hfind => ?_, fun s r hr hrun hfault hdisp => ?_,
    fun s r hr hserv => ⟨?_, ?_⟩, fun s key hkey => ?_, fun s hpart hup hmask hdisp => ?_⟩
  · exact show execHeartbeatTimeout r s = _ from act_became ((if_neg (by omega)).trans (if_pos (by simp [hvalid, hup])))
  · exact ⟨_, exec_dispatcherTakeover hvalid hrun hfind, tookOver_effect s.toGk1 n⟩
  · have hgo : ¬((!(s.regionsRun && s.regionFaulty r)) = true) := by simp [hrun, hfault]
    obtain ⟨hregion, -, hcache⟩ := resetRegion_effect s.toGk1 r .reset
    have hr' := (hregion r).trans (if_pos rfl)
    refine ⟨_, show execRegionReset r s = _ from act_became ((if_neg (by omega)).trans ((if_neg hgo).trans (if_neg hdisp))), ?_, ?_, ?_, ?_, ?_,
      hcache, Gk1.resetRegion_dram _ _ _⟩
    all_goals rw [region_became, hr']; rfl
  · have hgo : ¬((s.region r).service ≠ 1) := by simp [hserv]
    refine ⟨_, show execRegionResetDone r true s = _ from act_became ((if_neg (by omega)).trans ((if_neg hgo).trans (if_neg (by decide)))), ?_, ?_, ?_, ?_,
      rfl, rfl⟩
    all_goals
      rw [region_became, region_refollow, Gk1.region_modRegion, if_pos rfl]
  · have hgo : ¬((s.region r).service ≠ 1) := by simp [hserv]
    obtain ⟨hout, howner⟩ := goOut_isOut s.toGk1 r
    exact ⟨_, show execRegionResetDone r false s = _ from act_became ((if_neg (by omega)).trans ((if_neg hgo).trans (if_pos (by decide)))), hout, howner,
      Gk1.goOut_dram _ _⟩
  · exact show execPartitionResetGo key s = _ from act_became (if_pos (by rw [decide_eq_true hkey]; rfl))
  · obtain ⟨u, hexec, hregions, hboot, hdram⟩ := exec_partitionResetGo hpart hup hmask
    obtain ⟨hdisp', hdram'⟩ := resetRegions_rest .partition ((bitsOf 64 (s.reg 0x780308 0)).filter fun r => (u.region r).service = 0) u
    refine ⟨_, hexec, hdram'.trans hdram, hdisp'.trans hboot, fun r hr hbit hserv => ?_, fun r hr hbit => ?_⟩
    · rw [region_became, resetRegions_service, if_pos]
      rw [List.mem_filter, mem_bitsOf, region_of_regions hregions]
      exact ⟨⟨hr, hbit⟩, decide_eq_true hserv⟩
    · rw [region_became, resetRegions_service, if_neg, region_of_regions hregions]
      rw [List.mem_filter, mem_bitsOf, hbit]
      simp

end Sys2Proof.Claims

/-! Cluster faults, substitutions, start images and replays. -/

namespace Sys2Proof.Machine

/-- From s to t epochs have ended: cores differ in their epochs alone; messages and ports carry the ends away. -/
structure EpochsEnd (s t : Gk1) : Prop where
  rest : ∃ cores ports drops nextId msgs epochs,
    t = { s with cores := cores, ports := ports, drops := drops, nextId := nextId, msgs := msgs, epochs := epochs }
  core : ∀ c, ∃ es, t.core c = { s.core c with epochs := es }

theorem EpochsEnd.refl (s : Gk1) : EpochsEnd s s := ⟨⟨_, _, _, _, _, _, rfl⟩, fun _ => ⟨_, rfl⟩⟩

theorem EpochsEnd.trans {s t u : Gk1} (h : EpochsEnd s t) (h' : EpochsEnd t u) : EpochsEnd s u where
  rest := by
    obtain ⟨_, _, _, _, _, _, rfl⟩ := h.rest
    obtain ⟨_, _, _, _, _, _, rfl⟩ := h'.rest
    exact ⟨_, _, _, _, _, _, rfl⟩
  core c := by
    obtain ⟨es, hes⟩ := h.core c
    obtain ⟨es', hes'⟩ := h'.core c
    exact ⟨es', by rw [hes', hes]⟩

theorem EpochsEnd.foldl {α : Type} {f : Gk1 → α → Gk1} (hf : ∀ s a, EpochsEnd s (f s a)) (l : List α) (s : Gk1) :
    EpochsEnd s (l.foldl f s) := by
  induction l generalizing s with
  | nil => exact EpochsEnd.refl s
  | cons a l ih => exact (hf s a).trans (ih _)

/-- The epochs of a core are its sender's own. -/
theorem Gk1.modEpochs_ends (s : Gk1) (core : Nat) (f : Core → List EpochRec) :
    EpochsEnd s (s.modCore core fun C => { C with epochs := f C }) where
  rest := ⟨_, _, _, _, _, _, rfl⟩
  core c := by
    rw [Gk1.core_modCore]
    split
    · next h => exact ⟨_, by rw [h]⟩
    · exact ⟨_, rfl⟩

theorem Gk1.sendPeer_ends (s : Gk1) (id : Nat) (m : Msg) : EpochsEnd s (s.sendPeer id m) := by
  refine ⟨?_, (s.sendPeer_sends id m).core⟩
  obtain ⟨_, _, h⟩ := s.sendPacket_eq (s.packetOf id m)
  unfold Gk1.sendPeer
  dsimp only
  rw [h]
  exact ⟨_, _, _, _, _, _, rfl⟩

theorem Gk1.endEpoch_ends (s : Gk1) (core : Nat) (r : EpochRec) (ctx kid : Nat) (last : Bool) :
    EpochsEnd s (s.endEpoch core r ctx kid last) := by
  unfold Gk1.endEpoch
  extract_lets m u
  have hu : EpochsEnd s u := s.modEpochs_ends core _
  split
  · exact (hu.trans (u := u.addMsg m) ⟨⟨_, _, _, _, _, _, rfl⟩, fun _ => ⟨_, rfl⟩⟩).trans (Gk1.sendPeer_ends _ _ _)
  · exact hu.trans ⟨⟨_, _, _, _, _, _, rfl⟩, fun _ => ⟨_, rfl⟩⟩

theorem Gk1.closeEpochs_ends (s : Gk1) (core ctx kid : Nat) : EpochsEnd s (s.closeEpochs core ctx kid) := by
  unfold Gk1.closeEpochs
  refine EpochsEnd.foldl (fun s r => ?_) _ s
  split
  · exact s.modEpochs_ends core _
  · split
    · exact EpochsEnd.refl s
    · exact s.endEpoch_ends core r ctx kid true

end Sys2Proof.Machine

namespace Sys2Proof.Claims

open Sys2Proof.Machine

/-! ## A cluster fault -/

/-- Nothing runs on the core, and its store is empty. -/
def blank (C : Core) : Prop := C.groups = [] ∧ C.store = []

theorem blank_wiped (C : Core) : blank C.wiped := ⟨rfl, rfl⟩

/-- A core of the part loses what it holds; a core that has no entry holds nothing. -/
theorem wipe_core (s : Gk1) (c n : Nat) : c = n ∨ blank (s.core n) →
    blank ((if NMap.has s.cores c then s.modCore c Core.wiped else s).core n) := by
  intro h
  split
  · rw [Gk1.core_modCore]
    split
    · exact blank_wiped _
    · next hne => exact h.resolve_left hne
  · next hhas =>
    obtain rfl | h := h
    · have hnone : NMap.get? s.cores c = none := by simpa [NMap.has] using hhas
      rw [Gk1.core, NMap.getD, hnone]
      exact ⟨rfl, rfl⟩
    · exact h

theorem wipe_cores (l : List Nat) (s : Gk1) {n : Nat} (h : n ∈ l ∨ blank (s.core n)) :
    blank ((l.foldl (fun s c => if NMap.has s.cores c then s.modCore c Core.wiped else s) s).core n) := by
  induction l generalizing s with
  | nil => exact h.resolve_left List.not_mem_nil
  | cons c l ih =>
    refine ih _ ?_
    obtain hmem | h := h
    · obtain rfl | hmem := List.mem_cons.1 hmem
      · exact .inr (wipe_core s n n (.inl rfl))
      · exact .inl hmem
    · exact .inr (wipe_core s c n (.inr h))

/-- A cluster without power: it is lost, holds no accumulators, and its cores hold nothing. -/
theorem wipeCluster_effect (s : Gk1) (cl : Nat) : ((s.wipeCluster cl).cluster cl).wgs = [] ∧
    ∀ n ∈ coresOf cl, blank ((s.wipeCluster cl).core n) := by
  refine ⟨?_, fun n hn => ?_⟩
  · exact congrArg Cluster.wgs ((Gk1.cluster_modCluster ..).trans (if_pos rfl))
  · exact wipe_cores (coresOf cl) s (.inl hn)

theorem reportWgs_rest (s : Gk1) (cl rank : Nat) : (s.reportWgs cl rank).regions = s.regions ∧
    (s.reportWgs cl rank).held.failing = s.held.failing := by
  unfold Gk1.reportWgs
  split
  · exact ⟨rfl, rfl⟩
  · extract_lets _ u
    exact ⟨Gk1.report_regions u _, (congrArg Held.failing (Gk1.report_held u _) :)⟩

theorem mem_insertNat (x : Nat) (l : List Nat) : x ∈ insertNat x l := by
  induction l with
  | nil => exact List.mem_singleton.2 rfl
  | cons y l ih =>
    unfold insertNat
    split
    · exact List.mem_cons_self
    · split
      · next h => rw [h]; exact List.mem_cons_self
      · exact List.mem_cons_of_mem _ ih

/-- A region one of whose ranks has failed. -/
def failedRank (rank : Nat) (R : Region) : Region := { R with clfaults := upTo8 (R.clfaults + 1), failed := insertNat rank R.failed }

/-- The part after the shares of a cluster are lost, with the status that this gives. -/
def lostShare (s : Gk1) (region rank cl : Nat) : Gk1 × Nat :=
  let u := ((s.modRegion region (failedRank rank)).dropHeldDraw [cl]).reportWgs cl rank
  match (s.cluster cl).admitted with
  | some k => u.loseShare k cl .cluster
  | none => (u, 0)

theorem lostShare_rest (s : Gk1) (region rank cl : Nat) :
    (lostShare s region rank cl).1.regions = (s.modRegion region (failedRank rank)).regions ∧
    (lostShare s region rank cl).1.held.failing = s.held.failing := by
  unfold lostShare
  extract_lets u
  have hu : u.regions = (s.modRegion region (failedRank rank)).regions ∧ u.held.failing = s.held.failing := by
    obtain ⟨hregions, hfailing⟩ := reportWgs_rest ((s.modRegion region (failedRank rank)).dropHeldDraw [cl]) cl rank
    obtain ⟨hregions', -, -, hheld⟩ := ((s.modRegion region (failedRank rank)).dropHeldDraw_losses [cl]).rest
    exact ⟨hregions.trans hregions', hfailing.trans (congrArg Held.failing hheld)⟩
  split
  · obtain ⟨hregions, -, -, hheld⟩ := (u.loseShare_losses ‹Nat› cl .cluster).rest
    exact ⟨hregions.trans hu.1, (congrArg Held.failing hheld).trans hu.2⟩
  · exact hu

/-- A cluster that is lost. -/
def lostCluster (C : Cluster) : Cluster := { C with lost := true }

/-- What the report on a failed cluster will say. -/
def failingOf (s : Gk1) (region rank i : Nat) : Failing :=
  let K := (s.cluster (4000 * region + i)).admitted.bind fun k => NMap.get? s.kernels k
  { region := region, index := i, rank := rank, status := (lostShare s region rank (4000 * region + i)).2
    ctx := (K.map Kernel.ctx).getD ((s.region region).owner.getD 0xFF), queue := (K.map Kernel.queue).getD 0xFFFF }

/-- The part with a failed cluster that has no power: its index waits for a siding. -/
def failedCluster (w : Gk1) (cl : Nat) (f : Failing) (background : List (Nat × Nat)) : Gk1 :=
  { w.modCluster cl lostCluster with held := { w.held with failing := w.held.failing ++ [f], background := background } }

theorem failedCluster_effect (w : Gk1) (cl : Nat) (f : Failing) (background : List (Nat × Nat)) :
    (failedCluster w cl f background).cluster cl = lostCluster (w.cluster cl) ∧ (failedCluster w cl f background).regions = w.regions ∧
      (failedCluster w cl f background).held.failing = w.held.failing ++ [f] ∧
      ∀ n, (failedCluster w cl f background).core n = w.core n :=
  ⟨(Gk1.cluster_modCluster _ _ _ lostCluster).trans (if_pos rfl), rfl, rfl, fun _ => rfl⟩

/-- The part whose failed cluster has lost its share and its power. -/
def powerless (s : Gk1) (region rank cl : Nat) : Gk1 := (lostShare s region rank cl).1.wipeCluster cl

theorem powerless_effect (s : Gk1) (region rank cl : Nat) : ((powerless s region rank cl).cluster cl).wgs = [] ∧
    (powerless s region rank cl).region region = failedRank rank (s.region region) ∧
    (powerless s region rank cl).held.failing = s.held.failing ∧ (powerless s region rank cl).dram = s.dram ∧
    ∀ n ∈ coresOf cl, blank ((powerless s region rank cl).core n) := by
  obtain ⟨hregions, hfailing⟩ := lostShare_rest s region rank cl
  obtain ⟨hwgs, hcores⟩ := wipeCluster_effect (lostShare s region rank cl).1 cl
  obtain ⟨hregions', -, -, hheld⟩ := ((lostShare s region rank cl).1.wipeCluster_losses cl).rest
  refine ⟨hwgs, ?_, (congrArg Held.failing hheld).trans hfailing, (Gk1.wipeCluster_dram _ _).trans ?_, hcores⟩
  · exact (region_of_regions (hregions'.trans hregions) region).trans ((Gk1.region_modRegion ..).trans (if_pos rfl))
  · unfold lostShare
    split <;> simp

theorem exec_clusterFault {s : State} {region rank i : Nat} {sram : Bool} (hr : region < 64) (hk : rank < 4096) (hrun : s.regionsRun = true)
    (hserv : (s.region region).service = 0) (hfailed : rank ∉ (s.region region).failed) (hi : (s.region region).indexOf rank = some i)
    (hlost : (s.cluster (4000 * region + i)).lost = false) :
    ∃ w background, exec (.clusterFault region rank sram) s = .next (became s (failedCluster w
      (4000 * region + i) (failingOf s.toGk1 region rank i) background)) ∧ (w.cluster (4000 * region + i)).wgs = [] ∧
      w.region region = failedRank rank (s.region region) ∧ w.held.failing = s.held.failing ∧ w.dram = s.dram ∧
      ∀ n ∈ coresOf (4000 * region + i), blank (w.core n) := by
  have hgo : ¬((!(decide (region < 64) && decide (rank < 4096))) = true) := by simp [hr, hk]
  have hgo' : ¬((!s.regionsRun || decide ((s.region region).service ≠ 0) || (s.region region).failed.contains rank) = true) := by
    simp [hrun, hserv, hfailed]
  refine ⟨powerless s.toGk1 region rank (4000 * region + i), if sram then (powerless s.toGk1 region rank (4000 * region + i)).held.background ++ [(region, rank)]
    else (powerless s.toGk1 region rank (4000 * region + i)).held.background, show execClusterFault region rank sram s = _ from act_became ((if_neg hgo).trans ((if_neg hgo').trans ?_)),
    powerless_effect s.toGk1 region rank (4000 * region + i)⟩
  rw [hi]
  exact if_neg (by rw [hlost]; decide)

/-- A cluster that a siding serves again. -/
def foundCluster (C : Cluster) : Cluster := { C with lost := false }

theorem region_modCluster (s : Gk1) (n r : Nat) (f : Cluster → Cluster) : (s.modCluster n f).region r = s.region r := rfl

theorem cluster_report (s : Gk1) (rep : Report) (n : Nat) : (s.report rep).cluster n = s.cluster n :=
  congrArg (fun m : NMap Cluster => NMap.getD m n {}) (Gk1.report_clusters s rep)

/-- The failing entries that another one does not take with it. -/
def withoutFailing (s : Gk1) (f : Failing) : Gk1 := { s with held := { s.held with failing := s.held.failing.filter fun g => g ≠ f } }

theorem held_became (s : State) (p : Gk1) : (became s p).held = p.held := rfl

theorem not_mem_withoutFailing (s : Gk1) (f : Failing) : f ∉ (withoutFailing s f).held.failing := by
  simp [withoutFailing]

section
variable {s : State} {region index : Nat} {f : Failing} (hr : region < 64) (hi : index < 4000)
  (hfind : (s.held.failing.find? fun f => f.region = region && f.index = index) = some f)
include hr hi hfind

theorem exec_substitution_mapped {R : Region} {k : Nat} (hsub : (s.region region).substitute index = some (R, k)) :
    ∃ rep, exec (.sidingSubstitution region index) s = .next (became s ((((withoutFailing s.toGk1 f).modRegion region fun _ => R).modCluster
      (4000 * region + index) foundCluster).report rep)) := by
  have hgo : ¬((!(decide (region < 64) && decide (index < 4000))) = true) := by simp [hr, hi]
  refine ⟨{ kind := 2, status := f.status, ctx := f.ctx, queue := f.queue, unit := 4000 * region + index, place := f.rank, siding := k },
    show execSidingSubstitution region index s = _ from act_became ((if_neg hgo).trans ?_)⟩
  rw [hfind]
  dsimp only
  split
  · next h => exact absurd ((show (s.region region).substitute index = none from h).symm.trans hsub) (by simp)
  · next h =>
    obtain ⟨rfl, rfl⟩ := Prod.mk.inj (Option.some.inj ((show (s.region region).substitute index = some _ from h).symm.trans hsub))
    rfl

theorem exec_substitution_out (hsub : (s.region region).substitute index = none) :
    ∃ rep, exec (.sidingSubstitution region index) s = .next (became s (((withoutFailing s.toGk1 f).report rep).goOut region)) := by
  have hgo : ¬((!(decide (region < 64) && decide (index < 4000))) = true) := by simp [hr, hi]
  refine ⟨{ kind := 2, status := f.status, ctx := f.ctx, queue := f.queue, unit := 4000 * region + index, place := f.rank },
    show execSidingSubstitution region index s = _ from act_became ((if_neg hgo).trans ?_)⟩
  rw [hfind]
  dsimp only
  split
  · rfl
  · next h => exact absurd ((show (s.region region).substitute index = some _ from h).symm.trans hsub) (by simp)

end

/-! ## Replays -/

/-- What a kernel must load rests on the images of the cores alone. -/
theorem loadCode_of_images {s t : Gk1} (h : ∀ c, (t.core c).image = (s.core c).image) {K : Kernel} (hload : s.loadCores K = []) :
    t.loadCode K = .ok t := by
  have ht : t.loadCores K = [] := by
    rw [← hload, Gk1.loadCores, Gk1.loadCores]
    simp only [h]
  rw [Gk1.loadCode, ht]

/-- A kernel that no longer waits for a share of it. -/
def shareFound (cl : Nat) (h : Share) (K : Kernel) : Kernel :=
  { K with admitted := K.admitted.filter (· ≠ cl), shares := NMap.set K.shares cl { h with lost := none } }

/-- A replayed share asks for its place. -/
def replayed (u : Gk1) (kid cl : Nat) (h : Share) : Gk1 :=
  (u.modCluster cl fun c => { c with admitted := none, asking := some kid }).modKernel kid (shareFound cl h)

theorem get?_modKernel {s : Gk1} {kid : Nat} {K : Kernel} (h : NMap.get? s.kernels kid = some K) (f : Kernel → Kernel) :
    NMap.get? (s.modKernel kid f).kernels kid = some (f K) :=
  (NMap.get?_upd ..).trans ((if_pos rfl).trans (congrArg (Option.map f) h))

/-- A replay of a share counts. -/
def countShare (s : Gk1) : Gk1 := { s with held := { s.held with shares := upTo16 (s.held.shares + 1) } }

theorem exec_replayShare {s : State} {kid cl : Nat} {K : Kernel} (hcl : cl < nClusters) (hK : NMap.get? s.kernels kid = some K)
    (hstop : K.stopped = false) (hrerun : K.rerun = false) (hlost : (NMap.getD K.shares cl {}).lost ≠ none) (hserves : s.serves cl = true)
    (hdone : (s.enginesDone kid fun c => clusterOf c = cl) = true) (hgrain : (s.cluster cl).grain = none)
    (hload : s.loadCores { K with desc := { K.desc with q := K.desc.q.set 3 (BitVec.ofNat 64 (cl + 2 ^ 18)) } } = []) :
    ∃ u, EpochsEnd (countShare s.toGk1) u ∧ exec (.replayShare kid cl) s = .next (became s (replayed u kid cl (NMap.getD K.shares cl {}))) := by
  have hends := EpochsEnd.foldl (fun s c => s.closeEpochs_ends c K.ctx kid) (coresOf cl) (countShare s.toGk1)
  have hgo : ¬ clusterCount ≤ cl := Nat.not_le.2 hcl
  have hgo' : ¬(((NMap.getD K.shares cl {}).lost.isNone || K.stopped || K.rerun || !s.serves cl ||
      !s.enginesDone kid (fun c => clusterOf c = cl)) = true) := by
    rw [hstop, hrerun, hserves, hdone]
    simpa using hlost
  refine ⟨_, hends, show execReplayShare kid cl s = _ from act_became ((if_neg hgo).trans ?_)⟩
  rw [hK]
  refine (if_neg hgo').trans ?_
  extract_lets _ _ w _ one
  split
  · next g h => exact absurd ((show (s.cluster cl).grain = some g from h).symm.trans hgrain) (by simp)
  · rw [show w.loadCode one = .ok w from loadCode_of_images (fun c => ?_) hload]
    · rfl
    · obtain ⟨_, h⟩ := hends.core c
      exact (congrArg Core.image h :)

/-- From s to t the clusters of a kernel have been left, which changes no image, and of the kernel what overflowed alone. -/
structure Left (s t : Gk1) : Prop where
  losses : Losses s t
  image : ∀ c, (t.core c).image = (s.core c).image
  kernel : ∀ k K, NMap.get? s.kernels k = some K → ∃ K', NMap.get? t.kernels k = some K'

theorem leaveCluster_left (s : Gk1) (kid cl : Nat) : Left s (s.leaveCluster kid cl) where
  losses := s.leaveCluster_losses kid cl
  image c := by
    have hfold : ∀ (l : List Nat) (s : Gk1), ((l.foldl (fun s c => s.modCore c Core.ended) s).core c).image = (s.core c).image := fun l s => by
      refine foldl_keeps (fun s : Gk1 => (s.core c).image) (fun s d => ?_) l s
      rw [Gk1.core_modCore]
      split
      · next h => rw [h]; rfl
      · rfl
    exact hfold (coresOf cl) s
  kernel k K hK := by
    have hfold : ((coresOf cl).foldl (fun s c => s.modCore c Core.ended) s).kernels = s.kernels :=
      foldl_keeps Gk1.kernels (f := fun s c => s.modCore c Core.ended) (fun _ _ => rfl) (coresOf cl) s
    have hkernels : (s.leaveCluster kid cl).kernels = NMap.upd s.kernels kid fun K => { K with
        barOvf := K.barOvf || (coresOf cl).any fun c => (s.core c).bars.any fun e => e.2.overflow } :=
      congrArg (fun m : NMap Kernel => NMap.upd m kid fun K => { K with
        barOvf := K.barOvf || (coresOf cl).any fun c => (s.core c).bars.any fun e => e.2.overflow }) hfold
    rw [hkernels, NMap.get?_upd, hK]
    split
    · exact ⟨_, rfl⟩
    · exact ⟨_, rfl⟩

theorem Left.refl (s : Gk1) : Left s s where
  losses := Losses.refl s
  image _ := rfl
  kernel _ K hK := ⟨K, hK⟩

theorem Left.trans {s t u : Gk1} (h : Left s t) (h' : Left t u) : Left s u where
  losses := h.losses.trans h'.losses
  image c := (h'.image c).trans (h.image c)
  kernel k K hK := by
    obtain ⟨K', hK'⟩ := h.kernel k K hK
    exact h'.kernel k K' hK'

theorem leaveClusters_left (kid : Nat) (l : List Nat) (s : Gk1) : Left s (l.foldl (fun s cl => s.leaveCluster kid cl) s) := by
  induction l generalizing s with
  | nil => exact Left.refl s
  | cons cl l ih =>
    rw [List.foldl_cons]
    exact Left.trans (leaveCluster_left s kid cl) (ih _)

theorem mem_clusters {d : Desc} {cl : Nat} : cl ∈ d.clusters ↔ d.covers cl = true := by
  simp only [Desc.clusters, Desc.covers, List.mem_map, List.mem_range, Bool.and_eq_true, decide_eq_true_eq]
  constructor
  · rintro ⟨i, hi, rfl⟩
    omega
  · exact fun h => ⟨cl - d.cFirst, by omega, by omega⟩

/-- Every cluster of a list asks. -/
theorem asking_cluster (s : Gk1) (kid : Nat) (l : List Nat) (cl : Nat) :
    (l.foldl (fun s n => s.modCluster n fun c => { c with asking := some kid }) s).cluster cl =
      if cl ∈ l then { s.cluster cl with asking := some kid } else s.cluster cl := by
  induction l generalizing s with
  | nil => rfl
  | cons n l ih =>
    rw [List.foldl_cons, ih, Gk1.cluster_modCluster]
    by_cases hn : n = cl
    · subst hn
      simp
    · simp [hn, Ne.symm hn]

/-- A kernel that starts over. -/
def startsOver (K : Kernel) : Kernel := { K with
  rerun := false, admitted := [], barOvf := false, nextGrain := 0, lostGrains := [], doneGrains := 0
  shares := NMap.mapVals K.shares fun (_ : Nat) (h : Share) => { h with lost := none, dropped := false } }

/-- A replay of a whole kernel counts. -/
def countWhole (s : Gk1) : Gk1 := { s with held := { s.held with wholes := upTo16 (s.held.wholes + 1) } }

/-- The clusters of a kernel ask for their places. -/
def askAll (s : Gk1) (kid : Nat) (l : List Nat) : Gk1 := l.foldl (fun s n => s.modCluster n fun c => { c with asking := some kid }) s

theorem askAll_rest (s : Gk1) (kid : Nat) (l : List Nat) : (askAll s kid l).kernels = s.kernels ∧ (askAll s kid l).held = s.held ∧
    (askAll s kid l).dram = s.dram :=
  ⟨foldl_keeps Gk1.kernels (f := fun s n => s.modCluster n fun c => { c with asking := some kid }) (fun _ _ => rfl) l s,
    foldl_keeps Gk1.held (f := fun s n => s.modCluster n fun c => { c with asking := some kid }) (fun _ _ => rfl) l s,
    foldl_keeps Gk1.dram (f := fun s n => s.modCluster n fun c => { c with asking := some kid }) (fun _ _ => rfl) l s⟩

theorem exec_replayWhole {s : State} {kid : Nat} {K : Kernel} (hK : NMap.get? s.kernels kid = some K) (hrerun : K.rerun = true)
    (hstop : K.stopped = false) (hdone : (s.enginesDone kid fun _ => true) = true) (hstopped : s.stoppedDone kid K = true)
    (hserves : ((s.kernelClusters K).all fun cl => s.serves cl) = true) (hup : K.desc.regions.all s.boxUp = true)
    (hdef : K.desc.deferred = false) (hload : s.loadCores K = []) :
    ∃ u, Left (countWhole s.toGk1) u ∧ exec (.replayWhole kid) s = .next (became s (askAll (u.modKernel kid startsOver) kid K.desc.clusters)) := by
  have hleft := leaveClusters_left kid ((s.clusters.filter fun e => e.2.admitted = some kid).map Prod.fst) (countWhole s.toGk1)
  have hgo : ¬((!K.rerun || K.stopped || !s.enginesDone kid (fun _ => true) || !s.stoppedDone kid K
      || !(s.kernelClusters K).all (fun cl => s.serves cl) || !K.desc.regions.all s.boxUp) = true) := by
    rw [hrerun, hstop, hdone, hstopped, hserves, hup]
    decide
  refine ⟨_, hleft, show execReplayWhole kid s = _ from act_became ?_⟩
  rw [hK]
  refine (if_neg hgo).trans ?_
  extract_lets _ _ _ _ w
  refine (if_neg (by rw [hdef]; decide)).trans ?_
  rw [show w.loadCode K = .ok w from loadCode_of_images (s := s.toGk1) (t := w) hleft.image hload]
  rfl

/-- Settles O46. -/
theorem clusterFaultsAndReplay : Obligations.ClusterFaultsAndReplay := by
  unfold Obligations.ClusterFaultsAndReplay
  refine ⟨fun s region rank i sram hr hk hrun hserv hfailed hi hlost => ?_, fun s region index f hr hi hfind => ⟨fun R k hsub => ?_, fun hsub => ?_⟩,
    fun s region rank pass hr hk hback hfree => ?_, fun s kid cl K hcl hK hstop hrerun hlost hserves hdone hgrain hload => ?_,
    fun s kid K hK hrerun hstop hdone hstopped hserves hup hdef hload => ?_⟩
  · obtain ⟨w, background, hexec, hwgs, hregion, hfailing', hdram, hblank⟩ := exec_clusterFault (sram := sram) hr hk hrun hserv hfailed hi hlost
    obtain ⟨hcluster, hregions, hfailing, hcores⟩ := failedCluster_effect w (4000 * region + i) (failingOf s.toGk1 region rank i) background
    have hregion' := (region_of_regions hregions region).trans hregion
    refine ⟨_, failingOf s.toGk1 region rank i, hexec, ?_, ?_, ?_, ?_, ?_, rfl, rfl, rfl, fun n hn => ?_, hdram⟩
    · exact congrArg Cluster.lost hcluster
    · exact (congrArg Cluster.wgs hcluster).trans hwgs
    · rw [region_became, hregion']
      exact mem_insertNat _ _
    · rw [region_became, hregion']
      rfl
    · exact hfailing.trans (congrArg (· ++ [failingOf s.toGk1 region rank i]) hfailing')
    · rw [core_became, hcores n]
      exact hblank n hn
  · obtain ⟨rep, hexec⟩ := exec_substitution_mapped hr hi hfind hsub
    refine ⟨_, hexec, ?_, ?_, ?_, ?_⟩
    · rw [region_became, region_of_regions (Gk1.report_regions _ _) region, region_modCluster, Gk1.region_modRegion, if_pos rfl]
    · rw [cluster_became, cluster_report, Gk1.cluster_modCluster, if_pos rfl]
      rfl
    · intro hmem
      rw [held_became, Gk1.report_held] at hmem
      exact not_mem_withoutFailing s.toGk1 f hmem
    · exact Gk1.report_dram _ _
  · obtain ⟨rep, hexec⟩ := exec_substitution_out hr hi hfind hsub
    obtain ⟨hserv, howner⟩ := goOut_isOut ((withoutFailing s.toGk1 f).report rep) region
    exact ⟨_, hexec, hserv, howner, (Gk1.goOut_dram _ _).trans (Gk1.report_dram _ _)⟩
  · have hgo : ¬((!(decide (region < 64) && decide (rank < 4096))) = true) := by simp [hr, hk]
    have hgo' : ¬((!s.held.background.contains (region, rank) || s.held.failing.any fun f => f.region = region && f.rank = rank) = true) := by
      rw [hfree, List.contains_iff_mem.2 hback]
      decide
    refine ⟨_, show execBackgroundStartImage region rank pass s = _ from act_became ((if_neg hgo).trans (if_neg hgo')), ?_, ?_, ?_⟩
    · cases pass <;> simp [became]
    · cases pass
      · rfl
      · rw [if_pos rfl, if_pos rfl, region_became, Gk1.region_modRegion, if_pos rfl]
        rfl
    · cases pass <;> rfl
  · obtain ⟨u, hends, hexec⟩ := exec_replayShare hcl hK hstop hrerun hlost hserves hdone hgrain hload
    obtain ⟨_, _, _, _, _, _, rfl⟩ := hends.rest
    have hcluster := (Gk1.cluster_modCluster s.toGk1 cl cl fun c => { c with admitted := none, asking := some kid }).trans (if_pos rfl)
    refine ⟨_, shareFound cl (NMap.getD K.shares cl {}) K, hexec, congrArg Cluster.asking hcluster, congrArg Cluster.admitted hcluster,
      get?_modKernel hK _, ?_, rfl, rfl⟩
    exact congrArg Share.lost ((NMap.getD_set ..).trans (if_pos rfl))
  · obtain ⟨u, hleft, hexec⟩ := exec_replayWhole hK hrerun hstop hdone hstopped hserves hup hdef hload
    obtain ⟨K', hK'⟩ := hleft.kernel kid K hK
    obtain ⟨hkernels, hheld, hdram⟩ := askAll_rest (u.modKernel kid startsOver) kid K.desc.clusters
    have hlosses := hleft.losses
    obtain ⟨-, -, -, hheld'⟩ := hlosses.rest
    refine ⟨_, startsOver K', hexec, ?_, rfl, rfl, fun cl hcov => ?_, ?_, ?_⟩
    · exact (congrArg (NMap.get? · kid) hkernels).trans (get?_modKernel hK' startsOver)
    · rw [cluster_became, askAll, asking_cluster, if_pos (mem_clusters.2 hcov)]
    · exact congrArg Held.wholes (hheld.trans hheld')
    · obtain ⟨_, _, _, _, _, _, _, _, rfl⟩ := hlosses
      exact hdram

end Sys2Proof.Claims

/-! Checkpoint plans, recomputation and snapshots. -/

namespace Sys2Proof.Claims

open Sys2Proof.Machine

/-- A completion leaves the plan of the queue. -/
theorem plan_finish (s : Gk1) (q : Nat) (d : Desc) (f : Fin_) : ((s.finish q d f).queue q).plan = (s.queue q).plan := by
  simp [Gk1.finish, Gk1.queue_settle]

/-- A start that nothing makes wait. -/
theorem onStartAfter_of_starts {s : Gk1} {q : Nat} {d : Desc} (h : starts s q d = true) {isRow : Desc → Bool} (hrow : isRow d = true)
    {wait : Desc → Option (Nat × Nat)} (hwait : wait d = none) (run : Desc → Gk1 → Gk1) :
    onStartAfter q isRow wait run s = .next (run d (s.start q d)) := by
  obtain ⟨-, -, -, hnext, -⟩ := starts_iff.1 h
  unfold onStartAfter
  rw [hnext]
  simp only [hwait]
  exact onStart_of_starts h (isRow := fun d => isRow d && (wait d).isNone) (by simp [hrow, hwait]) run

/-- The queue of a descriptor that has started. -/
theorem queue_start (s : Gk1) (q : Nat) (d : Desc) :
    (s.start q d).queue q = { (s.queue q).take d with cur := some { desc := d, at_ := s.dtime } } := by
  rw [Gk1.start, Gk1.queue_modQueue, if_pos rfl]

theorem plan_start (s : Gk1) (q : Nat) (d : Desc) : ((s.start q d).queue q).plan = (s.queue q).plan := by
  rw [queue_start]
  rfl

/-- A completion on a queue that has started the descriptor, whatever else stands in it. -/
theorem completed_finish_of_fields {s t : Gk1} {q : Nat} {d : Desc} (h : starts s q d = true)
    (hcur : (t.queue q).cur = some { desc := d, at_ := s.dtime }) (hrecs : (t.queue q).recs = (s.queue q).recs)
    (hstate : (t.queue q).state = (s.queue q).state) (htime : t.dtime = s.dtime) (f : Fin_) : completed s (t.finish q d f) q d f := by
  obtain ⟨hq, hmay, -, -, hnew⟩ := starts_iff.1 h
  have hactive : (t.queue q).state = 1 := by
    simp only [Gk1.mayStart, Bool.and_eq_true, decide_eq_true_eq] at hmay
    obtain ⟨⟨⟨-, hactive⟩, -⟩, -⟩ := hmay
    exact hstate.trans hactive
  refine ⟨?_, ?_, Gk1.state_finish_of_active _ q _ f hactive hnew⟩
  · rw [Gk1.cur_finish, hcur]
    exact if_pos rfl
  · rw [Gk1.recs_finish_of_active _ q _ f hactive hnew, hrecs, htime]

/-- The started queue with another plan. -/
def planned (s : Gk1) (q : Nat) (d : Desc) (P : Option Plan) : Gk1 := (s.start q d).modQueue q fun Q => { Q with plan := P }

theorem completed_planned {s : Gk1} {q : Nat} {d : Desc} (h : starts s q d = true) (P : Option Plan) (f : Fin_) :
    completed s ((planned s q d P).finish q d f) q d f := by
  have hqueue : (planned s q d P).queue q = { (s.start q d).queue q with plan := P } := (Gk1.queue_modQueue ..).trans (if_pos rfl)
  rw [queue_start] at hqueue
  exact completed_finish_of_fields h (congrArg Queue.cur hqueue :) (congrArg Queue.recs hqueue :) (congrArg Queue.state hqueue :) rfl f

theorem plan_planned (s : Gk1) (q : Nat) (d : Desc) (P : Option Plan) (f : Fin_) : (((planned s q d P).finish q d f).queue q).plan = P := by
  rw [plan_finish, planned, Gk1.queue_modQueue, if_pos rfl]

/-- What a MARK makes of the started queue. -/
def marked (s : Gk1) (q : Nat) (d : Desc) : Gk1 :=
  match (s.queue q).plan with
  | none => (s.start q d).finish q d { status := 1 }
  | some P => if 65535 ≤ P.segment + 1 then (s.start q d).finish q d { status := 1 } else
    (planned s q d (some { P with segment := P.segment + 1, keep := d.planKeep })).finish q d {}

/-- What a CLOSE makes of the started queue. -/
def planClosed (s : Gk1) (q : Nat) (d : Desc) : Gk1 :=
  match (s.queue q).plan with
  | none => (s.start q d).finish q d { status := 1 }
  | some P => match (planned s q d none).writeRange ((planned s q d none).qctx q) ((planned s q d none).qEnforced q) (sectors P.va 64) P.header with
    | (s, none) => (s.hasWritten (s.qctx q) P.va 64).finishWith q d 0
    | (s, some e) => (s.bulkFault q e P.va).finishWith q d e

section
variable {s : State} {q : Nat} {d : Desc} (h : starts s.toGk1 q d = true) (htype : d.type = 0xA)
include h htype

theorem exec_planOpen (hop : d.planOp = 0) (hok : s.descBad q d [span 32 3, span 0 52, span 0 16] = false) :
    exec (.planOpen q) s = .next (became s
      (if (decide (fld (d.w 1) 0 52 % 64 ≠ 0) || decide (fld (d.w 2) 0 16 = 0) || (s.queue q).plan.isSome) = true
        then (s.start q d).finish q d { status := 1 }
        else (planned s.toGk1 q d (some { va := fld (d.w 1) 0 52, capacity := fld (d.w 2) 0 16, keep := d.planKeep })).finish q d {})) := by
  have hrun := onStart_of_starts h (isRow := fun d => d.type = 0xA && d.planOp = 0) (by simp [htype, hop])
  refine show execPlanOpen q s = _ from act_became ((hrun _).trans (congrArg Host.Outcome.next ((if_neg ?_).trans ?_)))
  · rw [if_pos rfl, show (s.start q d).descBad q d _ = _ from hok]
    decide
  · dsimp only
    rw [plan_start]
    rfl

theorem exec_planMark (hop : d.planOp = 1) (hok : s.descBad q d [span 32 3] = false) :
    exec (.planMark q) s = .next (became s (marked s.toGk1 q d)) := by
  have hrun := onStart_of_starts h (isRow := fun d => d.type = 0xA && d.planOp = 1) (by simp [htype, hop])
  refine show execPlanMark q s = _ from act_became ((hrun _).trans (congrArg Host.Outcome.next ((if_neg ?_).trans ?_)))
  · rw [if_neg (by decide), show (s.start q d).descBad q d _ = _ from hok]
    decide
  · dsimp only
    rw [plan_start]
    rfl

theorem exec_planClose (hop : d.planOp = 2) (hok : s.descBad q d [span 32 3] = false) (hwait : s.closeWait q d = none) :
    exec (.planClose q) s = .next (became s (planClosed s.toGk1 q d)) := by
  have hrun := onStartAfter_of_starts h (isRow := fun d => d.type = 0xA && d.planOp = 2) (by simp [htype, hop])
    (wait := fun d => s.closeWait q d) hwait
  refine show execPlanClose q s = _ from act_became ((hrun _).trans (congrArg Host.Outcome.next ((if_neg ?_).trans ?_)))
  · rw [show (s.start q d).descBad q d _ = _ from hok]
    decide
  · dsimp only
    rw [plan_start]
    rfl

end

theorem post_queues (s : Gk1) (a : Nat) (bs : List Byte) : (s.post a bs).queues = s.queues := by
  unfold Gk1.post
  split <;> rfl

theorem writeVA_queues {s t : Gk1} {c va : Nat} {enforced : Bool} {bytes : List Byte} (h : s.writeVA c enforced va bytes = .ok t) :
    t.queues = s.queues := by
  unfold Gk1.writeVA at h
  split at h
  · cases h
  · cases h
    exact post_queues s _ _
  · split at h
    · cases h
    · exact (MemoryOnly.poke s h).queues

/-- A range of device memory is written with no queue changed. -/
theorem writeRange_queues (c : Nat) (enforced : Bool) (ps : List (Nat × Nat)) (s : Gk1) (bs : List Byte) :
    (s.writeRange c enforced ps bs).1.queues = s.queues := by
  induction ps generalizing s bs with
  | nil => rfl
  | cons p ps ih =>
    unfold Gk1.writeRange
    split
    · rfl
    · next t h => exact (ih t _).trans (writeVA_queues h)

/-- A count of bytes read changes the contexts alone. -/
theorem hasRead_rest (s : Gk1) (c a n : Nat) : (s.hasRead c a n).snaps = s.snaps ∧ (s.hasRead c a n).posted = s.posted ∧
    (s.hasRead c a n).postHeld = s.postHeld ∧ (s.hasRead c a n).linkOpen = s.linkOpen ∧ (s.hasRead c a n).dram = s.dram ∧
    (s.hasRead c a n).queues = s.queues ∧ (s.hasRead c a n).dtime = s.dtime := by
  unfold Gk1.hasRead Gk1.countCtx
  split <;> exact ⟨rfl, rfl, rfl, rfl, rfl, rfl, rfl⟩

section
variable {s : State} {q : Nat} {d : Desc} (h : starts s.toGk1 q d = true)
include h

/-- A RECOMPUTE that has read its plan. -/
def planRead (s : Gk1) (q : Nat) (d : Desc) : Gk1 :=
  let u := s.start q d
  { u with free := u.free + 1 }.hasRead (u.qctx q) (fld (d.w 1) 0 52) ({ u with free := u.free + 1 }.planBytes q d)

theorem exec_recompute (htype : d.type = 0xB) (hok : s.descBad q d [span 32 1, span 0 52, span 0 32, span 0 64] = false) :
    ∃ u : Gk1, u.queues = (s.start q d).queues ∧ u.dtime = s.dtime ∧ u.dram = s.dram ∧
      ((s.start q d).planEntries q d = .ok [] → exec (.recompute q) s = .next (became s (u.finish q d {}))) ∧
      ∀ e es, (s.start q d).planEntries q d = .ok (e :: es) → exec (.recompute q) s = .next (became s
        (u.modQueue q fun Q => { Q with recomp := some { entries := e :: es, pdelta := d.q.getD 3 0, phase := BitVec.ofNat 3 d.phase } })) := by
  obtain ⟨-, -, -, -, hdram, hqueues, htime⟩ := hasRead_rest { s.start q d with free := (s.start q d).free + 1 } ((s.start q d).qctx q)
    (fld (d.w 1) 0 52) (Gk1.planBytes { s.start q d with free := (s.start q d).free + 1 } q d)
  have hrun := onStart_of_starts h (isRow := fun d => d.type = 0xB) (by simp [htype])
  have hgo : ¬((s.start q d).descBad q d [span 32 1, span 0 52, span 0 32, span 0 64] = true) := by
    rw [show (s.start q d).descBad q d _ = _ from hok]
    decide
  refine ⟨planRead s.toGk1 q d, hqueues, htime, hdram, fun hentries => ?_, fun e es hentries => ?_⟩
  · refine show execRecompute q s = _ from act_became ((hrun _).trans (congrArg Host.Outcome.next ((if_neg hgo).trans ?_)))
    rw [hentries]
    rfl
  · refine show execRecompute q s = _ from act_became ((hrun _).trans (congrArg Host.Outcome.next ((if_neg hgo).trans ?_)))
    rw [hentries]
    rfl

/-- A snapshot whose copying is to follow. -/
def snapping (s : Gk1) (q : Nat) (d : Desc) : Gk1 :=
  { s.start q d with
    snaps := NMap.set s.snaps s.nextId { queue := q, ctx := s.qctx q, q := d.q, enforced := s.qEnforced q }, nextId := s.nextId + 1 }

theorem exec_snapshot (htype : d.type = 0xD) (hfew : s.snaps.length < 4) (hok : s.descBad q d (snapMasks (fld (d.w 0) 32 2)) = false)
    (hkind : fld (d.w 0) 32 2 ≠ 3) (halign : fld (d.w 2) 0 41 % 65536 = 0) (hlen : fld (d.w 2) 0 41 ≤ 2 ^ 40) :
    exec (.snapshot q) s = .next (became s ((snapping s.toGk1 q d).finish q d {})) := by
  have hrun := onStart_of_starts h (isRow := fun d => d.type = 0xD && decide (s.snaps.length < 4)) (by simp [htype, hfew])
  refine show execSnapshot q s = _ from act_became ((hrun _).trans (congrArg Host.Outcome.next (if_neg ?_)))
  rw [show (s.start q d).descBad q d _ = _ from hok, decide_eq_false hkind, decide_eq_false (not_not.2 halign), decide_eq_false (Nat.not_lt.2 hlen)]
  decide

end

theorem exec_recomputeEntry {s : State} {q : Nat} {c : Cur} {R : Recomp} {e : List (BitVec 64)} {es : List (List (BitVec 64))} (hq : q < nQueues)
    (hcur : (s.queue q).cur = some c) (hrec : (s.queue q).recomp = some R) (hkid : R.kid = none) (hentries : R.entries = e :: es)
    (hkernel : (replayDesc c.desc R e).normalKernel = true) (hok : s.kernelRefusal q (replayDesc c.desc R e) = 0) :
    exec (.recomputeEntry q) s = .next (became s ((s.addKernel q (replayDesc c.desc R e)).modQueue q fun Q => { Q with
      recomp := some { R with entries := es, kid := some s.nextId } })) := by
  refine show execRecomputeEntry q s = _ from act_became ((if_neg (not_queueCount_le hq)).trans ?_)
  rw [hrec, hcur]
  dsimp only
  rw [hkid, hentries]
  refine if_neg ?_
  rw [hkernel, hok]
  decide

/-- A snapshot one more block of which is read. -/
def snapWithBlock (S : Snap) (b : Nat) : Snap :=
  { S with read := insertNat b S.read, wanted := S.wanted.filter (· ≠ b), early := earlyBlocks S.blocks (insertNat b S.read) }

/-- A block that the copier has read and sends on. -/
def blockRead (s : Gk1) (id : Nat) (S : Snap) (b : Nat) : Gk1 :=
  { s with snaps := NMap.set s.snaps id (snapWithBlock S b) }.hasRead S.ctx (S.src + 65536 * b) 65536

/-- A block of a snapshot to the host is posted in pieces, and no other snapshot keeps it from being written. -/
theorem copyBlock_host (fuel : Nat) {s : Gk1} {id : Nat} {S : Snap} {b : Nat} {bs : List Byte} (hkind : S.kind = 0)
    (hread : s.snapRead S (sectors (S.src + 65536 * b) 65536) = .ok bs) :
    Machine.copyBlock fuel s id S b = (hostPieces (bs.length + 1) (S.w 3 + 65536 * b) bs).foldl (fun s p => s.post p.1 p.2) (blockRead s id S b) := by
  have hwrite : ∀ u : Gk1, u.snapWrite id S b bs =
      ((hostPieces (bs.length + 1) (S.w 3 + 65536 * b) bs).foldl (fun s p => s.post p.1 p.2) u, none) := fun u => by
    unfold Gk1.snapWrite
    dsimp only
    rw [hkind]
    rfl
  generalize hostPieces (bs.length + 1) (S.w 3 + 65536 * b) bs = l at hwrite ⊢
  have hone : ∀ earlier : Gk1 → Gk1, earlier (blockRead s id S b) = blockRead s id S b →
      s.copyOne earlier id S b = l.foldl (fun s p => s.post p.1 p.2) (blockRead s id S b) := fun earlier h => by
    unfold Gk1.copyOne
    rw [hread]
    dsimp only
    rw [hwrite]
    exact congrArg (fun u => l.foldl (fun s p => s.post p.1 p.2) u) h
  cases fuel with
  | zero =>
    rw [Gk1.copyBlock_zero]
    exact hone _ rfl
  | succ n =>
    rw [Gk1.copyBlock_succ]
    refine hone _ (if_pos ?_)
    rw [hkind]
    rfl

theorem exec_snapshotBlockRead {s : State} {id b : Nat} {S : Snap} (hS : NMap.get? s.snaps id = some S)
    (hnext : S.wanted = [] → ((List.range S.blocks).find? fun b => !S.read.contains b) = some b)
    (hwanted : S.wanted ≠ [] → S.wanted.head? = some b) : exec (.snapshotBlockRead id) s = .next (became s (s.copyBlock id S b)) := by
  have hb : (S.wanted.head?.orElse fun _ => (List.range S.blocks).find? fun b => !S.read.contains b) = some b := by
    by_cases h : S.wanted = []
    · rw [hnext h, h]
      rfl
    · rw [hwanted h]
      rfl
  refine show execSnapshotBlockRead id s = _ from act_became ?_
  rw [hS]
  dsimp only
  rw [hb]

theorem exec_snapshotBlockRead_host {s : State} {id b : Nat} {S : Snap} {bs : List Byte} (hS : NMap.get? s.snaps id = some S)
    (hkind : S.kind = 0) (hopen : s.linkOpen = true) (hheld : s.postHeld = [])
    (hnext : S.wanted = [] → ((List.range S.blocks).find? fun b => !S.read.contains b) = some b)
    (hwanted : S.wanted ≠ [] → S.wanted.head? = some b) (hread : s.snapRead S (sectors (S.src + 65536 * b) 65536) = .ok bs) :
    ∃ u : Gk1, exec (.snapshotBlockRead id) s = .next (became s { u with posted := u.posted ++ hostPieces (bs.length + 1) (S.w 3 + 65536 * b) bs }) ∧
      u.snaps = NMap.set s.snaps id (snapWithBlock S b) ∧ u.posted = s.posted ∧ u.dram = s.dram := by
  obtain ⟨hsnaps, hposted, hheld', hopen', hdram, -, -⟩ := hasRead_rest { s.toGk1 with snaps := NMap.set s.snaps id (snapWithBlock S b) }
    S.ctx (S.src + 65536 * b) 65536
  refine ⟨blockRead s.toGk1 id S b, ?_, hsnaps, hposted, hdram⟩
  rw [exec_snapshotBlockRead hS hnext hwanted, Gk1.copyBlock, copyBlock_host _ hkind hread,
    Gk1.posts_open (s := blockRead s.toGk1 id S b) (hopen'.trans hopen) (hheld'.trans hheld)]

theorem exec_snapshotDone {s : State} {id : Nat} {S : Snap} (hS : NMap.get? s.snaps id = some S) (hread : S.blocks ≤ S.read.length)
    (hlanded : ∀ m ∈ s.msgs, m.2.rid = id → m.2.core ≠ noCore) : exec (.snapshotDone id) s = .next (became s
      (Gk1.signalFence { s.toGk1 with snaps := NMap.erase s.snaps id } S.ctx S.fence (S.w 5) S.queue)) := by
  refine show execSnapshotDone id s = _ from act_became ?_
  rw [hS]
  refine if_neg ?_
  have hnone : s.msgs.any (fun m => decide (m.2.rid = id) && decide (m.2.core = noCore)) = false := by
    rw [List.any_eq_false]
    intro m hm
    simpa using hlanded m hm
  rw [hnone, decide_eq_false (Nat.not_lt.2 hread)]
  decide

/-- Settles O44. -/
theorem plansRecomputeAndSnapshots : Obligations.PlansRecomputeAndSnapshots := by
  unfold Obligations.PlansRecomputeAndSnapshots
  refine ⟨fun s q d h htype => ⟨fun hop hok => ⟨fun hplan => ?_, fun hplan halign hcap => ?_⟩, fun hop hok => ⟨fun hplan => ?_, fun P hplan hseg => ?_⟩,
    fun hop hok => ⟨fun hplan => ?_, fun P s2 hplan hsnap hwrite => ?_⟩⟩, fun s q d h htype hok => ⟨fun hentries => ?_, fun e es hentries => ?_⟩,
    fun s q c R e es hq hcur hrec hkid hentries hkernel hok => ?_, fun s q d h htype hfew hok hkind halign hlen => ?_,
    fun s id b S bs hS hkind hopen hheld hnext hwanted hread => ?_, fun s id S hS hread hlanded => exec_snapshotDone hS hread hlanded⟩
  · have hexec := exec_planOpen h htype hop hok
    rw [if_pos (by simp [Option.isSome_iff_ne_none.2 hplan])] at hexec
    exact ⟨_, hexec, completed_finish_start h _, (plan_finish _ q d _).trans (plan_start s.toGk1 q d)⟩
  · have hexec := exec_planOpen h htype hop hok
    rw [if_neg (by simp [hplan, halign, hcap])] at hexec
    exact ⟨_, hexec, completed_planned h _ _, Gk1.finish_dram _ _ _ _, plan_planned s.toGk1 q d _ _⟩
  · have hexec := exec_planMark h htype hop hok
    rw [marked, hplan] at hexec
    exact ⟨_, hexec, completed_finish_start h _⟩
  · have hexec := exec_planMark h htype hop hok
    rw [marked, hplan] at hexec
    dsimp only at hexec
    rw [if_neg (by omega)] at hexec
    exact ⟨_, hexec, completed_planned h _ _, plan_planned s.toGk1 q d _ _, Gk1.finish_dram _ _ _ _⟩
  · have hexec := exec_planClose h htype hop hok (by rw [Gk1.closeWait, hplan])
    rw [planClosed, hplan] at hexec
    exact ⟨_, hexec, completed_finish_start h _⟩
  · have hwait : s.closeWait q d = none := by
      rw [Gk1.closeWait, hplan]
      dsimp only
      rw [if_neg (by rw [hok]; decide), List.findSome?_eq_none_iff]
      exact hsnap
    have hexec := exec_planClose h htype hop hok hwait
    rw [planClosed, hplan] at hexec
    dsimp only at hexec
    have hwrite' : (planned s.toGk1 q d none).writeRange ((planned s.toGk1 q d none).qctx q) ((planned s.toGk1 q d none).qEnforced q)
      (sectors P.va 64) P.header = (s2, none) := hwrite
    rw [hwrite'] at hexec
    refine ⟨hexec, ?_⟩
    have hqueues : s2.queues = (planned s.toGk1 q d none).queues := congrArg (fun r => r.1.queues) hwrite' ▸ (writeRange_queues _ _ _ _ _)
    rw [Gk1.queue, hqueues]
    exact congrArg Queue.plan ((Gk1.queue_modQueue (s.start q d) q q _).trans (if_pos rfl))
  · obtain ⟨u, hqueues, htime, hdram, hnone, -⟩ := exec_recompute h htype hok
    exact ⟨_, hnone hentries, completed_finish_of_starts h (congrArg (fun m : NMap Queue => NMap.getD m q {}) hqueues) htime _,
      (Gk1.finish_dram _ _ _ _).trans hdram⟩
  · obtain ⟨u, hqueues, -, hdram, -, hsome⟩ := exec_recompute h htype hok
    have hqueue : u.queue q = (s.start q d).queue q := congrArg (fun m : NMap Queue => NMap.getD m q {}) hqueues
    refine ⟨_, hsome e es hentries, ?_, hdram, ?_⟩
    · rw [queue_became, Gk1.queue_modQueue, if_pos rfl, hqueue]
      exact cur_start s.toGk1 q d
    · rw [queue_became, Gk1.queue_modQueue, if_pos rfl]
  · refine ⟨_, exec_recomputeEntry hq hcur hrec hkid hentries hkernel hok, ?_, (NMap.get?_set ..).trans (if_pos rfl), rfl⟩
    rw [queue_became, Gk1.queue_modQueue, if_pos rfl]
  · refine ⟨_, exec_snapshot h htype hfew hok hkind halign hlen, completed_finish_of_starts (t := snapping s.toGk1 q d) h rfl rfl _,
      Gk1.finish_dram _ _ _ _, ?_⟩
    exact (congrArg (NMap.get? · s.nextId) (Gk1.finish_snaps (snapping s.toGk1 q d) q d {})).trans ((NMap.get?_set ..).trans (if_pos rfl))
  · obtain ⟨u, hexec, hsnaps, hposted, hdram⟩ := exec_snapshotBlockRead_host hS hkind hopen hheld hnext hwanted hread
    refine ⟨_, snapWithBlock S b, hexec, (congrArg (NMap.get? · id) hsnaps).trans ((NMap.get?_set ..).trans (if_pos rfl)), rfl, ?_, ?_, hdram⟩
    · simp [snapWithBlock]
    · exact congrArg (· ++ _) hposted

end Sys2Proof.Claims

/-! What the engines that move bytes leave alone: copiers, exchange senders and their faults. -/

namespace Sys2Proof.Machine

/-- What no engine that moves bytes changes: queues, time, jobs, kernels, held work, power, registers, cores and clusters. -/
def bulkRest (s : Gk1) :=
  (s.queues, s.dtime, s.jobs, s.kernels, s.held, s.power, s.line, s.regs, s.part, s.cores, s.clusters)

/-- The buckets as well. -/
def copyRest (s : Gk1) := (bulkRest s, s.buckets)

namespace Gk1

variable (s : Gk1)

theorem post_copyRest (a : Nat) (bs : List Byte) : copyRest (s.post a bs) = copyRest s := by
  unfold Gk1.post
  split <;> rfl

theorem report_copyRest (r : Report) : copyRest (s.report r) = copyRest s := by
  obtain ⟨_, _, _, _, _, h⟩ := s.report_eq r
  rw [h]
  rfl

theorem trace_copyRest (kind ctx queue unit : Nat) (data : List Byte) : copyRest (s.trace kind ctx queue unit data) = copyRest s := by
  obtain ⟨_, _, _, h⟩ := s.trace_eq kind ctx queue unit data
  rw [h]
  rfl

theorem countCtx_copyRest (c i n : Nat) : copyRest (s.countCtx c i n) = copyRest s := by
  unfold Gk1.countCtx
  split <;> rfl

theorem sendPacket_copyRest (p : Packet) : copyRest (s.sendPacket p).1 = copyRest s := by
  obtain ⟨_, _, h⟩ := s.sendPacket_eq p
  rw [h]
  rfl

theorem sendPeer_copyRest (id : Nat) (m : Msg) : copyRest (s.sendPeer id m) = copyRest s :=
  s.sendPacket_copyRest (s.packetOf id m)

theorem sendKept_copyRest (p : Packet) : copyRest (s.sendKept p) = copyRest s := by
  unfold Gk1.sendKept
  dsimp only
  split
  · exact s.sendPacket_copyRest p
  · rfl

theorem reply_copyRest (p : Packet) (result status : Nat) (bs : List Byte) : copyRest (s.reply p result status bs) = copyRest s :=
  s.sendKept_copyRest _

end Gk1

theorem MemoryOnly.copyRest {s t : Gk1} (h : MemoryOnly s t) : copyRest t = copyRest s := by
  obtain ⟨_, _, _, _, rfl⟩ := h
  rfl

namespace Gk1

variable (s : Gk1)

theorem writeVA_copyRest {s t : Gk1} {c va : Nat} {enforced : Bool} {bytes : List Byte} (h : s.writeVA c enforced va bytes = .ok t) :
    copyRest t = copyRest s := by
  unfold Gk1.writeVA at h
  split at h
  · cases h
  · cases h
    exact s.post_copyRest _ _
  · split at h
    · cases h
    · exact (MemoryOnly.poke s h).copyRest

theorem writeRange_copyRest (c : Nat) (enforced : Bool) (ps : List (Nat × Nat)) (bs : List Byte) :
    copyRest (s.writeRange c enforced ps bs).1 = copyRest s := by
  induction ps generalizing s bs with
  | nil => rfl
  | cons p ps ih =>
    unfold Gk1.writeRange
    split
    · rfl
    · next t h => exact (ih t _).trans (writeVA_copyRest h)

theorem abandonFence_copyRest (c n : Nat) : copyRest (s.abandonFence c n) = copyRest s :=
  ((MemoryOnly.putCb s c (fenceOfs n 0) (2 ^ 64 - 1)).trans (MemoryOnly.putCb _ c (fenceOfs n 1) _)).copyRest

theorem bulkFault_copyRest (q code addr : Nat) : copyRest (s.bulkFault q code addr) = copyRest s :=
  (report_copyRest _ _).trans (s.countCtx_copyRest _ _ _)

theorem failSnap_copyRest (id : Nat) (S : Snap) (code addr : Nat) : copyRest (s.failSnap id S code addr) = copyRest s := by
  have h := bulkFault_copyRest { s with snaps := NMap.erase s.snaps id } S.queue code addr
  unfold Gk1.failSnap
  extract_lets u
  split
  · exact (abandonFence_copyRest u _ _).trans h
  · exact h

theorem hasRead_copyRest (c a n : Nat) : copyRest (s.hasRead c a n) = copyRest s := s.countCtx_copyRest _ _ _

theorem hasWritten_copyRest (c a n : Nat) : copyRest (s.hasWritten c a n) = copyRest s := s.countCtx_copyRest _ _ _

theorem writePeer_copyRest (rid ctx part : Nat) (enforced : Bool) (a : Nat) (bs : List Byte) :
    copyRest (s.writePeer rid ctx part enforced a bs) = copyRest s := by
  unfold Gk1.writePeer
  refine foldl_keeps copyRest (fun s p => ?_) _ s
  exact (sendPeer_copyRest _ _ _).trans (countCtx_copyRest { s with nextId := s.nextId + 1 } _ _ _)

theorem posts_copyRest (l : List (Nat × List Byte)) : copyRest (l.foldl (fun s p => s.post p.1 p.2) s) = copyRest s :=
  foldl_keeps copyRest (fun s p => s.post_copyRest p.1 p.2) l s

theorem snapWrite_copyRest (id : Nat) (S : Snap) (b : Nat) (bs : List Byte) : copyRest (s.snapWrite id S b bs).1 = copyRest s := by
  unfold Gk1.snapWrite
  extract_lets a part
  split
  · exact s.posts_copyRest _
  · have h := s.writeRange_copyRest S.ctx S.enforced (sectors a bs.length) bs
    split
    · next heq => rwa [heq] at h
    · next heq =>
      rw [heq] at h
      exact (hasWritten_copyRest _ _ _ _).trans h
  · split
    · rfl
    · exact s.writePeer_copyRest _ _ _ _ _ _

theorem copyOne_copyRest {earlier : Gk1 → Gk1} (he : ∀ s, copyRest (earlier s) = copyRest s) (id : Nat) (S : Snap) (b : Nat) :
    copyRest (copyOne earlier s id S b) = copyRest s := by
  unfold copyOne
  split
  · exact s.failSnap_copyRest _ _ _ _
  · extract_lets read S'
    have h : ∀ bs, copyRest ((earlier ({ s with snaps := NMap.set s.snaps id S' }.hasRead S.ctx (S.src + 65536 * b) 65536)).snapWrite id S b bs).1
        = copyRest s := fun bs =>
      ((snapWrite_copyRest _ _ _ _ _).trans (he _)).trans (hasRead_copyRest { s with snaps := NMap.set s.snaps id S' } _ _ _)
    split
    · next heq => exact (congrArg (fun r => copyRest r.1) heq).symm.trans (h _)
    · next heq => exact (failSnap_copyRest _ _ _ _ _).trans ((congrArg (fun r => copyRest r.1) heq).symm.trans (h _))

theorem machine_copyBlock_copyRest (fuel : Nat) (s : Gk1) (id : Nat) (S : Snap) (b : Nat) :
    copyRest (Machine.copyBlock fuel s id S b) = copyRest s := by
  induction fuel generalizing s id S b with
  | zero =>
    rw [copyBlock_zero]
    exact copyOne_copyRest s (fun _ => rfl) id S b
  | succ fuel ih =>
    rw [copyBlock_succ]
    refine copyOne_copyRest s (fun s => ?_) id S b
    unfold copyEarlier
    split
    · rfl
    · refine foldl_keeps copyRest (fun s p => ?_) _ s
      split
      · split
        · exact ih _ _ _ _
        · rfl
      · rfl

theorem readUp_copyRest (i b : Nat) : copyRest (s.readUp i b) = copyRest s := by
  unfold Gk1.readUp
  split
  · rfl
  · split
    · exact machine_copyBlock_copyRest _ _ _ _ _
    · refine foldl_keeps copyRest (fun s k => ?_) _ s
      split
      · exact machine_copyBlock_copyRest _ _ _ _ _
      · rfl

theorem readAhead_copyRest (ctx va n : Nat) : copyRest (s.readAhead ctx va n) = copyRest s := by
  unfold Gk1.readAhead
  refine foldl_keeps copyRest (fun s p => foldl_keeps copyRest (fun s _ => ?_) _ s) _ s
  split
  · exact s.readUp_copyRest _ _
  · rfl

theorem sendExch_copyRest (key : Nat) (B : Bucket) (type dst dispatch addr tag : Nat) (payload : List Byte) :
    copyRest (s.sendExch key B type dst dispatch addr tag payload) = copyRest s := sendPeer_copyRest _ _ _

end Gk1

/-- From s to t a bucket has been worked on: at most its fault has been noted. -/
structure Gathers (key : Nat) (s t : Gk1) : Prop where
  rest : bulkRest t = bulkRest s
  bucket : ∀ B, NMap.get? s.buckets key = some B → ∃ f, NMap.get? t.buckets key = some { B with faulted := f }

theorem Gathers.trans {key : Nat} {s t u : Gk1} (h : Gathers key s t) (h' : Gathers key t u) : Gathers key s u where
  rest := h'.rest.trans h.rest
  bucket B hB := by
    obtain ⟨f, hf⟩ := h.bucket B hB
    obtain ⟨f', hf'⟩ := h'.bucket _ hf
    exact ⟨f', hf'⟩

theorem Gathers.of_copyRest {key : Nat} {s t : Gk1} (h : copyRest t = copyRest s) : Gathers key s t where
  rest := congrArg Prod.fst h
  bucket B hB := ⟨B.faulted, by rw [show t.buckets = s.buckets from congrArg Prod.snd h]; exact hB⟩

theorem Gathers.foldl {key : Nat} {α : Type} {f : Gk1 → α → Gk1} (hf : ∀ s a, Gathers key s (f s a)) (l : List α) (s : Gk1) :
    Gathers key s (l.foldl f s) := by
  induction l generalizing s with
  | nil => exact Gathers.of_copyRest rfl
  | cons a l ih => exact (hf s a).trans (ih _)

theorem Gk1.faultBucket_gathers (s : Gk1) (key code addr : Nat) : Gathers key s (s.faultBucket key code addr) := by
  unfold Gk1.faultBucket
  split
  · exact Gathers.of_copyRest rfl
  · next B hB =>
    extract_lets u
    have hu : Gathers key s u := Gathers.of_copyRest (s.countCtx_copyRest B.ctx 11 1)
    split
    · exact hu
    · refine hu.trans (Gathers.trans (t := { u with buckets := NMap.set u.buckets key { B with faulted := true } }) ⟨rfl, fun B' hB' => ?_⟩
        (Gathers.of_copyRest (Gk1.report_copyRest _ _)))
      obtain ⟨f, hf⟩ := hu.bucket B hB
      obtain rfl := Option.some.inj (hf.symm.trans hB')
      exact ⟨true, (NMap.get?_set ..).trans (if_pos rfl)⟩

theorem Gk1.contribute_gathers (s : Gk1) (key : Nat) (B : Bucket) (J : Job) (dispatch g : Nat) :
    Gathers key s (s.contribute key B J dispatch g) := by
  unfold Gk1.contribute
  extract_lets first enf a e x ef u n dst
  have hu : Gathers key s u := Gathers.of_copyRest rfl
  clear_value x ef
  split
  · exact hu.trans (u.faultBucket_gathers key _ _)
  · exact hu.trans (u.faultBucket_gathers key _ _)
  · extract_lets c v w y ps z
    have hv : Gathers key s v := hu.trans (Gathers.of_copyRest (u.countCtx_copyRest _ _ _))
    have hw : Gathers key s w.1 := by
      refine hv.trans (Gathers.of_copyRest ?_)
      dsimp only [w]
      split
      · rfl
      · exact (Gk1.writeRange_copyRest _ _ _ _ _).trans (v.readAhead_copyRest _ _ _)
    have hy : Gathers key s y := by
      refine hw.trans ?_
      dsimp only [y]
      split
      · exact Gk1.faultBucket_gathers _ _ _ _
      · exact Gathers.of_copyRest (Gk1.countCtx_copyRest _ _ _ _)
    refine hy.trans (Gathers.of_copyRest ((Gk1.sendExch_copyRest _ _ _ _ _ _ _ _ _).trans ?_))
    exact foldl_keeps copyRest (fun s p => s.sendExch_copyRest _ _ _ _ _ _ _ _) ps y

theorem Gk1.statusBlock_gathers (s : Gk1) (J : Job) (key queue : Nat) : Gathers key s (s.statusBlock J key queue) := by
  unfold Gk1.statusBlock
  extract_lets a bs
  have h := ((s.readAhead J.ctx a 32).writeRange_copyRest J.ctx (s.qEnforced queue) (sectors a 32) bs).trans (s.readAhead_copyRest J.ctx a 32)
  split
  · next heq =>
    rw [heq] at h
    exact Gathers.of_copyRest ((Gk1.hasWritten_copyRest _ _ _ _).trans h)
  · next heq =>
    rw [heq] at h
    exact (Gathers.of_copyRest h).trans (Gk1.faultBucket_gathers _ _ _ _)

end Sys2Proof.Machine

/-! The gradient exchange: jobs, buckets, slots, engines, and the packets of members. -/

namespace Sys2Proof.Claims

open Sys2Proof.Machine

section
variable {s t : Gk1} (h : bulkRest t = bulkRest s)
include h

theorem queues_of_bulkRest : t.queues = s.queues := congrArg (fun r => r.1) h

theorem dtime_of_bulkRest : t.dtime = s.dtime := congrArg (fun r => r.2.1) h

theorem jobs_of_bulkRest : t.jobs = s.jobs := congrArg (fun r => r.2.2.1) h

theorem regs_of_bulkRest : t.regs = s.regs := congrArg (fun r => r.2.2.2.2.2.2.2.1) h

theorem held_of_bulkRest : t.held = s.held := congrArg (fun r => r.2.2.2.2.1) h

end

theorem queue_of_queues {s t : Gk1} (h : t.queues = s.queues) (q : Nat) : t.queue q = s.queue q :=
  congrArg (fun m : NMap Queue => NMap.getD m q {}) h

theorem completed_finish_of_bulkRest {s t : Gk1} {q : Nat} {d : Desc} (h : starts s q d = true) (ht : bulkRest t = bulkRest (s.start q d)) (f : Fin_) :
    completed s (t.finish q d f) q d f :=
  completed_finish_of_starts h (queue_of_queues (queues_of_bulkRest ht) q) ((dtime_of_bulkRest ht :).trans rfl) f

/-! ## Jobs -/

/-- A job whose member table has been read. -/
def memberTableRead (s : Gk1) (q : Nat) (d : Desc) (J : Job) : Gk1 :=
  { s.start q d with free := (s.start q d).free + 1 }.hasRead J.ctx J.memberVA (4 * J.p)

theorem memberTableRead_bulkRest (s : Gk1) (q : Nat) (d : Desc) (J : Job) : bulkRest (memberTableRead s q d J) = bulkRest (s.start q d) :=
  congrArg Prod.fst (Gk1.hasRead_copyRest { s.start q d with free := (s.start q d).free + 1 } J.ctx J.memberVA (4 * J.p))

section
variable {s : State} {q : Nat} {d : Desc} (h : starts s.toGk1 q d = true) (htype : d.type = 8)
include h htype

theorem exec_jobCreate_refused (hcreate : (d.w 0).testBit 44 = false)
    (hbad : s.descBad q d jobMasks = true ∨ NMap.has s.jobs d.job = true ∨ Job.bad { ctx := s.qctx q, q := d.q, members := [] } = true) :
    exec (.jobCreate q) s = .next (became s ((s.start q d).finish q d { status := 1 })) := by
  have hrun := onStart_of_starts h (isRow := fun d => d.type = 8 && !(d.w 0).testBit 44) (by simp [htype, hcreate])
  refine show execJobCreate q s = _ from act_became ((hrun _).trans (congrArg Host.Outcome.next (if_pos ?_)))
  rw [show (s.start q d).descBad q d jobMasks = s.descBad q d jobMasks from rfl]
  obtain h | h | h := hbad
  · rw [h]
    rfl
  · rw [show (s.start q d).jobs = s.jobs from rfl, h, Bool.or_true]
    rfl
  · rw [show Job.bad { ctx := (s.start q d).qctx q, q := d.q, members := [] } = true from h, Bool.or_true]

theorem exec_jobCreate {J : Job} (hJ : J = { ctx := s.qctx q, q := d.q, members := [] }) (hcreate : (d.w 0).testBit 44 = false)
    (hok : s.descBad q d jobMasks = false) (hnew : NMap.has s.jobs d.job = false) (hgood : J.bad = false) (hqcw : J.qcwBad = false) {bs : List Byte}
    (hread : (s.start q d).readRange (s.qctx q) (s.qEnforced q) (sectors J.memberVA (4 * J.p)) = .ok bs)
    (hself : (words4 bs J.p).getD J.rank 0 = s.self) (hdup : (words4 bs J.p).eraseDups.length = (words4 bs J.p).length) :
    exec (.jobCreate q) s = .next (became s (Gk1.finish { memberTableRead s.toGk1 q d J with
      jobs := NMap.set (memberTableRead s.toGk1 q d J).jobs d.job { J with members := words4 bs J.p } } q d {})) := by
  subst hJ
  have hrun := onStart_of_starts h (isRow := fun d => d.type = 8 && !(d.w 0).testBit 44) (by simp [htype, hcreate])
  refine show execJobCreate q s = _ from act_became ((hrun _).trans (congrArg Host.Outcome.next ((if_neg ?_).trans ?_)))
  · rw [show (s.start q d).descBad q d jobMasks = false from hok, show NMap.has (s.start q d).jobs d.job = false from hnew,
      show Job.bad { ctx := (s.start q d).qctx q, q := d.q, members := [] } = false from hgood]
    decide
  · dsimp only
    split
    · next e he => exact absurd ((show (s.start q d).readRange (s.qctx q) (s.qEnforced q) _ = .error e from he).symm.trans hread) (by simp)
    · next bs' hb =>
      obtain rfl := Except.ok.inj ((show (s.start q d).readRange (s.qctx q) (s.qEnforced q) _ = .ok bs' from hb).symm.trans hread)
      refine (if_neg ?_).trans ((if_neg ?_).trans rfl)
      · have hregs := regs_of_bulkRest (memberTableRead_bulkRest s.toGk1 q d { ctx := s.qctx q, q := d.q, members := [] })
        have hself' : (memberTableRead s.toGk1 q d { ctx := s.qctx q, q := d.q, members := [] }).self = s.self := by
          rw [Gk1.self, Gk1.reg, hregs]
          rfl
        rw [Bool.or_eq_true, not_or, decide_eq_true_eq, decide_eq_true_eq, not_not, not_not]
        exact ⟨hself.trans hself'.symm, hdup⟩
      · exact Bool.eq_false_iff.1 hqcw

theorem exec_jobDestroy {J : Job} (hdestroy : (d.w 0).testBit 44 = true) (hidle : s.inFlight d.job = []) (hJ : NMap.get? s.jobs d.job = some J)
    (hok : s.descBad q d jobMasks = false) (hctx : J.ctx = s.qctx q) :
    exec (.jobDestroy q) s = .next (became s (Gk1.finish { s.start q d with jobs := NMap.erase s.jobs d.job } q d {})) := by
  have hrun := onStart_of_starts h (isRow := fun d => d.type = 8 && (d.w 0).testBit 44 && (s.inFlight d.job).isEmpty) (by
    simp [htype, hdestroy, hidle])
  refine show execJobDestroy q s = _ from act_became ((hrun _).trans (congrArg Host.Outcome.next ?_))
  rw [show NMap.get? (s.start q d).jobs d.job = some J from hJ]
  refine if_neg ?_
  rw [show (s.start q d).descBad q d jobMasks = false from hok, show J.ctx = (s.start q d).qctx q from hctx]
  simp

end

/-! ## Buckets -/

/-- The bucket that a BUCKET_READY puts in flight. -/
def newBucket (s : Gk1) (q : Nat) (d : Desc) (J : Job) : Bucket := {
  job := d.job, ctx := J.ctx, queue := q, number := d.bucket, step := fld (d.w 1) 32 32
  src := if fld (d.w 2) 0 52 = 0 then J.gradVA + 16384 * (d.bucket * J.bchunk) else fld (d.w 2) 0 52
  hp := fld (d.w 3) 0 52, fence := fld (d.w 4) 0 24, value := d.q.getD 5 0, started := s.dtime }

/-- The part with a new bucket, of which no contribution has been formed. -/
def withBucket (s : Gk1) (B : Bucket) : Gk1 := { s with buckets := NMap.set s.buckets s.nextId B, nextId := s.nextId + 1 }

section
variable {s : State} {q : Nat} {d : Desc} (h : starts s.toGk1 q d = true) (hmine : s.myBucket q d = true)
include h hmine

theorem exec_bucketReady_unknown (hnone : NMap.get? s.jobs d.job = none) :
    exec (.bucketReady q) s = .next (became s ((s.start q d).finish q d { status := 1 })) := by
  refine show execBucketReady q s = _ from act_became ((onStart_of_starts h (isRow := fun d => s.myBucket q d) hmine _).trans
    (congrArg Host.Outcome.next ?_))
  unfold Gk1.startBucket
  rw [show NMap.get? (s.start q d).jobs d.job = none from hnone]
  rfl

theorem exec_bucketReady {J : Job} (hJ : NMap.get? s.jobs d.job = some J)
    (hok : s.descBad q d [span 32 13, span 0 64, span 0 52, span 0 52, span 0 24, span 0 64] = false) (hctx : J.ctx = s.qctx q)
    (hchunks : J.chunksOf d.bucket ≠ []) (hfree : s.bucketOf d.job d.bucket = none) (hsrc : fld (d.w 2) 0 52 ≠ 0 ∨ J.gradVA ≠ 0)
    (hhp : fld (d.w 3) 0 52 % 64 = 0) : exec (.bucketReady q) s = .next (became s
      (((J.chunksOf d.bucket).foldl (fun u g => u.contribute s.nextId (newBucket s.toGk1 q d J) J 0 g)
        (withBucket (s.start q d) (newBucket s.toGk1 q d J))).finish q d {})) := by
  refine show execBucketReady q s = _ from act_became ((onStart_of_starts h (isRow := fun d => s.myBucket q d) hmine _).trans
    (congrArg Host.Outcome.next ?_))
  unfold Gk1.startBucket
  rw [show NMap.get? (s.start q d).jobs d.job = some J from hJ]
  refine (if_neg ?_).trans rfl
  rw [show (s.start q d).descBad q d _ = false from hok, show J.ctx = (s.start q d).qctx q from hctx,
    show (s.start q d).bucketOf d.job d.bucket = none from hfree]
  obtain hs | hg := hsrc
  · simp [hchunks, hhp, hs]
  · simp [hchunks, hhp, hg]

end

/-- Contributions of several chunks of one bucket. -/
theorem contributes_gathers (key : Nat) (B : Bucket) (J : Job) (n : Nat) (l : List Nat) (s : Gk1) :
    Gathers key s (l.foldl (fun u g => u.contribute key B J n g) s) :=
  Gathers.foldl (fun s g => s.contribute_gathers key B J n g) l s

theorem exec_slotReserve {s : State} {key : Nat} {B : Bucket} {J : Job} (hB : NMap.get? s.buckets key = some B)
    (hJ : NMap.get? s.jobs B.job = some J) (hres : B.reserved = false) (hfirst : s.slotsBefore key = false)
    (hroom : ((s.wantedSlots B J).any fun c => decide (engineSlots < s.slotsUsed c.engine + ((s.wantedSlots B J).filter fun x =>
      x.engine = c.engine).length)) = false) :
    exec (.slotReserve key) s = .next (became s { s.toGk1 with
      buckets := NMap.set s.buckets key { B with reserved := true, chunks := s.wantedSlots B J } }) := by
  refine show execSlotReserve key s = _ from act_became ?_
  rw [hB]
  dsimp only
  rw [hJ]
  refine if_neg ?_
  rw [hres, hfirst, hroom]
  decide

/-- The part after a bucket's fence has been abandoned. -/
def bucketAbandoned (s : Gk1) (B : Bucket) : Gk1 :=
  match s.fenceRef B.ctx B.fence with
  | some (.local_ c n) => s.abandonFence c n
  | _ => s

theorem bucketAbandoned_rest (s : Gk1) (B : Bucket) : copyRest (bucketAbandoned s B) = copyRest s := by
  unfold bucketAbandoned
  split
  · exact s.abandonFence_copyRest _ _
  · rfl

/-- A job one of whose buckets has timed out. -/
def timedOut (J : Job) : Job := { J with timeouts := (J.timeouts + 1) % 2 ^ 32 }

/-- The part whose job has counted the time-out of a bucket. -/
def withTimeout (s : Gk1) (B : Bucket) (J : Job) : Gk1 :=
  { bucketAbandoned s B with jobs := NMap.set (bucketAbandoned s B).jobs B.job (timedOut J) }

theorem exec_bucketTimeout {s : State} {key : Nat} {B : Bucket} {J : Job} (hB : NMap.get? s.buckets key = some B)
    (hJ : NMap.get? s.jobs B.job = some J) (hlate : B.started + J.btime ≤ s.dtime) :
    ∃ t, exec (.bucketTimeout key) s = .next t ∧ NMap.get? t.buckets key = none ∧ NMap.get? t.jobs B.job = some (timedOut J) := by
  have hgathers := (withTimeout s.toGk1 B J).statusBlock_gathers (timedOut J) key B.queue
  refine ⟨_, show execBucketTimeout key s = _ from act_became (p := ((((withTimeout s.toGk1 B J).statusBlock (timedOut J) key B.queue).dropBucket
    key).report { kind := 10, status := 3, ctx := B.ctx, queue := B.queue, unit := B.job }).trace 8 B.ctx B.queue B.job
      (leBytes 4 B.number ++ leBytes 1 1)) ?_, ?_, ?_⟩
  · rw [hB]
    dsimp only
    rw [hJ]
    exact if_neg (Nat.not_lt.2 hlate)
  · refine (congrArg (NMap.get? · key) ((Gk1.trace_buckets ..).trans (Gk1.report_buckets ..))).trans ?_
    exact (NMap.get?_erase ..).trans (if_pos rfl)
  · refine (congrArg (NMap.get? · B.job) ((Gk1.trace_jobs ..).trans (Gk1.report_jobs ..))).trans ?_
    refine (congrArg (NMap.get? · B.job) (jobs_of_bulkRest hgathers.rest)).trans ?_
    exact (NMap.get?_set ..).trans (if_pos rfl)

/-! ## A failed engine -/

/-- A chunk that another engine takes over. -/
def movedTo (e n : Nat) (c : Chunk) : Chunk := if c.engine = e then { c with engine := n } else c

/-- A bucket whose chunks a failed engine held is dispatched again. -/
def rehomed (e n : Nat) (s : Gk1) (b : Nat × Bucket) : Gk1 :=
  match NMap.get? s.jobs b.2.job with
  | some J => s.redispatch b.1 { b.2 with chunks := b.2.chunks.map (movedTo e n) } J
  | none => s

theorem redispatch_rest (s : Gk1) (key : Nat) (B : Bucket) (J : Job) : bulkRest (s.redispatch key B J) = bulkRest s ∧
    (s.redispatch key B J).buckets = NMap.set s.buckets key
      { B with dispatch := (B.dispatch + 1) % 256, chunks := B.chunks.map fun c => { chunk := c.chunk, engine := c.engine } } := by
  unfold Gk1.redispatch
  extract_lets n B' u
  have h := foldl_keeps copyRest (fun (s : Gk1) m => s.sendExch_copyRest key B' 0x15 m n 0 (exchTag (B'.number * J.bchunk) 0) []) J.members u
  exact ⟨congrArg Prod.fst h, congrArg Prod.snd h⟩

/-- No chunk of the bucket is in the engine. -/
def clearOf (e : Nat) (B : Bucket) : Prop := ∀ c ∈ B.chunks, c.engine ≠ e

theorem clearOf_redispatched {e n : Nat} (hne : n ≠ e) (B : Bucket) (k : Nat) :
    clearOf e { B with dispatch := k, chunks := (B.chunks.map (movedTo e n)).map fun c => { chunk := c.chunk, engine := c.engine } } := by
  intro c hc
  obtain ⟨c1, hc1, rfl⟩ := List.mem_map.1 hc
  obtain ⟨c0, -, rfl⟩ := List.mem_map.1 hc1
  change (movedTo e n c0).engine ≠ e
  unfold movedTo
  split
  · exact hne
  · next h => exact h

/-- Buckets that are dispatched again one after the other are all clear of the engine; the others stay. -/
theorem rehomed_foldl {e n : Nat} (hne : n ≠ e) (l : List (Nat × Bucket)) {s : Gk1} (hjobs : ∀ b ∈ l, NMap.has s.jobs b.2.job = true) :
    bulkRest (l.foldl (rehomed e n) s) = bulkRest s ∧
    ∀ key B, NMap.get? (l.foldl (rehomed e n) s).buckets key = some B →
      clearOf e B ∨ NMap.get? s.buckets key = some B ∧ ∀ b ∈ l, b.1 ≠ key := by
  induction l generalizing s with
  | nil => exact ⟨rfl, fun key B h => .inr ⟨h, fun b hb => absurd hb List.not_mem_nil⟩⟩
  | cons b l ih =>
    obtain ⟨J, hJ⟩ := Option.isSome_iff_exists.1 (hjobs b List.mem_cons_self)
    have hstep : rehomed e n s b = s.redispatch b.1 { b.2 with chunks := b.2.chunks.map (movedTo e n) } J := by
      rw [rehomed, hJ]
    obtain ⟨hrest, hbuckets⟩ := redispatch_rest s b.1 { b.2 with chunks := b.2.chunks.map (movedTo e n) } J
    rw [← hstep] at hrest hbuckets
    obtain ⟨hrest', hall⟩ := ih (s := rehomed e n s b) (fun b' hb' => by
      rw [jobs_of_bulkRest hrest]
      exact hjobs b' (List.mem_cons_of_mem _ hb'))
    refine ⟨hrest'.trans hrest, fun key B h => ?_⟩
    obtain hclear | ⟨hget, hout⟩ := hall key B h
    · exact .inl hclear
    · rw [hbuckets, NMap.get?_set] at hget
      split at hget
      · obtain rfl := Option.some.inj hget
        exact .inl (clearOf_redispatched hne b.2 _)
      · next hkey =>
        refine .inr ⟨hget, fun b' hb' => ?_⟩
        obtain rfl | hb' := List.mem_cons.1 hb'
        · exact hkey
        · exact hout b' hb'

theorem engineFor_ne {s : Gk1} {e x n : Nat} (h : s.engineFor x = some n) (he : e ∈ s.held.engines) : n ≠ e := by
  rintro rfl
  have := List.find?_some h
  simp [he] at this

theorem mem_of_get? {α : Type} {m : NMap α} {k : Nat} {v : α} (h : NMap.get? m k = some v) : (k, v) ∈ m := by
  induction m with
  | nil => cases h
  | cons e m ih =>
    by_cases he : e.1 = k
    · obtain rfl : e.2 = v := by simpa [NMap.get?, he] using h
      rw [← he]
      exact List.mem_cons_self
    · exact List.mem_cons_of_mem _ (ih (by simpa [NMap.get?, he] using h))

/-- The part with a failed engine, reported. -/
def engineFailed (s : Gk1) (e : Nat) : Gk1 :=
  { s with held := { s.held with engines := s.held.engines ++ [e] } }.report { kind := 14, unit := e }

theorem exec_engineFault {s : State} {e n : Nat} (he : e < nEngines) (hnew : e ∉ s.held.engines)
    (hn : (engineFailed s.toGk1 e).engineFor e = some n) : exec (.engineFault e) s = .next (became s
      (((engineFailed s.toGk1 e).buckets.filter fun b => b.2.chunks.any fun c => c.engine = e).foldl (rehomed e n) (engineFailed s.toGk1 e))) := by
  refine show execEngineFault e s = _ from act_became ((if_neg (Nat.not_le.2 he)).trans ((if_neg (by simpa using hnew)).trans ?_))
  dsimp only
  split
  · next h => exact absurd ((show (engineFailed s.toGk1 e).engineFor e = none from h).symm.trans hn) (by simp)
  · next h =>
    obtain rfl := Option.some.inj ((show (engineFailed s.toGk1 e).engineFor e = some _ from h).symm.trans hn)
    rfl

theorem engineFault_effect {s : Gk1} {e n : Nat} (hn : s.engineFor e = some n) (he : e ∈ s.held.engines)
    (hjobs : ∀ b ∈ s.buckets, NMap.has s.jobs b.2.job = true) :
    let t := (s.buckets.filter fun b => b.2.chunks.any fun c => c.engine = e).foldl (rehomed e n) s
    t.held = s.held ∧ (∀ key B, NMap.get? t.buckets key = some B → clearOf e B) ∧ t.dram = s.dram := by
  obtain ⟨hrest, hall⟩ := rehomed_foldl (engineFor_ne hn he) (s.buckets.filter fun b => b.2.chunks.any fun c => c.engine = e) (s := s)
    fun b hb => hjobs b (List.mem_of_mem_filter hb)
  refine ⟨held_of_bulkRest hrest, fun key B h => ?_, ?_⟩
  · obtain hclear | ⟨hget, hout⟩ := hall key B h
    · exact hclear
    · intro c hc hce
      refine hout (key, B) (List.mem_filter.2 ⟨mem_of_get? hget, ?_⟩) rfl
      exact List.any_eq_true.2 ⟨c, hc, by simpa using hce⟩
  · refine foldl_dram (fun s b => ?_) _ s
    unfold rehomed
    split
    · exact Gk1.redispatch_dram _ _ _ _
    · rfl

/-! ## Packets of members -/

section
variable (port : Nat) (p : Packet)

theorem hop_h1 : (hop port p).h1 = p.h1 := by
  unfold hop
  split <;> rfl

theorem hop_h2 : (hop port p).h2 = p.h2 := by
  unfold hop
  split <;> rfl

theorem hop_h3 : (hop port p).h3 = p.h3 := by
  unfold hop
  split <;> rfl

theorem hop_payload : (hop port p).payload = p.payload := by
  unfold hop
  split <;> rfl

theorem pSrc_hop : pSrc (hop port p) = pSrc p := by rw [pSrc, hop_h1, pSrc]

theorem pEpoch_hop : pEpoch (hop port p) = pEpoch p := by rw [pEpoch, hop_h1, pEpoch]

theorem pAddr_hop : pAddr (hop port p) = pAddr p := by rw [pAddr, hop_h2, pAddr]

theorem pJob_hop : pJob (hop port p) = pJob p := by rw [pJob, hop_h2, pJob]

theorem tagChunk_hop : tagChunk (hop port p) = tagChunk p := by rw [tagChunk, pTag, hop_h3, tagChunk, pTag]

theorem tagIndex_hop : tagIndex (hop port p) = tagIndex p := by rw [tagIndex, pTag, hop_h3, tagIndex, pTag]

theorem pWord_hop (n : Nat) : pWord (hop port p) n = pWord p n := by rw [pWord, hop_payload, pWord]

end

/-- A packet of a member of the job, in whatever state it is counted. -/
theorem takeExch_of_exchanged {s : Gk1} {port : Nat} {p : Packet} {J : Job} {r : Nat} (h : exchanged s port p J r) (run : Job → Nat → Gk1) :
    (s.counted port p).takeExch port (hop port p) run = run J r := by
  obtain ⟨hpart, hJ, hrank, hfrom⟩ := h
  obtain ⟨ports, hcounted⟩ := counted_eq s port p
  have hctx : (if port = selfPort then (NMap.get? s.jobs (pJob p)).map Job.ctx else s.acceptCtx (hop port p)) = some J.ctx := by
    split
    · rw [hJ]
      rfl
    · next hport => exact hfrom.resolve_left hport
  rw [hcounted]
  unfold Gk1.takeExch
  refine (if_neg hpart).trans ?_
  rw [pJob_hop, pSrc_hop]
  dsimp only
  rw [show (if port = selfPort then _ else Gk1.acceptCtx { s with ports := ports } (hop port p)) = some J.ctx from hctx, hJ]
  dsimp only
  rw [hrank]
  exact if_pos rfl

end Sys2Proof.Claims

/-! Contributions, parameters and re-dispatches of an exchange job. -/

namespace Sys2Proof.Claims

open Sys2Proof.Machine

/-! ## Chunks -/

/-- Values added one by one at distinct elements. -/
def addAll (base : Nat) (l : List (Nat × Nat)) (c : Chunk) : Chunk := l.foldl (fun c e => c.addTo (base + e.1) e.2) c

theorem addAll_rest (base : Nat) (l : List (Nat × Nat)) (c : Chunk) : (addAll base l c).chunk = c.chunk ∧ (addAll base l c).ends = c.ends ∧
    (addAll base l c).got = c.got := by
  induction l generalizing c with
  | nil => exact ⟨rfl, rfl, rfl⟩
  | cons e l ih => exact ih (c.addTo (base + e.1) e.2)

theorem addAll_acc_of_not_mem (base : Nat) {i : Nat} (l : List (Nat × Nat)) (h : ∀ e ∈ l, e.1 ≠ i) (c : Chunk) :
    NMap.getD (addAll base l c).acc (base + i) 0 = NMap.getD c.acc (base + i) 0 := by
  induction l generalizing c with
  | nil => rfl
  | cons e l ih =>
    refine (ih (fun e' he' => h e' (List.mem_cons_of_mem _ he')) _).trans ((NMap.getD_put ..).trans (if_neg ?_))
    have := h e List.mem_cons_self
    omega

theorem addAll_acc_of_mem (base : Nat) {i b : Nat} (l : List (Nat × Nat)) (hnodup : (l.map Prod.fst).Nodup) (h : (i, b) ∈ l) (c : Chunk) :
    NMap.getD (addAll base l c).acc (base + i) 0 = NMap.getD c.acc (base + i) 0 + imageOf b := by
  induction l generalizing c with
  | nil => exact absurd h List.not_mem_nil
  | cons e l ih =>
    obtain ⟨hout, hnodup'⟩ := List.nodup_cons.1 hnodup
    obtain rfl | hmem := List.mem_cons.1 h
    · refine (addAll_acc_of_not_mem base l (fun e' he' heq => hout ?_) _).trans ((NMap.getD_put ..).trans (if_pos rfl))
      exact List.mem_map.2 ⟨e', he', heq⟩
    · refine (ih hnodup' hmem _).trans (congrArg (· + imageOf b) ((NMap.getD_put ..).trans (if_neg fun heq => hout ?_)))
      rw [show e.1 = i by omega]
      exact List.mem_map.2 ⟨_, hmem, rfl⟩

theorem words4_length (bs : List Byte) (n : Nat) : (words4 bs n).length = n := by simp [words4]

theorem mem_numbered {v : List Nat} {i : Nat} (h : i < v.length) : (i, v.getD i 0) ∈ (List.range v.length).zip v := by
  refine List.mem_iff_getElem.2 ⟨i, by simpa using h, ?_⟩
  simp [List.getD_eq_getElem?_getD, h]

theorem nodup_numbered (v : List Nat) : (((List.range v.length).zip v).map Prod.fst).Nodup := by
  rw [List.map_fst_zip (by simp)]
  exact List.nodup_range

/-! ## A contribution that is taken -/

section
variable {s : Gk1} {port : Nat} {p : Packet} {J : Job} {r key : Nat} {B : Bucket} (hex : exchanged s port p J r)
  (howner : J.ownerOf (tagChunk p) = J.rank) (hB : s.bucketOf (pJob p) (tagChunk p / J.bchunk) = some (key, B))
include hex howner hB

theorem takeContrib_of_bucket (f : Job → Nat → Chunk → Chunk) : (s.counted port p).takeContrib port (hop port p) f =
    if (!B.reserved) = true then (s.counted port p).reply (hop port p) 1 0 []
    else if (decide (B.dispatch ≠ pEpoch p) || B.applied) = true then (s.counted port p).reply (hop port p) 0 0 []
    else ((s.counted port p).reply (hop port p) 0 0 []).judgeBucket key (B.modChunk (tagChunk p) (f J r)) J := by
  obtain ⟨ports, hcounted⟩ := counted_eq s port p
  unfold Gk1.takeContrib
  rw [takeExch_of_exchanged hex, tagChunk_hop, pJob_hop, pEpoch_hop]
  refine (if_neg (not_not.2 howner)).trans ?_
  rw [show (s.counted port p).bucketOf (pJob p) (tagChunk p / J.bchunk) = some (key, B) by rw [hcounted]; exact hB]

end

/-- A bucket none of whose chunks is complete waits for more. -/
theorem judgeBucket_waits {s : Gk1} {key : Nat} {B : Bucket} {J : Job} {c : Chunk} (hc : c ∈ B.chunks) (hfew : ∀ k ∈ B.chunks, k.ends.length < J.p) :
    s.judgeBucket key B J = { s with buckets := NMap.set s.buckets key B } := by
  have hfull : ∀ k ∈ B.chunks, k.full J.p = false := fun k hk => by
    have := hfew k hk
    simp [Chunk.full, show k.ends.length ≠ J.p by omega]
  have hany : (B.chunks.any fun c => c.full J.p && !c.matched) = false := by
    rw [List.any_eq_false]
    intro k hk
    simp [hfull k hk]
  have hall : (B.chunks.all fun c => c.full J.p) = false := by
    rw [List.all_eq_false]
    exact ⟨c, hc, by simp [hfull c hc]⟩
  unfold Gk1.judgeBucket
  refine (if_neg (by rw [hany]; decide)).trans (if_neg (by rw [hall]; decide))

theorem mem_modChunk {B : Bucket} {g : Nat} {c : Chunk} (hc : c ∈ B.chunks) (hg : c.chunk = g) (f : Chunk → Chunk) : f c ∈ (B.modChunk g f).chunks :=
  List.mem_map.2 ⟨c, hc, if_pos hg⟩

/-- A packet of a rank has been received for the chunk. -/
def gotOne (r : Nat) (c : Chunk) : Chunk := { c with got := NMap.set c.got r (NMap.getD c.got r 0 + 1) }

/-- What a dense contribution adds to its chunk. -/
def dense (p : Packet) (_ : Job) (r : Nat) (c : Chunk) : Chunk :=
  let v := words4 p.payload (p.payload.length / 4)
  gotOne r (addAll (128 * tagIndex p) ((List.range v.length).zip v) c)

/-- An entry of a sparse contribution. -/
def addEntry (first : Nat) (c : Chunk) (e : Nat × Nat) : Chunk :=
  let k := e.1 - (c.chunk - first) * 4096
  if (c.chunk - first) * 4096 ≤ e.1 && decide (k < 4096) then c.addTo k e.2 else c

/-- What a sparse contribution adds to its chunk. -/
def sparse (p : Packet) (J : Job) (r : Nat) (c : Chunk) : Chunk :=
  let es := (List.range (p.payload.length / 8)).map fun i =>
    (leNat ((p.payload.drop (8 * i)).take 4), leNat ((p.payload.drop (8 * i + 4)).take 4))
  gotOne r (es.foldl (addEntry (c.chunk / J.bchunk * J.bchunk)) c)

/-- What an end record adds to its chunk. -/
def ended (p : Packet) (_ : Job) (r : Nat) (c : Chunk) : Chunk :=
  { c with checks := c.checks + BitVec.ofNat 64 (pWord p 0), ends := c.ends ++ [(r, fld (pWord p 1) 48 16)] }

theorem dense_rest (p : Packet) (J : Job) (r : Nat) (c : Chunk) : (dense p J r c).chunk = c.chunk ∧ (dense p J r c).ends = c.ends ∧
    NMap.getD (dense p J r c).got r 0 = NMap.getD c.got r 0 + 1 := by
  obtain ⟨hchunk, hends, hgot⟩ := addAll_rest (128 * tagIndex p) ((List.range (words4 p.payload (p.payload.length / 4)).length).zip
    (words4 p.payload (p.payload.length / 4))) c
  refine ⟨hchunk, hends, (NMap.getD_set ..).trans ((if_pos rfl).trans ?_)⟩
  rw [hgot]

theorem dense_acc (p : Packet) (J : Job) (r : Nat) (c : Chunk) {i : Nat} (hi : i < p.payload.length / 4) :
    NMap.getD (dense p J r c).acc (128 * tagIndex p + i) 0 =
      NMap.getD c.acc (128 * tagIndex p + i) 0 + imageOf ((words4 p.payload (p.payload.length / 4)).getD i 0) :=
  addAll_acc_of_mem _ _ (nodup_numbered _) (mem_numbered (by rw [words4_length]; exact hi)) c

theorem sparse_rest (p : Packet) (J : Job) (r : Nat) (c : Chunk) : (sparse p J r c).chunk = c.chunk ∧ (sparse p J r c).ends = c.ends ∧
    NMap.getD (sparse p J r c).got r 0 = NMap.getD c.got r 0 + 1 := by
  have hentry : ∀ low (c : Chunk) e, (addEntry low c e).chunk = c.chunk ∧ (addEntry low c e).ends = c.ends ∧ (addEntry low c e).got = c.got :=
    fun low c e => by
      unfold addEntry
      extract_lets k
      split <;> exact ⟨rfl, rfl, rfl⟩
  unfold sparse
  extract_lets es
  refine ⟨foldl_keeps Chunk.chunk (fun c e => (hentry _ c e).1) es c, foldl_keeps Chunk.ends (fun c e => (hentry _ c e).2.1) es c,
    (NMap.getD_set ..).trans ((if_pos rfl).trans ?_)⟩
  rw [foldl_keeps Chunk.got (fun c e => (hentry _ c e).2.2) es c]

section
variable {s : State} {port : Nat} {p : Packet}

theorem exec_xContrib (h : delivered s.toGk1 port p 0x10 = true) : exec (.xContrib port p) s = .next (became s
    ((s.counted port p).takeContrib port (hop port p) (dense (hop port p)))) := by
  have hrow : exec (.xContrib port p) s = s.act (onPacket (· = 0x10) port p fun p s => s.takeContrib port p (dense p)) := rfl
  exact hrow.trans (act_became (onPacket_of_delivered h rfl _))

theorem exec_xContribSparse (h : delivered s.toGk1 port p 0x11 = true) : exec (.xContribSparse port p) s = .next (became s
    ((s.counted port p).takeContrib port (hop port p) (sparse (hop port p)))) := by
  have hrow : exec (.xContribSparse port p) s = s.act (onPacket (· = 0x11) port p fun p s => s.takeContrib port p (sparse p)) := rfl
  exact hrow.trans (act_became (onPacket_of_delivered h rfl _))

theorem exec_xContribEnd (h : delivered s.toGk1 port p 0x12 = true) : exec (.xContribEnd port p) s = .next (became s
    ((s.counted port p).takeContrib port (hop port p) (ended (hop port p)))) := by
  have hrow : exec (.xContribEnd port p) s = s.act (onPacket (· = 0x12) port p fun p s => s.takeContrib port p (ended p)) := rfl
  exact hrow.trans (act_became (onPacket_of_delivered h rfl _))

theorem dram_setBuckets (s : Gk1) (m : NMap Bucket) : Gk1.dram { s with buckets := m } = s.dram := rfl

/-- A contribution that its bucket takes. -/
theorem takeContrib_taken {J : Job} {r key : Nat} {B : Bucket} {c : Chunk} (hex : exchanged s.toGk1 port p J r)
    (howner : J.ownerOf (tagChunk p) = J.rank) (hB : s.bucketOf (pJob p) (tagChunk p / J.bchunk) = some (key, B))
    (hres : B.reserved = true) (hdispatch : B.dispatch = pEpoch p) (happlied : B.applied = false) (hc : c ∈ B.chunks)
    (hg : c.chunk = tagChunk p) (hfew : ∀ k ∈ B.chunks, k.ends.length + 1 < J.p) {f : Job → Nat → Chunk → Chunk}
    (hf : ∀ c, (f J r c).ends.length ≤ c.ends.length + 1) :
    ∃ u : Gk1, (s.counted port p).takeContrib port (hop port p) f = u ∧ u.dram = s.dram ∧
      NMap.get? u.buckets key = some (B.modChunk (tagChunk p) (f J r)) ∧ f J r c ∈ (B.modChunk (tagChunk p) (f J r)).chunks := by
  have hmem := mem_modChunk hc hg (f J r)
  have hfew' : ∀ k ∈ (B.modChunk (tagChunk p) (f J r)).chunks, k.ends.length < J.p := by
    intro k hk
    obtain ⟨k', hk', rfl⟩ := List.mem_map.1 hk
    have := hfew k' hk'
    split
    · have := hf k'
      omega
    · omega
  have htaken := takeContrib_of_bucket hex howner hB f
  rw [if_neg (by rw [hres]; decide), if_neg (by rw [hdispatch, happlied]; simp), judgeBucket_waits hmem hfew'] at htaken
  refine ⟨_, htaken, ?_, (NMap.get?_set ..).trans (if_pos rfl), hmem⟩
  exact (dram_setBuckets _ _).trans ((Gk1.reply_dram _ _ _ _ _).trans (Gk1.counted_dram _ _ _))

end

/-! ## Parameters -/

theorem bucketOf_of_copyRest {s t : Gk1} (h : copyRest t = copyRest s) (j b : Nat) : t.bucketOf j b = s.bucketOf j b := by
  unfold Gk1.bucketOf
  rw [show t.buckets = s.buckets from congrArg Prod.snd h]

/-- A bucket that has been told how many PARAM packets a chunk has. -/
def toldEnd (g n : Nat) (B : Bucket) : Bucket := { B with paramEnds := NMap.set B.paramEnds g n }

/-- A bucket one of whose chunks may have landed. -/
def judged (g : Nat) (B : Bucket) : Bucket := match NMap.get? B.paramEnds g with
  | some n => if n ≤ NMap.getD B.params g 0 then { B with landed := addNew B.landed g } else B
  | none => B

/-- A PARAM_END reaches its bucket. -/
def endTaken (g n key : Nat) (w : Gk1) : Gk1 := Gk1.judgeLanded { w with buckets := NMap.upd w.buckets key (toldEnd g n) } key g

/-- The part that has taken a PARAM_END. -/
def endSeen (s : Gk1) (port : Nat) (p : Packet) (key : Nat) : Gk1 :=
  endTaken (tagChunk p) (pWord p 0 % 2 ^ 16) key ((s.counted port p).reply (hop port p) 0 0 [])

/-- Bytes that have landed without a fault; the parts of the match stay closed, for the kernel not to run them. -/
theorem landed_match {x : Gk1 × Option Nat} {u : Gk1} (A : Gk1 → Nat → Gk1) (B : Gk1 → Gk1) : x = (u, none) →
    (match x with
      | (s, some e) => A s e
      | (s, none) => B s) = B u := by
  rintro rfl
  rfl

section
variable {s : State} {port : Nat} {p : Packet} {J : Job} {r : Nat} (hex : exchanged s.toGk1 port p J r)
include hex

theorem exec_xParam (h : delivered s.toGk1 port p 0x13 = true) (howner : J.ownerOf (tagChunk p) = r) {u : Gk1}
    (hland : (s.counted port p).landParam J.ctx (pAddr p) p.payload = (u, none)) (hnone : u.bucketOf (pJob p) (tagChunk p / J.bchunk) = none) :
    exec (.xParam port p) s = .next (became s ((u.countCtx J.ctx 8 p.payload.length).reply (hop port p) 0 0 [])) := by
  refine show execXParam port p s = _ from act_became ((onPacket_of_delivered h (ok := fun k => k = 0x13) rfl _).trans (congrArg Host.Outcome.next ?_))
  rw [takeExch_of_exchanged hex, tagChunk_hop, pAddr_hop, pJob_hop, hop_payload]
  refine (if_neg (not_not.2 howner)).trans ?_
  have hw := (bucketOf_of_copyRest (((u.countCtx J.ctx 8 p.payload.length).reply_copyRest (hop port p) 0 0 []).trans
    (u.countCtx_copyRest J.ctx 8 p.payload.length)) (pJob p) (tagChunk p / J.bchunk)).trans hnone
  generalize (s.counted port p).landParam J.ctx (pAddr p) p.payload = x at hland ⊢
  refine (landed_match _ _ hland).trans ?_
  generalize (u.countCtx J.ctx 8 p.payload.length).reply (hop port p) 0 0 [] = w at hw ⊢
  dsimp only
  rw [hw]

/-- A re-dispatch of a member of the job, by the bucket of its chunk. -/
theorem exec_xRedispatch (h : delivered s.toGk1 port p 0x15 = true) {t : Gk1}
    (hnone : s.bucketOf (pJob p) (tagChunk p / J.bchunk) = none → (s.counted port p).reply (hop port p) 1 0 [] = t)
    (hsome : ∀ e, s.bucketOf (pJob p) (tagChunk p / J.bchunk) = some e →
      (J.owned e.2.number r).foldl (fun s g => s.contribute e.1 e.2 J (pEpoch p) g) ((s.counted port p).reply (hop port p) 0 0 []) = t) :
    exec (.xRedispatch port p) s = .next (became s t) := by
  obtain ⟨ports, hcounted⟩ := counted_eq s.toGk1 port p
  have hbucket : (s.counted port p).bucketOf (pJob p) (tagChunk p / J.bchunk) = s.bucketOf (pJob p) (tagChunk p / J.bchunk) := by
    rw [hcounted]
    rfl
  refine show execXRedispatch port p s = _ from act_became ((onPacket_of_delivered h (ok := fun k => k = 0x15) rfl _).trans (congrArg Host.Outcome.next ?_))
  rw [takeExch_of_exchanged hex, tagChunk_hop, pJob_hop, pEpoch_hop, hbucket]
  generalize (s.counted port p).reply (hop port p) 0 0 [] = u at hsome ⊢
  generalize (s.counted port p).reply (hop port p) 1 0 [] = w at hnone ⊢
  split
  · next hn => exact hnone hn
  · next key B hB => exact hsome _ hB

theorem exec_xParamEnd (h : delivered s.toGk1 port p 0x14 = true) (howner : J.ownerOf (tagChunk p) = r) {key : Nat} {B : Bucket}
    (hB : s.bucketOf (pJob p) (tagChunk p / J.bchunk) = some (key, B)) :
    exec (.xParamEnd port p) s = .next (became s (endSeen s.toGk1 port p key)) := by
  obtain ⟨ports, hcounted⟩ := counted_eq s.toGk1 port p
  refine show execXParamEnd port p s = _ from act_became ((onPacket_of_delivered h (ok := fun k => k = 0x14) rfl _).trans (congrArg Host.Outcome.next ?_))
  rw [takeExch_of_exchanged hex, tagChunk_hop, pJob_hop, pWord_hop]
  refine (if_neg (not_not.2 howner)).trans ?_
  dsimp only
  rw [bucketOf_of_copyRest (Gk1.reply_copyRest _ _ _ _ _),
    show (s.counted port p).bucketOf (pJob p) (tagChunk p / J.bchunk) = some (key, B) by rw [hcounted]; exact hB]
  rfl

end

theorem mem_addNew_iff {l : List Nat} {x y : Nat} : y ∈ addNew l x ↔ y ∈ l ∨ y = x := by
  unfold addNew
  split
  · next h =>
    refine ⟨.inl, ?_⟩
    rintro (h' | rfl)
    · exact h'
    · exact List.contains_iff_mem.1 h
  · rw [List.mem_append, List.mem_singleton]

/-- The bucket after the judgement of a chunk that has its PARAM_END. -/
theorem judged_toldEnd (g n : Nat) (B : Bucket) : NMap.get? (judged g (toldEnd g n B)).paramEnds g = some n ∧
    (judged g (toldEnd g n B)).params = B.params ∧ (judged g (toldEnd g n B)).job = B.job ∧ (judged g (toldEnd g n B)).number = B.number ∧
    ∀ x, x ∈ (judged g (toldEnd g n B)).landed ↔ x ∈ B.landed ∨ x = g ∧ n ≤ NMap.getD B.params g 0 := by
  have hend : NMap.get? (toldEnd g n B).paramEnds g = some n := (NMap.get?_set ..).trans (if_pos rfl)
  unfold judged
  rw [hend]
  dsimp only
  split
  · next hle =>
    refine ⟨hend, rfl, rfl, rfl, fun x => mem_addNew_iff.trans ?_⟩
    exact or_congr Iff.rfl (and_iff_left hle).symm
  · next hle =>
    refine ⟨hend, rfl, rfl, rfl, fun x => ?_⟩
    exact (or_iff_left fun h => hle h.2).symm

/-- A bucket that lacks a chunk is not complete. -/
theorem tryComplete_waits {s : Gk1} {key h : Nat} {B : Bucket} {J : Job} (hB : NMap.get? s.buckets key = some B) (hJ : NMap.get? s.jobs B.job = some J)
    (hmem : h ∈ J.chunksOf B.number) (hout : h ∉ B.landed) : s.tryComplete key = s := by
  unfold Gk1.tryComplete
  rw [hB]
  dsimp only
  rw [hJ]
  refine if_pos ?_
  have hall : ((J.chunksOf B.number).all fun g => B.landed.contains g) = false := by
    rw [List.all_eq_false]
    exact ⟨h, hmem, by simpa using hout⟩
  rw [hall]
  rfl

/-- The part after a PARAM_END, from whatever state the answer leaves. -/
theorem judgeLanded_waits {w : Gk1} {key g n h : Nat} {B : Bucket} {J : Job} (hB : NMap.get? w.buckets key = some B) (hJ : NMap.get? w.jobs B.job = some J)
    (hmem : h ∈ J.chunksOf B.number) (hne : h ≠ g) (hout : h ∉ B.landed) :
    NMap.get? (endTaken g n key w).buckets key = some (judged g (toldEnd g n B)) ∧ (endTaken g n key w).dram = w.dram := by
  obtain ⟨-, -, hjob, hnumber, hlanded⟩ := judged_toldEnd g n B
  let u : Gk1 := { w with buckets := NMap.upd (NMap.upd w.buckets key (toldEnd g n)) key (judged g) }
  have hget : NMap.get? u.buckets key = some (judged g (toldEnd g n B)) := by
    refine (NMap.get?_upd ..).trans ((if_pos rfl).trans ?_)
    rw [NMap.get?_upd, if_pos rfl, hB]
    rfl
  have ht : endTaken g n key w = u := tryComplete_waits hget (by rw [hjob]; exact hJ) (by rw [hnumber]; exact hmem) (by
    rw [hlanded h]
    simp [hout, hne])
  rw [ht]
  exact ⟨hget, rfl⟩

theorem bucketOf_job {s : Gk1} {j b key : Nat} {B : Bucket} (h : s.bucketOf j b = some (key, B)) : B.job = j := by
  have := List.find?_some h
  simp only [Bool.and_eq_true, decide_eq_true_eq] at this
  exact this.1

theorem answered_rest (s : Gk1) (port : Nat) (p q : Packet) : copyRest ((s.counted port p).reply q 0 0 []) = copyRest s := by
  obtain ⟨ports, hcounted⟩ := counted_eq s port p
  exact (Gk1.reply_copyRest _ _ _ _ _).trans (by rw [hcounted]; rfl)

theorem endTaken_effect {s w : Gk1} {g n key h : Nat} {B : Bucket} {J : Job} (hrest : copyRest w = copyRest s) (hdram : w.dram = s.dram)
    (hJ : NMap.get? s.jobs B.job = some J) (hget : NMap.get? s.buckets key = some B) (hmem : h ∈ J.chunksOf B.number) (hne : h ≠ g)
    (hout : h ∉ B.landed) : NMap.get? (endTaken g n key w).buckets key = some (judged g (toldEnd g n B)) ∧ (endTaken g n key w).dram = s.dram := by
  have hget' : NMap.get? w.buckets key = some B := by
    rw [show w.buckets = s.buckets from congrArg Prod.snd hrest]
    exact hget
  have hJ' : NMap.get? w.jobs B.job = some J := by
    rw [jobs_of_bulkRest (congrArg Prod.fst hrest)]
    exact hJ
  obtain ⟨h1, h2⟩ := judgeLanded_waits (n := n) hget' hJ' hmem hne hout
  exact ⟨h1, h2.trans hdram⟩

theorem endSeen_effect {s : Gk1} {port : Nat} {p : Packet} {J : Job} {r key h : Nat} {B : Bucket} (hex : exchanged s port p J r)
    (hB : s.bucketOf (pJob p) (tagChunk p / J.bchunk) = some (key, B)) (hget : NMap.get? s.buckets key = some B)
    (hmem : h ∈ J.chunksOf B.number) (hne : h ≠ tagChunk p) (hout : h ∉ B.landed) :
    NMap.get? (endSeen s port p key).buckets key = some (judged (tagChunk p) (toldEnd (tagChunk p) (pWord p 0 % 2 ^ 16) B)) ∧
    (endSeen s port p key).dram = s.dram := by
  obtain ⟨-, hJ, -, -⟩ := hex
  exact endTaken_effect (answered_rest s port p (hop port p)) ((Gk1.reply_dram _ _ _ _ _).trans (Gk1.counted_dram _ _ _))
    (by rw [bucketOf_job hB]; exact hJ) hget hmem hne hout

theorem takeContrib_unreserved {s : State} {port : Nat} {p : Packet} {J : Job} {r key : Nat} {B : Bucket} (hex : exchanged s.toGk1 port p J r)
    (howner : J.ownerOf (tagChunk p) = J.rank) (hB : s.bucketOf (pJob p) (tagChunk p / J.bchunk) = some (key, B)) (f : Job → Nat → Chunk → Chunk) :
    (B.reserved = false → (s.counted port p).takeContrib port (hop port p) f = (s.counted port p).reply (hop port p) 1 0 []) ∧
    (B.reserved = true → B.dispatch ≠ pEpoch p →
      (s.counted port p).takeContrib port (hop port p) f = (s.counted port p).reply (hop port p) 0 0 []) := by
  have htaken := takeContrib_of_bucket hex howner hB f
  refine ⟨fun hres => htaken.trans (if_pos (by rw [hres]; rfl)), fun hres hother => htaken.trans ((if_neg (by rw [hres]; decide)).trans (if_pos ?_))⟩
  rw [decide_eq_true hother]
  rfl

/-- Each contribution row runs one function on its chunk. -/
theorem exec_contribution {s : State} {port : Nat} {p : Packet} {row : (Nat → Packet → Instr) × Nat}
    (hrow : row ∈ [(Instr.xContrib, 0x10), (Instr.xContribSparse, 0x11), (Instr.xContribEnd, 0x12)]) (h : delivered s.toGk1 port p row.2 = true) :
    ∃ f, exec (row.1 port p) s = .next (became s ((s.counted port p).takeContrib port (hop port p) f)) := by
  simp only [List.mem_cons, List.not_mem_nil, or_false] at hrow
  obtain rfl | rfl | rfl := hrow
  · exact ⟨_, exec_xContrib h⟩
  · exact ⟨_, exec_xContribSparse h⟩
  · exact ⟨_, exec_xContribEnd h⟩

/-- The job that a CREATE holds, with the completion of its descriptor. -/
theorem jobCreated_effect {s : Gk1} {q : Nat} {d : Desc} (h : starts s q d = true) (J J' : Job) :
    let t := Gk1.finish { memberTableRead s q d J with jobs := NMap.set (memberTableRead s q d J).jobs d.job J' } q d {}
    completed s t q d {} ∧ t.dram = s.dram ∧ NMap.get? t.jobs d.job = some J' := by
  have hrest := memberTableRead_bulkRest s q d J
  have hdram : (memberTableRead s q d J).dram = s.dram := Gk1.hasRead_dram _ _ _ _
  generalize memberTableRead s q d J = w at hrest hdram ⊢
  have hqueues := queues_of_bulkRest hrest
  have htime : w.dtime = (s.start q d).dtime := dtime_of_bulkRest hrest
  refine ⟨completed_finish_of_starts h (queue_of_queues (t := { w with jobs := NMap.set w.jobs d.job J' }) hqueues q) htime _,
    (Gk1.finish_dram _ _ _ _).trans hdram, ?_⟩
  rw [Gk1.finish_jobs]
  exact (NMap.get?_set ..).trans (if_pos rfl)

/-- Settles O45: descriptors and slots by the frames of the engines, packets by what each does to its chunk. -/
theorem exchange : Obligations.Exchange := by
  unfold Obligations.Exchange
  refine ⟨⟨fun s q d bs h htype hcreate => ?_, fun s q d J h htype hdestroy hidle hJ hok hctx => ?_, fun s q d h hmine => ⟨fun hnone => ?_,
      fun J hJ hok hctx hchunks hfree hsrc hhp => ?_⟩, fun s key B J hB hJ => ⟨fun hres hfirst hroom => exec_slotReserve hB hJ hres hfirst hroom,
      fun hlate => exec_bucketTimeout hB hJ hlate⟩, fun s e n he hnew hn hjobs => ?_⟩, fun s port p J r hex => ?_⟩
  · intro J
    exact ⟨fun hbad => ⟨_, exec_jobCreate_refused h htype hcreate hbad, completed_finish_start h _, Gk1.finish_jobs ..⟩,
      fun hok hnew hgood hqcw hread hself hdup => ⟨_, exec_jobCreate h htype rfl hcreate hok hnew hgood hqcw hread hself hdup,
        jobCreated_effect h J { J with members := words4 bs J.p }⟩⟩
  · refine ⟨_, exec_jobDestroy h htype hdestroy hidle hJ hok hctx, completed_finish_of_starts
      (t := { s.start q d with jobs := NMap.erase s.jobs d.job }) h rfl rfl _, ?_, Gk1.finish_dram ..⟩
    exact (congrArg (NMap.get? · d.job) (Gk1.finish_jobs ..)).trans ((NMap.get?_erase ..).trans (if_pos rfl))
  · exact ⟨_, exec_bucketReady_unknown h hmine hnone, completed_finish_start h _, Gk1.finish_buckets ..⟩
  · have hgathers := contributes_gathers s.nextId (newBucket s.toGk1 q d J) J 0 (J.chunksOf d.bucket) (withBucket (s.start q d) (newBucket s.toGk1 q d J))
    obtain ⟨f, hf⟩ := hgathers.bucket _ ((NMap.get?_set ..).trans (if_pos rfl))
    refine ⟨_, { newBucket s.toGk1 q d J with faulted := f }, exec_bucketReady h hmine hJ hok hctx hchunks hfree hsrc hhp, ?_, ?_, rfl, rfl, rfl, rfl, rfl⟩
    · exact completed_finish_of_bulkRest h hgathers.rest _
    · exact (congrArg (NMap.get? · s.nextId) (Gk1.finish_buckets ..)).trans hf
  · have hbuckets : (engineFailed s.toGk1 e).buckets = s.buckets := Gk1.report_buckets ..
    have hjobs' : (engineFailed s.toGk1 e).jobs = s.jobs := Gk1.report_jobs ..
    have hheld : (engineFailed s.toGk1 e).held = { s.held with engines := s.held.engines ++ [e] } := Gk1.report_held ..
    have hn' : (engineFailed s.toGk1 e).engineFor e = some n := by
      rw [Gk1.engineFor, hheld]
      exact hn
    obtain ⟨hheld', hclear, hdram⟩ := engineFault_effect hn' (by rw [hheld]; simp) (by rw [hbuckets, hjobs']; exact hjobs)
    exact ⟨_, exec_engineFault he hnew hn', (congrArg Held.engines hheld').trans (congrArg Held.engines hheld), hclear,
      hdram.trans (Gk1.report_dram ..)⟩
  · intro t0 q g
    refine ⟨fun row hrow hdel howner => ⟨fun key B hB hres => ?_, fun key B hB hres hother => ?_⟩,
      fun key B c hB hres hdispatch happlied howner hc hg hfew => ⟨fun hdel => ?_, fun hdel => ?_, fun hdel => ?_⟩,
      fun hdel howner s2 hland hnone => exec_xParam hex hdel howner hland hnone,
      fun key B h hdel howner hB hget hmem hne hout => ?_, fun hdel => ⟨fun hnone => ?_, fun key B hB => ?_⟩⟩
    · obtain ⟨f, hexec⟩ := exec_contribution hrow hdel
      rw [hexec, (takeContrib_unreserved hex howner hB f).1 hres]
    · obtain ⟨f, hexec⟩ := exec_contribution hrow hdel
      rw [hexec, (takeContrib_unreserved hex howner hB f).2 hres hother]
    · have hdense := dense_rest (hop port p) J r c
      obtain ⟨u, hu, hdram, hget, hmem⟩ := takeContrib_taken hex howner hB hres hdispatch happlied hc hg hfew (f := dense (hop port p))
        fun c => by rw [(dense_rest (hop port p) J r c).2.1]; omega
      refine ⟨_, _, _, (exec_xContrib hdel).trans (by rw [hu]), hget, hmem, hdense.1.trans hg, hdense.2.2, hdense.2.1, hdram, fun i hi => ?_⟩
      have hacc := dense_acc (hop port p) J r c (i := i) (by rw [hop_payload]; exact hi)
      rwa [tagIndex_hop, hop_payload] at hacc
    · have hsparse := sparse_rest (hop port p) J r c
      obtain ⟨u, hu, hdram, hget, hmem⟩ := takeContrib_taken hex howner hB hres hdispatch happlied hc hg hfew (f := sparse (hop port p))
        fun c => by rw [(sparse_rest (hop port p) J r c).2.1]; omega
      exact ⟨_, _, _, (exec_xContribSparse hdel).trans (by rw [hu]), hget, hmem, hsparse.1.trans hg, hsparse.2.2, hsparse.2.1, hdram⟩
    · obtain ⟨u, hu, hdram, hget, hmem⟩ := takeContrib_taken hex howner hB hres hdispatch happlied hc hg hfew (f := ended (hop port p))
        fun c => by simp [ended]
      refine ⟨_, _, _, (exec_xContribEnd hdel).trans (by rw [hu]), hget, hmem, hg, ?_, ?_, rfl, hdram⟩
      · rw [ended, pWord_hop]
      · rw [ended, pWord_hop, pWord_hop]
    · obtain ⟨hget', hdram⟩ := endSeen_effect hex hB hget hmem hne hout
      obtain ⟨hends, hparams, -, -, hlanded⟩ := judged_toldEnd g (pWord p 0 % 2 ^ 16) B
      refine ⟨_, _, exec_xParamEnd hex hdel howner hB, hget', hends, hparams, ?_, hdram⟩
      rw [hlanded g]
      simp
    · exact exec_xRedispatch hex hdel (fun _ => rfl) fun e he => absurd (hnone.symm.trans he) (by simp)
    · exact exec_xRedispatch hex hdel (fun hn => absurd (hB.symm.trans hn) (by simp)) fun e he => by rw [Option.some.inj (he.symm.trans hB)]

end Sys2Proof.Claims

/-! Requests of peers, and the answers to the part's own (R515, R516, R521, R538). -/

namespace Sys2Proof.Machine

theorem Gk1.sendKept_epochs (s : Gk1) (p : Packet) : (s.sendKept p).epochs = s.epochs := by
  unfold Gk1.sendKept
  obtain ⟨_, _, h⟩ := s.sendPacket_eq p
  dsimp only
  split
  · exact (congrArg Gk1.epochs h :)
  · rfl

theorem Gk1.reply_epochs (s : Gk1) (p : Packet) (result status : Nat) (bs : List Byte) : (s.reply p result status bs).epochs = s.epochs :=
  s.sendKept_epochs _

theorem Gk1.epochOf_of_epochs {s t : Gk1} (h : t.epochs = s.epochs) (m : Msg) : t.epochOf m = s.epochOf m := by
  unfold Gk1.epochOf
  rw [h]

/-- A dropped epoch entry is not found again. -/
theorem Gk1.epochOf_dropEpoch (s : Gk1) (m : Msg) : (s.dropEpoch m).epochOf m = none := by
  unfold Gk1.epochOf Gk1.dropEpoch
  refine List.find?_eq_none.2 fun e he => ?_
  simpa only [Bool.not_eq_true', Bool.not_eq_true] using (List.mem_filter.1 he).2

end Sys2Proof.Machine

namespace Sys2Proof.Claims

open Sys2Proof.Machine

/-! ## A packet of a peer is passed by its partition -/

/-- HOPS is no part of TYPE. -/
theorem pType_hop (port : Nat) (p : Packet) : pType (hop port p) = pType p := by
  unfold hop
  split
  · rfl
  · refine Nat.eq_of_testBit_eq fun i => ?_
    rw [pType, pType, testBit_fld, testBit_fld]
    by_cases hi : i < 5
    · have hbit : (hopped p).h0.toNat.testBit (0 + i) = p.h0.toNat.testBit (0 + i) := by
        rw [hopped, BitVec.toNat_ofNat, Nat.testBit_mod_two_pow, testBit_setFld, if_pos (by omega), decide_eq_true (by omega),
          Bool.true_and]
      rw [hbit]
    · simp [hi]

section
variable {s : Gk1} {port : Nat} {p : Packet}

theorem acceptCtx_counted (q : Packet) : (s.counted port p).acceptCtx q = s.acceptCtx q := by
  obtain ⟨_, h⟩ := counted_eq s port p
  rw [h]
  rfl

theorem nextId_counted : (s.counted port p).nextId = s.nextId := by
  obtain ⟨_, h⟩ := counted_eq s port p
  rw [h]

theorem part_counted : (s.counted port p).part = s.part := by
  obtain ⟨_, h⟩ := counted_eq s port p
  rw [h]

/-- A packet that no partition accepts is counted and answered REFUSED. -/
theorem passed_refused (hpart : s.part ≠ .maintenance) (hnone : s.acceptCtx (hop port p) = none) (run : Nat → Gk1) :
    (s.counted port p).passed (hop port p) run = ((s.counted port p).countDrop 2).reply (hop port p) 2 0 [] := by
  unfold Gk1.passed
  rw [if_neg (by simp [part_counted, hpart]), acceptCtx_counted, hnone]

/-- In MAINTENANCE a packet other than an EPOCH_END is answered RETRY. -/
theorem passed_maintenance (hpart : s.part = .maintenance) (htype : pType p ≠ 3) (run : Nat → Gk1) :
    (s.counted port p).passed (hop port p) run = (s.counted port p).reply (hop port p) 1 0 [] := by
  unfold Gk1.passed
  rw [if_pos (by simp [part_counted, hpart, pType_hop, htype])]

theorem passed_accepted {c : Nat} (hpart : s.part ≠ .maintenance) (hctx : s.acceptCtx (hop port p) = some c) (run : Nat → Gk1) :
    (s.counted port p).passed (hop port p) run = run c := by
  unfold Gk1.passed
  rw [if_neg (by simp [part_counted, hpart]), acceptCtx_counted, hctx]

end

/-- The type that a delivered packet has. -/
theorem pType_of_delivered {s : Gk1} {port : Nat} {p : Packet} {type : Nat} (h : delivered s port p type = true) : pType p = type := by
  simp only [delivered, Bool.and_eq_true, decide_eq_true_eq] at h
  exact h.1.1.1.2

/-! ## The four requests of peers -/

/-- A peer's WRITE that its partition accepts. -/
def takeWrite (q : Packet) (s : Gk1) (c : Nat) : Gk1 :=
  if s.epochFull (s.peerMsg q c false) then s.reply q 1 0 []
  else ((s.openEpoch (s.peerMsg q c false)).addMsg (s.peerMsg q c false)).arrive s.nextId (s.peerMsg q c false)

/-- A peer's WRITE_CLOSE that its partition accepts. -/
def takeClose (q : Packet) (s : Gk1) (c : Nat) : Gk1 := (s.addMsg (s.peerMsg q c true)).arrive s.nextId (s.peerMsg q c true)

/-- A peer's EPOCH_END that its partition accepts. -/
def takeEnd (q : Packet) (s : Gk1) (c : Nat) : Gk1 := (s.dropEpoch (s.peerMsg q c false)).reply q 0 0 []

/-- A peer's READ_REQ that its partition accepts. -/
def takeRead (q : Packet) (s : Gk1) (c : Nat) : Gk1 :=
  match s.readPeer c (sectors (pAddr q) (32 * (pLen q + 1))) with
  | .ok bs => Gk1.reply { s.countCtx c 7 (32 * (pLen q + 1)) with free := s.free + 1 } q 0 0 bs
  | .error e => s.reply q 3 e []

section
variable {s : State} {port : Nat} {p : Packet}

theorem exec_fabWrite (h : delivered s.toGk1 port p 1 = true) : exec (.fabWrite port p) s = .next (became s
    ((s.counted port p).passed (hop port p) fun c => takeWrite (hop port p) (s.counted port p) c)) :=
  show execFabWrite port p s = _ from act_became (onPacket_of_delivered h rfl _)

theorem exec_writeClose (h : delivered s.toGk1 port p 2 = true) : exec (.writeClose port p) s = .next (became s
    ((s.counted port p).passed (hop port p) fun c => takeClose (hop port p) (s.counted port p) c)) :=
  show execWriteClose port p s = _ from act_became (onPacket_of_delivered h rfl _)

theorem exec_epochEnd (h : delivered s.toGk1 port p 3 = true) : exec (.epochEnd port p) s = .next (became s
    ((s.counted port p).passed (hop port p) fun c => takeEnd (hop port p) (s.counted port p) c)) :=
  show execEpochEnd port p s = _ from act_became (onPacket_of_delivered h rfl _)

theorem exec_readReq (h : delivered s.toGk1 port p 4 = true) : exec (.readReq port p) s = .next (became s
    ((s.counted port p).passed (hop port p) fun c => takeRead (hop port p) (s.counted port p) c)) :=
  show execReadReq port p s = _ from act_became (onPacket_of_delivered h rfl _)

/-- An EPOCH_END that its partition accepts leaves no entry of its epoch. -/
theorem epochEnd_accepted {c : Nat} (h : delivered s.toGk1 port p 3 = true)
    (hpart : s.part ≠ .maintenance) (hctx : s.acceptCtx (hop port p) = some c) :
    ∃ t, exec (.epochEnd port p) s = .next t ∧ t.epochOf ((s.counted port p).peerMsg (hop port p) c false) = none ∧ t.dram = s.dram := by
  obtain ⟨u, hu⟩ : ∃ u, u = takeEnd (hop port p) (s.counted port p) c := ⟨_, rfl⟩
  have hexec := exec_epochEnd h
  rw [passed_accepted hpart hctx, ← hu] at hexec
  refine ⟨_, hexec, ?_, ?_⟩
  · refine (Gk1.epochOf_of_epochs (t := u) (s := (s.counted port p).dropEpoch ((s.counted port p).peerMsg (hop port p) c false)) ?_ _).trans
      (Gk1.epochOf_dropEpoch _ _)
    rw [hu]
    exact Gk1.reply_epochs ..
  · have hdram : u.dram = ((s.counted port p).dropEpoch ((s.counted port p).peerMsg (hop port p) c false)).dram := by
      rw [hu]
      exact Gk1.reply_dram ..
    refine hdram.trans ?_
    obtain ⟨_, hcounted⟩ := counted_eq s.toGk1 port p
    rw [hcounted]
    rfl

end

theorem takeRead_of_error {q : Packet} {s : Gk1} {c e : Nat} (h : s.readPeer c (sectors (pAddr q) (32 * (pLen q + 1))) = .error e) :
    takeRead q s c = s.reply q 3 e [] := by
  unfold takeRead
  rw [h]

theorem takeRead_of_ok {q : Packet} {s : Gk1} {c : Nat} {bs : List Byte}
    (h : s.readPeer c (sectors (pAddr q) (32 * (pLen q + 1))) = .ok bs) :
    takeRead q s c = Gk1.reply { s.countCtx c 7 (32 * (pLen q + 1)) with free := s.free + 1 } q 0 0 bs := by
  unfold takeRead
  rw [h]

/-! ## Packets that are not taken -/

/-- A packet behind an uncorrectable flit is discarded. -/
theorem onPacket_of_skip {s : Gk1} {port : Nat} {p : Packet} {ok : Nat → Bool} (hport : port < 48) (hok : ok (pType p) = true)
    (hup : s.portUp port = true) (hskip : (s.port port).skip ≠ 0) (deliver : Packet → Gk1 → Gk1) :
    onPacket ok port p deliver s = .next (s.modPort port fun P => { P with skip := P.skip - 1 }) := by
  have hself : port ≠ selfPort := Nat.ne_of_lt hport
  unfold onPacket
  refine (if_neg (Nat.not_lt.2 (Nat.le_of_lt hport))).trans ((if_neg ?_).trans (if_pos ?_))
  · rw [hok, Gk1.mayTake, if_neg hself, hup]
    decide
  · simp [hself, hskip]

theorem exec_unknownPacketType {s : State} {port : Nat} {p : Packet} (hport : port < 48) (htype : unknownType (pType p) = true)
    (hup : s.portUp port = true) (hskip : (s.port port).skip = 0) :
    exec (.unknownPacketType port p) s = .next (became s ((s.counted port p).countDrop 0)) := by
  refine show execUnknownPacketType port p s = _ from
    act_became ((if_neg (Nat.not_le.2 hport)).trans ((if_neg ?_).trans (if_neg (not_not.2 hskip))))
  rw [htype, hup]
  decide

/-! ## Answers to the part's own requests -/

/-- The part that answers is reachable (R538). -/
def heardFrom (s : Gk1) (src : Nat) : Gk1 := { s with unreachable := s.unreachable.filter (· ≠ src) }

theorem takeAnswer_done {s : Gk1} {a : Packet} {id : Nat} {m : Msg} (hres : pResult a = 0)
    (hm : (heardFrom s (pSrc a)).answeredMsg a = some (id, m)) : s.takeAnswer a = (heardFrom s (pSrc a)).peerDone id m a := by
  unfold Gk1.takeAnswer
  rw [if_neg (by omega)]
  dsimp only
  rw [show ({ s with unreachable := s.unreachable.filter (· ≠ pSrc a) } : Gk1).answeredMsg a = some (id, m) from hm]
  dsimp only
  rw [hres]
  rfl

theorem takeAnswer_retry {s : Gk1} {a : Packet} {id : Nat} {m : Msg} (hres : pResult a = 1)
    (hm : (heardFrom s (pSrc a)).answeredMsg a = some (id, m)) :
    s.takeAnswer a = (heardFrom s (pSrc a)).setMsg id { m with returned := some s.dtime } := by
  unfold Gk1.takeAnswer
  rw [if_neg (by omega)]
  dsimp only
  rw [show ({ s with unreachable := s.unreachable.filter (· ≠ pSrc a) } : Gk1).answeredMsg a = some (id, m) from hm]
  dsimp only
  rw [hres]
  rfl

/-- Data of a read whose kernel still runs there land in the core store, whatever the network sender does next (R333). -/
theorem core_deliver_pump {s : Gk1} {id : Nat} {m : Msg} (hkid : (s.core m.core).kid = some m.kid) (bs : List Byte) :
    (((s.deliver id m bs).pump m.core).core m.core).store = Mem.writeAll (s.core m.core).store m.local_ bs ∧
      (((s.deliver id m bs).pump m.core).core m.core).groups = (s.core m.core).groups := by
  obtain ⟨_, hpump⟩ := ((s.deliver id m bs).pump_sends m.core).core m.core
  have hcore : (s.deliver id m bs).core m.core = { s.core m.core with store := Mem.writeAll (s.core m.core).store m.local_ bs } := by
    unfold Gk1.deliver
    rw [if_pos hkid, Gk1.core, Gk1.performed_cores]
    exact (s.core_modCore m.core m.core fun C => { C with store := Mem.writeAll C.store m.local_ bs }).trans (if_pos rfl)
  rw [hpump, hcore]
  exact ⟨rfl, rfl⟩

/-- What a counted answer finds: the state, its port and the reachable parts apart. -/
theorem heardFrom_counted (s : Gk1) (port : Nat) (p : Packet) (src : Nat) :
    (heardFrom (s.counted port p) src).cores = s.cores ∧ (heardFrom (s.counted port p) src).dram = s.dram ∧
      (s.counted port p).dtime = s.dtime ∧ (s.counted port p).unreachable = s.unreachable := by
  obtain ⟨_, h⟩ := counted_eq s port p
  rw [h]
  exact ⟨rfl, rfl, rfl, rfl⟩

section
variable {s : State} {port id : Nat} {p : Packet} {m : Msg}
  (hm : ({ s.counted port p with unreachable := s.unreachable.filter (· ≠ pSrc (hop port p)) } : Gk1).answeredMsg (hop port p) = some (id, m))
include hm

theorem answeredMsg_heardFrom :
    (heardFrom (s.counted port p) (pSrc (hop port p))).answeredMsg (hop port p) = some (id, m) := by
  obtain ⟨-, -, -, hun⟩ := heardFrom_counted s.toGk1 port p 0
  rw [heardFrom, hun]
  exact hm

/-- Data of a read land in the core store of the kernel that asked. -/
theorem readReply_lands (h : delivered s.toGk1 port p 5 = true) (hres : pResult (hop port p) = 0) (hread : m.kind = .read)
    (hkid : (s.core m.core).kid = some m.kid) : ∃ t, exec (.readReply port p) s = .next t ∧
      (t.core m.core).store = Mem.writeAll (s.core m.core).store m.local_ p.payload ∧
      (t.core m.core).groups = (s.core m.core).groups ∧ t.dram = s.dram := by
  obtain ⟨hcores, hdram, -, -⟩ := heardFrom_counted s.toGk1 port p (pSrc (hop port p))
  have hcore : (heardFrom (s.counted port p) (pSrc (hop port p))).core m.core = s.core m.core := by
    rw [Gk1.core, hcores, Gk1.core]
  have hdone : (s.counted port p).takeAnswer (hop port p) =
      ((heardFrom (s.counted port p) (pSrc (hop port p))).deliver id m p.payload).pump m.core := by
    rw [takeAnswer_done hres (answeredMsg_heardFrom hm), Gk1.peerDone, hread, hop_payload]
  obtain ⟨hstore, hgroups⟩ := core_deliver_pump (id := id) (hkid := (congrArg Core.kid hcore).trans hkid) p.payload
  rw [hcore] at hstore hgroups
  refine ⟨_, show execReadReply port p s = _ from act_became ((onPacket_of_delivered h rfl _).trans (congrArg Host.Outcome.next hdone)),
    hstore, hgroups, ?_⟩
  exact (Gk1.pump_dram _ _).trans ((Gk1.deliver_dram ..).trans hdram)

/-- A request answered RETRY waits from now on. -/
theorem fabAck_returns (h : delivered s.toGk1 port p 6 = true) (hres : pResult (hop port p) = 1) : ∃ t,
    exec (.fabAck port p) s = .next t ∧ NMap.get? t.msgs id = some { m with returned := some s.dtime } ∧ t.dram = s.dram := by
  obtain ⟨-, hdram, htime, -⟩ := heardFrom_counted s.toGk1 port p (pSrc (hop port p))
  refine ⟨_, show execFabAck port p s = _ from act_became ((onPacket_of_delivered h rfl _).trans
    (congrArg Host.Outcome.next (takeAnswer_retry hres (answeredMsg_heardFrom hm)))), ?_, hdram⟩
  rw [htime]
  exact (NMap.get?_set ..).trans (if_pos rfl)

end

/-! ## Requests that are sent again, and parts that answer no more -/

theorem exec_retryResend {s : State} {id t0 : Nat} {m : Msg} (hm : NMap.get? s.msgs id = some m) (hpeer : m.place.isPeer = true)
    (hret : m.returned = some t0) (hdue : t0 + 1000 ≤ s.dtime) :
    exec (.retryResend id) s = .next (became s (s.sendPeer id { m with sentAt := s.dtime })) := by
  refine show execRetryResend id s = _ from act_became ?_
  rw [hm]
  dsimp only
  rw [hret]
  exact if_pos (by rw [hpeer, decide_eq_true hdue]; rfl)

theorem exec_noRouteResend {s : State} {id t0 : Nat} {m : Msg} (hm : NMap.get? s.msgs id = some m) (hpeer : m.place.isPeer = true)
    (hway : m.noRoute = some t0) (hdue : t0 + max (fld s.fabCtl 16 8) 1 * 10000 ≤ s.dtime) :
    exec (.noRouteResend id) s = .next (became s (s.sendPeer id m)) := by
  refine show execNoRouteResend id s = _ from act_became ?_
  rw [hm]
  dsimp only
  rw [hway]
  exact if_pos (by rw [hpeer, Gk1.retryDue, decide_eq_true hdue]; rfl)

/-- What stopped kernels still have pending is discarded. -/
def dropStopped (s : Gk1) : Gk1 := (s.kernels.filter fun e => e.2.stopped).foldl (fun s e => s.dropMsgs e.1 fun _ => true) s

theorem dropStopped_work (s : Gk1) : WorkOnly s (dropStopped s) := by
  unfold dropStopped
  exact WorkOnly.foldl (fun s (e : Nat × Kernel) => s.dropMsgs_work e.1 _) _ s

/-- A silent part becomes unreachable: the watches of its fences read as abandoned, and device memory stays. -/
theorem destinationUnreachable_effect {s : State} {peer : Nat} (hnew : peer ∉ s.unreachable) (hsilent : s.silent peer = true) :
    ∃ t, exec (.destinationUnreachable peer) s = .next t ∧ t.unreachable = s.unreachable ++ [peer] ∧
      (∀ i w, NMap.get? t.importWatches i = some w → fld w.lo.toNat 0 32 = peer → w.unreachable = true) ∧ t.dram = s.dram := by
  obtain ⟨u, hu⟩ : ∃ u, u = ((s.loseDestination peer).countDrop 3).report { kind := 9, detail := peer } := ⟨_, rfl⟩
  have hlist : u.unreachable = s.unreachable ++ [peer] := by rw [hu]; exact Gk1.report_unreachable ..
  have hwatches : u.importWatches = (s.loseDestination peer).importWatches := by rw [hu]; exact Gk1.report_importWatches ..
  have hdram : u.dram = s.dram := by rw [hu]; exact Gk1.report_dram ..
  obtain ⟨_, _, _, _, _, hw⟩ := dropStopped_work u
  have hexec : exec (.destinationUnreachable peer) s = .next (became s { dropStopped u with msgs := (dropStopped u).msgs.filter fun e =>
      !(e.2.place.isPeer && e.2.place.part = peer && e.2.ofEngine e.2.ctx && ((dropStopped u).ctx e.2.ctx).state = 2) }) := by
    subst hu
    refine show execDestinationUnreachable peer s = _ from act_became ((if_neg ?_).trans rfl)
    rw [hsilent, List.contains_eq_mem, decide_eq_false hnew]
    decide
  rw [hw] at hexec
  refine ⟨_, hexec, hlist, fun i w hi hpeer => ?_, hdram⟩
  replace hi : NMap.get? u.importWatches i = some w := hi
  rw [hwatches] at hi
  unfold Gk1.loseDestination at hi
  dsimp only at hi
  rw [NMap.get?_mapVals] at hi
  obtain ⟨w0, -, rfl⟩ := Option.map_eq_some_iff.1 hi
  split
  · rfl
  · next hne => exact absurd (by rw [if_neg hne] at hpeer; exact hpeer) hne

/-! ## Requests of peers and their answers -/

section
variable {s : State} {port : Nat} {p : Packet}

/-- A request of a peer that no partition accepts is answered REFUSED. -/
theorem peerRow_refused {i : Instr} {run : Nat → Gk1}
    (hexec : exec i s = .next (became s ((s.counted port p).passed (hop port p) run)))
    (hpart : s.part ≠ .maintenance) (hnone : s.acceptCtx (hop port p) = none) :
    exec i s = .next (became s (((s.counted port p).countDrop 2).reply (hop port p) 2 0 [])) := by
  rw [hexec, passed_refused hpart hnone]

/-- A request of a peer in MAINTENANCE is answered RETRY. -/
theorem peerRow_maintenance {i : Instr} {run : Nat → Gk1}
    (hexec : exec i s = .next (became s ((s.counted port p).passed (hop port p) run)))
    (htype : pType p ≠ 3) (hpart : s.part = .maintenance) :
    exec i s = .next (became s ((s.counted port p).reply (hop port p) 1 0 [])) := by
  rw [hexec, passed_maintenance hpart htype]

theorem peerRow_accepted {i : Instr} {run : Nat → Gk1} {c : Nat} {t : Gk1}
    (hexec : exec i s = .next (became s ((s.counted port p).passed (hop port p) run)))
    (hpart : s.part ≠ .maintenance) (hctx : s.acceptCtx (hop port p) = some c) (hrun : run c = t) : exec i s = .next (became s t) := by
  rw [hexec, passed_accepted hpart hctx, hrun]

end

/-- Settles O49: each row takes its packet as its partition says, an answer ends or holds back the request that it names, and a silent part
becomes unreachable. -/
theorem peerRequestsAndAnswers : Obligations.PeerRequestsAndAnswers := by
  unfold Obligations.PeerRequestsAndAnswers
  refine ⟨⟨fun row hrow s port p => ?_, fun s port p c hpart hctx =>
    ⟨fun h hroom => ?_, fun h => ?_, fun h => epochEnd_accepted h hpart hctx, fun e h hread => ?_, fun bs h hread => ?_⟩,
    fun s port p hport htype hup hskip => exec_unknownPacketType hport htype hup hskip, fun row hrow s port p hport htype hup hskip => ?_⟩,
    fun s port id p m h hres hm hread hkid => readReply_lands hm h hres hread hkid,
    fun s port id p m h hres hm => fabAck_returns hm h hres,
    fun s id t0 m hm hpeer => ⟨exec_retryResend hm hpeer, exec_noRouteResend hm hpeer⟩,
    fun s peer => destinationUnreachable_effect⟩
  · simp only [List.mem_cons, List.not_mem_nil, or_false] at hrow
    obtain rfl | rfl | rfl | rfl := hrow
    · exact fun h => ⟨peerRow_refused (exec_fabWrite h), fun _ =>
        peerRow_maintenance (exec_fabWrite h) (by rw [pType_of_delivered h]; decide)⟩
    · exact fun h => ⟨peerRow_refused (exec_writeClose h), fun _ =>
        peerRow_maintenance (exec_writeClose h) (by rw [pType_of_delivered h]; decide)⟩
    · exact fun h => ⟨peerRow_refused (exec_epochEnd h), fun hne => absurd rfl hne⟩
    · exact fun h => ⟨peerRow_refused (exec_readReq h), fun _ =>
        peerRow_maintenance (exec_readReq h) (by rw [pType_of_delivered h]; decide)⟩
  · exact peerRow_accepted (exec_fabWrite h) hpart hctx ((if_neg (Bool.eq_false_iff.1 hroom)).trans (by rw [nextId_counted]))
  · exact peerRow_accepted (exec_writeClose h) hpart hctx (by rw [takeClose, nextId_counted])
  · exact peerRow_accepted (exec_readReq h) hpart hctx (takeRead_of_error hread)
  · exact peerRow_accepted (exec_readReq h) hpart hctx (takeRead_of_ok hread)
  · simp only [List.mem_cons, List.not_mem_nil, or_false] at hrow
    obtain rfl | rfl | rfl | rfl := hrow
    · exact show execFabWrite port p s = _ from act_became (onPacket_of_skip hport (decide_eq_true htype) hup hskip _)
    · exact show execWriteClose port p s = _ from act_became (onPacket_of_skip hport (decide_eq_true htype) hup hskip _)
    · exact show execReadReq port p s = _ from act_became (onPacket_of_skip hport (decide_eq_true htype) hup hskip _)
    · exact show execFabAck port p s = _ from act_became (onPacket_of_skip hport (decide_eq_true htype) hup hskip _)

end Sys2Proof.Claims

/-! A CTX_DESTROY where two kernels stand under one number: stopping the one of the context completes the other one. -/

namespace Sys2Proof.Claims

open Sys2Proof.Machine

/-- A CTX_DESTROY of context 1. -/
def destroyContext1 : Desc := { ring := 0, seq := 0, q := [0x10 + 0xD * 2 ^ 32, 0, 0, 1] }

/-- A part with context 1 LIVE, which owns queue 1. Kernel 5 of queue 0, with the submission number of the CTX_DESTROY, stands before another
entry under number 5, a kernel of queue 1. -/
def sharedNumber : State :=
  { toGk1 := {
      part := .ready, regs := [(0x100058, 0x188)], queues := [(0, { state := 1, fetched := [destroyContext1] }), (1, {})]
      ctxs := [(1, { state := 1 })]
      kernels := [(5, { queue := 0, ctx := 0, desc := destroyContext1 }), (5, { queue := 1, ctx := 1, desc := destroyContext1 })] }
    pending := [] }

/-- A descriptor runs on queue 0 after a command; true when it does not go on. -/
def runsAfter (a : Answer) : Bool := match a with
  | .next t => (t.queue 0).cur.isSome
  | _ => true

/-- Stopping queue 1 completes the kernel of queue 0, and with it the descriptor that runs there. -/
theorem runsAfter_destroy : runsAfter (exec .ctxDestroy sharedNumber) = false := by decide

/-- Refutes O39: the kernels of a state may hold two entries under one number. The entry of queue 1 has the teardown fail kernel 5, which names
the one of queue 0, and the CTX_DESTROY no longer runs there. -/
theorem not_contextLife : ¬ Obligations.ContextLife := by
  unfold Obligations.ContextLife
  intro h
  obtain ⟨-, hdestroy, -⟩ := h
  obtain ⟨-, hlive⟩ := hdestroy sharedNumber destroyContext1 (by decide)
  obtain ⟨t, ht, -, hcur, -⟩ := hlive (by decide) (by decide)
  have hafter := runsAfter_destroy
  rw [ht, runsAfter, hcur] at hafter
  exact absurd hafter (by decide)

end Sys2Proof.Claims

/-! The queue-engine reset (R418). -/

namespace Sys2Proof.Machine

/-- What closing a queue leaves alone: the part's state, the host link, and the state of every context. -/
def closeRest (s : Gk1) : PartState × Bool × (Nat → Nat) := (s.part, s.edge.linkUp, fun c => (s.ctx c).state)

theorem closeRest_foldl {α : Type} {f : Gk1 → α → Gk1} (hf : ∀ s a, closeRest (f s a) = closeRest s) (l : List α) (s : Gk1) :
    closeRest (l.foldl f s) = closeRest s := by
  induction l generalizing s with
  | nil => rfl
  | cons a l ih => exact (ih _).trans (hf s a)

theorem Losses.closeRest {s t : Gk1} (h : Losses s t) : closeRest t = closeRest s := by
  obtain ⟨_, _, _, _, _, _, _, _, rfl⟩ := h
  rfl

namespace Gk1

variable (s : Gk1)

theorem countCtx_closeRest (c i n : Nat) : closeRest (s.countCtx c i n) = closeRest s := by
  unfold Gk1.countCtx
  split
  · rfl
  · unfold closeRest
    refine congrArg (fun f => (s.part, s.edge.linkUp, f)) (funext fun k => ?_)
    rw [Gk1.ctx_modCtx]
    split
    · next h => rw [h]
    · rfl

theorem trace_closeRest (kind ctx queue unit : Nat) (data : List Byte) : closeRest (s.trace kind ctx queue unit data) = closeRest s := by
  obtain ⟨_, _, _, h⟩ := s.trace_eq kind ctx queue unit data
  rw [h]
  rfl

theorem sendKept_closeRest (p : Packet) : closeRest (s.sendKept p) = closeRest s := by
  unfold Gk1.sendKept
  obtain ⟨_, _, h⟩ := s.sendPacket_eq p
  dsimp only
  split
  · exact (congrArg closeRest h :)
  · rfl

theorem settle_closeRest (q : Nat) : closeRest (s.settle q) = closeRest s := by
  unfold Gk1.settle
  split <;> rfl

theorem finish_closeRest (q : Nat) (d : Desc) (f : Fin_) : closeRest (s.finish q d f) = closeRest s := by
  unfold Gk1.finish
  exact Gk1.settle_closeRest _ q

theorem recompDone_closeRest (q : Nat) (f : Fin_) : closeRest (s.recompDone q f) = closeRest s := by
  unfold Gk1.recompDone
  split
  · split
    · exact Gk1.finish_closeRest _ _ _ _
    · rfl
  · rfl

theorem endEpochs_ends (kid ctx : Nat) : EpochsEnd s (s.endEpochs kid ctx) := by
  unfold Gk1.endEpochs
  exact EpochsEnd.foldl (fun s c => s.closeEpochs_ends c ctx kid) _ s

theorem endEpochs_closeRest (kid ctx : Nat) : closeRest (s.endEpochs kid ctx) = closeRest s := by
  obtain ⟨_, _, _, _, _, _, h⟩ := (s.endEpochs_ends kid ctx).rest
  rw [h]
  rfl

theorem leaveStreams_losses (kid : Nat) : Losses s (s.leaveStreams kid) := by
  unfold Gk1.leaveStreams
  exact Losses.trans (t := { s with epochs := s.epochs.filter fun e => !(e.part = 0 && (s.streamCores kid).contains e.score) })
    ⟨_, _, _, _, _, _, _, _, rfl⟩ (Losses.foldl (fun s c => s.modCore_losses c _) _ _)

/-- A kernel completes. -/
theorem completeKernel_closeRest (kid : Nat) : closeRest (s.completeKernel kid) = closeRest s := by
  unfold Gk1.completeKernel
  split
  · rfl
  · next K0 _ =>
    extract_lets u K f v w x y mine z
    have hu : closeRest u = closeRest s := by
      refine (Losses.closeRest (Losses.foldl (fun s (e : Nat × Cluster) => s.leaveCluster_losses kid e.1) _ _)).trans ?_
      exact (Gk1.leaveStreams_losses _ kid).closeRest.trans (s.endEpochs_closeRest kid K0.ctx)
    have hv : closeRest v = closeRest u := (Gk1.countCtx_closeRest _ _ _ _).trans (Gk1.countCtx_closeRest _ _ _ _)
    have hw : closeRest w = closeRest v := Gk1.trace_closeRest _ _ _ _ _ _
    have hz : closeRest z = closeRest w := rfl
    have hall : closeRest z = closeRest s := hz.trans (hw.trans (hv.trans hu))
    split
    · exact (Gk1.recompDone_closeRest _ _ _).trans hall
    · exact (Gk1.finish_closeRest _ _ _ _).trans hall

theorem failKernel_closeRest (kid code : Nat) : closeRest (s.failKernel kid code) = closeRest s := by
  unfold Gk1.failKernel
  exact (Gk1.completeKernel_closeRest _ kid).trans rfl

theorem stopKernels_closeRest (q : Nat) : closeRest (s.stopKernels q) = closeRest s := by
  unfold Gk1.stopKernels
  refine closeRest_foldl (fun s e => ?_) _ s
  split
  · exact (s.stopKernel_losses e.1 5 true).closeRest
  · exact s.failKernel_closeRest e.1 5

theorem pruneWatches_closeRest : closeRest s.pruneWatches = closeRest s := by
  unfold Gk1.pruneWatches
  refine closeRest_foldl (fun s w => ?_) _ s
  dsimp only
  split
  · rfl
  · exact Gk1.sendKept_closeRest _ _

/-- A queue is closed without records. -/
theorem closeQueue_silent_closeRest (q : Nat) : closeRest (s.closeQueue q true) = closeRest s := by
  unfold Gk1.closeQueue
  simp only [if_true]
  refine (Gk1.pruneWatches_closeRest _).trans ?_
  split
  · exact (Gk1.stopKernels_closeRest _ q).trans rfl
  · exact (Gk1.stopKernels_closeRest _ q).trans rfl

end Gk1

/-- A context that goes to TEARDOWN leaves the part, the link and every other context's state. -/
theorem Gk1.beginTeardown_states (s : Gk1) (c : Nat) : (s.beginTeardown c).part = s.part ∧
    (s.beginTeardown c).edge.linkUp = s.edge.linkUp ∧
    ∀ k, ((s.beginTeardown c).ctx k).state = if c = k then 2 else (s.ctx k).state := by
  unfold Gk1.beginTeardown
  extract_lets u w
  have hu : closeRest u = closeRest s := closeRest_foldl (fun s q => s.closeQueue_silent_closeRest q) _ s
  have hw : closeRest w = closeRest s :=
    (Losses.closeRest (Losses.foldl (fun s (e : Nat × Kernel) => s.stopKernel_losses e.1 5 true) _ _)).trans hu
  clear_value w
  unfold closeRest at hw
  obtain ⟨hpart, hlink, hstate⟩ : w.part = s.part ∧ w.edge.linkUp = s.edge.linkUp ∧
      (fun c => (w.ctx c).state) = fun c => (s.ctx c).state := by
    simpa only [Prod.mk.injEq] using hw
  refine ⟨hpart, hlink, fun k => (congrArg Ctx.state (Gk1.ctx_modCtx w c k fun C => { C with state := 2 })).trans ?_⟩
  split
  · rfl
  · exact congrFun hstate k

/-- Several contexts go to TEARDOWN. -/
theorem Gk1.teardowns_states (l : List Nat) (s : Gk1) : (l.foldl (fun s c => s.beginTeardown c) s).part = s.part ∧
    (l.foldl (fun s c => s.beginTeardown c) s).edge.linkUp = s.edge.linkUp ∧
    ∀ k, k ∈ l ∨ (s.ctx k).state = 2 → ((l.foldl (fun s c => s.beginTeardown c) s).ctx k).state = 2 := by
  induction l generalizing s with
  | nil => exact ⟨rfl, rfl, fun k hk => hk.resolve_left (by simp)⟩
  | cons c l ih =>
    obtain ⟨hpart, hlink, hstate⟩ := s.beginTeardown_states c
    obtain ⟨ihpart, ihlink, ihstate⟩ := ih (s.beginTeardown c)
    refine ⟨ihpart.trans hpart, ihlink.trans hlink, fun k hk => ihstate k ?_⟩
    rw [hstate]
    obtain hk | hk := hk
    · obtain rfl | hk := List.mem_cons.1 hk
      · exact .inr (if_pos rfl)
      · exact .inl hk
    · exact .inr (by split <;> trivial)

theorem NMap.getD_filter_off {α : Type} (m : NMap α) (f : Nat → Bool) (k : Nat) (d : α) (hk : f k = true) :
    NMap.getD (m.filter fun e => !f e.1) k d = d := by
  have hnone : NMap.get? (m.filter fun e => !f e.1) k = none := by
    by_contra h
    obtain ⟨v, hv⟩ := Option.ne_none_iff_exists'.1 h
    have hmem := (List.mem_filter.1 (Claims.mem_of_get? hv)).2
    rw [hk] at hmem
    exact absurd hmem (by decide)
  rw [NMap.getD, hnone]
  rfl

end Sys2Proof.Machine

namespace Sys2Proof.Claims

open Sys2Proof.Machine

/-- Every queue closed, every LIVE context but 0 in TEARDOWN, and every kernel stopped. -/
def allStopped (s : Gk1) : Gk1 :=
  let u := s.queues.foldl (fun s e => s.closeQueue e.1 true) s
  let w := ((u.ctxs.filter fun e => decide (e.1 ≠ 0) && e.2.state = 1).map Prod.fst).foldl (fun s c => s.beginTeardown c) u
  (w.kernels.filter fun e => !e.2.stopped).foldl (fun s e => s.stopKernel e.1 5 true) w

/-- The regions of context 0 become unowned. -/
def unowned0 (s : Gk1) : Gk1 := (s.dropHeldDraw ((s.regionsOf 0).flatMap s.heldIn)).unown (s.regionsOf 0)

/-- The registers and queues as a queue-engine reset leaves them. -/
def engineCleared (s : Gk1) : Gk1 :=
  { s with
    regs := s.regs.filter fun e => !isHlQe e.1
    queues := NMap.mapVals s.queues fun (_ : Nat) (Q : Queue) => { submitted := Q.submitted, fetchedN := Q.submitted }
    edge := { s.edge with ptmReset := true, polledAt := none, rr := 0 } }

theorem queueEngineReset_eq (s : Gk1) : s.queueEngineReset = engineCleared (unowned0 (allStopped s)) := rfl

theorem allStopped_states (s : Gk1) : (allStopped s).part = s.part ∧ (allStopped s).edge.linkUp = s.edge.linkUp ∧
    ∀ c, c ≠ 0 → (s.ctx c).state = 1 → ((allStopped s).ctx c).state = 2 := by
  unfold allStopped
  extract_lets u w
  have hu : closeRest u = closeRest s := closeRest_foldl (fun s (e : Nat × Queue) => s.closeQueue_silent_closeRest e.1) _ s
  obtain ⟨hpart, hlink, hstate⟩ := Gk1.teardowns_states ((u.ctxs.filter fun (e : Nat × Ctx) => decide (e.1 ≠ 0) && e.2.state = 1).map Prod.fst) u
  have hstop : closeRest ((w.kernels.filter fun e => !e.2.stopped).foldl (fun s e => s.stopKernel e.1 5 true) w) = closeRest w :=
    Losses.closeRest (Losses.foldl (fun s (e : Nat × Kernel) => s.stopKernel_losses e.1 5 true) _ _)
  generalize (w.kernels.filter fun (e : Nat × Kernel) => !e.2.stopped).foldl (fun s e => s.stopKernel e.1 5 true) w = x at hstop ⊢
  change w.part = _ at hpart
  change w.edge.linkUp = _ at hlink
  change ∀ k, _ → (w.ctx k).state = 2 at hstate
  clear_value w u
  simp only [closeRest, Prod.mk.injEq] at hu hstop
  obtain ⟨hupart, hulink, hustate⟩ := hu
  obtain ⟨hxpart, hxlink, hxstate⟩ := hstop
  refine ⟨hxpart.trans (hpart.trans hupart), hxlink.trans (hlink.trans hulink), fun c hc hlive => (congrFun hxstate c).trans (hstate c (.inl ?_))⟩
  have hulive : (u.ctx c).state = 1 := (congrFun hustate c).trans hlive
  have hget : ∃ C, NMap.get? u.ctxs c = some C ∧ C.state = 1 := by
    unfold Gk1.ctx NMap.getD at hulive
    cases hC : NMap.get? u.ctxs c with
    | none => rw [hC] at hulive; exact absurd hulive (by decide)
    | some C => rw [hC] at hulive; exact ⟨C, rfl, hulive⟩
  obtain ⟨C, hC, hone⟩ := hget
  exact List.mem_map.2 ⟨(c, C), List.mem_filter.2 ⟨mem_of_get? hC, by simp [hc, hone]⟩, rfl⟩

theorem unowned0_effect (s : Gk1) : (unowned0 s).part = s.part ∧ (unowned0 s).edge = s.edge ∧ (unowned0 s).ctxs = s.ctxs ∧
    ∀ n, n < 64 → ((unowned0 s).region n).owner ≠ some 0 := by
  obtain ⟨_, _, _, _, _, _, _, _, hdrop⟩ := s.dropHeldDraw_losses ((s.regionsOf 0).flatMap s.heldIn)
  unfold unowned0
  refine ⟨(Gk1.unown_part ..).trans (by rw [hdrop]), (Gk1.unown_edge ..).trans (by rw [hdrop]), (Gk1.unown_ctxs ..).trans (by rw [hdrop]), fun n hn => ?_⟩
  obtain ⟨hmem, hnot⟩ := (s.dropHeldDraw ((s.regionsOf 0).flatMap s.heldIn)).unown_region (s.regionsOf 0) n
  by_cases h : n ∈ s.regionsOf 0
  · rw [(hmem h).1]
    exact fun h => by cases h
  · rw [hnot h, region_of_regions (s := s) (by rw [hdrop])]
    intro howner
    exact h (List.mem_filter.2 ⟨List.mem_range.2 hn, decide_eq_true howner⟩)

theorem engineCleared_queue (s : Gk1) (q : Nat) : ((engineCleared s).queue q).state = 0 ∧ ((engineCleared s).queue q).recs = [] ∧
    ((engineCleared s).queue q).fetched = [] ∧ ((engineCleared s).queue q).cur = none := by
  unfold engineCleared Gk1.queue
  dsimp only
  rw [NMap.getD_mapVals s.queues (fun Q : Queue => { submitted := Q.submitted, fetchedN := Q.submitted }) q rfl]
  exact ⟨rfl, rfl, rfl, rfl⟩

theorem engineCleared_reg (s : Gk1) {off v : Nat} (hoff : isHlQe off = true) (hv : v < 2 ^ 64) : (engineCleared s).reg off v = v := by
  unfold engineCleared Gk1.reg
  dsimp only
  rw [NMap.getD_filter_off s.regs isHlQe off _ hoff, BitVec.toNat_ofNat, Nat.mod_eq_of_lt hv]

/-- What a queue-engine reset leaves. -/
theorem queueEngineReset_effect (s : Gk1) : (∀ q, (s.queueEngineReset.queue q).state = 0 ∧ (s.queueEngineReset.queue q).recs = [] ∧
      (s.queueEngineReset.queue q).fetched = [] ∧ (s.queueEngineReset.queue q).cur = none) ∧
    (∀ off v, isHlQe off = true → v < 2 ^ 64 → s.queueEngineReset.reg off v = v) ∧
    (∀ c, c ≠ 0 → (s.ctx c).state = 1 → (s.queueEngineReset.ctx c).state = 2) ∧
    (∀ n, n < 64 → (s.queueEngineReset.region n).owner ≠ some 0) ∧ s.queueEngineReset.edge.linkUp = s.edge.linkUp ∧
    s.queueEngineReset.part = s.part := by
  obtain ⟨hpart, hlink, hstate⟩ := allStopped_states s
  obtain ⟨hupart, huedge, huctxs, howner⟩ := unowned0_effect (allStopped s)
  rw [queueEngineReset_eq]
  generalize unowned0 (allStopped s) = u at *
  refine ⟨engineCleared_queue u, fun off v => engineCleared_reg u, fun c hc hlive => ?_, howner, ?_, hupart.trans hpart⟩
  · exact (congrArg (fun m => (NMap.getD m c {}).state) huctxs).trans (hstate c hc hlive)
  · exact (congrArg Edge.linkUp huedge).trans hlink

/-- Settles O32: all four ways run the one reset. -/
theorem queueEngineReset : Obligations.QueueEngineReset := by
  unfold Obligations.QueueEngineReset
  intro r hr s hwork
  have hpowered : s.powered = true := (Bool.and_eq_true_iff.1 hwork).1
  have hexec : exec r s = .next (became s s.queueEngineReset) := by
    simp only [List.mem_cons, List.not_mem_nil, or_false] at hr
    obtain rfl | rfl | rfl | rfl := hr
    · exact show execFunctionLevelReset s = _ from act_became (congrArg Host.Outcome.next (if_pos hpowered))
    · exact show execHotReset s = _ from act_became (congrArg Host.Outcome.next (if_pos hpowered))
    · exact show execPerst s = _ from act_became (congrArg Host.Outcome.next (if_pos hpowered))
    · exact show execHlResetQueues s = _ from act_became (congrArg Host.Outcome.next (if_pos hwork))
  obtain ⟨hqueue, hreg, hctx, howner, hlink, hpart⟩ := queueEngineReset_effect s.toGk1
  exact ⟨_, hexec, hqueue, hreg, hctx, howner, hlink, hpart, Gk1.queueEngineReset_dram _⟩

end Sys2Proof.Claims

/-! Departure slots, readmission and grains (R205, R222, R223, R608, R609). -/

namespace Sys2Proof.Machine

theorem NMap.get?_rangeMap {α : Type} (f : Nat → α) {n k : Nat} (hk : k < n) : NMap.get? ((List.range n).map fun g => (g, f g)) k = some (f k) := by
  have hfind : ∀ l : List Nat, k ∈ l → NMap.get? (l.map fun g => (g, f g)) k = some (f k) := by
    intro l
    induction l with
    | nil => exact fun h => absurd h (by simp)
    | cons g l ih =>
      intro h
      by_cases hg : g = k
      · subst hg
        simp [NMap.get?]
      · have := ih ((List.mem_cons.1 h).resolve_left (Ne.symm hg))
        simpa [NMap.get?, hg] using this
  exact hfind _ (List.mem_range.2 hk)

/-- A core whose groups and barrier objects are those of a kernel's start (R221-R223, R356). -/
structure Begun (kid grain : Nat) (d : Desc) (n : Nat) (C : Core) : Prop where
  kid : C.kid = some kid
  groups : C.groups = (List.range d.groups).map fun g => (g, startGroup n g grain d)
  bars : C.bars = (List.range 64).map fun b => (b, ({ count := d.groups } : Bar))

theorem Begun.bar {kid grain : Nat} {d : Desc} {n : Nat} {C : Core} (h : Begun kid grain d n C) {b : Nat} (hb : b < 64) :
    C.bar b = { count := d.groups } := by
  rw [Core.bar, NMap.getD, h.bars, NMap.get?_rangeMap (fun _ => ({ count := d.groups } : Bar)) hb]
  rfl

theorem Begun.group {kid grain : Nat} {d : Desc} {n : Nat} {C : Core} (h : Begun kid grain d n C) {g : Nat} (hg : g < d.groups) :
    C.group g = startGroup n g grain d := by
  rw [Core.group, NMap.getD, h.groups, NMap.get?_rangeMap (fun g => startGroup n g grain d) hg]
  rfl

/-- The number of its slot and the count of groups are among the registers of a group at its start (R223). -/
theorem startGroup_s (n g grain : Nat) (d : Desc) : (startGroup n g grain d).s 1 = BitVec.ofNat 32 g ∧
    (startGroup n g grain d).s 5 = BitVec.ofNat 32 d.groups := by
  simp [startGroup, Group.s, NMap.getD_put]

/-- The cores of a cluster start a kernel. -/
def beginCores (s : Gk1) (kid grain : Nat) (d : Desc) (l : List Nat) : Gk1 :=
  l.foldl (fun s n => (s.newStreams n kid).modCore n fun C => C.started n kid grain d) s

theorem Gk1.newStreams_ends (s : Gk1) (core kid : Nat) : EpochsEnd s (s.newStreams core kid) := by
  unfold Gk1.newStreams
  split
  · split
    · exact EpochsEnd.refl s
    · exact s.closeEpochs_ends _ _ _
  · exact EpochsEnd.refl s

/-- What the start of cores leaves alone. -/
def beginRest (s : Gk1) := (s.clusters, s.power, s.kernels, s.dram, s.dtime)

theorem beginCores_rest (kid grain : Nat) (d : Desc) (l : List Nat) (s : Gk1) : beginRest (beginCores s kid grain d l) = beginRest s := by
  refine foldl_keeps beginRest (fun s n => ?_) l s
  obtain ⟨_, _, _, _, _, _, h⟩ := (s.newStreams_ends n kid).rest
  rw [h]
  rfl

theorem beginCores_begun (kid grain : Nat) (d : Desc) (l : List Nat) (s : Gk1) {n : Nat} (h : n ∈ l ∨ Begun kid grain d n (s.core n)) :
    Begun kid grain d n ((beginCores s kid grain d l).core n) := by
  induction l generalizing s with
  | nil => exact h.resolve_left (by simp)
  | cons m l ih =>
    refine ih _ ?_
    rw [Gk1.core_modCore]
    by_cases hmn : m = n
    · subst hmn
      rw [if_pos rfl]
      exact .inr ⟨rfl, rfl, rfl⟩
    · rw [if_neg hmn]
      refine h.imp (fun hmem => (List.mem_cons.1 hmem).resolve_left (Ne.symm hmn)) fun hbegun => ?_
      obtain ⟨_, hcore⟩ := (s.newStreams_ends m kid).core n
      rw [hcore]
      exact ⟨hbegun.kid, hbegun.groups, hbegun.bars⟩

/-- A cluster that is not admitted yet takes its place. -/
theorem Gk1.letIn_begins {s : Gk1} {cl kid : Nat} {K : Kernel} (hK : NMap.get? s.kernels kid = some K) (hnew : (s.cluster cl).admitted = none) :
    s.letIn cl kid = (beginCores (s.modCluster cl fun c => { c with held := true, asking := none, admitted := some kid, shareFrom := s.nextId })
      kid ((s.cluster cl).grain.getD 0) K.desc (coresOf cl)).modKernel kid fun J =>
        { J with admitted := addNew J.admitted cl, since := some (J.since.getD (beginCores (s.modCluster cl fun c =>
          { c with held := true, asking := none, admitted := some kid, shareFrom := s.nextId })
          kid ((s.cluster cl).grain.getD 0) K.desc (coresOf cl)).dtime) } := by
  unfold Gk1.letIn
  rw [hK]
  dsimp only
  rw [if_neg (by rw [hnew]; simp)]
  rfl

/-- Clusters that take over held draw become held, and nothing else of the clusters, cores, slots and memory changes. -/
theorem Gk1.takeOver_effect (s : Gk1) (r places : Nat) : (s.takeOver r places).cores = s.cores ∧ (s.takeOver r places).dram = s.dram ∧
    (s.takeOver r places).power.slots = s.power.slots ∧
    ∀ k, (s.cluster k).held = true → (s.takeOver r places).cluster k = s.cluster k := by
  have hfold : ∀ (l : List Nat) (s : Gk1), let t := l.foldl (fun s c => s.modCluster c fun c => { c with held := true }) s
      t.cores = s.cores ∧ t.dram = s.dram ∧ t.power = s.power ∧ ∀ k, (s.cluster k).held = true → t.cluster k = s.cluster k := by
    intro l
    induction l with
    | nil => exact fun s => ⟨rfl, rfl, rfl, fun _ _ => rfl⟩
    | cons c l ih =>
      intro s
      obtain ⟨hcores, hdram, hpower, hcluster⟩ := ih (s.modCluster c fun c => { c with held := true })
      refine ⟨hcores, hdram, hpower, fun k hk => ?_⟩
      have hstep : (s.modCluster c fun c => { c with held := true }).cluster k = s.cluster k := by
        rw [Gk1.cluster_modCluster]
        split
        · next h => rw [h, ← hk]
        · rfl
      exact (hcluster k (by rw [hstep]; exact hk)).trans hstep
  unfold Gk1.takeOver
  extract_lets l t
  obtain ⟨hcores, hdram, hpower, hcluster⟩ := hfold l s
  have hslots : t.power.slots = s.power.slots := congrArg Power.slots hpower
  split
  · exact ⟨hcores, hdram, hslots, hcluster⟩
  · exact ⟨hcores, hdram, hslots, hcluster⟩

/-- Only asking clusters take part in a slot. -/
theorem slots_filter (r : Nat) (l : List (Nat × Cluster)) (a : Gk1 × Nat × Bool) :
    l.foldl (Gk1.slotOne r) a = (l.filter fun e => e.2.asking.isSome).foldl (Gk1.slotOne r) a := by
  induction l generalizing a with
  | nil => rfl
  | cons e l ih =>
    cases h : e.2.asking with
    | none =>
      rw [List.foldl_cons, List.filter_cons_of_neg (by simp [h]), ← ih]
      refine congrArg (fun a => l.foldl (Gk1.slotOne r) a) ?_
      unfold Gk1.slotOne
      rw [h]
    | some kid => rw [List.foldl_cons, List.filter_cons_of_pos (by simp [h]), List.foldl_cons, ih]

/-- A held cluster that asks takes the first place of a slot. -/
theorem Gk1.slotOne_held {r n kid : Nat} {s : Gk1} {w : Bool} {e : Nat × Cluster} (hask : e.2.asking = some kid) (hlost : e.2.lost = false)
    (hheld : e.2.held = true) : Gk1.slotOne r (s, n + 1, w) e = (s.letIn e.1 kid, n, w) := by
  unfold Gk1.slotOne
  dsimp only
  rw [hask]
  dsimp only
  rw [if_neg (by rw [hlost]; decide), if_pos hheld]

end Sys2Proof.Machine

namespace Sys2Proof.Claims

open Sys2Proof.Machine

/-! ## A departure slot -/

/-- The part at a slot of a region. -/
def atSlot (s : Gk1) (region : Nat) : Gk1 := { s with power := { s.power with slots := NMap.set s.power.slots region s.dtime } }

theorem exec_departureSlot {s : State} {region cl kid : Nat} {c : Cluster} (hr : region < 64) (hslot : NMap.get? s.power.slots region = none)
    (hup : (s.region region).sbUp = true) (hserv : (s.region region).service = 0) (hplaces : 0 < s.slotClusters)
    (honly : (s.clusters.filter fun e => regionOf e.1 = region && e.2.asking.isSome) = [(cl, c)]) (hask : c.asking = some kid)
    (hheld : c.held = true) (hlost : c.lost = false) : ∃ places, exec (.departureSlot region) s =
      .next (became s (((atSlot s.toGk1 region).letIn cl kid).takeOver region places)) := by
  obtain ⟨n, hn⟩ := Nat.exists_eq_succ_of_ne_zero (Nat.pos_iff_ne_zero.1 hplaces)
  have hfilter : (s.clusters.filter fun e => regionOf e.1 = region).filter (fun e => e.2.asking.isSome) = [(cl, c)] := by
    rw [List.filter_filter, ← honly]
    exact List.filter_congr fun e _ => Bool.and_comm _ _
  have hfold : (s.clusters.filter fun e => regionOf e.1 = region).foldl (Gk1.slotOne region)
      (atSlot s.toGk1 region, (atSlot s.toGk1 region).slotClusters, false) = ((atSlot s.toGk1 region).letIn cl kid, n, false) := by
    rw [slots_filter, hfilter, show (atSlot s.toGk1 region).slotClusters = n + 1 from hn]
    exact Gk1.slotOne_held hask hlost hheld
  refine ⟨n, show execDepartureSlot region s = _ from act_became ((if_neg (Nat.not_le.2 hr)).trans ((if_neg ?_).trans ?_))⟩
  · simp [hslot, hup, hserv]
  · exact congrArg (fun a : Gk1 × Nat × Bool => Host.Outcome.next (a.1.takeOver region a.2.1)) hfold

/-- A held cluster that takes its place at a slot. -/
theorem letIn_takeOver_effect {s : Gk1} {region cl kid places : Nat} {c : Cluster} {K : Kernel} (hc : s.cluster cl = c) (hheld : c.held = true)
    (hnew : c.admitted = none) (hK : NMap.get? s.kernels kid = some K) :
    (((s.letIn cl kid).takeOver region places).cluster cl = { c with asking := none, admitted := some kid, shareFrom := s.nextId }) ∧
      ((s.letIn cl kid).takeOver region places).power.slots = s.power.slots ∧ ((s.letIn cl kid).takeOver region places).dram = s.dram ∧
      ∀ n ∈ coresOf cl, Begun kid (c.grain.getD 0) K.desc n (((s.letIn cl kid).takeOver region places).core n) := by
  obtain ⟨v, hv⟩ : ∃ v, v = s.modCluster cl fun c => { c with held := true, asking := none, admitted := some kid, shareFrom := s.nextId } := ⟨_, rfl⟩
  have hvcl : v.cluster cl = { c with asking := none, admitted := some kid, shareFrom := s.nextId } := by
    rw [hv, Gk1.cluster_modCluster, if_pos rfl, hc, ← hheld]
  have hvrest : v.power = s.power ∧ v.dram = s.dram := by
    rw [hv]
    exact ⟨rfl, rfl⟩
  have hlet := Gk1.letIn_begins (cl := cl) hK (by rw [hc]; exact hnew)
  rw [← hv, hc] at hlet
  have hrest := beginCores_rest kid (c.grain.getD 0) K.desc (coresOf cl) v
  have hbegun : ∀ n ∈ coresOf cl, Begun kid (c.grain.getD 0) K.desc n ((beginCores v kid (c.grain.getD 0) K.desc (coresOf cl)).core n) :=
    fun n hn => beginCores_begun kid (c.grain.getD 0) K.desc (coresOf cl) v (.inl hn)
  generalize beginCores v kid (c.grain.getD 0) K.desc (coresOf cl) = u at hlet hrest hbegun
  simp only [beginRest, Prod.mk.injEq] at hrest
  obtain ⟨huclusters, hupower, -, hudram, -⟩ := hrest
  obtain ⟨hcores, hdram, hslots, hcluster⟩ := (s.letIn cl kid).takeOver_effect region places
  generalize (s.letIn cl kid).takeOver region places = t at *
  rw [hlet] at hcores hdram hslots hcluster
  have hucl : u.cluster cl = v.cluster cl := congrArg (fun m : NMap Cluster => NMap.getD m cl {}) huclusters
  refine ⟨(hcluster cl ?_).trans (hucl.trans hvcl), hslots.trans (congrArg Power.slots (hupower.trans hvrest.1)),
    hdram.trans (hudram.trans hvrest.2), fun n hn => ?_⟩
  · exact (congrArg Cluster.held (hucl.trans hvcl)).trans hheld
  · rw [show t.core n = u.core n from congrArg (fun m : NMap Core => NMap.getD m n {}) hcores]
    exact hbegun n hn

theorem exec_readmissionRequest {s : State} {cl kid : Nat} (hcl : cl < nClusters) (hadm : (s.cluster cl).admitted = some kid)
    (hheld : (s.cluster cl).held = false) (hlost : (s.cluster cl).lost = false) (hask : (s.cluster cl).asking = none)
    (hready : s.stepReady cl = true) :
    exec (.readmissionRequest cl) s = .next (became s (s.modCluster cl fun c => { c with asking := some kid })) := by
  refine show execReadmissionRequest cl s = _ from act_became ((if_neg (Nat.not_le.2 hcl)).trans ((if_pos ?_).trans ?_))
  · rw [hadm, hheld, hlost, hask, hready]
    rfl
  · refine congrArg (fun c : Cluster => Host.Outcome.next { s.toGk1 with clusters := NMap.set s.clusters cl c }) ?_
    dsimp only
    rw [hadm]

/-! ## Grains -/

/-- A grain of a kernel whose region and code stand ready is handed out. -/
theorem exec_grainHandout {s : State} {kid cl : Nat} {K : Kernel} (hcl : cl < nClusters) (hK : NMap.get? s.kernels kid = some K)
    (hmay : s.mayHand kid K cl = true) (hphase : K.phase ≠ 0) (howns : s.owns K.ctx K.desc = true)
    (hclear : (s.region (regionOf cl)).needsClear = false)
    (hload : s.loadCores { K with desc := { K.desc with q := K.desc.q.set 3 (BitVec.ofNat 64 (cl + 2 ^ 18)) } } = []) :
    exec (.grainHandout kid cl) s = .next (became s (s.hand kid K cl)) := by
  refine show execGrainHandout kid cl s = _ from act_became ((if_neg (Nat.not_le.2 hcl)).trans ?_)
  rw [hK]
  refine (if_neg (by rw [hmay]; decide)).trans ((if_neg (by rw [howns]; decide)).trans ?_)
  have hsame : s.clearRegion (regionOf cl) = s.toGk1 := if_pos (by rw [show (s.toGk1.region (regionOf cl)).needsClear = false from hclear]; rfl)
  dsimp only
  rw [hsame, loadCode_of_images (fun _ => rfl) hload]
  exact congrArg (fun t : Gk1 => Host.Outcome.next (t.hand kid K cl)) (if_pos hphase)

theorem hand_effect {s : Gk1} {kid cl : Nat} {K : Kernel} (hK : NMap.get? s.kernels kid = some K) :
    (s.hand kid K cl).cluster cl = { s.cluster cl with asking := some kid, grain := some (K.lostGrains.headD K.nextGrain) } ∧
      NMap.get? (s.hand kid K cl).kernels kid = some { K with
        phase := 1, lostGrains := K.lostGrains.drop 1, loaded := addNew K.loaded cl
        nextGrain := if K.lostGrains = [] then K.nextGrain + 1 else K.nextGrain } := by
  unfold Gk1.hand
  dsimp only
  constructor
  · rw [Gk1.cluster_modCluster, if_pos rfl]
    cases K.lostGrains <;> rfl
  · have hget := get?_modKernel hK fun K => { K with
      phase := 1, lostGrains := K.lostGrains.drop 1, loaded := addNew K.loaded cl
      nextGrain := if K.lostGrains.isEmpty then K.nextGrain + 1 else K.nextGrain }
    simp only [List.isEmpty_iff] at hget ⊢
    exact hget

end Sys2Proof.Claims

/-! Kernels that end (R107, R134, R443, R449, R452). -/

namespace Sys2Proof.Machine

/-- A core that no kernel has any more. -/
structure Vacant (C : Core) : Prop where
  groups : C.groups = []
  totals : C.totals = []
  kid : C.kid = none

/-- A cluster that its kernel has left. -/
structure LeftBy (c : Cluster) : Prop where
  free : c.free = true
  ganged : c.ganged = false

theorem endCores_vacant (l : List Nat) (s : Gk1) {n : Nat} (h : n ∈ l ∨ Vacant (s.core n)) :
    Vacant ((l.foldl (fun s c => s.modCore c Core.ended) s).core n) := by
  induction l generalizing s with
  | nil => exact h.resolve_left (by simp)
  | cons m l ih =>
    refine ih _ ?_
    rw [Gk1.core_modCore]
    by_cases hmn : m = n
    · rw [if_pos hmn]
      exact .inr ⟨rfl, rfl, rfl⟩
    · rw [if_neg hmn]
      exact h.imp_left fun hmem => (List.mem_cons.1 hmem).resolve_left (Ne.symm hmn)

theorem endCores_rest (l : List Nat) (s : Gk1) : (l.foldl (fun s c => s.modCore c Core.ended) s).clusters = s.clusters ∧
    (l.foldl (fun s c => s.modCore c Core.ended) s).kernels = s.kernels :=
  ⟨foldl_keeps Gk1.clusters (f := fun s c => s.modCore c Core.ended) (fun _ _ => rfl) l s,
    foldl_keeps Gk1.kernels (f := fun s c => s.modCore c Core.ended) (fun _ _ => rfl) l s⟩

/-- The cluster as a kernel leaves it. -/
def departed (c : Cluster) : Cluster :=
  { c with ganged := false, hold := false, apartFirst := [], apartWait := 0, admitted := none, asking := none, grain := none }

/-- What of a kernel overflowed on a cluster's barrier objects. -/
def overflowed (s : Gk1) (cl : Nat) : Bool := (coresOf cl).any fun c => (s.core c).bars.any fun e => e.2.overflow

theorem Gk1.leaveCluster_cluster (s : Gk1) (kid cl k : Nat) :
    (s.leaveCluster kid cl).cluster k = if cl = k then departed (s.cluster cl) else s.cluster k := by
  have hclusters := (endCores_rest (coresOf cl) s).1
  refine (Gk1.cluster_modCluster ((coresOf cl).foldl (fun s c => s.modCore c Core.ended) s) cl k departed).trans ?_
  rw [Gk1.cluster, Gk1.cluster, hclusters]
  rfl

theorem Gk1.leaveCluster_vacant (s : Gk1) (kid cl : Nat) {n : Nat} (h : n ∈ coresOf cl ∨ Vacant (s.core n)) :
    Vacant ((s.leaveCluster kid cl).core n) :=
  endCores_vacant (coresOf cl) s h

theorem Gk1.leaveCluster_kernels (s : Gk1) (kid cl : Nat) :
    (s.leaveCluster kid cl).kernels = NMap.upd s.kernels kid fun K => { K with barOvf := K.barOvf || overflowed s cl } :=
  congrArg (fun m : NMap Kernel => NMap.upd m kid fun K => { K with barOvf := K.barOvf || overflowed s cl }) (endCores_rest (coresOf cl) s).2

/-- A kernel leaves several clusters: they are free with empty cores, held or parked as they were. -/
theorem leaveClusters_effect (kid : Nat) (l : List (Nat × Cluster)) (s : Gk1) :
    (∀ k, (k ∈ l.map Prod.fst ∨ LeftBy (s.cluster k)) → LeftBy ((l.foldl (fun s e => s.leaveCluster kid e.1) s).cluster k)) ∧
    (∀ k, ((l.foldl (fun s e => s.leaveCluster kid e.1) s).cluster k).held = (s.cluster k).held) ∧
    (∀ k n, n ∈ coresOf k → (k ∈ l.map Prod.fst ∨ Vacant (s.core n)) → Vacant ((l.foldl (fun s e => s.leaveCluster kid e.1) s).core n)) ∧
    ∀ K, NMap.get? s.kernels kid = some K →
      ∃ b, NMap.get? (l.foldl (fun s e => s.leaveCluster kid e.1) s).kernels kid = some { K with barOvf := b } := by
  induction l generalizing s with
  | nil =>
    exact ⟨fun k h => h.resolve_left (by simp), fun _ => rfl, fun k n _ h => h.resolve_left (by simp), fun K hK => ⟨K.barOvf, hK⟩⟩
  | cons e l ih =>
    obtain ⟨hleft, hheld, hvacant, hkernel⟩ := ih (s.leaveCluster kid e.1)
    simp only [List.foldl_cons]
    refine ⟨fun k h => hleft k ?_, fun k => (hheld k).trans ?_, fun k n hn h => hvacant k n hn ?_, fun K hK => ?_⟩
    · rw [Gk1.leaveCluster_cluster]
      by_cases hek : e.1 = k
      · rw [if_pos hek]
        exact .inr ⟨rfl, rfl⟩
      · rw [if_neg hek]
        exact h.imp_left fun hmem => (List.mem_cons.1 hmem).resolve_left (Ne.symm hek)
    · rw [Gk1.leaveCluster_cluster]
      split
      · next hek => rw [hek]; rfl
      · rfl
    · by_cases hek : k = e.1
      · exact .inr (s.leaveCluster_vacant kid e.1 (.inl (hek ▸ hn)))
      · exact h.imp (fun hmem => (List.mem_cons.1 hmem).resolve_left hek) fun hv => s.leaveCluster_vacant kid e.1 (.inr hv)
    · obtain ⟨b, hb⟩ := hkernel { K with barOvf := K.barOvf || overflowed s e.1 } (by
        rw [Gk1.leaveCluster_kernels, NMap.get?_upd, if_pos rfl, hK]
        rfl)
      exact ⟨b, hb⟩

/-- What a kernel leaves behind as it completes, before its completion is told. -/
def leftAll (s : Gk1) (kid : Nat) (K : Kernel) : Gk1 :=
  (s.clusters.filter fun e => K.desc.covers e.1 && (e.2.admitted = some kid || e.2.asking = some kid)).foldl
    (fun s e => s.leaveCluster kid e.1) ((s.endEpochs kid K.ctx).leaveStreams kid)

/-- The completion of a kernel is counted and traced. -/
def countEnd (s : Gk1) (K : Kernel) : Gk1 :=
  let t := (s.countCtx K.ctx 0 1).countCtx K.ctx 1 (b2n (decide (K.fin.status ≠ 0)))
  let t := t.trace 2 K.ctx K.queue K.desc.cFirst (leBytes 2 K.desc.ring ++ leBytes 1 K.fin.status)
  { t with held := { t.held with
    failed := min (t.held.failed + b2n (decide (K.fin.status = 0x61))) 0xFFFF
    lostAcc := min (t.held.lostAcc + b2n (decide (K.fin.status = 0x60))) 0xFFFF } }

/-- The completion of a kernel is told: its RECOMPUTE goes on, or its descriptor completes. -/
def tellEnd (s : Gk1) (kid : Nat) (K : Kernel) : Gk1 :=
  let t := { s with kernels := NMap.erase s.kernels kid }.modQueue K.queue fun Q => { Q with deferred := Q.deferred.filter (· ≠ kid) }
  if decide (((s.queue K.queue).recomp.bind Recomp.kid) = some kid) then t.recompDone K.queue K.fin else t.finish K.queue K.desc K.fin

theorem Gk1.completeKernel_eq {s : Gk1} {kid : Nat} {K : Kernel} (hK : NMap.get? s.kernels kid = some K) :
    s.completeKernel kid = tellEnd (countEnd (leftAll s kid K) ((NMap.get? (leftAll s kid K).kernels kid).getD K)) kid
      ((NMap.get? (leftAll s kid K).kernels kid).getD K) := by
  unfold Gk1.completeKernel
  rw [hK]
  rfl

/-- Counting and tracing an end leave the clusters, the cores, the kernels and the queues. -/
def endRest (s : Gk1) := (s.clusters, s.cores, s.kernels, s.queues)

theorem countEnd_endRest (s : Gk1) (K : Kernel) : endRest (countEnd s K) = endRest s := by
  unfold countEnd
  extract_lets t u
  obtain ⟨_, ht'⟩ := Gk1.countCtx_eq (s.countCtx K.ctx 0 1) K.ctx 1 (b2n (decide (K.fin.status ≠ 0)))
  obtain ⟨_, hs⟩ := Gk1.countCtx_eq s K.ctx 0 1
  obtain ⟨_, _, _, hu⟩ := Gk1.trace_eq t 2 K.ctx K.queue K.desc.cFirst (leBytes 2 K.desc.ring ++ leBytes 1 K.fin.status)
  have ht : endRest t = endRest s := by
    show endRest (Gk1.countCtx _ _ _ _) = _
    rw [ht', hs]
    rfl
  have hur : endRest u = endRest t := by
    show endRest (Gk1.trace _ _ _ _ _ _) = _
    rw [hu]
    rfl
  exact (show endRest _ = endRest u from rfl).trans (hur.trans ht)

theorem Gk1.recompDone_rest (s : Gk1) (q : Nat) (f : Fin_) : (s.recompDone q f).clusters = s.clusters ∧ (s.recompDone q f).cores = s.cores ∧
    (s.recompDone q f).kernels = s.kernels := by
  unfold Gk1.recompDone
  split
  · split
    · exact ⟨Gk1.finish_clusters .., Gk1.finish_cores .., Gk1.finish_kernels ..⟩
    · exact ⟨rfl, rfl, rfl⟩
  · exact ⟨rfl, rfl, rfl⟩

theorem tellEnd_rest (s : Gk1) (kid : Nat) (K : Kernel) : (tellEnd s kid K).clusters = s.clusters ∧ (tellEnd s kid K).cores = s.cores ∧
    (tellEnd s kid K).kernels = NMap.erase s.kernels kid := by
  unfold tellEnd
  extract_lets t
  split
  · exact Gk1.recompDone_rest t K.queue K.fin
  · exact ⟨Gk1.finish_clusters .., Gk1.finish_cores .., Gk1.finish_kernels ..⟩

/-- A completion that CMP or its status asks for leaves its record, of a queue that is not DISABLED. -/
theorem Gk1.record_mem_finish {s : Gk1} {q : Nat} {d : Desc} {f : Fin_} (hstate : (s.queue q).state ≠ 0) (hd : d.replayed = false)
    (hrec : f.status ≠ 0 ∨ d.cmp = true) : d.record s.dtime f ∈ ((s.finish q d f).queue q).recs := by
  have hasks : (decide (f.status ≠ 0) || d.cmp) = true := by
    rw [Bool.or_eq_true, decide_eq_true_eq]
    exact hrec
  unfold Gk1.finish
  rw [hd, hasks, decide_eq_true hstate]
  simp [Gk1.queue_settle]

theorem tellEnd_record {s : Gk1} {kid : Nat} {K : Kernel} (hmine : ((s.queue K.queue).recomp.bind Recomp.kid) ≠ some kid)
    (hstate : (s.queue K.queue).state ≠ 0) (hd : K.desc.replayed = false) (hrec : K.status ≠ 0 ∨ K.desc.cmp = true) :
    K.desc.record s.dtime K.fin ∈ ((tellEnd s kid K).queue K.queue).recs := by
  unfold tellEnd
  extract_lets t
  rw [if_neg (by simpa using hmine)]
  refine Gk1.record_mem_finish (s := t) ?_ hd hrec
  refine (congrArg Queue.state (Gk1.queue_modQueue _ K.queue K.queue _)).trans_ne ?_
  rw [if_pos rfl]
  exact hstate

/-! ## Kernels that are stopped -/

/-- A core whose groups and matrix work have been stopped. -/
structure Stilled (C : Core) : Prop where
  mq : C.mq = []
  groups : ∀ g, (C.group g).status ≠ .running

theorem Core.stopped_stilled (C : Core) : Stilled C.stopped where
  mq := rfl
  groups g := by
    unfold Core.group Core.stopped
    dsimp only
    rw [NMap.getD_mapVals C.groups (fun G : Group => if G.status = .running then { G with status := .ended } else G) g rfl]
    split
    · exact fun h => by cases h
    · next h => exact h

theorem Stilled.of_epochs {C : Core} {es : List EpochRec} (h : Stilled C) : Stilled { C with epochs := es } := ⟨h.mq, h.groups⟩

theorem Cluster.runDiscards_admitted (c : Cluster) : c.runDiscards.admitted = c.admitted := by
  unfold Cluster.runDiscards
  refine foldl_keeps Cluster.admitted (fun a o => ?_) _ c
  split <;> rfl

theorem stopCores_stilled (l : List Nat) (s : Gk1) {n : Nat} (h : n ∈ l ∨ Stilled (s.core n)) :
    Stilled ((l.foldl (fun s c => s.modCore c Core.stopped) s).core n) := by
  induction l generalizing s with
  | nil => exact h.resolve_left (by simp)
  | cons m l ih =>
    refine ih _ ?_
    rw [Gk1.core_modCore]
    by_cases hmn : m = n
    · rw [if_pos hmn]
      exact .inr (Core.stopped_stilled _)
    · rw [if_neg hmn]
      exact h.imp_left fun hmem => (List.mem_cons.1 hmem).resolve_left (Ne.symm hmn)

/-- A kernel is stopped on a cluster: whose it is stays, and if it is the kernel's its cores come to rest. -/
theorem Gk1.stopCluster_effect (s : Gk1) (kid cl : Nat) : (∀ k, ((s.stopCluster kid cl).cluster k).admitted = (s.cluster k).admitted) ∧
    ∀ n, (n ∈ coresOf cl ∧ (s.cluster cl).admitted = some kid) ∨ Stilled (s.core n) → Stilled ((s.stopCluster kid cl).core n) := by
  unfold Gk1.stopCluster
  extract_lets mine t
  have ht : t.clusters = s.clusters := by
    show (if mine = true then _ else s).clusters = _
    split
    · exact foldl_keeps Gk1.clusters (f := fun s c => s.modCore c Core.stopped) (fun _ _ => rfl) (coresOf cl) s
    · rfl
  have hcluster : ∀ k, t.cluster k = s.cluster k := fun k => congrArg (fun m : NMap Cluster => NMap.getD m k {}) ht
  have hcore : ∀ n, (n ∈ coresOf cl ∧ (s.cluster cl).admitted = some kid) ∨ Stilled (s.core n) → Stilled (t.core n) := by
    intro n h
    show Stilled ((if mine = true then _ else s).core n)
    split
    · exact stopCores_stilled (coresOf cl) s (h.imp_left And.left)
    · next hmine => exact h.resolve_left fun h => hmine (decide_eq_true h.2)
  clear_value t
  refine ⟨fun k => ?_, hcore⟩
  rw [Gk1.cluster_modCluster, ← hcluster k]
  split
  · next h =>
    subst h
    exact Cluster.runDiscards_admitted _
  · rfl

theorem stopClusters_stilled (kid : Nat) (l : List Nat) (s : Gk1) {cl n : Nat} (hn : n ∈ coresOf cl) (hadm : (s.cluster cl).admitted = some kid)
    (h : cl ∈ l ∨ Stilled (s.core n)) : Stilled ((l.foldl (fun s cl => s.stopCluster kid cl) s).core n) := by
  induction l generalizing s with
  | nil => exact h.resolve_left (by simp)
  | cons c l ih =>
    obtain ⟨hcluster, hcore⟩ := s.stopCluster_effect kid c
    refine ih _ ((hcluster cl).trans hadm) ?_
    by_cases hc : cl = c
    · exact .inr (hcore n (.inl ⟨hc ▸ hn, hc ▸ hadm⟩))
    · exact h.imp (fun hmem => (List.mem_cons.1 hmem).resolve_left hc) fun hs => hcore n (.inr hs)

/-- Discarding messages changes cores in their epochs alone. -/
theorem Gk1.dropMsgs_core (s : Gk1) (kid : Nat) (here : Nat → Bool) (n : Nat) : ∃ es, (s.dropMsgs kid here).core n = { s.core n with epochs := es } := by
  unfold Gk1.dropMsgs
  refine List.foldlRecOn _ _ (motive := fun t : Gk1 => ∃ es, t.core n = { s.core n with epochs := es }) ⟨_, rfl⟩ fun t ht e _ => ?_
  obtain ⟨es, hes⟩ := ht
  extract_lets u w
  have hu : u.core n = t.core n := by
    show (if (e.2.closing && !e.2.place.isPeer && !e.2.unsent) = true then t.dropEpoch e.2 else t).core n = _
    split <;> rfl
  have hw : ∃ es, w.core n = { u.core n with epochs := es } := by
    show ∃ es, (if e.2.kind ≠ .epochEnd then u else u.modCore e.2.core fun C => { C with
      epochs := C.epochs.filter fun r => !(r.ending && some r.stream = e.2.stream && r.target = e.2.place.target) }).core n = _
    split
    · exact ⟨_, rfl⟩
    · rw [Gk1.core_modCore]
      split
      · next h => exact ⟨_, by rw [h]⟩
      · exact ⟨_, rfl⟩
  obtain ⟨es', hes'⟩ := hw
  refine ⟨es', ?_⟩
  rw [Gk1.core, Gk1.performed_cores]
  exact hes'.trans (by rw [hu, hes])

/-- A kernel that is stopped for good leaves no group running on its clusters. -/
theorem Gk1.stopKernel_stilled {s : Gk1} {kid code cl n : Nat} {always : Bool} {K : Kernel} (hK : NMap.get? s.kernels kid = some K)
    (hcov : K.desc.covers cl = true) (hadm : (s.cluster cl).admitted = some kid) (hn : n ∈ coresOf cl) :
    Stilled ((s.stopKernel kid code always).core n) := by
  have hmem : cl ∈ s.kernelClusters K := by
    have hget : ∃ c, NMap.get? s.clusters cl = some c := by
      unfold Gk1.cluster NMap.getD at hadm
      cases h : NMap.get? s.clusters cl with
      | none => rw [h] at hadm; exact absurd (show (none : Option Nat) = some kid from hadm) (by simp)
      | some c => exact ⟨c, rfl⟩
    obtain ⟨c, hc⟩ := hget
    exact List.mem_map.2 ⟨(cl, c), List.mem_filter.2 ⟨Claims.mem_of_get? hc, hcov⟩, rfl⟩
  have hstill := stopClusters_stilled kid (s.kernelClusters K) s hn hadm (.inl hmem)
  have hwork : Stilled ((s.stopWork kid).core n) := by
    unfold Gk1.stopWork
    rw [hK]
    obtain ⟨_, h⟩ := Gk1.dropMsgs_core (((s.kernelClusters K).foldl (fun s cl => s.stopCluster kid cl) s).dropMatrixReqs kid fun _ => true)
      kid (fun _ => true) n
    dsimp only
    rw [h]
    exact Stilled.of_epochs hstill
  exact hwork

end Sys2Proof.Machine

namespace Sys2Proof.Claims

open Sys2Proof.Machine

/-- A cluster that a kernel has admitted has an entry. -/
theorem entry_of_admitted {s : Gk1} {cl kid : Nat} (h : (s.cluster cl).admitted = some kid) :
    ∃ c, (cl, c) ∈ s.clusters ∧ c.admitted = some kid := by
  unfold Gk1.cluster NMap.getD at h
  cases hc : NMap.get? s.clusters cl with
  | none => rw [hc] at h; exact absurd (show (none : Option Nat) = some kid from h) (by simp)
  | some c => rw [hc] at h; exact ⟨c, mem_of_get? hc, h⟩

/-- What the end of a kernel's epochs and streams leaves. -/
theorem leaveStreams_endEpochs_rest (s : Gk1) (kid ctx : Nat) : ((s.endEpochs kid ctx).leaveStreams kid).clusters = s.clusters ∧
    ((s.endEpochs kid ctx).leaveStreams kid).kernels = s.kernels ∧ ((s.endEpochs kid ctx).leaveStreams kid).queues = s.queues := by
  obtain ⟨_, _, _, _, _, _, h⟩ := (s.endEpochs_ends kid ctx).rest
  have hstreams : ∀ u : Gk1, (u.leaveStreams kid).clusters = u.clusters ∧ (u.leaveStreams kid).kernels = u.kernels ∧
      (u.leaveStreams kid).queues = u.queues := fun u => by
    unfold Gk1.leaveStreams
    exact ⟨foldl_keeps Gk1.clusters (f := fun s c => s.modCore c fun C => { C with streamOf := none }) (fun _ _ => rfl) _ _,
      foldl_keeps Gk1.kernels (f := fun s c => s.modCore c fun C => { C with streamOf := none }) (fun _ _ => rfl) _ _,
      foldl_keeps Gk1.queues (f := fun s c => s.modCore c fun C => { C with streamOf := none }) (fun _ _ => rfl) _ _⟩
  obtain ⟨hclusters, hkernels, hqueues⟩ := hstreams (s.endEpochs kid ctx)
  refine ⟨hclusters.trans ?_, hkernels.trans ?_, hqueues.trans ?_⟩ <;> rw [h]

/-- A kernel completes: its clusters are left, it is gone, and a completion with CMP or a status leaves its record. -/
theorem completeKernel_effect {s : Gk1} {kid : Nat} {K : Kernel} (hK : NMap.get? s.kernels kid = some K) :
    NMap.get? (s.completeKernel kid).kernels kid = none ∧
    (∀ cl, K.desc.covers cl = true → (s.cluster cl).admitted = some kid → LeftBy ((s.completeKernel kid).cluster cl) ∧
      ((s.completeKernel kid).cluster cl).held = (s.cluster cl).held ∧ ∀ n ∈ coresOf cl, Vacant ((s.completeKernel kid).core n)) ∧
    (((s.queue K.queue).recomp.bind Recomp.kid) ≠ some kid → K.desc.replayed = false → (s.queue K.queue).state ≠ 0 →
      (K.status ≠ 0 ∨ K.desc.cmp = true) → ∃ r ∈ ((s.completeKernel kid).queue K.queue).recs,
        r.status = BitVec.ofNat 8 K.status ∧ r.ring = K.desc.ring) := by
  obtain ⟨hclusters, hkernels, hqueues⟩ := leaveStreams_endEpochs_rest s kid K.ctx
  obtain ⟨hleft, hheld, hvacant, hkernel⟩ := leaveClusters_effect kid
    (s.clusters.filter fun e => K.desc.covers e.1 && (e.2.admitted = some kid || e.2.asking = some kid)) ((s.endEpochs kid K.ctx).leaveStreams kid)
  obtain ⟨b, hb⟩ := hkernel K (by rw [hkernels]; exact hK)
  have heq := Gk1.completeKernel_eq hK
  have hlosses : Losses ((s.endEpochs kid K.ctx).leaveStreams kid) (leftAll s kid K) :=
    Losses.foldl (fun s (e : Nat × Cluster) => s.leaveCluster_losses kid e.1) _ _
  obtain ⟨_, _, _, _, _, _, _, _, hl⟩ := hlosses
  have hlqueues : (leftAll s kid K).queues = s.queues := by rw [hl]; exact hqueues
  change NMap.get? (leftAll s kid K).kernels kid = _ at hb
  change ∀ k, _ → LeftBy ((leftAll s kid K).cluster k) at hleft
  change ∀ k, ((leftAll s kid K).cluster k).held = _ at hheld
  change ∀ k n, _ → _ → Vacant ((leftAll s kid K).core n) at hvacant
  generalize leftAll s kid K = u at hb hleft hheld hvacant heq hlqueues
  rw [hb, Option.getD_some] at heq
  obtain ⟨hrclusters, hrcores, hrkernels⟩ := tellEnd_rest (countEnd u { K with barOvf := b }) kid { K with barOvf := b }
  have hcount := countEnd_endRest u { K with barOvf := b }
  simp only [endRest, Prod.mk.injEq] at hcount
  obtain ⟨hcclusters, hccores, hckernels, hcqueues⟩ := hcount
  have hw : ∀ w : Gk1, w.queues = s.queues → w.queue K.queue = s.queue K.queue :=
    fun w h => congrArg (fun m : NMap Queue => NMap.getD m K.queue {}) h
  have hrecord := fun h1 h2 h3 h4 => tellEnd_record (s := countEnd u { K with barOvf := b }) (kid := kid) (K := { K with barOvf := b }) h1 h2 h3 h4
  rw [hw _ (hcqueues.trans hlqueues)] at hrecord
  generalize countEnd u { K with barOvf := b } = w at *
  rw [heq]
  generalize tellEnd w kid { K with barOvf := b } = x at *
  have hcl : ∀ k, x.cluster k = u.cluster k := fun k => congrArg (fun m : NMap Cluster => NMap.getD m k {}) (hrclusters.trans hcclusters)
  have hco : ∀ n, x.core n = u.core n := fun n => congrArg (fun m : NMap Core => NMap.getD m n {}) (hrcores.trans hccores)
  refine ⟨by rw [hrkernels]; exact (NMap.get?_erase ..).trans (if_pos rfl), fun cl hcov hadm => ?_, fun hmine hd hstate hrec =>
    ⟨_, hrecord hmine hstate hd hrec, rfl, rfl⟩⟩
  obtain ⟨c, hmem, hcadm⟩ := entry_of_admitted hadm
  have hin : cl ∈ (s.clusters.filter fun e => K.desc.covers e.1 && (e.2.admitted = some kid || e.2.asking = some kid)).map Prod.fst :=
    List.mem_map.2 ⟨(cl, c), List.mem_filter.2 ⟨hmem, by simp [hcov, hcadm]⟩, rfl⟩
  rw [hcl]
  refine ⟨hleft cl (.inl hin), (hheld cl).trans ?_, fun n hn => ?_⟩
  · exact congrArg (fun m : NMap Cluster => (NMap.getD m cl {}).held) hclusters
  · rw [hco]
    exact hvacant cl n hn (.inl hin)

theorem exec_kernelComplete {s : State} {kid : Nat} {K : Kernel} (hK : NMap.get? s.kernels kid = some K) (hstop : K.stopped = false)
    (hrun : s.queuesRun = true) (hmay : s.mayComplete kid K = true) (hdone : (s.endEpochs kid K.ctx).epochsDone kid = true)
    (hdef : K.desc.deferred = false) : exec (.kernelComplete kid) s = .next (became s ((s.endEpochs kid K.ctx).completeKernel kid)) := by
  refine show execKernelComplete kid s = _ from act_became ?_
  rw [hK]
  dsimp only
  rw [if_neg (show ¬K.stopped = true by rw [hstop]; decide)]
  refine (if_neg (by rw [hrun, hmay]; decide)).trans ((if_neg (by rw [hdone]; decide)).trans (if_neg ?_))
  rw [hdef]
  simp

theorem exec_kernelTimeout {s : State} {kid t0 : Nat} {K : Kernel} (hK : NMap.get? s.kernels kid = some K) (hstop : K.stopped = false)
    (hsince : K.since = some t0) (hlim : K.desc.tLimit ≠ 0) (hdue : t0 + K.desc.tLimit * 1000 ≤ s.dtime) :
    exec (.kernelTimeout kid) s = .next (became s (s.stopKernel kid 3 false)) := by
  refine show execKernelTimeout kid s = _ from act_became ?_
  rw [hK]
  dsimp only
  rw [hsince]
  refine if_neg ?_
  rw [hstop, decide_eq_false hlim, decide_eq_false (Nat.not_lt.2 hdue)]
  decide

/-- The kernel after a grain of it on a cluster. -/
def grainCounted (cl : Nat) (K : Kernel) : Kernel :=
  { K with doneGrains := K.doneGrains + 1, admitted := K.admitted.filter (· ≠ cl), shares := NMap.erase K.shares cl }

/-- A grain that is not the last one counts and leaves its cluster. -/
theorem exec_grainComplete {s : State} {kid cl : Nat} {K : Kernel} (hcl : cl < nClusters) (hK : NMap.get? s.kernels kid = some K)
    (hstop : K.stopped = false) (hover : s.grainOver kid cl = true) (hmore : K.doneGrains + 1 < K.desc.grains) :
    exec (.grainComplete kid cl) s = .next (became s ((s.leaveCluster kid cl).modKernel kid (grainCounted cl))) ∧
      NMap.get? ((s.leaveCluster kid cl).modKernel kid (grainCounted cl)).kernels kid =
        some (grainCounted cl { K with barOvf := K.barOvf || overflowed s.toGk1 cl }) := by
  have hget : NMap.get? ((s.leaveCluster kid cl).modKernel kid (grainCounted cl)).kernels kid =
      some (grainCounted cl { K with barOvf := K.barOvf || overflowed s.toGk1 cl }) := by
    refine get?_modKernel ?_ _
    rw [Gk1.leaveCluster_kernels, NMap.get?_upd, if_pos rfl, hK]
    rfl
  refine ⟨show execGrainComplete kid cl s = _ from act_became ((if_neg (Nat.not_le.2 hcl)).trans ?_), hget⟩
  rw [hK]
  refine (if_neg (by rw [hstop, hover]; decide)).trans (if_pos ?_)
  show (!(NMap.get? ((s.leaveCluster kid cl).modKernel kid (grainCounted cl)).kernels kid).any _) = true
  rw [hget]
  have : ¬ K.desc.grains ≤ K.doneGrains + 1 := by omega
  simp [grainCounted, this]

/-- Settles O41. -/
theorem admissionGrainsAndEnds : Obligations.AdmissionGrainsAndEnds := by
  unfold Obligations.AdmissionGrainsAndEnds
  refine ⟨⟨fun s region cl kid c K hr hslot hup hserv _ hplaces honly hc hask hheld hlost hnew hK => ?_,
    fun s cl kid hcl hadm hheld hlost hask hready => exec_readmissionRequest hcl hadm hheld hlost hask hready,
    fun s kid cl K hcl hK hmay hphase howns hclear hload => ?_, fun s kid cl K hcl hK hstop hover hmore _ _ => ?_⟩,
    fun s kid K hK hstop => ⟨fun hrun hmay hdone hdef => ?_, fun t0 hsince hlim hdue => ?_⟩⟩
  · obtain ⟨places, hexec⟩ := exec_departureSlot hr hslot hup hserv hplaces honly hask hheld hlost
    obtain ⟨hcluster, hslots, hdram, hbegun⟩ := letIn_takeOver_effect (s := atSlot s.toGk1 region) (region := region) (places := places)
      hc hheld hnew hK
    refine ⟨_, hexec, ?_, hcluster, fun n hn => ⟨(hbegun n hn).kid, fun b hb => (hbegun n hn).bar hb, fun g hg => ?_⟩, hdram⟩
    · exact (congrArg (fun m : NMap Nat => NMap.get? m region) hslots).trans ((NMap.get?_set ..).trans (if_pos rfl))
    · have hgroup := (hbegun n hn).group hg
      obtain ⟨h1, h5⟩ := startGroup_s n g (c.grain.getD 0) K.desc
      exact ⟨hgroup, (congrArg (fun G => Group.s G 1) hgroup).trans h1, (congrArg (fun G => Group.s G 5) hgroup).trans h5,
        congrArg Group.pc hgroup, congrArg Group.active hgroup⟩
  · obtain ⟨hcluster, hkernel⟩ := hand_effect (cl := cl) hK
    exact ⟨_, exec_grainHandout hcl hK hmay hphase howns hclear hload, hcluster, hkernel, rfl, rfl⟩
  · obtain ⟨hexec, hget⟩ := exec_grainComplete hcl hK hstop hover hmore
    have hcluster := s.leaveCluster_cluster kid cl cl
    rw [if_pos rfl] at hcluster
    have hfree : ((s.leaveCluster kid cl).cluster cl).free = true := by rw [hcluster]; rfl
    have hheld : ((s.leaveCluster kid cl).cluster cl).held = (s.cluster cl).held := by rw [hcluster]; rfl
    have hdram : (s.leaveCluster kid cl).dram = s.dram := Gk1.leaveCluster_dram _ _ _
    generalize s.leaveCluster kid cl = u at hexec hget hfree hheld hdram
    exact ⟨_, _, hexec, hget, rfl, hfree, hheld, hdram⟩
  · obtain ⟨_, _, _, _, _, _, hends⟩ := (s.endEpochs_ends kid K.ctx).rest
    have hexec := exec_kernelComplete hK hstop hrun hmay hdone hdef
    have hclusters : (s.endEpochs kid K.ctx).clusters = s.clusters := by rw [hends]
    have hqueues : (s.endEpochs kid K.ctx).queues = s.queues := by rw [hends]
    have hdram : (s.endEpochs kid K.ctx).dram = s.dram := by rw [hends]
    have hkernels : (s.endEpochs kid K.ctx).kernels = s.kernels := by rw [hends]
    generalize s.endEpochs kid K.ctx = u at hexec hclusters hqueues hdram hkernels
    obtain ⟨hnone, hleft, hrecord⟩ := completeKernel_effect (s := u) (kid := kid) (K := K) (by rw [hkernels]; exact hK)
    have hcl : ∀ k, u.cluster k = s.cluster k := fun k => congrArg (fun m : NMap Cluster => NMap.getD m k {}) hclusters
    have hq : u.queue K.queue = s.queue K.queue := congrArg (fun m : NMap Queue => NMap.getD m K.queue {}) hqueues
    rw [hq] at hrecord
    refine ⟨_, hexec, hnone, (Gk1.completeKernel_dram u kid).trans hdram, fun cl hcov hadm => ?_, fun h1 h2 h3 h4 => hrecord h1 h2 h3 h4⟩
    obtain ⟨hby, hheld, hvacant⟩ := hleft cl hcov (by rw [hcl]; exact hadm)
    exact ⟨hby.free, hby.ganged, hheld.trans (congrArg Cluster.held (hcl cl)), fun n hn => ⟨(hvacant n hn).groups, (hvacant n hn).totals, (hvacant n hn).kid⟩⟩
  · have hkernel : NMap.get? (s.stopKernel kid 3 false).kernels kid = some { K with
        stopped := true, rerun := false, final := if false || K.final.isNone then some (BitVec.ofNat 8 3) else K.final } :=
      get?_modKernel ((congrArg (fun m : NMap Kernel => NMap.get? m kid) (s.stopWork_kernels kid)).trans hK) _
    refine ⟨_, _, exec_kernelTimeout hK hstop hsince hlim hdue, hkernel, rfl, ?_, Gk1.stopKernel_dram _ _ _ _, fun cl hcov hadm n hn => ?_⟩
    · cases K.final <;> rfl
    · have hstill := Gk1.stopKernel_stilled (code := 3) (always := false) hK hcov hadm hn
      exact ⟨hstill.mq, hstill.groups⟩

end Sys2Proof.Claims

/-! Loads, stores and scalar atomics of the core store (R249, R250, R287, R289, R347). -/

namespace Sys2Proof.Machine

/-! ## Numbers in memory -/

theorem length_leBytes (n v : Nat) : (leBytes n v).length = n := by
  induction n generalizing v with
  | zero => rfl
  | succ n ih => exact congrArg (· + 1) (ih _)

/-- The number of its little-endian bytes (R6). -/
theorem leNat_leBytes (n v : Nat) : leNat (leBytes n v) = v % 2 ^ (8 * n) := by
  induction n generalizing v with
  | zero => simp [leBytes, leNat, Nat.mod_one]
  | succ n ih =>
    rw [leBytes, leNat, ih, BitVec.toNat_ofNat, show 2 ^ (8 * (n + 1)) = 256 * 2 ^ (8 * n) by rw [Nat.mul_add, Nat.pow_add]; omega,
      Nat.mod_mul]

/-- Equal bytes read as equal numbers. -/
theorem Mem.le_congr {m m' : Mem} {a n : Nat} (h : ∀ b, a ≤ b → b < a + n → Mem.read m b = Mem.read m' b) : Mem.le m a n = Mem.le m' a n := by
  unfold Mem.le Mem.bytes
  refine congrArg leNat (List.map_congr_left fun i hi => h _ (by omega) ?_)
  have := List.mem_range.1 hi
  omega

theorem Mem.read_writeLE_other {m : Mem} {a n v b : Nat} (h : b < a ∨ a + n ≤ b) : Mem.read (Mem.writeLE m a n v) b = Mem.read m b :=
  Mem.read_writeAll_other _ _ _ _ (by rwa [length_leBytes])

/-- A number reads back as written. -/
theorem Mem.le_writeLE (m : Mem) (a n v : Nat) : Mem.le (Mem.writeLE m a n v) a n = v % 2 ^ (8 * n) := by
  have hbytes : Mem.bytes (Mem.writeLE m a n v) a n = leBytes n v := by
    refine List.ext_getElem (by simp [Mem.bytes, length_leBytes]) fun i hi hi' => ?_
    simp only [Mem.bytes, List.getElem_map, List.getElem_range]
    exact Mem.read_writeAll _ _ _ _ hi'
  rw [Mem.le, hbytes, leNat_leBytes]

/-- A number away from the one written stays. -/
theorem Mem.le_writeLE_other {m : Mem} {a b n v : Nat} (h : b + n ≤ a ∨ a + n ≤ b) : Mem.le (Mem.writeLE m a n v) b n = Mem.le m b n :=
  Mem.le_congr fun _ _ _ => Mem.read_writeLE_other (by omega)

/-! ## The lanes of a store -/

/-- The words of the first m lanes that are on, stored in the order of the lanes (R250). -/
def storeLanes (on : Nat → Bool) (addr val : Nat → Nat) (c : Mem) (m : Nat) : Mem :=
  (List.range m).foldl (fun c l => if on l then Mem.writeLE c (addr l) 4 (val l) else c) c

section
variable {on : Nat → Bool} {addr val : Nat → Nat} {c : Mem}

theorem storeLanes_succ (m : Nat) : storeLanes on addr val c (m + 1) =
    if on m then Mem.writeLE (storeLanes on addr val c m) (addr m) 4 (val m) else storeLanes on addr val c m := by
  rw [storeLanes, List.range_succ, List.foldl_append]
  rfl

/-- A byte that no lane addresses stays. -/
theorem read_storeLanes {b : Nat} (m : Nat) (h : ∀ l < m, on l = true → b < addr l ∨ addr l + 4 ≤ b) :
    Mem.read (storeLanes on addr val c m) b = Mem.read c b := by
  induction m with
  | zero => rfl
  | succ m ih =>
    rw [storeLanes_succ]
    split
    · next hon =>
      rw [Mem.read_writeLE_other (h m (by omega) hon)]
      exact ih fun l hl => h l (by omega)
    · exact ih fun l hl => h l (by omega)

/-- Of the lanes that store to one word the highest one wins. -/
theorem le_storeLanes {l : Nat} (m : Nat) (halign : ∀ k < m, on k = true → addr k % 4 = 0) (hl : l < m) (hon : on l = true)
    (hlast : ∀ k < m, l < k → on k = true → addr k ≠ addr l) : Mem.le (storeLanes on addr val c m) (addr l) 4 = val l % 2 ^ 32 := by
  induction m with
  | zero => omega
  | succ m ih =>
    rw [storeLanes_succ]
    by_cases hlm : l = m
    · subst hlm
      rw [if_pos hon, Mem.le_writeLE]
    · have hrest := ih (fun k hk => halign k (by omega)) (by omega) fun k hk => hlast k (by omega)
      split
      · next honm =>
        have hne := hlast m (by omega) (by omega) honm
        have h1 := halign m (by omega) honm
        have h2 := halign l hl hon
        rw [Mem.le_writeLE_other (by omega), hrest]
      · exact hrest

end

end Sys2Proof.Machine

namespace Sys2Proof.Claims

open Sys2Proof.Machine

/-! ## What an access leaves of the part -/

/-- The address of a scalar access (R287). -/
def scalarAddr (i : GI) : Nat := addrOf (i.G.sn (wA i.w)) (wImm i.w)

/-- The address of a lane's access. -/
def laneAddr (i : GI) (l : Nat) : Nat := addrOf (i.G.vn (wA i.w) l) (wImm i.w)

section
variable (s : State) (core grp : Nat) (m : Mem)

/-- The core store of a core replaced. -/
def withStore : Gk1 := s.modCore core fun C => { C with store := m }

theorem withStore_core : (withStore s core m).core core = { s.core core with store := m } :=
  (s.core_modCore core core fun C => { C with store := m }).trans (if_pos rfl)

theorem store_passed_withStore : ((passed s core grp 1 0 (withStore s core m)).core core).store = m := by
  rw [core_passed, withStore_core]
  rfl

theorem group_passed_withStore : (passed s core grp 1 0 (withStore s core m)).group core grp =
    { s.group core grp with pc := (s.group core grp).pc + 1 } :=
  group_passed_of_groups _ _ _ _ _ _ (by rw [withStore_core])

theorem core_passed_withStore {c : Nat} (hc : c ≠ core) : (passed s core grp 1 0 (withStore s core m)).core c = s.core c :=
  (core_passed_other _ _ _ _ _ _ hc).trans ((s.core_modCore core c fun C => { C with store := m }).trans (if_neg hc.symm))

theorem dram_passed_withStore : (passed s core grp 1 0 (withStore s core m)).dram = s.dram := dram_passed _ _ _ _ _ _

end

/-! ## Scalar loads and stores -/

section
variable {core grp : Nat} {s : State} {i : GI} (hi : fetched s.toGk1 core grp false = i)
include hi

theorem exec_sLd (h : issues 0x0E (opIs 2) (fun w _ => vmemOk w) (fun w => vRegs w true true false false) core grp s.toGk1 = true)
    (hguard : i.G.issues i.w = true) (hheld : directHeld i false = false) :
    (storeOk (accBytes i.w) (scalarAddr i) = true → exec (.sLd core grp) s = .next (passed s core grp 1 0 (groupIs s core grp
      (if accBytes i.w = 8 then i.G.setPair (wD i.w) (Mem.le i.C.store (scalarAddr i) (accBytes i.w))
        else i.G.setS (wD i.w) (BitVec.ofNat 32 (Mem.le i.C.store (scalarAddr i) (accBytes i.w))))))) ∧
    (storeOk (accBytes i.w) (scalarAddr i) = false → exec (.sLd core grp) s = .next (became s (s.groupFault core grp 0x22))) := by
  have hi' : fetched s.toGk1 core grp (isLong 0x0E) = i := hi
  refine ⟨fun hok => show execSLd core grp s = _ from act_issue_short rfl h ?_, fun hok => show execSLd core grp s = _ from act_issue_fault h ?_⟩
  · rw [hi]
    dsimp only
    rw [hguard, hheld, show storeOk (accBytes i.w) (addrOf (i.G.sn (wA i.w)) (wImm i.w)) = true from hok]
    subst hi
    rfl
  · rw [hi']
    dsimp only
    rw [hguard, hheld, show storeOk (accBytes i.w) (addrOf (i.G.sn (wA i.w)) (wImm i.w)) = false from hok]
    rfl

theorem exec_sSt (h : issues 0x0E (opIs 3) (fun w _ => vmemOk w) (fun w => vRegs w true true false false) core grp s.toGk1 = true)
    (hguard : i.G.issues i.w = true) (hheld : directHeld i true = false) (hok : storeOk (accBytes i.w) (scalarAddr i) = true) :
    exec (.sSt core grp) s = .next (passed s core grp 1 0 (withStore s core (Mem.writeLE (s.core core).store (scalarAddr i) (accBytes i.w)
      (if accBytes i.w = 8 then i.G.pair (wD i.w) else i.G.sn (wD i.w))))) := by
  refine show execSSt core grp s = _ from act_issue_short rfl h ?_
  rw [hi]
  dsimp only
  rw [hguard, hheld, show storeOk (accBytes i.w) (addrOf (i.G.sn (wA i.w)) (wImm i.w)) = true from hok]
  subst hi
  rfl

/-! ## Vector loads and stores -/

omit hi in
/-- The addresses of the lanes that are on are all good. -/
theorem laneAddrs_ok (hok : ∀ l < 16, i.G.on i.w l = true → storeOk 4 (laneAddr i l) = true) :
    (laneAddrs i).all (fun p => storeOk 4 p.2) = true := by
  refine List.all_eq_true.2 fun p hp => ?_
  obtain ⟨l, hl, rfl⟩ := List.mem_map.1 hp
  obtain ⟨hlane, hon⟩ := List.mem_filter.1 hl
  exact hok l (List.mem_range.1 hlane) hon

omit hi in
/-- A fold over the addressed lanes goes over the lanes that are on. -/
theorem foldl_laneAddrs {α : Type} (f : α → Nat → Nat → α) (a : α) :
    (laneAddrs i).foldl (fun a p => f a p.1 p.2) a = lanes.foldl (fun a l => if i.G.on i.w l then f a l (laneAddr i l) else a) a := by
  rw [laneAddrs, List.foldl_map, List.foldl_filter]
  rfl

theorem exec_vLd (h : issues 0x0E (opIs 0) (fun w _ => vmemOk w) (fun _ => []) core grp s.toGk1 = true)
    (hheld : directHeld i false = false) (htype : wType i.w = 3) (hok : ∀ l < 16, i.G.on i.w l = true → storeOk 4 (laneAddr i l) = true) :
    exec (.vLd core grp) s = .next (passed s core grp 1 0 (groupIs s core grp
      (i.G.setV (wD i.w) (i.G.on i.w) fun l => Mem.le (s.core core).store (laneAddr i l) 4))) := by
  have hacc : accBytes i.w = 4 := by rw [accBytes, htype]; rfl
  refine show execVLd core grp s = _ from act_issue_short rfl h ?_
  rw [hi]
  dsimp only
  rw [hheld, hacc, laneAddrs_ok hok]
  refine (congrArg (fun G => i.done G) (foldl_laneAddrs (fun G l a => G.setLane (wD i.w) l (BitVec.ofNat 32 (Mem.le i.C.store a 4))) i.G)).trans ?_
  subst hi
  rfl

theorem exec_vSt (h : issues 0x0E (opIs 1) (fun w _ => vmemOk w) (fun _ => []) core grp s.toGk1 = true)
    (hheld : directHeld i true = false) (htype : wType i.w = 3) (hok : ∀ l < 16, i.G.on i.w l = true → storeOk 4 (laneAddr i l) = true) :
    exec (.vSt core grp) s = .next (passed s core grp 1 0 (withStore s core
      (storeLanes (i.G.on i.w) (laneAddr i) (fun l => i.G.vn (wD i.w) l) (s.core core).store 16))) := by
  have hacc : accBytes i.w = 4 := by rw [accBytes, htype]; rfl
  refine show execVSt core grp s = _ from act_issue_short rfl h ?_
  rw [hi]
  dsimp only
  rw [hheld, hacc, laneAddrs_ok hok]
  have hval : (fun l => i.G.vn (wD i.w) l + if 4 = 8 then i.G.vn (wD i.w + 1) l * 2 ^ 32 else 0) = fun l => i.G.vn (wD i.w) l :=
    funext fun l => by simp
  rw [← hval]
  have hfold := foldl_laneAddrs (i := i) (fun m l a => Mem.writeLE m a 4 (i.G.vn (wD i.w) l + if 4 = 8 then i.G.vn (wD i.w + 1) l * 2 ^ 32 else 0))
    (s.core core).store
  subst hi
  exact congrArg (fun m => Iss.ok (withStore s core m)) hfold

/-! ## Scalar atomics -/

/-- The old word of a scalar atomic. -/
def oldWord (i : GI) : Nat := Mem.le i.C.store (i.G.sn (wA i.w)) 4

/-- The new one. -/
def newWord (op : Nat) (i : GI) : Nat := atomOp op (oldWord i) (i.G.sclB i.w (atomTy op)) (i.G.sn (wC i.w))

/-- The group after a scalar atomic. -/
def atomGroup (op : Nat) (i : GI) (G : Group) : Group :=
  (if wRet i.w then G.setS (wD i.w) (BitVec.ofNat 32 (oldWord i)) else G).flag
    (sumFlags op (oldWord i) [i.G.sclB i.w (atomTy op)] (newWord op i))

theorem act_vatom {op : Nat} (h : issues 0x0F (opIs op) (fun w _ => vatomOk op w) (vatomRegs op) core grp s.toGk1 = true)
    (hscl : wScl i.w = true) (hguard : i.G.issues i.w = true) (hheld : directHeld i true = false) (hok : storeOk 4 (i.G.sn (wA i.w)) = true) :
    s.act (vatom op core grp) = .next (passed s core grp 1 0 ((withStore s core
      (Mem.writeLE (s.core core).store (i.G.sn (wA i.w)) 4 (newWord op i))).modGroup core grp (atomGroup op i))) := by
  refine act_issue_short rfl h ?_
  rw [hi]
  dsimp only
  rw [hscl, hguard, hheld, hok]
  subst hi
  rfl

end

theorem exec_vatomRow : ∀ e ∈ vatomRows.zip (List.range 13), ∀ (core grp : Nat) (s : State),
    exec (e.1 core grp) s = s.act (vatom e.2 core grp) := by
  intro e he core grp s
  simp only [vatomRows, List.range, List.range.loop, List.zip, List.zipWith, List.mem_cons, List.not_mem_nil, or_false] at he
  rcases he with rfl | rfl | rfl | rfl | rfl | rfl | rfl | rfl | rfl | rfl | rfl | rfl | rfl <;> rfl

/-- What a scalar atomic leaves of its group and core store. -/
theorem vatom_effect (s : State) (core grp : Nat) (m : Mem) (f : Group → Group) :
    (passed s core grp 1 0 ((withStore s core m).modGroup core grp f)).group core grp =
      { f (s.group core grp) with pc := (s.group core grp).pc + 1 } ∧
    ((passed s core grp 1 0 ((withStore s core m).modGroup core grp f)).core core).store = m := by
  have hgroup : (withStore s core m).group core grp = s.group core grp := by rw [Gk1.group, withStore_core]; rfl
  constructor
  · rw [group_passed, Gk1.modGroup, Gk1.group_setGroup, if_pos ⟨rfl, rfl⟩, hgroup]
  · rw [core_passed, Gk1.modGroup, Gk1.setGroup, core_of_set, withStore_core]
    rfl

/-- The registers after a scalar atomic: with RET the old word in SD, and no other one changes. -/
theorem atomGroup_regs (op : Nat) (i : GI) (G : Group) :
    (atomGroup op i G).s (wD i.w) = (if wRet i.w then BitVec.ofNat 32 (oldWord i) else G.s (wD i.w)) ∧
    (∀ n, n ≠ wD i.w → (atomGroup op i G).s n = G.s n) ∧ ∀ n l, (atomGroup op i G).v n l = G.v n l := by
  unfold atomGroup
  cases wRet i.w
  · exact ⟨rfl, fun _ _ => rfl, fun _ _ => rfl⟩
  · refine ⟨?_, fun n hn => ?_, fun _ _ => rfl⟩
    · exact (NMap.getD_put ..).trans (if_pos rfl)
    · exact (NMap.getD_put ..).trans (if_neg hn.symm)

section
variable {core grp : Nat} {s : State} {i : GI} (hi : fetched s.toGk1 core grp false = i)
include hi

omit hi in
/-- What a scalar store leaves of the number at its address. -/
theorem le_sSt : Mem.le (Mem.writeLE (s.core core).store (scalarAddr i) (accBytes i.w)
      (if accBytes i.w = 8 then i.G.pair (wD i.w) else i.G.sn (wD i.w))) (scalarAddr i) (accBytes i.w) =
    if accBytes i.w = 8 then i.G.pair (wD i.w) else i.G.sn (wD i.w) := by
  rw [Mem.le_writeLE]
  obtain h | h : accBytes i.w = 8 ∨ accBytes i.w = 4 := by
    unfold accBytes
    split <;> simp
  · rw [h]
    exact Nat.mod_eq_of_lt (Group.pair_lt i.G _)
  · rw [h]
    exact Nat.mod_eq_of_lt (i.G.s (wD i.w)).isLt

omit hi in
/-- What a vector load leaves of the registers and the core store. -/
theorem vLd_effect {t : State} (ht : t = passed s core grp 1 0 (groupIs s core grp
      (i.G.setV (wD i.w) (i.G.on i.w) fun l => Mem.le (s.core core).store (laneAddr i l) 4))) :
    (∀ l < 16, (t.group core grp).v (wD i.w) l =
      if i.G.on i.w l = true then BitVec.ofNat 32 (Mem.le (s.core core).store (laneAddr i l) 4) else i.G.v (wD i.w) l) ∧
    (∀ r l, l < 16 → r ≠ wD i.w → (t.group core grp).v r l = i.G.v r l) ∧ (t.core core).store = (s.core core).store ∧ t.dram = s.dram := by
  have hgroup : ∀ r l, (t.group core grp).v r l =
      (i.G.setV (wD i.w) (i.G.on i.w) fun l => Mem.le (s.core core).store (laneAddr i l) 4).v r l := fun r l => by
    rw [ht, group_passed_groupIs]
    rfl
  refine ⟨fun l hl => ?_, fun r l hl hr => ?_, ?_, ?_⟩
  · rw [hgroup, Group.v_setV _ _ _ _ _ _ hl]
    simp only [true_and]
  · rw [hgroup, Group.v_setV _ _ _ _ _ _ hl, if_neg fun h => hr h.1.symm]
  · rw [ht, core_passed, groupIs, Gk1.setGroup, core_of_set]
    rfl
  · rw [ht]
    exact dram_passed _ _ _ _ _ _

omit hi in
/-- What a vector store leaves of the words at its lanes' addresses. -/
theorem le_vSt (hok : ∀ l < 16, i.G.on i.w l = true → storeOk 4 (laneAddr i l) = true) {l : Nat} (hl : l < 16) (hon : i.G.on i.w l = true)
    (hlast : ∀ k < 16, l < k → i.G.on i.w k = true → laneAddr i k ≠ laneAddr i l) :
    Mem.le (storeLanes (i.G.on i.w) (laneAddr i) (fun l => i.G.vn (wD i.w) l) (s.core core).store 16) (laneAddr i l) 4 = i.G.vn (wD i.w) l := by
  have halign : ∀ k < 16, i.G.on i.w k = true → laneAddr i k % 4 = 0 := fun k hk hon =>
    of_decide_eq_true (Bool.and_eq_true_iff.1 (hok k hk hon)).1
  have hlt : i.G.vn (wD i.w) l < 2 ^ 32 := (i.G.v (wD i.w) l).isLt
  rw [le_storeLanes 16 halign hl hon hlast, Nat.mod_eq_of_lt hlt]

/-- A load reads a pair or a word, by its TYPE. -/
theorem sLd_result : (if accBytes i.w = 8 then i.G.setPair (wD i.w) (Mem.le i.C.store (scalarAddr i) (accBytes i.w))
      else i.G.setS (wD i.w) (BitVec.ofNat 32 (Mem.le i.C.store (scalarAddr i) (accBytes i.w)))) =
    if accBytes i.w = 8 then i.G.setPair (wD i.w) (Mem.le (s.core core).store (scalarAddr i) 8)
      else i.G.setS (wD i.w) (BitVec.ofNat 32 (Mem.le (s.core core).store (scalarAddr i) 4)) := by
  have hC : i.C = s.core core := by rw [← hi]; rfl
  rw [hC]
  obtain h | h : accBytes i.w = 8 ∨ accBytes i.w = 4 := by
    unfold accBytes
    split <;> simp
  · rw [h, if_pos rfl, if_pos rfl]
  · rw [h, if_neg (by decide), if_neg (by decide)]

end

/-- Settles O16. -/
theorem coreStoreAccesses : Obligations.CoreStoreAccesses := by
  unfold Obligations.CoreStoreAccesses
  refine ⟨fun core grp s => ?_, fun e he core grp s h => ?_⟩
  · intro i G w n a la
    have hi : fetched s.toGk1 core grp false = i := rfl
    refine ⟨fun h hguard hheld => ?_, fun h hguard hheld hok => ?_, fun h hheld htype hok => ?_, fun h hheld htype hok => ?_⟩
    · obtain ⟨hgood, hbad⟩ := exec_sLd hi h hguard hheld
      rw [sLd_result hi] at hgood
      exact ⟨hgood, hbad⟩
    · refine ⟨_, exec_sSt hi h hguard hheld hok, ?_, fun b hb => ?_, group_passed_withStore _ _ _ _,
        fun c hc => core_passed_withStore _ _ _ _ hc, dram_passed_withStore _ _ _ _⟩
      · rw [store_passed_withStore]
        exact le_sSt (i := i)
      · rw [store_passed_withStore]
        exact Mem.read_writeLE_other hb
    · exact ⟨_, exec_vLd hi h hheld htype hok, vLd_effect (i := i) rfl⟩
    · refine ⟨_, exec_vSt hi h hheld htype hok, fun l hl hon hlast => ?_, fun b hb => ?_, group_passed_withStore _ _ _ _, dram_passed_withStore _ _ _ _⟩
      · rw [store_passed_withStore]
        exact le_vSt (i := i) hok hl hon hlast
      · rw [store_passed_withStore]
        exact read_storeLanes 16 hb
  · intro i G a hscl hguard hheld hok old
    have hexec := (exec_vatomRow e he core grp s).trans (act_vatom (i := i) rfl h hscl hguard hheld hok)
    obtain ⟨hgroup, hstore⟩ := vatom_effect s core grp (Mem.writeLE (s.core core).store (i.G.sn (wA i.w)) 4 (newWord e.2 i)) (atomGroup e.2 i)
    obtain ⟨hret, hother, hv⟩ := atomGroup_regs e.2 i G
    refine ⟨_, hexec, ?_, fun b hb => ?_, ?_, fun n hn => ?_, fun n l => ?_, dram_passed _ _ _ _ _ _⟩
    · rw [hstore]
      exact Mem.le_writeLE _ a 4 _
    · rw [hstore]
      exact Mem.read_writeLE_other hb
    · rw [hgroup]
      exact hret
    · rw [hgroup]
      exact hother n hn
    · rw [hgroup]
      exact hv n l

end Sys2Proof.Claims

/-! Accesses and fills at the region caches (R352, R353, R389, R397, R403, R406, R694). -/

namespace Sys2Proof.Machine

theorem Mem.bytes_writeAll (m : Mem) (a : Nat) (bs : List Byte) : Mem.bytes (Mem.writeAll m a bs) a bs.length = bs := by
  refine List.ext_getElem (by simp [Mem.bytes]) fun i hi hi' => ?_
  simp only [Mem.bytes, List.getElem_map, List.getElem_range]
  exact Mem.read_writeAll _ _ _ _ hi'

/-- A sweep that goes on changes the channels of its region. -/
theorem Gk1.sweepOn_eq (s : Gk1) (r c : Nat) : ∃ free regions, s.sweepOn r c = { s with free := free, regions := regions } ∧
    ∀ x, ∃ ch, (s.sweepOn r c).region x = { s.region x with channels := ch } := by
  unfold Gk1.sweepOn
  split
  · exact ⟨_, _, rfl, fun _ => ⟨_, rfl⟩⟩
  · refine ⟨_, _, rfl, fun x => ?_⟩
    by_cases h : r = x
    · subst h
      exact ⟨_, (Gk1.region_modRegion ..).trans (if_pos rfl)⟩
    · exact ⟨(s.region x).channels, (Gk1.region_modRegion ..).trans (if_neg h)⟩

end Sys2Proof.Machine

namespace Sys2Proof.Claims

open Sys2Proof.Machine

/-! ## Accesses -/

/-- A core stays quiet while its epochs stay and no message of it comes to wait. -/
theorem quiet_of {s t : Gk1} {core : Nat} (h : quiet s core = true) (hcores : t.cores = s.cores)
    (hmsgs : ∀ e ∈ t.msgs, e ∈ s.msgs ∨ (e.2.unsent && decide (e.2.core = core)) = false) : quiet t core = true := by
  simp only [quiet, Bool.and_eq_true, List.all_eq_true, Gk1.core, hcores] at h ⊢
  obtain ⟨hsent, hroom⟩ := h
  refine ⟨fun e he => (hmsgs e he).elim (hsent e) fun hu => ?_, hroom⟩
  rw [Bool.not_eq_true', hu]

/-- A quiet core's message does not wait. -/
theorem sent_of_quiet {s : Gk1} {id : Nat} {m : Msg} (h : quiet s m.core = true) (hm : NMap.get? s.msgs id = some m) :
    (m.unsent && decide (m.core = m.core)) = false := by
  simp only [quiet, Bool.and_eq_true, List.all_eq_true] at h
  have hsent := h.1 _ (mem_of_get? hm)
  rwa [Bool.not_eq_true'] at hsent

/-- A message that becomes its answer does not wait either. -/
theorem quiet_setMsg {s : Gk1} {id : Nat} {m m' : Msg} (h : quiet s m.core = true) (hm : NMap.get? s.msgs id = some m)
    (hcore : m'.core = m.core) (hunsent : m'.unsent = m.unsent) : quiet (s.setMsg id m') m.core = true := by
  refine quiet_of h rfl fun e he => ?_
  obtain rfl | he := NMap.mem_set _ _ _ _ he
  · exact .inr (by rw [hunsent, hcore]; exact sent_of_quiet h hm)
  · exact .inl he

theorem quiet_accessFault {s : Gk1} {core : Nat} (h : quiet s core = true) (kid ctx rid c code addr : Nat) :
    quiet (s.accessFault kid ctx rid c code addr) core = true :=
  quiet_of h (Gk1.accessFault_cores ..) fun e he => .inl (by rwa [Gk1.accessFault_msgs] at he)

theorem quiet_readFault {s : Gk1} {m : Msg} (h : quiet s m.core = true) (id code : Nat) : quiet (s.readFault id m code) m.core = true :=
  quiet_performed (quiet_accessFault h ..) id _ _ _

theorem quiet_atomReply {s : Gk1} {id : Nat} {m : Msg} (h : quiet s m.core = true) (hm : NMap.get? s.msgs id = some m) (old : Nat) :
    quiet (s.atomReply id m old) m.core = true := by
  unfold Gk1.atomReply
  split
  · exact quiet_setMsg h hm rfl rfl
  · exact quiet_performed h id _ _ _

section
variable {s : State} {id va : Nat} {m : Msg} (hm : NMap.get? s.msgs id = some m) (hplace : m.place = .dev va)
include hm hplace

theorem exec_access_read (hkind : m.kind = .read) {t : Gk1} (ht : s.readAt id va m = t) (hq : quiet t m.core = true) :
    exec (.regionCacheAccess id) s = .next (became s t) := by
  refine show execRegionCacheAccess id s = _ from act_became ?_
  rw [hm]
  dsimp only
  rw [hkind, hplace]
  exact congrArg Host.Outcome.next ((congrArg (Gk1.pump · m.core) ht).trans (Gk1.pump_of_quiet _ _ hq))

theorem exec_access_atom (hkind : m.kind = .atom) {t : Gk1} (ht : s.atomAt id va m = t) (hq : quiet t m.core = true) :
    exec (.regionCacheAccess id) s = .next (became s t) := by
  refine show execRegionCacheAccess id s = _ from act_became ?_
  rw [hm]
  dsimp only
  rw [hkind, hplace]
  exact congrArg Host.Outcome.next ((congrArg (Gk1.pump · m.core) ht).trans (Gk1.pump_of_quiet _ _ hq))

end

section
variable {s : Gk1} {id va loc ofs gid : Nat} {m : Msg} {st : Bool} (htrans : s.translate m.ctx false m.enforced va = .ok (.dev loc ofs))
  (hloc : s.locate loc ofs = .ok (gid, st)) (hstack : (s.region (gStack gid)).stackLost = false)
include htrans hloc hstack

theorem readAt_miss (hnone : NMap.get? s.cache gid = none) : s.readAt id va m = s.askFill gid (ofs % 256 / 32) m.ctx st := by
  have hread : s.cacheRead gid (ofs % 256 / 32) = .miss := by
    unfold Gk1.cacheRead
    rw [if_neg (by rw [hstack]; decide), hnone]
  unfold Gk1.readAt
  rw [htrans]
  dsimp only
  rw [hloc]
  dsimp only
  rw [hread]

/-- A read that hits answers with the bytes that the line holds, and is counted. -/
theorem readAt_hit {L : Line} (hL : NMap.get? s.cache gid = some L) (hvalid : L.valid.getLsbD (ofs % 256 / 32) = true)
    (hgood : L.bad.getLsbD (ofs % 256 / 32) = false) : s.readAt id va m = ((s.touch gid (ofs % 256 / 32)).countCtx m.ctx 7 m.len).setMsg id
      { m with kind := .readReply, data := (List.range m.len).zip (Mem.bytes L.data (ofs % 256) m.len) } := by
  have hread : s.cacheRead gid (ofs % 256 / 32) = .done (s.touch gid (ofs % 256 / 32)) := by
    unfold Gk1.cacheRead
    rw [if_neg (by rw [hstack]; decide), hL]
    dsimp only
    rw [hvalid, hgood]
    rfl
  have hline : ∃ L', NMap.get? (s.touch gid (ofs % 256 / 32)).cache gid = some L' ∧ L'.valid = L.valid ∧ L'.bad = L.bad ∧ L'.data = L.data := by
    unfold Gk1.touch
    dsimp only
    rw [NMap.get?_upd, if_pos rfl, hL]
    refine ⟨_, rfl, ?_⟩
    dsimp only
    split <;> exact ⟨rfl, rfl, rfl⟩
  obtain ⟨L', hL', hvalid', hbad', hdata'⟩ := hline
  have hpeek : (s.touch gid (ofs % 256 / 32)).peek gid (ofs % 256) m.len = .ok (Mem.bytes L.data (ofs % 256) m.len) := by
    unfold Gk1.peek
    rw [if_neg (show ¬((s.touch gid (ofs % 256 / 32)).region (gStack gid)).stackLost = true from Bool.eq_false_iff.1 hstack), hL']
    dsimp only
    rw [hvalid', hvalid, if_pos rfl]
    dsimp only
    rw [hbad', hgood, hdata']
    rfl
  unfold Gk1.readAt
  rw [htrans]
  dsimp only
  rw [hloc]
  dsimp only
  rw [hread]
  dsimp only
  rw [hpeek]
  dsimp only
  rw [show (Mem.bytes L.data (ofs % 256) m.len).length = m.len by simp [Mem.bytes]]

end

/-! ## Fills -/

/-- The part at a fill: the request is gone, and a sweep of the channel has gone on. -/
def atFill (s : Gk1) (g sec : Nat) : Gk1 := { s with fills := NMap.erase s.fills (wordNo g sec) }.sweepOn (gStack g) (gChannel g)

theorem atFill_rest (s : Gk1) (g sec : Nat) : (atFill s g sec).cache = s.cache ∧ (atFill s g sec).dram = s.dram ∧
    (atFill s g sec).fills = NMap.erase s.fills (wordNo g sec) ∧ ∀ x, ∃ ch, (atFill s g sec).region x = { s.region x with channels := ch } := by
  obtain ⟨_, _, h, hregion⟩ := Gk1.sweepOn_eq { s with fills := NMap.erase s.fills (wordNo g sec) } (gStack g) (gChannel g)
  refine ⟨?_, ?_, ?_, hregion⟩ <;> rw [atFill, h]

/-- A sector put into its line. -/
def putSector (s : Gk1) (g sec : Nat) (bad st : Bool) (bs : List Byte) : Gk1 := { s with cache := NMap.upd s.cache g (Line.fill sec bad st bs) }

section
variable {s : State} {g sec ctx : Nat} {st : Bool} {L : Line} (hg : g < nGranules) (hsec : sec < nSectors)
  (hfill : NMap.get? s.fills (wordNo g sec) = some (ctx, st)) (hret : ((s.region (gStack g)).channel (gChannel g)).retrained = none)
  (hlost : (s.region (gStack g)).stackLost = false) (hL : NMap.get? s.cache g = some L) (hlisted : s.listed g sec = false)
include hg hsec hfill hret hlost hL hlisted

/-- The erasures that a fill reads its word with. -/
def fillErasures (s : Gk1) (g : Nat) : List Nat :=
  (((s.sweepOn (gStack g) (gChannel g)).region (gStack g)).channel (gChannel g)).erasuresAt (gSlot g)

/-- A fill of a line that is there goes by what the stack's word reads as. -/
theorem exec_fill (noise : List (Nat × Byte)) {t : Gk1}
    (hnone : readWord g sec (sectorBytes s.dram (g * 256) sec) (noiseOf noise) (fillErasures s.toGk1 g) = none → L.valid.getLsbD sec = false →
      putSector ((atFill s.toGk1 g sec).uncorrectable g sec) g sec true st (sectorBytes s.dram (g * 256) sec) = t)
    (hsome : ∀ wrong fixed, readWord g sec (sectorBytes s.dram (g * 256) sec) (noiseOf noise) (fillErasures s.toGk1 g) = some (wrong, fixed) →
      putSector (if fixed.isEmpty then atFill s.toGk1 g sec else (atFill s.toGk1 g sec).modRegion (gStack g) fun R =>
        { R with corr := upTo16 (R.corr + 1) }) g sec false st (xorBytes (sectorBytes s.dram (g * 256) sec) wrong) = t)
    (hvalid : L.valid.getLsbD sec = false) : exec (.regionCacheFill g sec noise) s = .next (became s t) := by
  obtain ⟨hcache, hdram, -, hregion⟩ := atFill_rest s.toGk1 g sec
  obtain ⟨_, hreg⟩ := hregion (gStack g)
  have hgo : ¬((!(decide (g < 2048 * granulesPerChannel) && decide (sec < 8))) = true) := by
    rw [decide_eq_true (show g < 2048 * granulesPerChannel from hg), decide_eq_true (show sec < 8 from hsec)]
    decide
  have herased : (((atFill s.toGk1 g sec).region (gStack g)).channel (gChannel g)).erasuresAt (gSlot g) = fillErasures s.toGk1 g := by
    unfold atFill fillErasures Gk1.sweepOn
    simp only [Gk1.region]
    split <;> rfl
  have hlist : (atFill s.toGk1 g sec).listed g sec = false := by
    rw [Gk1.listed, hreg]
    exact hlisted
  have hstack : ((atFill s.toGk1 g sec).region (gStack g)).stackLost = false := by
    rw [hreg]
    exact hlost
  have halloc : (atFill s.toGk1 g sec).allocLine g ctx st = atFill s.toGk1 g sec :=
    if_pos (by rw [NMap.has, hcache, hL]; rfl)
  refine show execRegionCacheFill g sec noise s = _ from act_became ((if_neg hgo).trans ?_)
  rw [hfill]
  refine (if_neg ?_).trans ?_
  · rw [show ((s.toGk1.region (gStack g)).channel (gChannel g)).retrained = none from hret]
    simp
  extract_lets u w put stored
  have hu : u = atFill s.toGk1 g sec := rfl
  have hw : w = atFill s.toGk1 g sec := by
    show u.allocLine g ctx st = _
    rw [hu, halloc]
  have hstored : stored = sectorBytes s.dram (g * 256) sec := by
    show sectorBytes w.dram _ _ = _
    rw [hw, hdram]
  clear_value stored w u
  subst hu hw hstored
  refine (if_neg (by rw [hstack]; decide)).trans ((if_neg (by rw [hlist]; decide)).trans ?_)
  rw [show (((atFill s.toGk1 g sec).region (gStack g)).channel (gChannel g)).erasuresAt (gSlot g) = fillErasures s.toGk1 g from herased]
  split
  · next h =>
    refine (if_neg ?_).trans (congrArg Host.Outcome.next (hnone h hvalid))
    rw [hcache, hL]
    simp [hvalid]
  · next wrong fixed h => exact congrArg Host.Outcome.next (hsome wrong fixed h)

end

/-- A sector that its line lacks, put into it. -/
theorem putSector_get? {s : Gk1} {g sec : Nat} {bad st : Bool} {bs : List Byte} {L : Line} (hL : NMap.get? s.cache g = some L)
    (hvalid : L.valid.getLsbD sec = false) : NMap.get? (putSector s g sec bad st bs).cache g = some { L.setSector sec bs with
      valid := L.valid ||| bit8 sec, bad := if bad then L.bad ||| bit8 sec else L.bad
      streamed := if st then L.streamed ||| bit8 sec else L.streamed } := by
  refine (NMap.get?_upd ..).trans ((if_pos rfl).trans ?_)
  rw [hL]
  exact congrArg some (if_neg (by rw [hvalid]; decide))

theorem getLsbD_or_bit8 (v : BitVec 8) {n : Nat} (hn : n < 8) : (v ||| bit8 n).getLsbD n = true := by
  rw [BitVec.getLsbD_or, getLsbD_bit8 hn, Bool.or_true]

/-- A channel that erases no lane rebuilds none. -/
theorem sweepOn_of_erasures {s : Gk1} {r c : Nat} (h : ((s.region r).channel c).erasures = []) :
    s.sweepOn r c = s ∧ ((s.region r).channel c).erased = [] ∧ ((s.region r).channel c).rebuild = none := by
  unfold Channel.erasures at h
  obtain ⟨herased, hrest⟩ := List.append_eq_nil_iff.1 h
  have hreb : ((s.region r).channel c).rebuild = none := by
    cases hreb : ((s.region r).channel c).rebuild with
    | none => rfl
    | some x => rw [hreb, herased] at hrest; exact absurd hrest (by simp)
  refine ⟨?_, herased, hreb⟩
  unfold Gk1.sweepOn
  rw [hreb]

/-- A word found uncorrectable is counted and joins a list that has room. -/
theorem uncorrectable_effect {s : Gk1} {g sec : Nat} (hroom : (s.region (gStack g)).badWords.length < 1024) :
    (s.uncorrectable g sec).listed g sec = true ∧ ((s.uncorrectable g sec).region (gStack g)).uncorr = upTo16 ((s.region (gStack g)).uncorr + 1) ∧
      (s.uncorrectable g sec).cache = s.cache ∧ (s.uncorrectable g sec).dram = s.dram := by
  obtain ⟨v, hv⟩ : ∃ v, v = s.modRegion (gStack g) fun R => { R with uncorr := upTo16 (R.uncorr + 1) } := ⟨_, rfl⟩
  have hvreg : v.region (gStack g) = { s.region (gStack g) with uncorr := upTo16 ((s.region (gStack g)).uncorr + 1) } := by
    rw [hv, Gk1.region_modRegion, if_pos rfl]
  have hlist : s.uncorrectable g sec = v.modRegion (gStack g) fun R => { R with badWords := insertNat (wordNo g sec) R.badWords } := by
    unfold Gk1.uncorrectable Gk1.listBad
    rw [← hv]
    exact if_neg (by rw [hvreg]; exact Nat.not_le.2 hroom)
  have hreg : (s.uncorrectable g sec).region (gStack g) = { v.region (gStack g) with badWords := insertNat (wordNo g sec) (v.region (gStack g)).badWords } := by
    rw [hlist, Gk1.region_modRegion, if_pos rfl]
  refine ⟨?_, ?_, ?_, ?_⟩
  · rw [Gk1.listed, hreg]
    exact List.contains_iff_mem.2 (mem_insertNat _ _)
  · rw [hreg, hvreg]
  · rw [hlist, hv]
    rfl
  · rw [hlist, hv]
    rfl

/-- Settles O29. -/
theorem regionCacheAccessesAndFills : Obligations.RegionCacheAccessesAndFills := by
  unfold Obligations.RegionCacheAccessesAndFills
  refine ⟨fun id va m s hm hplace hquiet => ⟨fun e hkind htrans => ?_, fun loc ofs gid st hkind htrans hloc hstack =>
    ⟨fun hnone => ?_, fun L hL hvalid hgood => ?_⟩, fun hkind halign => ?_⟩,
    fun g sec ctx st L s hg hsec hfill hret hlost hL hvalid hlisted => ⟨fun herase => ?_, fun noise hnone hroom => ?_⟩⟩
  · refine exec_access_read hm hplace hkind ?_ (quiet_readFault hquiet id e)
    unfold Gk1.readAt
    rw [htrans]
  · refine exec_access_read hm hplace hkind (readAt_miss htrans hloc hstack hnone) ?_
    unfold Gk1.askFill
    split
    · exact hquiet
    · exact hquiet
  · obtain ⟨u, hu⟩ : ∃ u, u = (s.touch gid (ofs % 256 / 32)).countCtx m.ctx 7 m.len := ⟨_, rfl⟩
    have hread := readAt_hit (id := id) htrans hloc hstack hL hvalid hgood
    rw [← hu] at hread
    obtain ⟨_, hcount⟩ := Gk1.countCtx_eq (s.touch gid (ofs % 256 / 32)) m.ctx 7 m.len
    have hmsgs : u.msgs = s.msgs := by rw [hu, hcount]; rfl
    have hcores : u.cores = s.cores := by rw [hu, hcount]; rfl
    have hdram : u.dram = s.dram := by rw [hu, hcount]; rfl
    have hq : quiet u m.core = true := quiet_of hquiet hcores fun e he => .inl (hmsgs ▸ he)
    refine ⟨_, exec_access_read hm hplace hkind hread (quiet_setMsg hq (by rw [hmsgs]; exact hm) rfl rfl), ?_, hdram, hcores⟩
    exact (NMap.get?_set ..).trans (if_pos rfl)
  · refine exec_access_atom hm hplace hkind (if_pos halign) (quiet_atomReply (quiet_accessFault hquiet ..) ?_ 0)
    rw [Gk1.accessFault_msgs]
    exact hm
  · obtain ⟨hsweep, herased, hreb⟩ := sweepOn_of_erasures herase
    obtain ⟨hcache, hdram, hfills, -⟩ := atFill_rest s.toGk1 g sec
    have hword : readWord g sec (sectorBytes s.dram (g * 256) sec) (noiseOf []) (fillErasures s.toGk1 g) = some ([], []) := by
      refine readWord_clean _ _ _ _ (sectorBytes_length ..) ?_
      rw [fillErasures, hsweep, Channel.erasuresAt, hreb]
      show (Channel.erasures _).length ≤ 4
      rw [herase]
      decide
    have hlen : (sectorBytes s.dram (g * 256) sec).length = 32 := sectorBytes_length ..
    refine ⟨_, _, exec_fill hg hsec hfill hret hlost hL hlisted [] (t := putSector (atFill s.toGk1 g sec) g sec false st
        (sectorBytes s.dram (g * 256) sec)) (fun h => absurd (hword.symm.trans h) (by simp)) (fun wrong fixed h => ?_) hvalid,
      putSector_get? (by rw [hcache]; exact hL) hvalid, getLsbD_or_bit8 _ hsec, rfl, rfl, ?_, ?_, hdram⟩
    · obtain ⟨rfl, rfl⟩ := Prod.mk.inj (Option.some.inj (hword.symm.trans h))
      rw [xorBytes_nil]
      rfl
    · have hbytes := Mem.bytes_writeAll L.data (32 * sec) (sectorBytes s.dram (g * 256) sec)
      rw [hlen] at hbytes
      exact hbytes
    · refine (congrArg (NMap.get? · (wordNo g sec)) hfills).trans ?_
      exact (NMap.get?_erase ..).trans (if_pos rfl)
  · obtain ⟨hcache, hdram, -, hregion⟩ := atFill_rest s.toGk1 g sec
    obtain ⟨_, hreg⟩ := hregion (gStack g)
    obtain ⟨hl, huncorr, hucache, hudram⟩ := uncorrectable_effect (s := atFill s.toGk1 g sec) (g := g) (sec := sec) (by rw [hreg]; exact hroom)
    rw [hreg] at huncorr
    have hexec := exec_fill hg hsec hfill hret hlost hL hlisted noise (fun _ _ => rfl)
      (fun wrong fixed h => absurd ((show _ = none from hnone).symm.trans h) (by simp)) hvalid
    generalize (atFill s.toGk1 g sec).uncorrectable g sec = u at *
    exact ⟨_, _, hexec, putSector_get? (by rw [hucache, hcache]; exact hL) hvalid, getLsbD_or_bit8 _ hsec, hl, huncorr, hudram.trans hdram⟩

end Sys2Proof.Claims

/-! Budgets: presets, caps, line disturbances and timetables (R589-R597, R619-R622). -/

namespace Sys2Proof.Machine

/-! ## The budget regulator -/

/-- The part with the entry in force and its slopes brought up to date. -/
def atEntry (s : Gk1) : Gk1 := { s with power := { s.power with entry := s.entryNow, up := s.slopes.1, down := s.slopes.2 } }

/-- A budget under a disturbance. -/
def bounded (D : Option Disturb) (b : Nat) : Nat :=
  match D with
  | some d => min b (1000 * d.budget)
  | none => b

/-- The effective budget that follows; it falls by at most `fall` mW but for a disturbance (R597, R619). -/
def nextBudget (s : Gk1) (fall : Nat) : Nat :=
  (atEntry s).aheadLimit (bounded s.power.disturb (if s.power.eff ≤ s.target then s.target else max s.target (s.power.eff - fall)))

/-- The part with a changed effective budget, which the open ledger record and Lp follow. -/
def withBudget (s : Gk1) (b : Nat) : Gk1 :=
  { s with
    power := { s.power with eff := b }
    ledger := { s.ledger with period := { s.ledger.period with
      bmax := max s.ledger.period.bmax b
      bmin := min s.ledger.period.bmin b } } }.relimit

/-- A ledger with no fewer flags in its open period. -/
def FlagsKept (l m : Ledger) : Prop := ∀ b, l.period.flags.getLsbD b = true → m.period.flags.getLsbD b = true

theorem FlagsKept.ledgerFlag {l : Ledger} {s : Gk1} (h : FlagsKept l s.ledger) (bit : Nat) : FlagsKept l (s.ledgerFlag bit).ledger :=
  fun b hb => (BitVec.getLsbD_or ..).trans (by rw [h b hb, Bool.true_or])

/-- What the regulator changes: the power controller and the ledger, whose flags stay set. -/
theorem Gk1.regulate_spec (s : Gk1) (fall : Nat) : ∃ limit ledger, s.regulate fall = { s with
    power := { s.power with entry := s.entryNow, up := s.slopes.1, down := s.slopes.2, eff := nextBudget s fall, limit := limit }
    ledger := ledger } ∧ FlagsKept s.ledger ledger := by
  unfold Gk1.regulate
  extract_lets i l p u w pw x t b c e ps ls qs
  obtain ⟨lu, hu, hlu⟩ : ∃ l, u = { s with ledger := l } ∧ FlagsKept s.ledger l := by
    clear_value i
    unfold u
    split
    · cases i <;> exact ⟨_, rfl, fun _ hb => hb⟩
    · exact ⟨_, rfl, fun _ hb => hb⟩
  obtain ⟨lw, hw, hlw⟩ : ∃ l, w = { s with ledger := l } ∧ FlagsKept s.ledger l := by
    show ∃ l, (if (u.theEntry.map Entry.maint).getD false = true then u.ledgerFlag 11 else u) = _ ∧ _
    rw [hu]
    split
    · exact ⟨_, rfl, FlagsKept.ledgerFlag (s := { s with ledger := lu }) hlu 11⟩
    · exact ⟨_, rfl, hlu⟩
  have hx : x = { atEntry s with ledger := lw } := by
    show ({ w with power := { w.power with entry := i, up := w.slopes.1, down := w.slopes.2 } } : Gk1) = _
    rw [hw]
    rfl
  have heff : x.power.eff = s.power.eff := (congrArg (fun y : Gk1 => y.power.eff) hx :)
  have he : e = nextBudget s fall := by
    have ht : t = s.target := (congrArg Gk1.target hx).trans rfl
    have hdist : x.power.disturb = s.power.disturb := (congrArg (fun y : Gk1 => y.power.disturb) hx :)
    have hb : b = if s.power.eff ≤ s.target then s.target else max s.target (s.power.eff - fall) := by rw [← ht, ← heff]
    have hc : c = bounded s.power.disturb (if s.power.eff ≤ s.target then s.target else max s.target (s.power.eff - fall)) := by
      rw [← hb, ← hdist]
      rfl
    exact (congrArg₂ Gk1.aheadLimit hx hc).trans rfl
  by_cases h : e = x.power.eff
  · refine ⟨s.power.limit, lw, (if_pos h).trans (hx.trans ?_), hlw⟩
    rw [← he, h, heff]
    rfl
  · exact ⟨_, _, (if_neg h).trans ((congrArg₂ withBudget hx he).trans rfl), hlw⟩

theorem Gk1.regulate_eq (s : Gk1) (fall : Nat) : ∃ limit ledger, s.regulate fall = { s with
    power := { s.power with entry := s.entryNow, up := s.slopes.1, down := s.slopes.2, eff := nextBudget s fall, limit := limit }
    ledger := ledger } := by
  obtain ⟨limit, ledger, h, -⟩ := s.regulate_spec fall
  exact ⟨limit, ledger, h⟩

theorem Gk1.aheadLimit_le (s : Gk1) (b : Nat) : s.aheadLimit b ≤ b := by
  unfold Gk1.aheadLimit
  exact List.foldlRecOn _ _ (motive := fun c => c ≤ b) le_rfl fun c hc x _ => (Nat.min_le_left _ _).trans hc

/-- A disturbance bounds the budget at once. -/
theorem nextBudget_le_disturb {s : Gk1} {D : Disturb} (h : s.power.disturb = some D) (fall : Nat) : nextBudget s fall ≤ 1000 * D.budget := by
  unfold nextBudget
  refine (Gk1.aheadLimit_le _ _).trans ?_
  rw [h]
  exact Nat.min_le_right _ _

/-- A preset without caps, response or timetable is the budget, once that does not have to fall. -/
theorem nextBudget_preset {s : Gk1} (htable : s.power.timetable = false) (hdist : s.power.disturb = none) (hrack : s.power.rackCap = 0)
    (hcool : s.power.coolCap = 0) (heff : s.power.eff ≤ 1000 * presetBudget s.power.preset) (fall : Nat) :
    nextBudget s fall = 1000 * presetBudget s.power.preset := by
  have htarget : s.target = 1000 * presetBudget s.power.preset := by
    unfold Gk1.target Gk1.schedule capped
    rw [hdist, hrack, hcool, htable]
    rfl
  have hahead : (atEntry s).ahead = [] := by
    unfold Gk1.ahead
    refine if_pos ?_
    show (!(s.power.timetable && _)) = true
    rw [htable]
    rfl
  unfold nextBudget
  rw [htarget, if_pos heff, hdist, Gk1.aheadLimit, hahead]
  rfl

theorem Gk1.reguard_eq (s : Gk1) : ∃ guard ledger, s.reguard = { s with power := { s.power with guard := guard }, ledger := ledger } := by
  unfold Gk1.reguard
  extract_lets full g u
  split <;> exact ⟨_, _, rfl⟩

theorem Gk1.evenBroken_eq (s : Gk1) : ∃ ledger, s.evenBroken = { s with ledger := ledger } := by
  unfold Gk1.evenBroken
  split <;> exact ⟨_, rfl⟩

/-- What a new mode, table or preset brings: the guard, the entry in force, its slopes and the budget. -/
theorem Gk1.budgetChanged_eq (s : Gk1) : ∃ guard entry up down eff limit ledger, s.budgetChanged = { s with
    power := { s.power with guard := guard, entry := entry, up := up, down := down, eff := eff, limit := limit }, ledger := ledger } ∧
    ∃ u : Gk1, eff = nextBudget u 0 ∧ ∃ ledger, u = { s with power := { s.power with guard := guard }, ledger := ledger } := by
  unfold Gk1.budgetChanged
  obtain ⟨guard, ledger, hguard⟩ := (s.ledgerFlag 13).reguard_eq
  obtain ⟨limit, ledger', hreg⟩ := (s.ledgerFlag 13).reguard.regulate_eq 0
  refine ⟨guard, (s.ledgerFlag 13).reguard.entryNow, (s.ledgerFlag 13).reguard.slopes.1, (s.ledgerFlag 13).reguard.slopes.2,
    nextBudget (s.ledgerFlag 13).reguard 0, limit, ledger', ?_, (s.ledgerFlag 13).reguard, rfl, ledger, hguard⟩
  rw [hreg]
  generalize nextBudget (s.ledgerFlag 13).reguard 0 = eff, (s.ledgerFlag 13).reguard.slopes = slopes
  rw [hguard]
  rfl

end Sys2Proof.Machine

namespace Sys2Proof.Claims

open Sys2Proof.Machine

/-- A MGMT descriptor whose work leaves the queues and the time completes with its result. -/
theorem completed_mgmt {s t : Gk1} {sub : Nat} {d : Desc} (h : mgmt s sub d = true) (hqueues : t.queues = (s.start 0 d).queues)
    (htime : t.dtime = s.dtime) (bs : List Byte) : completed s (t.finishMgmt d bs) 0 d { data := bs.length } :=
  completed_finishMgmt_of_starts (starts_of_mgmt h) (congrArg (fun m : NMap Queue => NMap.getD m 0 {}) hqueues) htime bs

theorem finishMgmt_dram (s : Gk1) (d : Desc) (bs : List Byte) : (s.finishMgmt d bs).dram = s.dram := Gk1.finishMgmt_dram _ _ _

/-! ## Presets and caps -/

/-- The part in PRESET mode. -/
def presetMode (s : Gk1) (d : Desc) : Gk1 :=
  { s with power := { s.power with timetable := false, table := none, pendingTable := none, preset := fld (d.w 3) 0 3 } }

theorem capPreset_effect {s : State} {d : Desc} (h : mgmt s.toGk1 2 d = true) : ∃ t, exec .capPreset s = .next t ∧
    completed s.toGk1 t.toGk1 0 d {} ∧ t.power.timetable = false ∧ t.power.table = none ∧ t.power.pendingTable = none ∧
    t.power.preset = fld (d.w 3) 0 3 ∧ t.dram = s.dram ∧
    (s.power.disturb = none → s.power.rackCap = 0 → s.power.coolCap = 0 → s.power.eff ≤ 1000 * presetBudget (fld (d.w 3) 0 3) →
      t.power.eff = 1000 * presetBudget (fld (d.w 3) 0 3)) := by
  obtain ⟨guard, entry, up, down, eff, limit, ledger, hchanged, u, heff, ledger', hu⟩ := (presetMode (s.start 0 d) d).budgetChanged_eq
  have hexec : exec .capPreset s = .next (became s ((presetMode (s.start 0 d) d).budgetChanged.finishMgmt d [])) :=
    show execCapPreset s = _ from act_became (onMgmt_of_mgmt h _)
  have hpower : ((presetMode (s.start 0 d) d).budgetChanged.finishMgmt d []).power = (presetMode (s.start 0 d) d).budgetChanged.power :=
    Gk1.finishMgmt_power ..
  have hdram : ((presetMode (s.start 0 d) d).budgetChanged.finishMgmt d []).dram = s.dram :=
    (finishMgmt_dram ..).trans (by rw [hchanged]; rfl)
  have hcomp : completed s.toGk1 ((presetMode (s.start 0 d) d).budgetChanged.finishMgmt d []) 0 d {} :=
    completed_mgmt h (by rw [hchanged]; rfl) (by rw [hchanged]; rfl) []
  generalize (presetMode (s.start 0 d) d).budgetChanged.finishMgmt d [] = t at hexec hpower hdram hcomp
  rw [hchanged] at hpower
  refine ⟨_, hexec, hcomp, congrArg Power.timetable hpower, congrArg Power.table hpower, congrArg Power.pendingTable hpower,
    congrArg Power.preset hpower, hdram, fun hdist hrack hcool hle => ?_⟩
  refine (congrArg Power.eff hpower).trans (heff.trans ?_)
  rw [hu]
  exact nextBudget_preset (s := { presetMode (s.start 0 d) d with power := { (presetMode (s.start 0 d) d).power with guard := guard }, ledger := ledger' })
    rfl hdist hrack hcool hle 0

/-- The part with the caps of an ENV_NOTICE. -/
def withCaps (s : Gk1) (d : Desc) : Gk1 :=
  { s with power := { s.power with
      rackCap := fld (d.w 3) 0 16, coolCap := fld (d.w 3) 16 16, inlet := BitVec.ofNat 16 (fld (d.w 3) 32 16)
      flow := BitVec.ofNat 16 (fld (d.w 3) 48 16) } }

theorem cap_ok_iff (v : Nat) : (decide (v = 0) || inRange 8000 40000 v) = true ↔ v = 0 ∨ (8000 ≤ v ∧ v ≤ 40000) := by
  simp [inRange]

theorem envNotice_effect {s : State} {d : Desc} (h : mgmt s.toGk1 5 d = true)
    (hrack : fld (d.w 3) 0 16 = 0 ∨ (8000 ≤ fld (d.w 3) 0 16 ∧ fld (d.w 3) 0 16 ≤ 40000))
    (hcool : fld (d.w 3) 16 16 = 0 ∨ (8000 ≤ fld (d.w 3) 16 16 ∧ fld (d.w 3) 16 16 ≤ 40000)) :
    ∃ t, exec .envNotice s = .next t ∧ completed s.toGk1 t.toGk1 0 d {} ∧ t.power.rackCap = fld (d.w 3) 0 16 ∧
      t.power.coolCap = fld (d.w 3) 16 16 ∧ t.power.inlet.toNat = fld (d.w 3) 32 16 ∧ t.power.flow.toNat = fld (d.w 3) 48 16 ∧
      t.dram = s.dram := by
  obtain ⟨limit, ledger, hreg⟩ := (withCaps (s.start 0 d) d).regulate_eq 0
  have hexec : exec .envNotice s = .next (became s (((withCaps (s.start 0 d) d).regulate 0).finishMgmt d [])) := by
    refine show execEnvNotice s = _ from act_became ((onMgmt_of_mgmt h _).trans (congrArg Host.Outcome.next (if_neg ?_)))
    rw [Bool.not_eq_true', Bool.eq_false_iff, not_not, Bool.and_eq_true]
    exact ⟨(cap_ok_iff _).2 hrack, (cap_ok_iff _).2 hcool⟩
  have hpower := Gk1.finishMgmt_power ((withCaps (s.start 0 d) d).regulate 0) d []
  have hdram : (((withCaps (s.start 0 d) d).regulate 0).finishMgmt d []).dram = s.dram := (finishMgmt_dram ..).trans (by rw [hreg]; rfl)
  have hcomp : completed s.toGk1 (((withCaps (s.start 0 d) d).regulate 0).finishMgmt d []) 0 d {} :=
    completed_mgmt h (by rw [hreg]; rfl) (by rw [hreg]; rfl) []
  generalize ((withCaps (s.start 0 d) d).regulate 0).finishMgmt d [] = t at hexec hpower hdram hcomp
  rw [hreg] at hpower
  refine ⟨_, hexec, hcomp, congrArg Power.rackCap hpower, congrArg Power.coolCap hpower, (congrArg (fun p => p.inlet.toNat) hpower).trans ?_,
    (congrArg (fun p => p.flow.toNat) hpower).trans ?_, hdram⟩
  · exact (BitVec.toNat_ofNat ..).trans (Nat.mod_eq_of_lt (fld_lt ..))
  · exact (BitVec.toNat_ofNat ..).trans (Nat.mod_eq_of_lt (fld_lt ..))

/-! ## Disturbances -/

/-- The part with a response begun. -/
def responding (s : Gk1) (d : Desc) : Gk1 :=
  { s with power := { s.power with disturb := some {
      budget := fld (d.w 3) 16 16, holdCyc := fld (d.w 4) 0 32, endCycle := s.line.cycle + fld (d.w 4) 0 32
      endFrac := s.line.frac, endSpan := s.line.span, startAt := s.dtime } } }

/-- The part with the notice in the open ledger record. -/
def noticed (s : Gk1) (d : Desc) : Gk1 :=
  let u := (s.countDist.ledgerFlag 3).evenBroken
  if 1000 * fld (d.w 3) 16 16 < u.power.floor then u.ledgerFlag 12 else u

theorem noticed_eq (s : Gk1) (d : Desc) : ∃ ledger, noticed s d = { s with ledger := ledger } := by
  obtain ⟨l, h⟩ := (s.countDist.ledgerFlag 3).evenBroken_eq
  unfold noticed
  rw [h]
  dsimp only
  split <;> exact ⟨_, rfl⟩

theorem lineDisturbance_effect {s : State} {d : Desc} (h : mgmt s.toGk1 4 d = true) (hkind : d.distKind ≤ 3) (hb : fld (d.w 3) 16 16 ≤ 40000) :
    ∃ t, exec .lineDisturbance s = .next t ∧ completed s.toGk1 t.toGk1 0 d {} ∧
      t.power.disturb = some {
        budget := fld (d.w 3) 16 16, holdCyc := fld (d.w 4) 0 32, endCycle := s.line.cycle + fld (d.w 4) 0 32
        endFrac := s.line.frac, endSpan := 8 * s.line.period, startAt := s.dtime } ∧
      t.power.eff ≤ 1000 * fld (d.w 3) 16 16 ∧ t.dram = s.dram := by
  obtain ⟨hstarts, htype, hsub, hphase⟩ := mgmt_iff.1 h
  obtain ⟨lu, hu⟩ := noticed_eq (responding (s.start 0 d) d) d
  have hexec : exec .lineDisturbance s = .next (became s (((noticed (responding (s.start 0 d) d) d).regulate 0).finishMgmt d [])) := by
    refine show execLineDisturbance s = _ from act_became ((onStart_of_starts hstarts
      (isRow := fun d => d.type = 0x10 && d.sub = 4 && d.distKind ≠ 7) ?_ _).trans (congrArg Host.Outcome.next (if_neg ?_)))
    · simp [htype, hsub, show d.distKind ≠ 7 by omega]
    · simp [hphase, Nat.not_lt.2 hkind, Nat.not_lt.2 hb]
  obtain ⟨limit, ledger, hreg⟩ := (noticed (responding (s.start 0 d) d) d).regulate_eq 0
  have hle := nextBudget_le_disturb (s := noticed (responding (s.start 0 d) d) d) (by rw [hu]; rfl) 0
  have hpower := Gk1.finishMgmt_power ((noticed (responding (s.start 0 d) d) d).regulate 0) d []
  have hdram : (((noticed (responding (s.start 0 d) d) d).regulate 0).finishMgmt d []).dram = s.dram :=
    (finishMgmt_dram ..).trans (by rw [hreg, hu]; rfl)
  have hcomp : completed s.toGk1 (((noticed (responding (s.start 0 d) d) d).regulate 0).finishMgmt d []) 0 d {} :=
    completed_mgmt h (by rw [hreg, hu]; rfl) (by rw [hreg, hu]; rfl) []
  generalize ((noticed (responding (s.start 0 d) d) d).regulate 0).finishMgmt d [] = t at hexec hpower hdram hcomp
  rw [hreg] at hpower
  generalize nextBudget (noticed (responding (s.start 0 d) d) d) 0 = b at hpower hle
  rw [hu] at hpower
  exact ⟨_, hexec, hcomp, congrArg Power.disturb hpower, (congrArg Power.eff hpower).trans_le hle, hdram⟩

/-- A notice out of its ranges is refused. -/
theorem lineDisturbance_refused {s : State} {d : Desc} (h : mgmt s.toGk1 4 d = true) (hkind : d.distKind ≠ 7)
    (hbad : 3 < d.distKind ∨ 40000 < fld (d.w 3) 16 16) :
    ∃ t, exec .lineDisturbance s = .next t ∧ completed s.toGk1 t.toGk1 0 d { status := 1 } ∧ t.power = s.power := by
  obtain ⟨hstarts, htype, hsub, hphase⟩ := mgmt_iff.1 h
  refine ⟨_, show execLineDisturbance s = _ from act_became ((onStart_of_starts hstarts
    (isRow := fun d => d.type = 0x10 && d.sub = 4 && d.distKind ≠ 7) ?_ _).trans (congrArg Host.Outcome.next (if_pos ?_))),
    completed_refuseMgmt hstarts 1, Gk1.finish_power ..⟩
  · simp [htype, hsub, hkind]
  · simpa [hphase] using hbad

end Sys2Proof.Claims

namespace Sys2Proof.Machine

/-- A response ends: the rest of the power controller follows from the target without it. -/
theorem Gk1.endDisturb_eq (s : Gk1) : ∃ power ledger, s.endDisturb = { s with power := power, ledger := ledger } ∧ power.disturb = none := by
  unfold Gk1.endDisturb
  obtain ⟨limit, ledger, h⟩ := Gk1.regulate_eq { s with power := { s.power with disturb := none } } 0
  exact ⟨_, ledger, h, rfl⟩

end Sys2Proof.Machine

namespace Sys2Proof.Claims

open Sys2Proof.Machine

theorem disturbanceClear_effect {s : State} {d : Desc} (h : mgmt s.toGk1 4 d = true) (hkind : d.distKind = 7) (hb : fld (d.w 3) 16 16 ≤ 40000) :
    ∃ t, exec .disturbanceClear s = .next t ∧ completed s.toGk1 t.toGk1 0 d {} ∧ t.power.disturb = none ∧ t.dram = s.dram := by
  obtain ⟨hstarts, htype, hsub, hphase⟩ := mgmt_iff.1 h
  obtain ⟨power, ledger, hend, hnone⟩ := Gk1.endDisturb_eq (s.start 0 d).countDist
  refine ⟨_, show execDisturbanceClear s = _ from act_became ((onStart_of_starts hstarts
    (isRow := fun d => d.type = 0x10 && d.sub = 4 && d.distKind = 7) ?_ _).trans (congrArg Host.Outcome.next (if_neg ?_))),
    completed_mgmt h (by rw [hend]; rfl) (by rw [hend]; rfl) [], ?_, (finishMgmt_dram ..).trans (by rw [hend]; rfl)⟩
  · simp [htype, hsub, hkind]
  · simp [hphase, Nat.not_lt.2 hb]
  · refine (congrArg Power.disturb (Gk1.finishMgmt_power ..)).trans ?_
    rw [hend]
    exact hnone

/-- The end of HOLDCYC on the line clock. -/
theorem over_iff (D : Disturb) (l : LineClock) : D.over l = true ↔
    D.endCycle < l.cycle ∨ (D.endCycle = l.cycle ∧ D.endFrac * (8 * l.period) ≤ l.frac * D.endSpan) := by
  change _ ↔ D.endCycle < l.cycle ∨ (D.endCycle = l.cycle ∧ D.endFrac * l.span ≤ l.frac * D.endSpan)
  simp [Disturb.over]

theorem disturbanceEnd_over {s : State} {D : Disturb} (hD : s.power.disturb = some D) (hhold : D.holdCyc ≠ 0) (hover : D.over s.line = true) :
    ∃ t, exec .disturbanceEnd s = .next t ∧ t.power.disturb = none ∧ t.line = s.line ∧ t.dram = s.dram := by
  obtain ⟨power, ledger, hend, hnone⟩ := Gk1.endDisturb_eq s.toGk1
  have hexec : exec .disturbanceEnd s = .next (became s s.endDisturb) := by
    refine show execDisturbanceEnd s = _ from act_became ?_
    rw [hD]
    exact if_pos (by simp [hhold, hover])
  rw [hend] at hexec
  exact ⟨_, hexec, hnone, rfl, rfl⟩

theorem exec_disturbanceEnd_early {s : State} {D : Disturb} (hD : s.power.disturb = some D) (hover : D.over s.line = false) :
    exec .disturbanceEnd s = .next s := by
  refine show execDisturbanceEnd s = _ from State.act_of_next _ _ s.toGk1 ?_
  rw [hD]
  exact if_neg (by simp [hover])

/-! ## Timetables -/

/-- A table as a TIMETABLE_LOAD brings it. -/
def loadedTable (d : Desc) (bs : List Byte) : Table :=
  { gap := fld (d.w 5) 0 16, hold := fld (d.w 5) 16 16, activate := fld (d.w 6) 0 48, entries := entriesOf (fld (d.w 4) 0 11) bs
    digest := Config.sha3 (leBytes 8 (d.w 5) ++ leBytes 8 (d.w 6) ++ bs) }

/-- The fields of a TIMETABLE_LOAD lie in their ranges (R593). -/
def tableFieldsOk (d : Desc) : Bool :=
  inRange 1 1024 (fld (d.w 4) 0 11) && inRange 8000 40000 (fld (d.w 5) 0 16) && inRange 8000 40000 (fld (d.w 5) 16 16) && d.w 3 % 64 = 0

theorem tableFieldsOk_iff (d : Desc) : tableFieldsOk d = true ↔ (1 ≤ fld (d.w 4) 0 11 ∧ fld (d.w 4) 0 11 ≤ 1024) ∧
    (8000 ≤ fld (d.w 5) 0 16 ∧ fld (d.w 5) 0 16 ≤ 40000) ∧ (8000 ≤ fld (d.w 5) 16 16 ∧ fld (d.w 5) 16 16 ≤ 40000) ∧ d.w 3 % 64 = 0 := by
  simp [tableFieldsOk, inRange, and_assoc]

/-- The part with a table pending. -/
def pendingOf (s : Gk1) (T : Table) : Gk1 := { s with power := { s.power with pendingTable := some T } }

end Sys2Proof.Claims

namespace Sys2Proof.Machine

theorem Gk1.activate_of_pending {s : Gk1} {T : Table} (h : s.power.pendingTable = some T) : s.activate = if s.tableDue T then
    Gk1.budgetChanged { s with power := { s.power with timetable := true, table := some T, pendingTable := none } } else s := by
  unfold Gk1.activate
  rw [h]
  cases hdue : s.tableDue T
  · simp [hdue]
  · simp [hdue]

/-- A pending table whose time has come takes effect, and nothing but the power controller and the ledger changes. -/
theorem Gk1.activate_due {s : Gk1} {T : Table} (h : s.power.pendingTable = some T) (hdue : s.tableDue T = true) :
    ∃ power ledger, s.activate = { s with power := power, ledger := ledger } ∧ power.timetable = true ∧ power.table = some T ∧
      power.pendingTable = none := by
  obtain ⟨_, _, _, _, _, _, ledger, hchanged, -⟩ :=
    Gk1.budgetChanged_eq { s with power := { s.power with timetable := true, table := some T, pendingTable := none } }
  exact ⟨_, ledger, ((Gk1.activate_of_pending h).trans (if_pos hdue)).trans hchanged, rfl, rfl, rfl⟩

theorem Gk1.activate_early {s : Gk1} {T : Table} (h : s.power.pendingTable = some T) (hdue : s.tableDue T = false) : s.activate = s :=
  (Gk1.activate_of_pending h).trans (if_neg (Bool.eq_false_iff.1 hdue))

end Sys2Proof.Machine

namespace Sys2Proof.Claims

open Sys2Proof.Machine

section
variable {s : State} {d : Desc} (h : mgmt s.toGk1 1 d = true) (hlen : 64 ≤ d.w 2)
include h hlen

theorem exec_timetableLoad {bs : List Byte} (hok : tableFieldsOk d = true) (hbytes : bs.length = 32 * fld (d.w 4) 0 11)
    (hentries : entriesOk (entriesOf (fld (d.w 4) 0 11) bs) = true) : exec (.timetableLoad (some bs)) s = .next (became s
      (((pendingOf (s.start 0 d) (loadedTable d bs)).reguard.finishMgmt d (leBytes 64 (loadedTable d bs).digest.toNat)).activate)) := by
  refine show execTimetableLoad (some bs) s = _ from act_became ((onMgmt_of_mgmt h _).trans (congrArg Host.Outcome.next
    ((if_neg (Nat.not_lt.2 hlen)).trans ((if_neg ?_).trans (if_neg ?_)))))
  · rw [show (inRange 1 1024 (fld (d.w 4) 0 11) && inRange 8000 40000 (fld (d.w 5) 0 16) && inRange 8000 40000 (fld (d.w 5) 16 16) &&
      d.w 3 % 64 = 0) = true from hok]
    decide
  · simp [hbytes, hentries]

theorem exec_timetableLoad_refused {bs : List Byte} (hbad : tableFieldsOk d = false ∨ bs.length ≠ 32 * fld (d.w 4) 0 11 ∨
      entriesOk (entriesOf (fld (d.w 4) 0 11) bs) = false) :
    exec (.timetableLoad (some bs)) s = .next (became s ((s.start 0 d).refuseMgmt d 1)) := by
  refine show execTimetableLoad (some bs) s = _ from act_became ((onMgmt_of_mgmt h _).trans (congrArg Host.Outcome.next
    ((if_neg (Nat.not_lt.2 hlen)).trans ?_)))
  cases hok : tableFieldsOk d
  · refine if_pos ?_
    rw [show (inRange 1 1024 (fld (d.w 4) 0 11) && inRange 8000 40000 (fld (d.w 5) 0 16) && inRange 8000 40000 (fld (d.w 5) 16 16) &&
      d.w 3 % 64 = 0) = false from hok]
    rfl
  · refine (if_neg ?_).trans (if_pos ?_)
    · rw [show (inRange 1 1024 (fld (d.w 4) 0 11) && inRange 8000 40000 (fld (d.w 5) 0 16) && inRange 8000 40000 (fld (d.w 5) 16 16) &&
        d.w 3 % 64 = 0) = true from hok]
      decide
    · have := hbad.resolve_left (by rw [hok]; decide)
      simpa using this

theorem exec_timetableLoad_faulted (hok : tableFieldsOk d = true) :
    exec (.timetableLoad none) s = .next (became s ((s.start 0 d).refuseMgmt d 0x44)) := by
  refine show execTimetableLoad none s = _ from act_became ((onMgmt_of_mgmt h _).trans (congrArg Host.Outcome.next
    ((if_neg (Nat.not_lt.2 hlen)).trans (if_neg ?_))))
  rw [show (inRange 1 1024 (fld (d.w 4) 0 11) && inRange 8000 40000 (fld (d.w 5) 0 16) && inRange 8000 40000 (fld (d.w 5) 16 16) &&
    d.w 3 % 64 = 0) = true from hok]
  decide

/-- A loaded table takes effect at once when its time has come, and is pending otherwise. -/
theorem timetableLoad_effect {bs : List Byte} (hok : tableFieldsOk d = true) (hbytes : bs.length = 32 * fld (d.w 4) 0 11)
    (hentries : entriesOk (entriesOf (fld (d.w 4) 0 11) bs) = true) : ∃ t, exec (.timetableLoad (some bs)) s = .next t ∧
      completed s.toGk1 t.toGk1 0 d { data := 64 } ∧ t.dram = s.dram ∧
      (s.tableDue (loadedTable d bs) = true → t.power.timetable = true ∧ t.power.table = some (loadedTable d bs) ∧ t.power.pendingTable = none) ∧
      (s.tableDue (loadedTable d bs) = false → t.power.table = s.power.table ∧ t.power.timetable = s.power.timetable ∧
        t.power.pendingTable = some (loadedTable d bs)) := by
  have hexec := exec_timetableLoad h hlen hok hbytes hentries
  generalize loadedTable d bs = T at hexec ⊢
  obtain ⟨guard, ledger, hguard⟩ := (pendingOf (s.start 0 d) T).reguard_eq
  have hcomp := completed_mgmt (t := (pendingOf (s.start 0 d) T).reguard) h (by rw [hguard]; rfl) (by rw [hguard]; rfl) (leBytes 64 T.digest.toNat)
  have hpower := Gk1.finishMgmt_power (pendingOf (s.start 0 d) T).reguard d (leBytes 64 T.digest.toNat)
  have hline := Gk1.finishMgmt_line (pendingOf (s.start 0 d) T).reguard d (leBytes 64 T.digest.toNat)
  have hdram := finishMgmt_dram (pendingOf (s.start 0 d) T).reguard d (leBytes 64 T.digest.toNat)
  rw [length_leBytes] at hcomp
  generalize (pendingOf (s.start 0 d) T).reguard.finishMgmt d (leBytes 64 T.digest.toNat) = u at hexec hcomp hpower hline hdram
  rw [hguard] at hpower hline hdram
  have hpend : u.power.pendingTable = some T := congrArg Power.pendingTable hpower
  have hdueEq : u.tableDue T = s.tableDue T := by
    unfold Gk1.tableDue
    rw [hline]
    rfl
  cases hdue : s.tableDue T
  · rw [Gk1.activate_early hpend (hdueEq.trans hdue)] at hexec
    exact ⟨_, hexec, hcomp, hdram, fun h => absurd h (by decide), fun _ => ⟨(congrArg Power.table hpower :), (congrArg Power.timetable hpower :), hpend⟩⟩
  · obtain ⟨power, ledger', hact, h1, h2, h3⟩ := Gk1.activate_due hpend (hdueEq.trans hdue)
    rw [hact] at hexec
    exact ⟨_, hexec, hcomp, hdram, fun _ => ⟨h1, h2, h3⟩, fun h => absurd h (by decide)⟩

end

/-- Settles O52. -/
theorem budgetsAndTimetables : Obligations.BudgetsAndTimetables := by
  unfold Obligations.BudgetsAndTimetables
  refine ⟨⟨fun s d h => capPreset_effect h, fun s d h => ⟨fun hok => envNotice_effect h hok.1 hok.2, fun hbad => ?_⟩,
    fun s d h => ⟨fun hkind hb => lineDisturbance_effect h hkind hb, fun hkind hbad => lineDisturbance_refused h hkind hbad,
      fun hkind hb => disturbanceClear_effect h hkind hb⟩, fun s D hD hhold => ⟨fun hover => ?_, fun hearly => ?_⟩⟩,
    fun s d h hlen => ⟨fun bs hgood hbytes hentries => ?_, fun bs hbad => ?_, fun hgood => ?_⟩,
    fun s T hT => ⟨fun hdue => ?_, fun hdue => ?_⟩, fun s => ⟨fun hsame => ?_, fun hne => ?_⟩⟩
  · refine ⟨_, show execEnvNotice s = _ from act_became ((onMgmt_of_mgmt h _).trans (congrArg Host.Outcome.next (if_pos ?_))),
      completed_refuseMgmt (starts_of_mgmt h) 1, Gk1.finish_power ..⟩
    rw [Bool.not_eq_true', Bool.eq_false_iff, ne_eq, Bool.and_eq_true, cap_ok_iff, cap_ok_iff]
    exact hbad
  · exact disturbanceEnd_over hD hhold ((over_iff D s.line).2 hover)
  · refine exec_disturbanceEnd_early hD (Bool.eq_false_iff.2 fun h => ?_)
    have := (over_iff D s.line).1 h
    omega
  · exact timetableLoad_effect h hlen ((tableFieldsOk_iff d).2 hgood) hbytes hentries
  · refine ⟨_, exec_timetableLoad_refused h hlen ?_, completed_refuseMgmt (starts_of_mgmt h) 1, Gk1.finish_power ..⟩
    exact hbad.imp_left fun hb => Bool.eq_false_iff.2 fun hok => hb ((tableFieldsOk_iff d).1 hok)
  · exact ⟨_, exec_timetableLoad_faulted h hlen ((tableFieldsOk_iff d).2 hgood), completed_refuseMgmt (starts_of_mgmt h) 0x44, Gk1.finish_power ..⟩
  · exact show execTimetableActivate s = _ from State.act_of_next _ _ s.toGk1 (congrArg Host.Outcome.next (Gk1.activate_early hT hdue))
  · obtain ⟨power, ledger, hact, h1, h2, h3⟩ := Gk1.activate_due hT hdue
    exact ⟨_, show execTimetableActivate s = _ from act_became (congrArg Host.Outcome.next hact), h1, h2, h3, rfl, rfl⟩
  · exact show execTimetableEntryBoundary s = _ from State.act_of_next _ _ s.toGk1 (congrArg Host.Outcome.next (if_neg (not_not.2 hsame)))
  · obtain ⟨limit, ledger, hreg⟩ := s.regulate_eq 0
    exact ⟨_, show execTimetableEntryBoundary s = _ from act_became (congrArg Host.Outcome.next ((if_pos hne).trans hreg)), rfl, rfl, rfl, rfl, rfl⟩

end Sys2Proof.Claims

/-! The line clock's notices and holdover, the ledger and attestation (R582-R588, R628-R633, R736-R739). -/

namespace Sys2Proof.Machine

/-! ## Line notices -/

theorem Gk1.activate_eq (s : Gk1) : ∃ power ledger, s.activate = { s with power := power, ledger := ledger } := by
  cases hpend : s.power.pendingTable with
  | none =>
    refine ⟨s.power, s.ledger, ?_⟩
    unfold Gk1.activate
    rw [hpend]
  | some T =>
    cases hdue : s.tableDue T
    · exact ⟨_, _, Gk1.activate_early hpend hdue⟩
    · obtain ⟨power, ledger, h, -⟩ := Gk1.activate_due hpend hdue
      exact ⟨_, _, h⟩

theorem Gk1.takeNotice_eq (s : Gk1) (cycle period ts : Nat) : ∃ power ledger, s.takeNotice cycle period ts = { s with
    line := (s.line.take cycle period ts s.dtime (s.deviceTime ts)).1, power := power, ledger := ledger } := by
  unfold Gk1.takeNotice
  extract_lets r u moved pw w x
  obtain ⟨lu, hu⟩ : ∃ l, u = { s with ledger := l } := by
    unfold u
    split <;> exact ⟨_, rfl⟩
  obtain ⟨px, lx, hx⟩ : ∃ p l, x = { s with line := r.1, power := p, ledger := l } := by
    unfold x w
    rw [hu]
    split <;> exact ⟨_, _, rfl⟩
  obtain ⟨limit, ledger, hreg⟩ := x.regulate_eq 0
  obtain ⟨power, ledger', hact⟩ := (x.regulate 0).activate_eq
  refine ⟨power, ledger', hact.trans ?_⟩
  rw [hreg, hx]

/-- An accepted notice locks the clock to its PERIOD. -/
theorem LineClock.take_locked (l : LineClock) (cycle period ts now : Nat) (d : Int) : (l.take cycle period ts now d).1.state = 1 ∧
    (l.take cycle period ts now d).1.period = period ∧ (l.take cycle period ts now d).1.notice = some (cycle, ts, now) := by
  unfold LineClock.take
  dsimp only
  split
  · exact ⟨rfl, rfl, rfl⟩
  · split <;> exact ⟨rfl, rfl, rfl⟩

/-- The first notice sets the clock to its CYCLE when it names this very moment. -/
theorem LineClock.take_first {l : LineClock} {cycle period ts now : Nat} (h : l.state = 0) (hcycle : cycle < 2 ^ 48) (hperiod : 0 < period) :
    (l.take cycle period ts now now).1.cycle = cycle ∧ (l.take cycle period ts now now).1.frac = 0 ∧
      (l.take cycle period ts now now).1.slew = 0 := by
  have hpos : ((cycle : Int) * ((8 * period : Nat) : Int) + ((now : Int) - now) * 8000).toNat = cycle * (8 * period) := by
    rw [sub_self, zero_mul, add_zero, ← Nat.cast_mul, Int.toNat_natCast]
  unfold LineClock.take
  rw [if_pos h]
  refine ⟨?_, ?_, rfl⟩
  · show ((cycle : Int) * ((8 * period : Nat) : Int) + ((now : Int) - now) * 8000).toNat / (8 * period) % 2 ^ 48 = cycle
    rw [hpos, Nat.mul_div_cancel _ (by omega), Nat.mod_eq_of_lt hcycle]
  · show ((cycle : Int) * ((8 * period : Nat) : Int) + ((now : Int) - now) * 8000).toNat % (8 * period) = 0
    rw [hpos, Nat.mul_mod_left]

theorem period_of_noticeGood {s : Gk1} {cycle period ts : Nat} (h : s.noticeBad cycle period ts = false) : 0 < period := by
  unfold Gk1.noticeBad at h
  have hrange := (Bool.or_eq_false_iff.1 h).1
  simp [inRange] at hrange
  omega

/-! ## The ledger -/

theorem Gk1.signRecord_seq (s : Gk1) (r : LedgerRec) : (s.signRecord r).seq = r.seq := by
  unfold Gk1.signRecord
  split <;> rfl

/-- Once the ledger key is ready a record is signed. -/
theorem Gk1.signRecord_signed {s : Gk1} (h : s.boot.lkReady = true) (r : LedgerRec) : (s.signRecord r).sig ≠ none := by
  unfold Gk1.signRecord
  split
  · next hsig =>
    rw [h, Bool.not_true, Bool.false_or] at hsig
    exact Option.isSome_iff_ne_none.1 hsig
  · exact Option.some_ne_none _

theorem LedgerRec.length_bytes (r : LedgerRec) : r.bytes.length = 5120 := by
  rw [LedgerRec.bytes, List.length_take, List.length_append, List.length_replicate]
  omega

theorem length_flatMap_bytes (l : List LedgerRec) : (l.flatMap LedgerRec.bytes).length = 5120 * l.length := by
  simp [List.length_flatMap, LedgerRec.length_bytes, Nat.mul_comm]

/-- Signing keeps the sequence numbers, so the same records are answered. -/
theorem length_signed_filter (s : Gk1) (p : Nat → Bool) : (s.signAll.ledger.held.filter fun r => p r.seq).length =
    (s.ledger.held.filter fun r => p r.seq).length := by
  show ((s.ledger.held.map s.signRecord).filter fun r => p r.seq).length = _
  rw [List.filter_map, List.length_map]
  simp only [Function.comp_def, Gk1.signRecord_seq]

theorem Gk1.length_attestReport (s : Gk1) (nonce : List Byte) : (s.attestReport nonce).length = 7744 := by
  rw [Gk1.attestReport, List.length_take, List.length_append, List.length_replicate]
  omega

theorem length_keepLast {α : Type} (l : List α) (x : α) (n : Nat) : ((l ++ [x]).drop ((l ++ [x]).length - n)).length = min (l.length + 1) n := by
  rw [List.length_drop, List.length_append, List.length_singleton]
  omega

theorem getLast?_keepLast {α : Type} (l : List α) (x : α) {n : Nat} (hn : 0 < n) :
    ((l ++ [x]).drop ((l ++ [x]).length - n)).getLast? = some x := by
  rw [List.getLast?_drop, List.getLast?_concat, if_neg]
  rw [List.length_append, List.length_singleton]
  omega

theorem Gk1.sealPeriod_eq (s : Gk1) : ∃ ledger, s.sealPeriod = { s with ledger := ledger } := ⟨_, rfl⟩

/-- A sealed period joins the records held; the last 1,024 stay. -/
theorem Gk1.sealPeriod_records (s : Gk1) : s.sealPeriod.ledger.seq = s.ledger.seq + 1 ∧
    s.sealPeriod.ledger.held.length = min (s.ledger.held.length + 1) 1024 ∧ s.sealPeriod.ledger.held.getLast? =
      some (s.signRecord { seq := s.ledger.seq + 1, body := s.recordBody (s.ledger.seq + 1), sig := none }) := by
  unfold Gk1.sealPeriod
  extract_lets seq r held
  have hheld : held = s.ledger.held ++ [r] := rfl
  clear_value held
  subst hheld
  dsimp only
  exact ⟨rfl, length_keepLast .., getLast?_keepLast _ _ (by decide)⟩

/-- A result goes out while the link is open. -/
theorem Gk1.finishMgmt_posted {s : Gk1} (hopen : s.linkOpen = true) (hheld : s.postHeld = []) (d : Desc) (bs : List Byte) :
    (s.finishMgmt d bs).posted = s.posted ++ hostPieces (bs.length + 1) (d.w 1) bs :=
  (Gk1.finish_posted ..).trans (congrArg Gk1.posted (Gk1.posts_open hopen hheld _))

end Sys2Proof.Machine

namespace Sys2Proof.Claims

open Sys2Proof.Machine

theorem exec_lineNotice {s : State} {d : Desc} (h : mgmt s.toGk1 3 d = true) : exec .lineNotice s = .next (became s
    (if s.noticeBad (fld (d.w 3) 0 48) (fld (d.w 4) 0 40) (d.w 5) then (s.start 0 d).refuseMgmt d 1
      else if !s.ptmValid then (s.start 0 d).refuseMgmt d 6
      else ((s.start 0 d).takeNotice (fld (d.w 3) 0 48) (fld (d.w 4) 0 40) (d.w 5)).finishMgmt d [])) :=
  show execLineNotice s = _ from act_became (onMgmt_of_mgmt h _)

/-- An accepted notice. -/
theorem lineNotice_effect {s : State} {d : Desc} (h : mgmt s.toGk1 3 d = true)
    (hgood : s.noticeBad (fld (d.w 3) 0 48) (fld (d.w 4) 0 40) (d.w 5) = false) (hptm : s.ptmValid = true) :
    ∃ t, exec .lineNotice s = .next t ∧ completed s.toGk1 t.toGk1 0 d {} ∧ t.line.state = 1 ∧ t.line.period = fld (d.w 4) 0 40 ∧
      t.line.notice = some (fld (d.w 3) 0 48, d.w 5, s.dtime) ∧ t.dram = s.dram ∧
      (s.line.state = 0 → s.deviceTime (d.w 5) = s.dtime → t.line.cycle = fld (d.w 3) 0 48 ∧ t.line.frac = 0 ∧ t.line.slew = 0) := by
  have hexec := exec_lineNotice h
  rw [hgood, hptm, if_neg (by decide), if_neg (by decide)] at hexec
  obtain ⟨power, ledger, htake⟩ := (s.start 0 d).takeNotice_eq (fld (d.w 3) 0 48) (fld (d.w 4) 0 40) (d.w 5)
  have hline := (Gk1.finishMgmt_line ((s.start 0 d).takeNotice (fld (d.w 3) 0 48) (fld (d.w 4) 0 40) (d.w 5)) d []).trans
    (congrArg Gk1.line htake)
  have hdram := (finishMgmt_dram ((s.start 0 d).takeNotice (fld (d.w 3) 0 48) (fld (d.w 4) 0 40) (d.w 5)) d []).trans
    (congrArg Gk1.dram htake)
  have hcomp := completed_mgmt h (t := (s.start 0 d).takeNotice (fld (d.w 3) 0 48) (fld (d.w 4) 0 40) (d.w 5))
    (by rw [htake]) (by rw [htake]; rfl) []
  obtain ⟨hstate, hperiod, hnotice⟩ := s.line.take_locked (fld (d.w 3) 0 48) (fld (d.w 4) 0 40) (d.w 5) s.dtime (s.deviceTime (d.w 5))
  refine ⟨_, hexec, hcomp, (congrArg LineClock.state hline).trans hstate, (congrArg LineClock.period hline).trans hperiod,
    (congrArg LineClock.notice hline).trans hnotice, hdram, fun hfirst htime => ?_⟩
  have hset := s.line.take_first (cycle := fld (d.w 3) 0 48) (period := fld (d.w 4) 0 40) (ts := d.w 5) (now := s.dtime) hfirst (fld_lt ..)
    (period_of_noticeGood hgood)
  rw [← htime] at hset
  obtain ⟨hcycle, hfrac, hslew⟩ := hset
  exact ⟨(congrArg LineClock.cycle hline).trans hcycle, (congrArg LineClock.frac hline).trans hfrac, (congrArg LineClock.slew hline).trans hslew⟩

/-- The part in HOLDOVER, which the open ledger record shows. -/
def holdover (s : Gk1) : Gk1 := { s with line := { s.line with state := 2 } }.ledgerFlag 4

/-- 3 s without an accepted notice. -/
theorem lineClockHoldover_effect {s : State} {n : Nat × Nat × Nat} (hn : s.line.notice = some n) (hlocked : s.line.state = 1)
    (htime : n.2.2 + 3000000000 ≤ s.dtime) : ∃ t, exec .lineClockHoldover s = .next t ∧ t.line = { s.line with state := 2 } ∧
      t.ledger.period.flags.getLsbD 4 = true ∧ t.dram = s.dram := by
  have hexec : exec .lineClockHoldover s = .next (became s ((holdover s.toGk1).regulate 0)) := by
    refine show execLineClockHoldover s = _ from act_became ?_
    rw [hn]
    exact if_pos (by simp [hlocked, htime])
  have hline : (holdover s.toGk1).line = { s.line with state := 2 } := rfl
  have hdram : (holdover s.toGk1).dram = s.dram := rfl
  have hflag : (holdover s.toGk1).ledger.period.flags.getLsbD 4 = true :=
    (BitVec.getLsbD_or ..).trans (by rw [show (BitVec.ofNat 32 (2 ^ 4)).getLsbD 4 = true by decide, Bool.or_true])
  generalize holdover s.toGk1 = u at hexec hline hdram hflag
  obtain ⟨limit, ledger, hreg, hflags⟩ := u.regulate_spec 0
  rw [hreg] at hexec
  exact ⟨_, hexec, hline, hflags 4 hflag, hdram⟩

theorem lineClockSlewEnd_effect {s : State} (hpos : 0 < s.line.slew) (hle : s.line.slew ≤ 1000) :
    ∃ t, exec .lineClockSlewEnd s = .next t ∧ t.line.slew = 0 ∧ t.line.cycle = s.line.cycle ∧ t.line.period = s.line.period ∧
      t.power = s.power ∧ t.dram = s.dram :=
  ⟨_, show execLineClockSlewEnd s = _ from act_became (if_neg (by simp [Nat.ne_of_gt hpos, hle])), rfl, rfl, rfl, rfl, rfl⟩

theorem ledgerPeriodEnd_effect {s : State} (hp : s.powered = true)
    (hnext : s.ledger.period.cstart / s.ledgerCycles < s.line.cycle / s.ledgerCycles) :
    ∃ t, exec .ledgerPeriodEnd s = .next t ∧ t.ledger.seq = s.ledger.seq + 1 ∧ t.ledger.held.length = min (s.ledger.held.length + 1) 1024 ∧
      t.ledger.held.getLast? = some (s.signRecord { seq := s.ledger.seq + 1, body := s.recordBody (s.ledger.seq + 1), sig := none }) ∧
      t.ledger.period.cstart = s.line.cycle ∧ t.ledger.period.dstart = s.dtime ∧ t.ledger.period.energy = 0 ∧ t.power = s.power ∧
      t.dram = s.dram := by
  have hexec : exec .ledgerPeriodEnd s = .next (became s s.sealPeriod.openPeriod) :=
    show execLedgerPeriodEnd s = _ from act_became (if_pos (by simp [hp, hnext]))
  obtain ⟨hseq, hlen, hlast⟩ := s.sealPeriod_records
  obtain ⟨ledger, hseal⟩ := s.sealPeriod_eq
  rw [hseal] at hexec hseq hlen hlast
  exact ⟨_, hexec, hseq, hlen, hlast, rfl, rfl, rfl, rfl, rfl⟩

/-- LEDGER_GET answers the records whose numbers are asked for. -/
theorem ledgerGet_effect {s : State} {d : Desc} (h : mgmt s.toGk1 6 d = true) (hlen : 5120 * fld (d.w 4) 0 11 ≤ d.w 2)
    (hcount : 1 ≤ fld (d.w 4) 0 11) (hmax : fld (d.w 4) 0 11 ≤ 1024) : ∃ t, exec .ledgerGet s = .next t ∧ t.dram = s.dram ∧
      completed s.toGk1 t.toGk1 0 d { data := 5120 *
        (s.ledger.held.filter fun r => decide (fld (d.w 3) 0 32 ≤ r.seq) && decide (r.seq < fld (d.w 3) 0 32 + fld (d.w 4) 0 11)).length } := by
  refine ⟨_, show execLedgerGet s = _ from act_became ((onMgmt_of_mgmt h _).trans (congrArg Host.Outcome.next
    ((if_neg (Nat.not_lt.2 hlen)).trans (if_neg ?_)))), finishMgmt_dram .., ?_⟩
  · simp [inRange, hcount, hmax]
  · have hcomp := completed_mgmt h (t := (s.start 0 d).signAll) rfl rfl (((s.start 0 d).signAll.ledger.held.filter fun r =>
      decide (fld (d.w 3) 0 32 ≤ r.seq) && decide (r.seq < fld (d.w 3) 0 32 + fld (d.w 4) 0 11)).flatMap LedgerRec.bytes)
    rw [length_flatMap_bytes, length_signed_filter (s.start 0 d)
      fun n => decide (fld (d.w 3) 0 32 ≤ n) && decide (n < fld (d.w 3) 0 32 + fld (d.w 4) 0 11)] at hcomp
    exact hcomp

/-- ATTEST posts its report to RESULTVA. -/
theorem attest_effect {s : State} {d : Desc} (h : mgmt s.toGk1 0xF d = true) (hlen : 7744 ≤ d.w 2) (hopen : s.linkOpen = true)
    (hheld : s.postHeld = []) : ∃ t, exec .attest s = .next t ∧ completed s.toGk1 t.toGk1 0 d { data := 7744 } ∧ t.dram = s.dram ∧
      t.posted = s.posted ++ hostPieces 7745 (d.w 1)
        (s.attestReport (leBytes 8 (d.w 3) ++ leBytes 8 (d.w 4) ++ leBytes 8 (d.w 5) ++ leBytes 8 (d.w 6))) := by
  have hreport : (s.start 0 d).attestReport (leBytes 8 (d.w 3) ++ leBytes 8 (d.w 4) ++ leBytes 8 (d.w 5) ++ leBytes 8 (d.w 6)) =
      s.attestReport (leBytes 8 (d.w 3) ++ leBytes 8 (d.w 4) ++ leBytes 8 (d.w 5) ++ leBytes 8 (d.w 6)) := rfl
  have hlength := s.length_attestReport (leBytes 8 (d.w 3) ++ leBytes 8 (d.w 4) ++ leBytes 8 (d.w 5) ++ leBytes 8 (d.w 6))
  have hexec : exec .attest s = .next (became s ((s.start 0 d).finishMgmt d
      (s.attestReport (leBytes 8 (d.w 3) ++ leBytes 8 (d.w 4) ++ leBytes 8 (d.w 5) ++ leBytes 8 (d.w 6))))) := by
    rw [← hreport]
    exact show execAttest s = _ from act_became ((onMgmt_of_mgmt h _).trans (congrArg Host.Outcome.next (if_neg (Nat.not_lt.2 hlen))))
  generalize s.attestReport (leBytes 8 (d.w 3) ++ leBytes 8 (d.w 4) ++ leBytes 8 (d.w 5) ++ leBytes 8 (d.w 6)) = bs at hexec hlength ⊢
  have hcomp := completed_mgmt h (t := s.start 0 d) rfl rfl bs
  have hposted := Gk1.finishMgmt_posted (s := s.start 0 d) hopen hheld d bs
  rw [hlength] at hcomp hposted
  exact ⟨_, hexec, hcomp, finishMgmt_dram .., hposted⟩

/-- Settles O53. -/
theorem lineClockAndLedger : Obligations.LineClockAndLedger := by
  unfold Obligations.LineClockAndLedger
  refine ⟨⟨fun s d h => ⟨fun hbad => ?_, fun hgood hptm => ?_, fun hgood hptm => lineNotice_effect h hgood hptm⟩,
    fun s n hn hlocked htime => lineClockHoldover_effect hn hlocked htime, fun s hpos hle => lineClockSlewEnd_effect hpos hle⟩,
    fun s hp hnext => ledgerPeriodEnd_effect hp hnext,
    fun s => ⟨show execLedgerSign s = _ from act_became rfl, fun hkey r hr => ?_⟩,
    fun s d h hlen => ⟨fun hbad => ?_, fun hcount hmax => ledgerGet_effect h hlen hcount hmax⟩,
    fun s d h => ⟨fun hlen => ?_, fun hlen hopen hheld => ?_⟩⟩
  · have hexec := exec_lineNotice h
    rw [if_pos hbad] at hexec
    exact ⟨_, hexec, completed_refuseMgmt (starts_of_mgmt h) 1, Gk1.finish_line ..⟩
  · have hexec := exec_lineNotice h
    rw [hgood, hptm, if_neg (by decide), if_pos (by decide)] at hexec
    exact ⟨_, hexec, completed_refuseMgmt (starts_of_mgmt h) 6, Gk1.finish_line ..⟩
  · obtain ⟨r', -, rfl⟩ := List.mem_map.1 hr
    exact Gk1.signRecord_signed hkey r'
  · refine ⟨_, show execLedgerGet s = _ from act_became ((onMgmt_of_mgmt h _).trans (congrArg Host.Outcome.next
      ((if_neg (Nat.not_lt.2 hlen)).trans (if_pos ?_)))), completed_refuseMgmt (starts_of_mgmt h) 1, Gk1.finish_ledger ..⟩
    simp only [inRange]
    rcases hbad with h0 | hbig
    · simp [h0]
    · simp [hbig]
  · exact ⟨_, show execAttest s = _ from act_became ((onMgmt_of_mgmt h _).trans (congrArg Host.Outcome.next (if_pos hlen))),
      completed_refuseMgmt (starts_of_mgmt h) 1, Gk1.finish_dram ..⟩
  · obtain ⟨t, hexec, hcomp, hdram, hposted⟩ := attest_effect h hlen hopen hheld
    exact ⟨t, [], [], hexec, hcomp, hdram, by rw [hposted, List.append_nil, List.append_nil]⟩

end Sys2Proof.Claims

/-! Estimates, measurement, the power tick, operating points, droop and heat (R598-R618, R623, R640). -/

namespace Sys2Proof.Machine

/-! ## Parking -/

/-- What parking may do: clusters are held no more, or wait for it. -/
structure Parks (s t : Gk1) : Prop where
  eq : ∃ clusters due parked, t = { s with clusters := clusters, power := { s.power with parkDue := due, parked := parked } }
  held : ∀ c, (t.cluster c).held = true → (s.cluster c).held = true
  due : ∀ c ∈ s.power.parkDue, c ∈ t.power.parkDue

theorem Parks.refl (s : Gk1) : Parks s s := ⟨⟨_, _, _, rfl⟩, fun _ h => h, fun _ h => h⟩

theorem Parks.trans {s t u : Gk1} (h : Parks s t) (h' : Parks t u) : Parks s u where
  eq := by
    obtain ⟨_, _, _, ht⟩ := h.eq
    obtain ⟨_, _, _, hu⟩ := h'.eq
    exact ⟨_, _, _, hu.trans (by rw [ht])⟩
  held c hc := h.held c (h'.held c hc)
  due c hc := h'.due c (h.due c hc)

theorem Parks.foldl {α : Type} {f : Gk1 → α → Gk1} (hf : ∀ s x, Parks s (f s x)) (l : List α) (s : Gk1) : Parks s (l.foldl f s) :=
  List.foldlRecOn l f (motive := Parks s) (.refl s) fun t h x _ => h.trans (hf t x)

/-- A cluster that no longer has to be parked: it is not held, or waits. -/
def Settled (s : Gk1) (c : Nat) : Prop := (s.cluster c).held = false ∨ c ∈ s.power.parkDue

theorem Parks.settled {s t : Gk1} (h : Parks s t) {c : Nat} (hc : Settled s c) : Settled t c :=
  hc.imp (fun hs => Bool.eq_false_iff.2 fun ht => Bool.eq_false_iff.1 hs (h.held c ht)) (h.due c)

theorem Gk1.park_later {s : Gk1} {c : Nat} (h : (!s.dispatcherRuns || decide (s.slotClusters ≤ s.parkedNow (regionOf c))) = true) :
    s.park c = { s with power := { s.power with parkDue := s.power.parkDue ++ [c] } } := if_pos h

theorem Gk1.park_now {s : Gk1} {c : Nat} (h : (!s.dispatcherRuns || decide (s.slotClusters ≤ s.parkedNow (regionOf c))) ≠ true) :
    s.park c = { s.modCluster c fun C => { C with held := false } with power := { s.power with
      parked := NMap.set s.power.parked (regionOf c) (s.dtime / 128, s.parkedNow (regionOf c) + 1) } } := if_neg h

theorem Gk1.park_parks (s : Gk1) (c : Nat) : Parks s (s.park c) := by
  by_cases h : (!s.dispatcherRuns || decide (s.slotClusters ≤ s.parkedNow (regionOf c))) = true
  · rw [Gk1.park_later h]
    exact ⟨⟨_, _, _, rfl⟩, fun _ hc => hc, fun _ hc => List.mem_append_left _ hc⟩
  · rw [Gk1.park_now h]
    refine ⟨⟨_, _, _, rfl⟩, fun k hk => ?_, fun _ hc => hc⟩
    have hk' : ((s.modCluster c fun C => { C with held := false }).cluster k).held = true := hk
    rw [Gk1.cluster_modCluster] at hk'
    split at hk'
    · exact absurd hk' Bool.false_ne_true
    · exact hk'

theorem Gk1.park_settles (s : Gk1) (c : Nat) : Settled (s.park c) c := by
  by_cases h : (!s.dispatcherRuns || decide (s.slotClusters ≤ s.parkedNow (regionOf c))) = true
  · rw [Gk1.park_later h]
    exact .inr (List.mem_append_right _ (List.mem_singleton_self c))
  · rw [Gk1.park_now h]
    refine .inl ((congrArg Cluster.held (s.cluster_modCluster c c fun C => { C with held := false })).trans ?_)
    rw [if_pos rfl]

theorem foldl_park_settles (l : List Nat) (s : Gk1) {c : Nat} (h : c ∈ l ∨ Settled s c) : Settled (l.foldl (fun s c => s.park c) s) c := by
  induction l generalizing s with
  | nil => exact h.resolve_left (List.not_mem_nil)
  | cons k l ih =>
    rw [List.foldl_cons]
    refine ih _ ?_
    rcases h with hmem | hset
    · rcases List.mem_cons.1 hmem with rfl | hmem
      · exact .inr (s.park_settles c)
      · exact .inl hmem
    · exact .inr ((s.park_parks k).settled hset)

theorem Gk1.parkAll_parks (s : Gk1) (cs : List Nat) : Parks s (s.parkAll cs) := Parks.foldl Gk1.park_parks _ s

theorem Gk1.parkAll_settles (s : Gk1) {cs : List Nat} {c : Nat} (hc : c ∈ cs) : Settled (s.parkAll cs) c := by
  refine foldl_park_settles _ s ?_
  by_cases hsel : ((s.cluster c).held && !s.power.parkDue.contains c) = true
  · exact .inl (List.mem_filter.2 ⟨hc, hsel⟩)
  · refine .inr ?_
    by_cases hheld : (s.cluster c).held = true
    · refine .inr ?_
      rw [hheld, Bool.true_and, Bool.not_eq_true', Bool.not_eq_false] at hsel
      exact List.contains_iff_mem.1 hsel
    · exact .inl (Bool.eq_false_iff.2 hheld)

theorem Gk1.parkedNow_set {s : Gk1} {r n : Nat} (h : NMap.get? s.power.parked r = some (s.dtime / 128, n)) : s.parkedNow r = n := by
  unfold Gk1.parkedNow
  rw [h]
  exact if_pos rfl

theorem Gk1.parkedNow_none {s : Gk1} {r : Nat} (h : NMap.get? s.power.parked r = none) : s.parkedNow r = 0 := by
  unfold Gk1.parkedNow
  rw [h]

/-- While their number of a slot is not used up, clusters of one region are parked at once. -/
theorem foldl_park_now (l : List Nat) (s : Gk1) {r : Nat} (hruns : s.dispatcherRuns = true) (hr : ∀ c ∈ l, regionOf c = r)
    (hroom : s.parkedNow r + l.length ≤ s.slotClusters) {c : Nat} (h : c ∈ l ∨ (s.cluster c).held = false) :
    ((l.foldl (fun s c => s.park c) s).cluster c).held = false := by
  induction l generalizing s with
  | nil => exact h.resolve_left (List.not_mem_nil)
  | cons k l ih =>
    rw [List.foldl_cons]
    rw [List.length_cons] at hroom
    have hk : regionOf k = r := hr k List.mem_cons_self
    have hnow := s.park_now (c := k) (by rw [hk, hruns]; simp; omega)
    refine ih (s.park k) ?_ (fun c hc => hr c (List.mem_cons_of_mem _ hc)) ?_ ?_
    · rw [hnow]
      exact hruns
    · have hcount : (s.park k).parkedNow r = s.parkedNow r + 1 := by
        rw [hnow, hk]
        exact Gk1.parkedNow_set ((NMap.get?_set ..).trans (if_pos rfl))
      rw [hcount, hnow]
      show _ ≤ s.slotClusters
      omega
    · rcases h with hmem | hset
      · rcases List.mem_cons.1 hmem with rfl | hmem
        · right
          rw [hnow]
          exact (congrArg Cluster.held (s.cluster_modCluster c c fun C => { C with held := false })).trans (by rw [if_pos rfl])
        · exact .inl hmem
      · exact .inr (Bool.eq_false_iff.2 fun ht => Bool.eq_false_iff.1 hset ((s.park_parks k).held c ht))

theorem Parking.one_parks (go : Int → Int → Bool) (p : Parking) (c : Nat) : Parks p.s (Parking.one go p c).s := by
  unfold Parking.one
  dsimp only
  split
  · exact .refl _
  · split
    · exact .refl _
    · split
      · exact .refl _
      · exact p.s.park_parks c

theorem Parking.foldl_one_parks (go : Int → Int → Bool) (l : List Nat) (p : Parking) : Parks p.s (l.foldl (Parking.one go) p).s :=
  List.foldlRecOn l _ (motive := fun q => Parks p.s q.s) (.refl _) fun q h c _ => h.trans (Parking.one_parks go q c)

theorem Gk1.parkTick_parks (s : Gk1) (fl cl e : Int) : Parks s (s.parkTick fl cl e).1 :=
  Parks.trans (Parking.foldl_one_parks _ s.candidates { s := s, e := e })
    (Parking.foldl_one_parks (fun e _ => decide (cl < e)) _ { (s.candidates.foldl _ { s := s, e := e } : Parking) with stop := false })

theorem Gk1.parkQuadrant_parks (s : Gk1) (q mw : Nat) : Parks s (s.parkQuadrant q mw) := by
  unfold Gk1.parkQuadrant
  split
  · exact .refl s
  · exact Parking.foldl_one_parks _ _ { s := s, e := (mw : Int) }

/-! ## Measurement -/

/-- What follows a measurement: its values, the energy of the open period and its flags stay. -/
structure Judges (s t : Gk1) : Prop where
  meas : t.power.meas = s.power.meas
  railAt : t.power.railAt = s.power.railAt
  energy : t.ledger.period.energy = s.ledger.period.energy
  flags : FlagsKept s.ledger t.ledger
  dram : t.dram = s.dram

theorem Judges.refl (s : Gk1) : Judges s s := ⟨rfl, rfl, rfl, fun _ h => h, rfl⟩

theorem Judges.trans {s t u : Gk1} (h : Judges s t) (h' : Judges t u) : Judges s u :=
  ⟨h'.meas.trans h.meas, h'.railAt.trans h.railAt, h'.energy.trans h.energy, fun b hb => h'.flags b (h.flags b hb), h'.dram.trans h.dram⟩

theorem Judges.ledgerFlag {s t : Gk1} (h : Judges s t) (bit : Nat) : Judges s (t.ledgerFlag bit) :=
  ⟨h.meas, h.railAt, h.energy, h.flags.ledgerFlag bit, h.dram⟩

theorem Judges.of_parks {s t : Gk1} (h : Parks s t) : Judges s t := by
  obtain ⟨_, _, _, ht⟩ := h.eq
  rw [ht]
  exact ⟨rfl, rfl, rfl, fun _ hb => hb, rfl⟩

theorem Gk1.closeTen_judges (s : Gk1) : Judges s s.closeTen := by
  unfold Gk1.closeTen
  split
  · exact .refl s
  · exact ⟨rfl, rfl, rfl, fun _ hb => hb, rfl⟩

theorem Gk1.judge_judges (s : Gk1) : Judges s s.judge := by
  unfold Gk1.judge
  extract_lets h b t now old u
  have ht : Judges s t := by
    unfold t
    split
    · exact (Judges.refl s).ledgerFlag 0
    · exact .refl s
  have hu : Judges s u := by
    unfold u
    split
    · exact ht.ledgerFlag 1
    · exact ht
  split
  · exact ht
  · split
    · exact ht
    · split
      · exact hu.ledgerFlag 2
      · exact hu

/-- What follows the record of a measurement. -/
def afterRail (s : Gk1) (vals : List Nat) : Gk1 :=
  let s := s.closeTen
  if !s.powerOn then s else
  (vals.zip (List.range 4)).foldl (fun s e => s.parkQuadrant e.2 e.1) (if s.power.disturb.isSome then s.excuse else s).judge

theorem afterRail_judges (s : Gk1) (vals : List Nat) : Judges s (afterRail s vals) := by
  unfold afterRail
  extract_lets t
  have ht : Judges s t := s.closeTen_judges
  have he : Judges t (if t.power.disturb.isSome then t.excuse else t) := by
    split
    · exact ⟨rfl, rfl, rfl, fun _ hb => hb, rfl⟩
    · exact .refl t
  split
  · exact ht
  · exact ht.trans (he.trans ((Gk1.judge_judges _).trans (.of_parks (Parks.foldl (fun s (e : Nat × Nat) => s.parkQuadrant_parks e.2 e.1) _ _))))

/-- The record of a measurement. -/
def recordRail (s : Gk1) (vals : List Nat) : Gk1 :=
  { s with
    power := { s.power with
      railAt := some s.dtime, entryMeas := vals, meas := vals.sum, measN := s.power.measN + 1
      hist := (vals.sum :: s.power.hist).take 100, tenAcc := s.power.tenAcc + vals.sum
      entryHist := (vals :: s.power.entryHist).take 100
      measQ := (vals.zip (List.range 4)).foldl (fun (m : NMap Nat) (e : Nat × Nat) => NMap.put m e.2 (NMap.getD m e.2 0 + 10 * e.1) 0)
        s.power.measQ }
    ledger := { s.ledger with period := { s.ledger.period with energy := s.ledger.period.energy + 10 * vals.sum } } }

/-! ## Calibration -/

theorem Gk1.calibrateQuadrant_eq (s : Gk1) (q m : Nat) : ∃ power ledger, s.calibrateQuadrant q m = { s with power := power, ledger := ledger } := by
  unfold Gk1.calibrateQuadrant
  dsimp only
  split
  · exact ⟨_, _, rfl⟩
  · split <;> exact ⟨_, _, rfl⟩

theorem calibrate_eq (l : List (Nat × Nat)) (s : Gk1) :
    ∃ power ledger, l.foldl (fun s e => s.calibrateQuadrant e.2 e.1) s = { s with power := power, ledger := ledger } :=
  List.foldlRecOn l _ (motive := fun t => ∃ power ledger, t = { s with power := power, ledger := ledger }) ⟨_, _, rfl⟩ fun t h e _ => by
    obtain ⟨_, _, rfl⟩ := h
    obtain ⟨_, _, h⟩ := Gk1.calibrateQuadrant_eq _ e.2 e.1
    exact ⟨_, _, h⟩

/-- The part with its coefficients calibrated. -/
def calibrated (s : Gk1) : Gk1 := { s with power := { s.power with
  calAt := some s.dtime, estQ := [], measQ := [], calibrated := true, floor := Config.staticDraw } }

/-! ## The power tick -/

/-- What counting a microsecond, and showing it, leave alone. -/
structure Counts (s t : Gk1) : Prop where
  clusters : t.clusters = s.clusters
  cores : t.cores = s.cores
  kernels : t.kernels = s.kernels
  dram : t.dram = s.dram
  dtime : t.dtime = s.dtime

theorem Counts.refl (s : Gk1) : Counts s s := ⟨rfl, rfl, rfl, rfl, rfl⟩

theorem Counts.trans {s t u : Gk1} (h : Counts s t) (h' : Counts t u) : Counts s u :=
  ⟨h'.clusters.trans h.clusters, h'.cores.trans h.cores, h'.kernels.trans h.kernels, h'.dram.trans h.dram, h'.dtime.trans h.dtime⟩

theorem Counts.foldl {α : Type} {f : Gk1 → α → Gk1} (hf : ∀ s x, Counts s (f s x)) (l : List α) (s : Gk1) : Counts s (l.foldl f s) :=
  List.foldlRecOn l f (motive := Counts s) (.refl s) fun t h x _ => h.trans (hf t x)

theorem Gk1.countRegion_counts (s : Gk1) (r : Nat) : Counts s (s.countRegion r) := by
  unfold Gk1.countRegion
  extract_lets R u mw b v w x y
  have hu : Counts s u := by
    unfold u
    split <;> exact ⟨rfl, rfl, rfl, rfl, rfl⟩
  have hv : Counts u v := by
    unfold v
    split <;> exact ⟨rfl, rfl, rfl, rfl, rfl⟩
  have hx : Counts s x := (hu.trans hv).trans ⟨rfl, rfl, rfl, rfl, rfl⟩
  cases R.owner with
  | none => exact hx
  | some c =>
    obtain ⟨ctxs, hctx⟩ := Gk1.countCtx_eq { x with power := { x.power with estC := (account x.power.estC c R.estimate).1 } } c 13
      (account x.power.estC c R.estimate).2
    refine hx.trans ?_
    show Counts x (Gk1.countCtx { x with power := { x.power with estC := (account x.power.estC c R.estimate).1 } } c 13
      (account x.power.estC c R.estimate).2)
    rw [hctx]
    exact ⟨rfl, rfl, rfl, rfl, rfl⟩

/-- What showing parked clusters leaves alone. -/
theorem Gk1.tracePark_keeps (s : Gk1) (r : Nat) : Counts s (s.tracePark r) ∧ (s.tracePark r).power = s.power := by
  unfold Gk1.tracePark
  dsimp only
  split
  · exact ⟨.refl s, rfl⟩
  · exact ⟨⟨by simp [Gk1.modRegion], by simp [Gk1.modRegion], by simp [Gk1.modRegion], by simp, by simp [Gk1.modRegion]⟩,
      by simp [Gk1.modRegion]⟩

/-- Counting the arrays' ACLK afresh changes no cluster otherwise. -/
theorem Gk1.ranOver_eq (s : Gk1) : ∃ clusters, s.ranOver = { s with clusters := clusters } ∧
    ∀ c, (NMap.getD clusters c {}).held = (s.cluster c).held := by
  unfold Gk1.ranOver
  refine List.foldlRecOn _ _ (motive := fun t => ∃ clusters, t = { s with clusters := clusters } ∧
    ∀ c, (NMap.getD clusters c {}).held = (s.cluster c).held) ⟨_, rfl, fun _ => rfl⟩ fun t h k _ => ?_
  obtain ⟨clusters, rfl, hheld⟩ := h
  refine ⟨_, rfl, fun c => ?_⟩
  refine (congrArg Cluster.held (NMap.getD_set ..)).trans ?_
  split
  · next h => exact h ▸ hheld k
  · exact hheld c

/-- The parking of a tick, with its ceiling and allowance. -/
def tickPark (s : Gk1) : Gk1 :=
  let e : Int := s.estimateNow
  let cl := min (s.power.eff : Int) (s.power.ePrev + s.power.up)
  let fl := if s.power.disturb.isSome then 0 else s.power.ePrev - s.power.down
  let p := s.parkTick fl cl e
  { p.1 with power := { p.1.power with
    tickAt := some s.dtime, est := s.estimateNow, ceil := cl.toNat, allowance := cl - p.2, ePrev := p.2 } }

/-- The ceiling lies within the effective budget, and no cluster becomes held. -/
theorem tickPark_effect (s : Gk1) : (tickPark s).power.tickAt = some s.dtime ∧ (tickPark s).power.ceil ≤ (tickPark s).power.eff ∧
    (∀ c, ((tickPark s).cluster c).held = true → (s.cluster c).held = true) ∧ (tickPark s).cores = s.cores ∧
    (tickPark s).kernels = s.kernels ∧ (tickPark s).dram = s.dram := by
  unfold tickPark
  extract_lets e cl fl p v pw
  have hparks : Parks s v := s.parkTick_parks fl cl e
  have hcl : cl ≤ s.power.eff := min_le_left _ _
  have hpw : pw.eff = v.power.eff := rfl
  clear_value pw v cl
  obtain ⟨_, _, _, hv⟩ := hparks.eq
  have heff : v.power.eff = s.power.eff := (congrArg (fun u : Gk1 => u.power.eff) hv :)
  have hcores : v.cores = s.cores := (congrArg Gk1.cores hv :)
  have hkernels : v.kernels = s.kernels := (congrArg Gk1.kernels hv :)
  have hdram : v.dram = s.dram := (congrArg Gk1.dram hv :)
  refine ⟨rfl, ?_, hparks.held, hcores, hkernels, hdram⟩
  show cl.toNat ≤ pw.eff
  rw [hpw, heff]
  omega

/-! ## Operating points -/

theorem Gk1.trace_rgnCnt (s : Gk1) (kind ctx queue unit : Nat) (data : List Byte) :
    (s.trace kind ctx queue unit data).obs.rgnCnt = s.obs.rgnCnt := by
  unfold Gk1.trace
  dsimp only
  split
  · split
    · show (s.post _ _).obs.rgnCnt = _
      rw [Gk1.post_obs]
    · rfl
  · rfl

theorem Gk1.move_effect (s : Gk1) (r k : Nat) : (s.move r k).region r = { s.region r with point := k, moving := true, moveAt := s.dtime } ∧
    (s.move r k).power = s.power ∧ (s.move r k).dram = s.dram := by
  refine ⟨?_, by simp [Gk1.move, Gk1.countRgn, Gk1.modRegion], by simp [Gk1.move, Gk1.countRgn]⟩
  refine (congrArg (fun m : NMap Region => NMap.getD m r {}) (Gk1.trace_regions ..)).trans ?_
  exact (s.region_modRegion r r fun R => { R with point := k, moving := true, moveAt := s.dtime }).trans (if_pos rfl)

/-- A throttled region slows by one point, when a move is due and the down-slope has made room. -/
def throttle (s : Gk1) (r : Nat) : Gk1 :=
  if !(s.moveDue r && decide ((s.region r).point < 15) && decide (s.power.fallFrom ≤ s.dtime)) then s else
  Gk1.move { s with power := { s.power with fallFrom := s.dtime + s.stepFall r * 1000 / max s.power.down 1 } } r ((s.region r).point + 1)

/-- What a region past TJ_CRIT notes. -/
theorem Gk1.crit_eq (s : Gk1) : ∃ ledger, (s.ledgerFlag 10).evenBroken.excuse =
    { s with ledger := ledger, power := { s.power with excused := some s.dtime } } ∧ ledger.period.flags.getLsbD 10 = true := by
  have hflag : (s.ledgerFlag 10).ledger.period.flags.getLsbD 10 = true :=
    (BitVec.getLsbD_or ..).trans (by rw [show (BitVec.ofNat 32 (2 ^ 10)).getLsbD 10 = true by decide, Bool.or_true])
  unfold Gk1.evenBroken
  split
  · exact ⟨_, rfl, FlagsKept.ledgerFlag (s := s.ledgerFlag 10) (fun _ hb => hb) 9 10 hflag⟩
  · exact ⟨_, rfl, hflag⟩

end Sys2Proof.Machine

namespace Sys2Proof.Claims

open Sys2Proof.Machine

section
variable {s : State} (hdue : s.due s.power.railAt 10000 = true)
include hdue

theorem exec_railMeasurement_good (a b c d : Nat) : exec (.railMeasurement [some a, some b, some c, some d]) s =
    .next (became s (afterRail (recordRail s.toGk1 [a, b, c, d]) [a, b, c, d])) := by
  refine show execRailMeasurement [some a, some b, some c, some d] s = _ from act_became ((if_neg (by simp [hdue])).trans ?_)
  exact (apply_ite Host.Outcome.next ..).symm

theorem exec_railMeasurement_failed (b c d : Nat) : exec (.railMeasurement [none, some b, some c, some d]) s =
    .next (became s (afterRail (recordRail (s.ledgerFlag 7) [s.quadrantEst 0, b, c, d]) [s.quadrantEst 0, b, c, d])) := by
  refine show execRailMeasurement [none, some b, some c, some d] s = _ from act_became ((if_neg (by simp [hdue])).trans ?_)
  exact (apply_ite Host.Outcome.next ..).symm

theorem railMeasurement_good (a b c d : Nat) : ∃ t, exec (.railMeasurement [some a, some b, some c, some d]) s = .next t ∧
    t.power.meas = a + b + c + d ∧ t.power.railAt = some s.dtime ∧
    t.ledger.period.energy = s.ledger.period.energy + 10 * (a + b + c + d) ∧ t.dram = s.dram := by
  have hexec := exec_railMeasurement_good hdue a b c d
  have hj := afterRail_judges (recordRail s.toGk1 [a, b, c, d]) [a, b, c, d]
  generalize afterRail (recordRail s.toGk1 [a, b, c, d]) [a, b, c, d] = t at hexec hj
  have hsum : [a, b, c, d].sum = a + b + c + d := by simp; omega
  exact ⟨_, hexec, hj.meas.trans hsum, hj.railAt, hj.energy.trans (congrArg (fun n => s.ledger.period.energy + 10 * n) hsum), hj.dram⟩

theorem railMeasurement_failed (b c d : Nat) : ∃ t, exec (.railMeasurement [none, some b, some c, some d]) s = .next t ∧
    t.power.meas = s.quadrantEst 0 + b + c + d ∧ t.ledger.period.flags.getLsbD 7 = true ∧ t.dram = s.dram := by
  have hexec := exec_railMeasurement_failed hdue b c d
  generalize s.quadrantEst 0 = a at hexec ⊢
  have hj := afterRail_judges (recordRail (s.ledgerFlag 7) [a, b, c, d]) [a, b, c, d]
  have hflag : (recordRail (s.ledgerFlag 7) [a, b, c, d]).ledger.period.flags.getLsbD 7 = true :=
    (BitVec.getLsbD_or ..).trans (by rw [show (BitVec.ofNat 32 (2 ^ 7)).getLsbD 7 = true by decide, Bool.or_true])
  generalize afterRail (recordRail (s.ledgerFlag 7) [a, b, c, d]) [a, b, c, d] = t at hexec hj
  have hsum : [a, b, c, d].sum = a + b + c + d := by simp; omega
  exact ⟨_, hexec, hj.meas.trans hsum, hj.flags 7 hflag, hj.dram⟩

end

theorem calibration_effect {s : State} (hon : s.powerOn = true) (hdue : s.due s.power.calAt 10000000 = true) :
    ∃ t, exec (.calibration s.measured) s = .next t ∧ t.power.calAt = some s.dtime ∧ t.power.calibrated = true ∧
      t.power.limit = firstPoint (fun k => decide (t.fullLoad k ≤ t.power.eff)) ∧ t.clusters = s.clusters ∧ t.dram = s.dram := by
  obtain ⟨power, ledger, hcal⟩ := calibrate_eq (s.measured.zip (List.range 4)) s.toGk1
  have hexec : exec (.calibration s.measured) s = .next (became s
      (calibrated ((s.measured.zip (List.range 4)).foldl (fun s e => s.calibrateQuadrant e.2 e.1) s.toGk1)).relimit.reguard) :=
    show execCalibration s.measured s = _ from act_became (if_neg (by simp [hon, hdue]))
  rw [hcal] at hexec
  have hat : (calibrated { s.toGk1 with power := power, ledger := ledger }).power.calAt = some s.dtime := rfl
  have hdone : (calibrated { s.toGk1 with power := power, ledger := ledger }).power.calibrated = true := rfl
  have hcl : (calibrated { s.toGk1 with power := power, ledger := ledger }).clusters = s.clusters := rfl
  have hdram : (calibrated { s.toGk1 with power := power, ledger := ledger }).dram = s.dram := rfl
  generalize calibrated { s.toGk1 with power := power, ledger := ledger } = u at hexec hat hdone hcl hdram
  obtain ⟨guard, ledger', hguard⟩ := u.relimit.reguard_eq
  rw [hguard] at hexec
  exact ⟨_, hexec, hat, hdone, rfl, hcl, hdram⟩

theorem powerTick_effect {s : State} (hon : s.powerOn = true) (hruns : s.dispatcherRuns = true) (hdue : s.due s.power.tickAt 1000 = true) :
    ∃ t, exec .powerTick s = .next t ∧ t.power.tickAt = some s.dtime ∧ t.power.ceil ≤ t.power.eff ∧
      (∀ c, (t.cluster c).held = true → (s.cluster c).held = true) ∧ t.cores = s.cores ∧ t.kernels = s.kernels ∧ t.dram = s.dram := by
  have hexec : exec .powerTick s = .next (became s ((List.range 64).foldl (fun (s : Gk1) r => s.tracePark r)
      (tickPark ((List.range 64).foldl (fun s r => s.countRegion r) (s.regulate s.power.down))).ranOver)) :=
    show execPowerTick s = _ from act_became (if_neg (by simp [hon, hruns, hdue]))
  have hcount : Counts s.toGk1 ((List.range 64).foldl (fun s r => s.countRegion r) (s.regulate s.power.down)) := by
    obtain ⟨limit, ledger, hreg⟩ := s.regulate_eq s.power.down
    refine Counts.trans ?_ (Counts.foldl Gk1.countRegion_counts _ _)
    rw [hreg]
    exact ⟨rfl, rfl, rfl, rfl, rfl⟩
  generalize (List.range 64).foldl (fun s r => s.countRegion r) (s.regulate s.power.down) = u at hexec hcount
  obtain ⟨hat, hceil, hheld, hcores, hkernels, hdram⟩ := tickPark_effect u
  generalize tickPark u = v at hexec hat hceil hheld hcores hkernels hdram
  obtain ⟨clusters, hran, hkeep⟩ := v.ranOver_eq
  rw [hran] at hexec
  have hshow : Counts { v with clusters := clusters } ((List.range 64).foldl (fun (s : Gk1) r => s.tracePark r) { v with clusters := clusters }) :=
    Counts.foldl (fun s r => (s.tracePark_keeps r).1) _ _
  have hpower : ((List.range 64).foldl (fun (s : Gk1) r => s.tracePark r) { v with clusters := clusters }).power = v.power :=
    foldl_keeps Gk1.power (fun (s : Gk1) r => (s.tracePark_keeps r).2) _ _
  generalize (List.range 64).foldl (fun (s : Gk1) r => s.tracePark r) { v with clusters := clusters } = t at hexec hshow hpower
  refine ⟨_, hexec, ?_, ?_, fun c hc => ?_, (hshow.cores.trans hcores).trans hcount.cores, (hshow.kernels.trans hkernels).trans hcount.kernels,
    (hshow.dram.trans hdram).trans hcount.dram⟩
  · exact (congrArg Power.tickAt hpower).trans (hat.trans (congrArg some hcount.dtime))
  · show t.power.ceil ≤ t.power.eff
    rw [hpower]
    exact hceil
  · have hc' : (NMap.getD clusters c {}).held = true := (congrArg (fun m : NMap Cluster => (NMap.getD m c {}).held) hshow.clusters).symm.trans hc
    have hu : (u.cluster c).held = true := hheld c ((hkeep c).symm.trans hc')
    exact (congrArg (fun m : NMap Cluster => (NMap.getD m c {}).held) hcount.clusters).symm.trans hu

/-! ## Operating points -/

section
variable {s : State} {r : Nat} (hr : r < 64)
include hr

theorem exec_pointMove (hon : s.powerOn = true) (hdue : s.moveDue r = true) : exec (.pointMove r) s =
    if s.pointFor r = (s.region r).point then .next s else
    if (s.region r).point < s.pointFor r then .next (became s (s.move r ((s.region r).point + 1))) else
    if !s.due (s.region r).throttledAt 10000 || decide (s.power.allowance <
      ((s.heldIn r).length * (s.drawAt r ((s.region r).point - 1) - s.drawAt r (s.region r).point) : Int)) then .next s else
    .next (became s (Gk1.move { s.toGk1 with power := { s.power with allowance := s.power.allowance -
      ((s.heldIn r).length * (s.drawAt r ((s.region r).point - 1) - s.drawAt r (s.region r).point) : Int) } } r ((s.region r).point - 1))) := by
  by_cases hsame : s.pointFor r = (s.region r).point
  · rw [if_pos hsame]
    exact show execPointMove r s = _ from State.act_of_next _ _ s.toGk1 ((if_neg (Nat.not_le.2 hr)).trans (if_pos (by simp [hsame])))
  · rw [if_neg hsame]
    have hgo : ¬(!(s.powerOn && s.moveDue r) || decide (s.pointFor r = (s.region r).point)) = true := by simp [hon, hdue, hsame]
    by_cases hslow : (s.region r).point < s.pointFor r
    · rw [if_pos hslow]
      exact show execPointMove r s = _ from act_became ((if_neg (Nat.not_le.2 hr)).trans ((if_neg hgo).trans (if_pos hslow)))
    · rw [if_neg hslow]
      split
      · next hwait =>
        exact show execPointMove r s = _ from State.act_of_next _ _ s.toGk1
          ((if_neg (Nat.not_le.2 hr)).trans ((if_neg hgo).trans ((if_neg hslow).trans (if_pos hwait))))
      · next hgoes =>
        exact show execPointMove r s = _ from act_became
          ((if_neg (Nat.not_le.2 hr)).trans ((if_neg hgo).trans ((if_neg hslow).trans (if_neg hgoes))))

theorem exec_droopStretchEnd {n : Nat} (hstretch : (s.region r).stretch = true) (hn : 64 ≤ n) : exec (.droopStretchEnd r n) s = .next (became s
    (((s.modRegion r fun R => { R with stretch := false }).countRgn r 0 n).trace 5 ((s.region r).owner.getD 0xFF) 0xFFFF r (leBytes 4 n))) :=
  show execDroopStretchEnd r n s = _ from act_became ((if_neg (Nat.not_le.2 hr)).trans (if_neg (by simp [hstretch, hn])))

theorem droopStretchEnd_effect {n : Nat} (hstretch : (s.region r).stretch = true) (hn : 64 ≤ n) :
    ∃ t, exec (.droopStretchEnd r n) s = .next t ∧ t.region r = { s.region r with stretch := false } ∧
      NMap.getD t.obs.rgnCnt (r * 4) 0 = NMap.getD s.obs.rgnCnt (r * 4) 0 + BitVec.ofNat 64 n ∧ t.dram = s.dram := by
  refine ⟨_, exec_droopStretchEnd hr hstretch hn, ?_, ?_, Gk1.trace_dram ..⟩
  · refine (congrArg (fun m : NMap Region => NMap.getD m r {}) (Gk1.trace_regions ..)).trans ?_
    exact (s.region_modRegion r r fun R => { R with stretch := false }).trans (if_pos rfl)
  · refine (congrArg (fun m => NMap.getD m (r * 4) 0) (Gk1.trace_rgnCnt ..)).trans ?_
    exact (NMap.getD_put ..).trans (if_pos rfl)

theorem thermalThrottle_effect : ∃ t, exec (.thermalThrottle r) s = .next t ∧ (t.region r).throttledAt = some s.dtime ∧ t.dram = s.dram ∧
    (t.region r).point = (if s.moveDue r = true ∧ (s.region r).point < 15 ∧ s.power.fallFrom ≤ s.dtime then (s.region r).point + 1
      else (s.region r).point) := by
  obtain ⟨ledger, hev⟩ := (s.modRegion r fun R => { R with throttledAt := some s.dtime }).evenBroken_eq
  have hregion : ((s.modRegion r fun R => { R with throttledAt := some s.dtime }).evenBroken).region r =
      { s.region r with throttledAt := some s.dtime } := by
    rw [hev]
    exact (s.region_modRegion r r fun R => { R with throttledAt := some s.dtime }).trans (if_pos rfl)
  have hdram : ((s.modRegion r fun R => { R with throttledAt := some s.dtime }).evenBroken).dram = s.dram := by rw [hev]; rfl
  have hdtime : ((s.modRegion r fun R => { R with throttledAt := some s.dtime }).evenBroken).dtime = s.dtime := by rw [hev]; rfl
  have hfall : ((s.modRegion r fun R => { R with throttledAt := some s.dtime }).evenBroken).power.fallFrom = s.power.fallFrom := by rw [hev]; rfl
  have hdue : ((s.modRegion r fun R => { R with throttledAt := some s.dtime }).evenBroken).moveDue r = s.moveDue r := by
    unfold Gk1.moveDue
    rw [hregion, hdtime]
  have hexec : exec (.thermalThrottle r) s = .next (became s (throttle ((s.modRegion r fun R => { R with throttledAt := some s.dtime }).evenBroken) r)) :=
    show execThermalThrottle r s = _ from act_became ((if_neg (Nat.not_le.2 hr)).trans (apply_ite Host.Outcome.next ..).symm)
  generalize (s.modRegion r fun R => { R with throttledAt := some s.dtime }).evenBroken = u at *
  by_cases hgo : s.moveDue r = true ∧ (s.region r).point < 15 ∧ s.power.fallFrom ≤ s.dtime
  · obtain ⟨hdue', hpoint, hfrom⟩ := hgo
    obtain ⟨hmove, -, hmem⟩ := Gk1.move_effect { u with power := { u.power with
      fallFrom := u.dtime + u.stepFall r * 1000 / max u.power.down 1 } } r ((u.region r).point + 1)
    have ht : throttle u r = Gk1.move { u with power := { u.power with fallFrom := u.dtime + u.stepFall r * 1000 / max u.power.down 1 } } r
        ((u.region r).point + 1) := if_neg (by simp [hdue, hdue', hregion, hpoint, hfall, hdtime, hfrom])
    rw [ht] at hexec
    refine ⟨_, hexec, ?_, hmem.trans hdram, ?_⟩
    · exact (congrArg Region.throttledAt hmove).trans (congrArg Region.throttledAt hregion)
    · rw [if_pos ⟨hdue', hpoint, hfrom⟩]
      exact (congrArg Region.point hmove).trans ((congrArg (fun R : Region => R.point + 1) hregion :))
  · have ht : throttle u r = u := if_pos (by
      rw [hdue, hregion, hfall, hdtime]
      simp only [not_and_or, Bool.not_eq_true, not_lt, not_le] at hgo
      simpa [or_assoc] using hgo)
    rw [ht] at hexec
    refine ⟨_, hexec, congrArg Region.throttledAt hregion, hdram, ?_⟩
    rw [if_neg hgo]
    exact (congrArg Region.point hregion :)

theorem exec_thermalCrit : exec (.thermalCrit r) s = .next (became s ((((s.ledgerFlag 10).evenBroken.excuse).parkAll (s.heldIn r)))) :=
  show execThermalCrit r s = _ from act_became (if_neg (Nat.not_le.2 hr))

theorem thermalCrit_effect : ∃ t, exec (.thermalCrit r) s = .next t ∧ t.ledger.period.flags.getLsbD 10 = true ∧ t.dram = s.dram ∧
    (∀ c ∈ s.heldIn r, (t.cluster c).held = false ∨ c ∈ t.power.parkDue) ∧
    (∀ c, (t.cluster c).held = true → (s.cluster c).held = true) ∧
    (s.dispatcherRuns = true → NMap.get? s.power.parked r = none → (s.heldIn r).length ≤ s.slotClusters →
      s.power.parkDue = [] → ∀ c ∈ s.heldIn r, (t.cluster c).held = false) := by
  have hexec := exec_thermalCrit (s := s) hr
  obtain ⟨ledger, hu, hflag⟩ := Gk1.crit_eq s.toGk1
  rw [hu] at hexec
  have hparks := Gk1.parkAll_parks { s.toGk1 with ledger := ledger, power := { s.power with excused := some s.dtime } } (s.heldIn r)
  refine ⟨_, hexec, ?_, ?_, fun c hc => Gk1.parkAll_settles _ hc, hparks.held, fun hruns hnone hroom hempty c hc => ?_⟩
  · obtain ⟨_, _, _, h⟩ := hparks.eq
    exact (congrArg (fun v : Gk1 => v.ledger.period.flags.getLsbD 10) h).trans hflag
  · obtain ⟨_, _, _, h⟩ := hparks.eq
    exact (congrArg Gk1.dram h :)
  · refine foldl_park_now _ { s.toGk1 with ledger := ledger, power := { s.power with excused := some s.dtime } } (r := r) hruns
      (fun k hk => ?_) ?_ ?_
    · obtain ⟨e, he, rfl⟩ := List.mem_map.1 (List.mem_filter.1 hk).1
      have hsel := (List.mem_filter.1 he).2
      rw [Bool.and_eq_true, decide_eq_true_eq] at hsel
      exact hsel.1
    · rw [Gk1.parkedNow_none (by exact hnone), Nat.zero_add]
      exact (List.length_filter_le _ _).trans hroom
    · by_cases hheld : (s.cluster c).held = true
      · refine .inl (List.mem_filter.2 ⟨hc, ?_⟩)
        show ((s.cluster c).held && !s.power.parkDue.contains c) = true
        rw [hheld, hempty]
        rfl
      · exact .inr (Bool.eq_false_iff.2 hheld)

end

/-- Settles O54. -/
theorem measurementPointsAndHeat : Obligations.MeasurementPointsAndHeat := by
  unfold Obligations.MeasurementPointsAndHeat
  refine ⟨⟨fun s r mw hr hup => ⟨fun hdue => ?_, fun hearly => ?_⟩,
    fun s a b c d hdue => ⟨railMeasurement_good hdue a b c d, railMeasurement_failed hdue b c d⟩,
    fun s energy henergy hon hdue => henergy ▸ calibration_effect hon hdue, fun s hruns => ?_,
    fun s hon hruns hdue => powerTick_effect hon hruns hdue⟩,
    fun s r hr => ⟨fun hon hdue => ⟨fun hslow => ?_, fun hfast => ⟨fun hcost => ?_, fun hcost hcool => ?_⟩, fun hsame => ?_⟩,
      fun hmoving htime => ?_, fun hlock => ?_, fun n hstretch => ⟨fun hn => ?_, fun hn => droopStretchEnd_effect hr hstretch hn⟩,
      thermalThrottle_effect hr, ?_, fun hruns hnone hempty hroom => ?_⟩⟩
  · exact show execRegionEstimate r mw s = _ from act_became ((if_neg (Nat.not_le.2 hr)).trans (if_neg (by simp [hup, hdue])))
  · exact show execRegionEstimate r mw s = _ from State.act_of_next _ _ s.toGk1 ((if_neg (Nat.not_le.2 hr)).trans (if_pos (by simp [hearly])))
  · exact show execPowerTick s = _ from State.act_of_next _ _ s.toGk1 (if_pos (by simp [hruns]))
  · have hexec := exec_pointMove hr hon hdue
    rw [if_neg (by omega), if_pos hslow] at hexec
    obtain ⟨hmove, -, hdram⟩ := s.move_effect r ((s.region r).point + 1)
    exact ⟨_, hexec, hdram, hmove⟩
  · have hexec := exec_pointMove hr hon hdue
    rw [if_neg (by omega), if_neg (by omega), if_pos (by rw [decide_eq_true hcost, Bool.or_true])] at hexec
    exact hexec
  · have hexec := exec_pointMove hr hon hdue
    rw [if_neg (by omega), if_neg (by omega), if_neg (by rw [hcool, decide_eq_false (not_lt.2 hcost)]; decide)] at hexec
    obtain ⟨hmove, hpower, hdram⟩ := Gk1.move_effect { s.toGk1 with power := { s.power with allowance := s.power.allowance -
      ((s.heldIn r).length * (s.drawAt r ((s.region r).point - 1) - s.drawAt r (s.region r).point) : Int) } } r ((s.region r).point - 1)
    exact ⟨_, hexec, hmove, congrArg Power.allowance hpower, hdram⟩
  · have hexec := exec_pointMove hr hon hdue
    rw [if_pos hsame] at hexec
    exact hexec
  · exact show execMoveComplete r s = _ from act_became ((if_neg (Nat.not_le.2 hr)).trans (if_pos (by simp [hmoving, htime])))
  · exact show execDroopStretch r s = _ from act_became ((if_neg (Nat.not_le.2 hr)).trans (if_pos hlock))
  · exact show execDroopStretchEnd r n s = _ from State.act_of_next _ _ s.toGk1 ((if_neg (Nat.not_le.2 hr)).trans (if_pos (by simp [hn])))
  · obtain ⟨t, hexec, hflag, hdram, hset, -, -⟩ := thermalCrit_effect (s := s) hr
    exact ⟨t, hexec, hflag, hdram, hset⟩
  · obtain ⟨t, hexec, hflag, hdram, -, hheld, hall⟩ := thermalCrit_effect (s := s) hr
    exact ⟨t, hexec, hflag, hall hruns hnone hroom hempty, hheld, hdram⟩

end Sys2Proof.Claims

/-! Defect supplements and self-tests (R684, R685, R724-R727). -/

namespace Sys2Proof.Machine

/-! ## Lanes of a supplement -/

/-- A lost stack keeps its channels, the queues and the time. -/
theorem Gk1.loseStack_keeps (s : Gk1) (r : Nat) : (s.loseStack r).queues = s.queues ∧ (s.loseStack r).dtime = s.dtime ∧
    ((s.loseStack r).region r).channels = (s.region r).channels := by
  unfold Gk1.loseStack
  split
  · exact ⟨rfl, rfl, rfl⟩
  · refine ⟨(Gk1.report_queues ..).trans rfl, (Gk1.report_dtime ..).trans rfl, ?_⟩
    refine (congrArg (fun m : NMap Region => (NMap.getD m r {}).channels) (Gk1.report_regions ..)).trans ?_
    refine (congrArg Region.channels (s.region_modRegion r r fun R => { R with stackLost := true })).trans ?_
    rw [if_pos rfl]

theorem Gk1.eraseLane_eq (s : Gk1) (r c l : Nat) : s.eraseLane r c l =
    if 4 < (((s.modChannel r c fun C0 => C0.loses ((s.region r).channel c) l).region r).channel c).lost
    then (s.modChannel r c fun C0 => C0.loses ((s.region r).channel c) l).loseStack r
    else s.modChannel r c fun C0 => C0.loses ((s.region r).channel c) l := rfl

/-- A whole lane is rebuilt onto a free spare when no other sweep runs. -/
theorem Gk1.eraseLane_rebuild {s : Gk1} {r c l : Nat} (hl : l ∉ ((s.region r).channel c).erased)
    (hreb : ((s.region r).channel c).rebuild = none) (hspare : ((s.region r).channel c).hasSpare ≠ none) :
    (s.eraseLane r c l).queues = s.queues ∧ (s.eraseLane r c l).dtime = s.dtime ∧
      (((s.eraseLane r c l).region r).channel c).rebuild = some (l, 0) := by
  have hmod : (((s.modChannel r c fun C0 => C0.loses ((s.region r).channel c) l).region r).channel c).rebuild = some (l, 0) := by
    rw [Gk1.channel_modChannel, if_pos ⟨rfl, rfl⟩]
    unfold Channel.loses
    rw [if_neg, if_neg]
    · rw [hreb, Option.isSome_none, Bool.false_or]
      simpa using hspare
    · unfold Channel.erasures
      rw [hreb]
      simpa using hl
  have hq : (s.modChannel r c fun C0 => C0.loses ((s.region r).channel c) l).queues = s.queues := rfl
  have ht : (s.modChannel r c fun C0 => C0.loses ((s.region r).channel c) l).dtime = s.dtime := rfl
  rw [Gk1.eraseLane_eq]
  generalize s.modChannel r c (fun C0 => C0.loses ((s.region r).channel c) l) = u at hmod hq ht ⊢
  split
  · obtain ⟨hqueues, htime, hchannels⟩ := u.loseStack_keeps r
    exact ⟨hqueues.trans hq, htime.trans ht, (congrArg (fun m : NMap Channel => (NMap.getD m c {}).rebuild) hchannels).trans hmod⟩
  · exact ⟨hq, ht, hmod⟩

/-! ## Testing units -/

/-- The units of a SELFTEST one after the other, with their records. -/
def testAll (kind : Nat) (failed : List (Nat × Nat)) (us : List Nat) (a : Gk1 × List Byte) : Gk1 × List Byte :=
  us.foldl (fun (a : Gk1 × List Byte) u =>
    let b := a.1.testUnit kind u ((failed.filter fun f => f.1 = u).map Prod.snd)
    (b.1, a.2 ++ b.2)) a

theorem length_testRecord (unit kind tested failed first lmask sidings : Nat) (out : Bool) :
    (testRecord unit kind tested failed first lmask sidings out).length = 16 := by
  simp only [testRecord, List.length_append, length_leBytes]

theorem Gk1.length_testUnit (s : Gk1) (kind u : Nat) (bad : List Nat) : (s.testUnit kind u bad).2.length = 16 := by
  unfold Gk1.testUnit
  dsimp only
  split <;> exact length_testRecord ..

/-- A test that fails no cluster changes the caches, device memory and the regions' lists alone. -/
theorem Gk1.testUnit_memoryOnly (s : Gk1) (kind u : Nat) (bad : List Nat) (h : kind ≠ 0 ∨ bad = []) :
    MemoryOnly s (s.testUnit kind u bad).1 := by
  unfold Gk1.testUnit
  dsimp only
  split
  · obtain rfl := h.resolve_left (not_not.2 rfl)
    have hnone : ((List.range 4096).filter fun k => ([] : List Nat).contains k && !(s.region u).skips.contains k &&
        !(s.region u).failed.contains k) = [] := List.filter_eq_nil_iff.2 fun k _ => by simp
    rw [hnone]
    exact .refl s
  · exact ⟨_, _, _, _, rfl⟩
  · exact .refl s
  · exact MemoryOnly.foldl _ (fun t (e : Nat × Line) => MemoryOnly.evict t e.1) s

theorem testAll_records (kind : Nat) (failed : List (Nat × Nat)) (us : List Nat) (a : Gk1 × List Byte) :
    (testAll kind failed us a).2.length = a.2.length + 16 * us.length := by
  induction us generalizing a with
  | nil => rfl
  | cons u us ih =>
    refine (ih _).trans ?_
    rw [List.length_append, Gk1.length_testUnit, List.length_cons]
    omega

theorem testAll_memoryOnly {kind : Nat} {failed : List (Nat × Nat)} (h : kind ≠ 0 ∨ failed = []) (us : List Nat) (a : Gk1 × List Byte) :
    MemoryOnly a.1 (testAll kind failed us a).1 := by
  induction us generalizing a with
  | nil => exact .refl _
  | cons u us ih =>
    refine MemoryOnly.trans (Gk1.testUnit_memoryOnly _ kind u _ ?_) (ih _)
    exact h.imp_right fun hf => by rw [hf]; rfl

/-- The ports' self-test changes no unit. -/
theorem testAll_ports (failed : List (Nat × Nat)) (us : List Nat) (a : Gk1 × List Byte) : (testAll 2 failed us a).1 = a.1 := by
  induction us generalizing a with
  | nil => rfl
  | cons u us ih => exact ih _

/-! ## Sidings that fail -/

theorem mem_insertNat_of_mem {x y : Nat} {l : List Nat} (h : y ∈ l) : y ∈ insertNat x l := by
  induction l with
  | nil => exact absurd h List.not_mem_nil
  | cons z l ih =>
    unfold insertNat
    split
    · exact List.mem_cons_of_mem _ h
    · split
      · exact h
      · rcases List.mem_cons.1 h with rfl | h
        · exact List.mem_cons_self
        · exact List.mem_cons_of_mem _ (ih h)

theorem mem_foldl_insertNat (bad l : List Nat) {k : Nat} (h : k ∈ bad ∨ k ∈ l) : k ∈ bad.foldl (fun l k => insertNat k l) l := by
  induction bad generalizing l with
  | nil => exact h.resolve_left List.not_mem_nil
  | cons x bad ih =>
    rw [List.foldl_cons]
    refine ih _ ?_
    rcases h with h | h
    · rcases List.mem_cons.1 h with rfl | h
      · exact .inr (Claims.mem_insertNat k l)
      · exact .inl h
    · exact .inr (mem_insertNat_of_mem h)

/-- A region that has only more failed ranks. -/
def FailsMore (R Q : Region) : Prop := (∃ l, Q = { R with failed := l }) ∧ ∀ k ∈ R.failed, k ∈ Q.failed

theorem FailsMore.refl (R : Region) : FailsMore R R := ⟨⟨_, rfl⟩, fun _ h => h⟩

theorem FailsMore.trans {R Q P : Region} (h : FailsMore R Q) (h' : FailsMore Q P) : FailsMore R P := by
  obtain ⟨⟨_, rfl⟩, hmem⟩ := h
  obtain ⟨⟨_, rfl⟩, hmem'⟩ := h'
  exact ⟨⟨_, rfl⟩, fun k hk => hmem' k (hmem k hk)⟩

theorem mem_freeSidings {R : Region} {k : Nat} : k ∈ R.freeSidings ↔
    k ∈ List.range 4096 ∧ R.skips.contains k = false ∧ R.failed.contains k = false ∧ R.indexOf k = none := by
  simp [Region.freeSidings, and_assoc]

/-- A free siding stays free until it fails. -/
theorem FailsMore.siding {R Q : Region} (h : FailsMore R Q) {k : Nat} (hk : k ∈ R.freeSidings) : k ∈ Q.failed ∨ k ∈ Q.freeSidings := by
  obtain ⟨⟨l, rfl⟩, -⟩ := h
  obtain ⟨hrange, hskip, -, hindex⟩ := mem_freeSidings.1 hk
  by_cases hl : k ∈ l
  · exact .inl hl
  · exact .inr (mem_freeSidings.2 ⟨hrange, hskip, by simpa using hl, hindex⟩)

/-- The region with some more failed ranks. -/
def Region.failsAll (R : Region) (bad : List Nat) : Region := { R with failed := bad.foldl (fun l k => insertNat k l) R.failed }

theorem Region.failsAll_failsMore (R : Region) (bad : List Nat) : FailsMore R (R.failsAll bad) :=
  ⟨⟨_, rfl⟩, fun _ hk => mem_foldl_insertNat bad R.failed (.inr hk)⟩

theorem Region.mem_failsAll (R : Region) {bad : List Nat} {k : Nat} (h : k ∈ bad) : k ∈ (R.failsAll bad).failed :=
  mem_foldl_insertNat bad R.failed (.inl h)

theorem Gk1.testUnit_one (s : Gk1) (u : Nat) (bad : List Nat) :
    (s.testUnit 1 u bad).1 = s.modRegion u fun R => R.failsAll ((s.region u).freeSidings.filter fun k => bad.contains k) := by
  unfold Gk1.testUnit
  rfl

/-- The failed free sidings of a unit join its failed ranks, and no other region changes. -/
theorem Gk1.testUnit_sidings (s : Gk1) (u : Nat) (bad : List Nat) : (s.testUnit 1 u bad).1.dram = s.dram ∧
    (∀ v, FailsMore (s.region v) ((s.testUnit 1 u bad).1.region v)) ∧
    ∀ k ∈ (s.region u).freeSidings, k ∈ bad → k ∈ ((s.testUnit 1 u bad).1.region u).failed := by
  rw [Gk1.testUnit_one]
  have hregion (v : Nat) : (s.modRegion u fun R => R.failsAll ((s.region u).freeSidings.filter fun k => bad.contains k)).region v =
      if u = v then (s.region u).failsAll ((s.region u).freeSidings.filter fun k => bad.contains k) else s.region v :=
    s.region_modRegion u v _
  refine ⟨rfl, fun v => ?_, fun k hk hbad => ?_⟩
  · rw [hregion]
    split
    · next h => exact h ▸ Region.failsAll_failsMore _ _
    · exact .refl _
  · rw [hregion, if_pos rfl]
    refine Region.mem_failsAll _ (List.mem_filter.2 ⟨hk, ?_⟩)
    exact List.contains_iff_mem.2 hbad

theorem testAll_sidings (failed : List (Nat × Nat)) (us : List Nat) (a : Gk1 × List Byte) : (testAll 1 failed us a).1.dram = a.1.dram ∧
    (∀ v, FailsMore (a.1.region v) ((testAll 1 failed us a).1.region v)) ∧
    ∀ u ∈ us, ∀ k ∈ (a.1.region u).freeSidings, (u, k) ∈ failed → k ∈ ((testAll 1 failed us a).1.region u).failed := by
  induction us generalizing a with
  | nil => exact ⟨rfl, fun v => .refl _, fun u hu => absurd hu List.not_mem_nil⟩
  | cons u us ih =>
    obtain ⟨hdram, hmore, hfail⟩ := a.1.testUnit_sidings u ((failed.filter fun f => f.1 = u).map Prod.snd)
    obtain ⟨hdram', hmore', hfail'⟩ := ih ((a.1.testUnit 1 u ((failed.filter fun f => f.1 = u).map Prod.snd)).1,
      a.2 ++ (a.1.testUnit 1 u ((failed.filter fun f => f.1 = u).map Prod.snd)).2)
    refine ⟨hdram'.trans hdram, fun v => (hmore v).trans (hmore' v), fun v hv k hk hkf => ?_⟩
    rcases List.mem_cons.1 hv with rfl | hv
    · exact (hmore' v).2 k (hfail k hk (List.mem_map.2 ⟨(v, k), List.mem_filter.2 ⟨hkf, by simp⟩, rfl⟩))
    · rcases (hmore v).siding hk with hgone | hfree
      · exact (hmore' v).2 k hgone
      · exact hfail' v hv k hfree hkf

end Sys2Proof.Machine

namespace Sys2Proof.Claims

open Sys2Proof.Machine

/-! ## Supplements -/

section
variable {s : State} {d : Desc} (h : mgmt s.toGk1 7 d = true)
include h

theorem defectSupplement_faulted : ∃ t, exec (.defectSupplement none) s = .next t ∧ completed s.toGk1 t.toGk1 0 d { status := 0x44 } ∧
    t.regions = s.regions :=
  ⟨_, show execDefectSupplement none s = _ from act_became (onMgmt_of_mgmt h _), completed_refuseMgmt (starts_of_mgmt h) 0x44,
    Gk1.finish_regions ..⟩

theorem defectSupplement_bad {bs : List Byte} (hbs : suppOf bs = none) : ∃ t, exec (.defectSupplement (some bs)) s = .next t ∧
    completed s.toGk1 t.toGk1 0 d { status := 1 } ∧ t.regions = s.regions := by
  refine ⟨became s ((s.start 0 d).refuseMgmt d 1), show execDefectSupplement (some bs) s = _ from act_became ((onMgmt_of_mgmt h _).trans ?_),
    completed_refuseMgmt (starts_of_mgmt h) 1, Gk1.finish_regions ..⟩
  dsimp only
  rw [hbs]

theorem defectSupplement_refused {bs : List Byte} {es : List Supp} (hbs : suppOf bs = some es)
    (hown : (es.any fun e => (s.region e.region).owner.isSome || (s.region e.region).service ≠ 0) = true) :
    ∃ t, exec (.defectSupplement (some bs)) s = .next t ∧ completed s.toGk1 t.toGk1 0 d { status := 6 } ∧ t.regions = s.regions := by
  refine ⟨became s ((s.start 0 d).refuseMgmt d 6), show execDefectSupplement (some bs) s = _ from act_became ((onMgmt_of_mgmt h _).trans ?_),
    completed_refuseMgmt (starts_of_mgmt h) 6, Gk1.finish_regions ..⟩
  dsimp only
  rw [hbs]
  exact congrArg Host.Outcome.next (if_pos hown)

theorem exec_defectSupplement_lane {bs : List Byte} {r c l : Nat} (hbs : suppOf bs = some [.lane r c l]) (hown : (s.region r).owner = none)
    (hserv : (s.region r).service = 0) :
    exec (.defectSupplement (some bs)) s = .next (became s (((s.start 0 d).eraseLane r c l).finishMgmt d [])) := by
  have happly : (s.start 0 d).applySupp (.lane r c l) = (s.start 0 d).eraseLane r c l := if_neg (not_not.2 hserv)
  rw [← happly]
  refine show execDefectSupplement (some bs) s = _ from act_became ((onMgmt_of_mgmt h _).trans ?_)
  dsimp only
  rw [hbs]
  refine congrArg Host.Outcome.next (if_neg ?_)
  have hown' : ((s.start 0 d).region r).owner = none := hown
  have hserv' : ((s.start 0 d).region r).service = 0 := hserv
  simp [Supp.region, hown', hserv']

theorem defectSupplement_lane {bs : List Byte} {r c l : Nat} (hbs : suppOf bs = some [.lane r c l]) (hown : (s.region r).owner = none)
    (hserv : (s.region r).service = 0) (hl : l ∉ ((s.region r).channel c).erased) (hreb : ((s.region r).channel c).rebuild = none)
    (hspare : ((s.region r).channel c).hasSpare ≠ none) : ∃ t, exec (.defectSupplement (some bs)) s = .next t ∧
      completed s.toGk1 t.toGk1 0 d {} ∧ ((t.region r).channel c).rebuild = some (l, 0) ∧ t.dram = s.dram := by
  obtain ⟨hqueues, htime, hrebuild⟩ := Gk1.eraseLane_rebuild (s := s.start 0 d) (r := r) (c := c) (l := l) hl hreb hspare
  refine ⟨_, exec_defectSupplement_lane h hbs hown hserv, completed_mgmt h hqueues htime [], ?_,
    (finishMgmt_dram ..).trans (Gk1.eraseLane_dram ..)⟩
  exact (congrArg (fun m : NMap Region => ((NMap.getD m r {}).channel c).rebuild) (Gk1.finishMgmt_regions ..)).trans hrebuild

end

/-! ## Self-tests -/

section
variable {s : State} {d : Desc} (h : mgmt s.toGk1 8 d = true) (hlen : 16 * d.testUnits.length ≤ d.w 2)
include h hlen

theorem selftest_refused (hcache : d.testKind = 3 ∧ s.part ≠ .maintenance) : ∃ t, exec .selftest s = .next t ∧
    completed s.toGk1 t.toGk1 0 d { status := 6 } ∧ t.regions = s.regions := by
  refine ⟨_, show execSelftest s = _ from act_became ((onMgmt_of_mgmt h _).trans (congrArg Host.Outcome.next
    ((if_neg (Nat.not_lt.2 hlen)).trans (if_pos ?_)))), completed_refuseMgmt (starts_of_mgmt h) 6, Gk1.finish_regions ..⟩
  obtain ⟨hkind, hpart⟩ := hcache
  simp [hkind, hpart]

theorem selftest_held (hcache : ¬(d.testKind = 3 ∧ s.part ≠ .maintenance)) : ∃ t, exec .selftest s = .next t ∧
    (t.queue 0).cur = some { desc := d, at_ := s.dtime } ∧ t.regions = s.regions ∧ t.dram = s.dram := by
  refine ⟨became s (s.start 0 d), show execSelftest s = _ from act_became ((onMgmt_of_mgmt h _).trans (congrArg Host.Outcome.next
    ((if_neg (Nat.not_lt.2 hlen)).trans (if_neg fun hbad => hcache ?_)))), cur_start .., rfl, rfl⟩
  have hcond : d.testKind = 3 ∧ (s.start 0 d).part ≠ .maintenance := by simpa using hbad
  exact hcond

end

section
variable {s : State} {c : Cur} (hruns : runs s.toGk1 0 c = true) (hheld : s.heldMgmt 8 = some c)
include hheld

theorem exec_selftestRun_waits (failed : List (Nat × Nat)) (hfree : c.desc.testUnits.all (s.testFree c.desc.testKind) = false) :
    exec (.selftestRun failed) s = .next s := by
  refine show execSelftestRun failed s = _ from State.act_of_next _ _ s.toGk1 ?_
  rw [hheld]
  exact if_pos (by simp [hfree])

theorem exec_selftestRun (failed : List (Nat × Nat)) (hfree : c.desc.testUnits.all (s.testFree c.desc.testKind) = true) :
    exec (.selftestRun failed) s = .next (became s ((testAll c.desc.testKind failed c.desc.testUnits (s.toGk1, [])).1.finishMgmt c.desc
      (testAll c.desc.testKind failed c.desc.testUnits (s.toGk1, [])).2)) := by
  refine show execSelftestRun failed s = _ from act_became ?_
  rw [hheld]
  exact if_neg (by simp [hfree])

include hruns

theorem selftestRun_effect (failed : List (Nat × Nat)) (hfree : c.desc.testUnits.all (s.testFree c.desc.testKind) = true)
    (hkind : c.desc.testKind ≠ 0 ∨ failed = []) : ∃ t, exec (.selftestRun failed) s = .next t ∧
      completed s.toGk1 t.toGk1 0 c.desc { data := 16 * c.desc.testUnits.length } ∧
      (c.desc.testKind = 1 → t.dram = s.dram ∧
        ∀ u ∈ c.desc.testUnits, ∀ k ∈ (s.region u).freeSidings, (u, k) ∈ failed → k ∈ (t.region u).failed) ∧
      (c.desc.testKind = 2 → t.regions = s.regions ∧ t.dram = s.dram) := by
  have hlen := testAll_records c.desc.testKind failed c.desc.testUnits (s.toGk1, [])
  obtain ⟨_, _, _, _, hmem⟩ := testAll_memoryOnly hkind c.desc.testUnits (s.toGk1, [])
  have hcomp := completed_finishMgmt_of_runs (t := (testAll c.desc.testKind failed c.desc.testUnits (s.toGk1, [])).1) hruns (by rw [hmem]; rfl)
    (by rw [hmem]) (testAll c.desc.testKind failed c.desc.testUnits (s.toGk1, [])).2
  rw [hlen, List.length_nil, Nat.zero_add] at hcomp
  refine ⟨_, exec_selftestRun hheld failed hfree, hcomp, fun h1 => ?_, fun h2 => ?_⟩
  · obtain ⟨hdram, -, hfail⟩ := testAll_sidings failed c.desc.testUnits (s.toGk1, [])
    rw [h1]
    refine ⟨(finishMgmt_dram ..).trans hdram, fun u hu k hk hkf => ?_⟩
    exact (congrArg (fun m : NMap Region => (NMap.getD m u {}).failed) (Gk1.finishMgmt_regions ..)).symm ▸ hfail u hu k hk hkf
  · rw [h2]
    exact ⟨(Gk1.finishMgmt_regions ..).trans (congrArg Gk1.regions (testAll_ports ..)),
      (finishMgmt_dram ..).trans (congrArg Gk1.dram (testAll_ports ..))⟩

theorem selftestTimeout_effect (htime : c.at_ + timeoutNs (fld (c.desc.w 5) 0 16) ≤ s.dtime) : ∃ t, exec .selftestTimeout s = .next t ∧
    completed s.toGk1 t.toGk1 0 c.desc { status := 7 } ∧ t.regions = s.regions ∧ t.dram = s.dram := by
  refine ⟨became s (s.refuseMgmt c.desc 7), show execSelftestTimeout s = _ from act_became ?_, completed_finish_of_runs hruns rfl rfl _,
    Gk1.finish_regions .., Gk1.finish_dram ..⟩
  rw [hheld]
  exact if_neg (Nat.not_lt.2 htime)

end

/-- Settles O55. -/
theorem supplementAndSelfTest : Obligations.SupplementAndSelfTest := by
  unfold Obligations.SupplementAndSelfTest
  exact ⟨fun s d h => ⟨defectSupplement_faulted h, fun bs hbs => defectSupplement_bad h hbs, fun bs es hbs hown => defectSupplement_refused h hbs hown,
      fun bs r c l hbs hown hserv hl hreb _ hspare => defectSupplement_lane h hbs hown hserv hl hreb hspare⟩,
    fun s d h hlen => ⟨selftest_refused h hlen, selftest_held h hlen⟩,
    fun s c hruns hheld => ⟨exec_selftestRun_waits hheld, selftestRun_effect hruns hheld, selftestTimeout_effect hruns hheld⟩⟩

end Sys2Proof.Claims

/-! MAINTENANCE: entry, exit and DRAM_MARGIN (R411-R413, R448, R728-R731). -/

namespace Sys2Proof.Machine

/-! ## Margining -/

/-- The regions named begin to be margined. -/
def startMargin (s : Gk1) (rs : List Nat) : Gk1 := rs.foldl (fun s r => s.modRegion r fun R => { R with margining := true }) s

theorem startMargin_eq (s : Gk1) (rs : List Nat) : ∃ regions, startMargin s rs = { s with regions := regions } :=
  List.foldlRecOn rs _ (motive := fun t => ∃ regions, t = { s with regions := regions }) ⟨_, rfl⟩ fun t h r _ => by
    obtain ⟨_, rfl⟩ := h
    exact ⟨_, rfl⟩

theorem startMargin_margining (rs : List Nat) (s : Gk1) {r : Nat} (h : r ∈ rs ∨ (s.region r).margining = true) :
    ((startMargin s rs).region r).margining = true := by
  induction rs generalizing s with
  | nil => exact h.resolve_left List.not_mem_nil
  | cons k rs ih =>
    refine ih (s.modRegion k fun R => { R with margining := true }) ?_
    rw [Gk1.region_modRegion]
    by_cases hk : k = r
    · exact .inr (by rw [if_pos hk])
    · rw [if_neg hk]
      exact h.imp_left fun hr => (List.mem_cons.1 hr).resolve_left fun e => hk e.symm

theorem length_withinFive (m : List Byte) (n : Nat) : ((m.take n).map withinFive).length = min n m.length := by
  rw [List.length_map, List.length_take]

/-- A record is 16 bytes long, whatever its lane's state. -/
theorem Gk1.length_marginRecord (s : Gk1) (r c l : Nat) {m : List Byte} (h : m.length = 16) : (s.marginRecord r c l m).length = 16 := by
  unfold Gk1.marginRecord
  extract_lets C out spare
  have hbody : (if out then List.replicate 12 0 else m.take 6 ++ (m.drop 6 |>.take 2).map withinFive ++ (m.drop 8).take 4).length = 12 := by
    split
    · exact List.length_replicate
    · rw [List.length_append, List.length_append, length_withinFive, List.length_take, List.length_take, List.length_drop, List.length_drop, h]
      decide
  rw [List.length_append, List.length_append, List.length_append, List.length_append, hbody, length_leBytes, length_leBytes, length_leBytes,
    length_leBytes]

theorem Gk1.length_marginRecords (s : Gk1) (ls : List (Nat × Nat × Nat)) (m : List Byte) (h : m.length = 16 * ls.length) :
    (s.marginRecords ls m).length = m.length := by
  induction ls generalizing m with
  | nil =>
    rw [h]
    rfl
  | cons x ls ih =>
    obtain ⟨r, c, l⟩ := x
    rw [List.length_cons] at h
    unfold Gk1.marginRecords
    rw [List.length_append, Gk1.length_marginRecord _ _ _ _ (by rw [List.length_take]; omega), ih _ (by rw [List.length_drop]; omega),
      List.length_drop]
    omega

theorem length_marginLanes (rs : List Nat) : 16 * (marginLanes rs).length = marginBytes * rs.length := by
  have hone (r : Nat) : ((List.range 32).flatMap fun c => (List.range 38).map fun l => (r, c, l)).length = 1216 := by
    simp [List.length_flatMap]
  unfold marginLanes
  rw [List.length_flatMap, List.map_congr_left fun r _ => hone r, List.map_const', List.sum_replicate, marginBytes, smul_eq_mul]
  omega

end Sys2Proof.Machine

namespace Sys2Proof.Claims

open Sys2Proof.Machine

/-! ## Entry -/

/-- The part in MAINTENANCE. -/
def inMaintenance (s : Gk1) : Gk1 := { s with part := .maintenance, held := { s.held with maintEntering := false } }

/-- The other queues resume. -/
def entersNoMore (s : Gk1) : Gk1 := { s with held := { s.held with maintEntering := false } }

/-- The part in READY again. -/
def backReady (s : Gk1) : Gk1 := { s with part := .ready }

theorem maintEnter_effect {s : State} {d : Desc} (h : mgmt s.toGk1 10 d = true) : ∃ t, exec .maintEnter s = .next t ∧
    t.held.maintEntering = true ∧ (t.queue 0).cur = some { desc := d, at_ := s.dtime } ∧ t.part = s.part ∧ t.dram = s.dram :=
  ⟨_, show execMaintEnter s = _ from act_became (onMgmt_of_mgmt h _), rfl, cur_start s.toGk1 0 d, rfl, rfl⟩

section
variable {s : State} {c : Cur} (hruns : runs s.toGk1 0 c = true) (hheld : s.heldMgmt 10 = some c)
include hruns hheld

theorem maintenanceEntry_enters (hwork : s.workless = true) : ∃ t, exec .maintenanceEntry s = .next t ∧ completed s.toGk1 t.toGk1 0 c.desc {} ∧
    t.part = .maintenance ∧ t.held.maintEntering = false ∧ t.dram = s.dram := by
  refine ⟨became s ((inMaintenance s.toGk1).finishMgmt c.desc []),
    show execMaintenanceEntry s = _ from act_became ?_, completed_finishMgmt_of_runs (t := inMaintenance s.toGk1) hruns rfl rfl [], Gk1.finishMgmt_part ..,
    congrArg Held.maintEntering (Gk1.finishMgmt_held ..), finishMgmt_dram ..⟩
  rw [hheld]
  exact if_neg (by simp [hwork])

theorem maintEnterTimeout_effect (htime : c.at_ + timeoutNs (fld (c.desc.w 3) 0 16) ≤ s.dtime) : ∃ t, exec .maintEnterTimeout s = .next t ∧
    completed s.toGk1 t.toGk1 0 c.desc { status := 7 } ∧ t.part = s.part ∧ t.held.maintEntering = false ∧ t.dram = s.dram := by
  refine ⟨became s ((entersNoMore s.toGk1).refuseMgmt c.desc 7),
    show execMaintEnterTimeout s = _ from act_became ?_, completed_finish_of_runs (t := entersNoMore s.toGk1) hruns rfl rfl _, Gk1.finish_part ..,
    congrArg Held.maintEntering (Gk1.finish_held ..), Gk1.finish_dram ..⟩
  rw [hheld]
  exact if_neg (Nat.not_lt.2 htime)

end

theorem exec_maintenanceEntry_waits {s : State} {c : Cur} (hheld : s.heldMgmt 10 = some c) (hwork : s.workless = false) :
    exec .maintenanceEntry s = .next s := by
  refine show execMaintenanceEntry s = _ from State.act_of_next _ _ s.toGk1 ?_
  rw [hheld]
  exact if_pos (by simp [hwork])

/-! ## Exit -/

section
variable {s : State} {d : Desc} (h : mgmt s.toGk1 11 d = true)
include h

theorem maintExit_refused (hpart : s.part ≠ .maintenance) : ∃ t, exec .maintExit s = .next t ∧
    completed s.toGk1 t.toGk1 0 d { status := 6 } ∧ t.part = s.part :=
  ⟨_, show execMaintExit s = _ from act_became ((onMgmt_of_mgmt h _).trans (congrArg Host.Outcome.next (if_pos hpart))),
    completed_refuseMgmt (starts_of_mgmt h) 6, Gk1.finish_part ..⟩

theorem maintExit_exits (hpart : s.part = .maintenance) (hmargin : s.held.margin = none) : ∃ t, exec .maintExit s = .next t ∧
    completed s.toGk1 t.toGk1 0 d {} ∧ t.part = .ready ∧ t.dram = s.dram := by
  refine ⟨became s ((backReady (s.start 0 d)).finishMgmt d []), show execMaintExit s = _ from act_became
    ((onMgmt_of_mgmt h _).trans (congrArg Host.Outcome.next ((if_neg (not_not.2 hpart)).trans (if_neg ?_)))),
    completed_mgmt (t := backReady (s.start 0 d)) h rfl rfl [], Gk1.finishMgmt_part .., finishMgmt_dram ..⟩
  simp [hmargin]

theorem maintExit_held (hpart : s.part = .maintenance) (hmargin : s.held.margin ≠ none) : ∃ t, exec .maintExit s = .next t ∧
    (t.queue 0).cur = some { desc := d, at_ := s.dtime } ∧ t.part = .maintenance :=
  ⟨became s (s.start 0 d), show execMaintExit s = _ from act_became ((onMgmt_of_mgmt h _).trans (congrArg Host.Outcome.next
    ((if_neg (not_not.2 hpart)).trans (if_pos (Option.isSome_iff_ne_none.2 hmargin))))), cur_start .., hpart⟩

end

/-! ## DRAM_MARGIN -/

section
variable {s : State} {d : Desc} (h : mgmt s.toGk1 9 d = true) (hlen : 19456 * (regionMask (d.w 3)).length ≤ d.w 2)
include h hlen

theorem dramMargin_refused (hpart : s.part ≠ .maintenance) : ∃ t, exec .dramMargin s = .next t ∧
    completed s.toGk1 t.toGk1 0 d { status := 6 } ∧ t.regions = s.regions := by
  refine ⟨_, show execDramMargin s = _ from act_became ((onMgmt_of_mgmt h _).trans (congrArg Host.Outcome.next
    ((if_neg (Nat.not_lt.2 hlen)).trans (if_pos ?_)))), completed_refuseMgmt (starts_of_mgmt h) 6, Gk1.finish_regions ..⟩
  simp [hpart]

theorem exec_dramMargin_runs (hpart : s.part = .maintenance) (hmargin : s.held.margin = none)
    (hwell : ∀ r ∈ regionMask (d.w 3), (s.region r).service = 0 ∧ (s.region r).stackLost = false) :
    exec .dramMargin s = .next (became s (Gk1.modQueue { startMargin (s.start 0 d) (regionMask (d.w 3)) with
      held := { (startMargin (s.start 0 d) (regionMask (d.w 3))).held with margin := some d } } 0 fun Q => { Q with cur := none })) := by
  refine show execDramMargin s = _ from act_became ((onMgmt_of_mgmt h _).trans (congrArg Host.Outcome.next
    ((if_neg (Nat.not_lt.2 hlen)).trans (if_neg ?_))))
  have hnone : ((regionMask (d.w 3)).any fun r => ((s.start 0 d).region r).service ≠ 0 || ((s.start 0 d).region r).stackLost) = false := by
    refine List.any_eq_false.2 fun r hr => ?_
    obtain ⟨hserv, hlost⟩ := hwell r hr
    have hserv' : ((s.start 0 d).region r).service = 0 := hserv
    have hlost' : ((s.start 0 d).region r).stackLost = false := hlost
    simp [hserv', hlost']
  rw [hnone]
  simp [hpart, hmargin]

theorem dramMargin_runs (hpart : s.part = .maintenance) (hmargin : s.held.margin = none)
    (hwell : ∀ r ∈ regionMask (d.w 3), (s.region r).service = 0 ∧ (s.region r).stackLost = false) :
    ∃ t, exec .dramMargin s = .next t ∧ t.held.margin = some d ∧ (t.queue 0).cur = none ∧ (t.queue 0).recs = (s.queue 0).recs ∧
      (∀ r ∈ regionMask (d.w 3), (t.region r).margining = true) ∧ t.dram = s.dram := by
  have hexec := exec_dramMargin_runs h hlen hpart hmargin hwell
  have hmarg (r : Nat) (hr : r ∈ regionMask (d.w 3)) := startMargin_margining (regionMask (d.w 3)) (s.start 0 d) (.inl hr)
  obtain ⟨regions, hu⟩ := startMargin_eq (s.start 0 d) (regionMask (d.w 3))
  have hqueues : (startMargin (s.start 0 d) (regionMask (d.w 3))).queue 0 = (s.start 0 d).queue 0 := by
    rw [hu]
    rfl
  have hdram : (startMargin (s.start 0 d) (regionMask (d.w 3))).dram = s.dram := by
    rw [hu]
    rfl
  generalize startMargin (s.start 0 d) (regionMask (d.w 3)) = u at hexec hmarg hqueues hdram
  have hqueue := Gk1.queue_modQueue { u with held := { u.held with margin := some d } } 0 0 fun Q => { Q with cur := none }
  rw [if_pos rfl] at hqueue
  refine ⟨_, hexec, rfl, congrArg Queue.cur hqueue, (congrArg Queue.recs hqueue).trans ?_, hmarg, hdram⟩
  refine (congrArg Queue.recs hqueues).trans ?_
  rw [queue_start]
  rfl

end

/-- Margining ends: the regions are margined no more. -/
def endMargin (s : Gk1) : Gk1 := { s with
  held := { s.held with margin := none }
  regions := NMap.mapVals s.regions fun (_ : Nat) (r : Region) => { r with margining := false } }

theorem endMargin_margining (s : Gk1) (r : Nat) : ((endMargin s).region r).margining = false :=
  congrArg Region.margining (NMap.getD_mapVals s.regions (fun r : Region => { r with margining := false }) r rfl)

/-- A MGMT descriptor that has left queue 0 completes on it. -/
theorem completed_finishMgmt_of_idle {s t : Gk1} {d : Desc} (hqueue : t.queue 0 = s.queue 0) (htime : t.dtime = s.dtime)
    (hactive : (s.queue 0).state = 1) (hcur : (s.queue 0).cur = none) (hnew : d.replayed = false) (bs : List Byte) :
    completed s (t.finishMgmt d bs) 0 d { data := bs.length } := by
  obtain ⟨u, hu, hqueues, htime'⟩ := finishMgmt_finish t d bs
  have hq : u.queue 0 = s.queue 0 := (congrArg (fun m : NMap Queue => NMap.getD m 0 {}) hqueues).trans hqueue
  have hactive' : (u.queue 0).state = 1 := (congrArg Queue.state hq).trans hactive
  rw [hu]
  refine ⟨?_, ?_, Gk1.state_finish_of_active _ 0 _ _ hactive' hnew⟩
  · rw [Gk1.cur_finish, hq, hcur]
    rfl
  · rw [Gk1.recs_finish_of_active _ 0 _ _ hactive' hnew, hq, htime', htime]

theorem dramMarginDone_effect {s : State} {d : Desc} {result : List Byte} (hmargin : s.held.margin = some d) (hpart : s.part = .maintenance)
    (hactive : (s.queue 0).state = 1) (hcur : (s.queue 0).cur = none) (hnew : d.replayed = false)
    (hlen : result.length = 19456 * (regionMask (d.w 3)).length) : ∃ t, exec (.dramMarginDone result) s = .next t ∧
      completed s.toGk1 t.toGk1 0 d { data := result.length } ∧ t.held.margin = none ∧ (∀ r, (t.region r).margining = false) ∧
      t.part = s.part ∧ t.dram = s.dram := by
  have hout := s.length_marginRecords (marginLanes (regionMask (d.w 3))) result (hlen.trans (length_marginLanes _).symm)
  have hcomp := completed_finishMgmt_of_idle (s := s.toGk1) (t := endMargin s.toGk1) rfl rfl hactive hcur hnew
    (s.marginRecords (marginLanes (regionMask (d.w 3))) result)
  rw [hout] at hcomp
  have hidle : ((endMargin s.toGk1).finishMgmt d (s.marginRecords (marginLanes (regionMask (d.w 3))) result)).heldMgmt 11 = none := by
    unfold Gk1.heldMgmt
    rw [hcomp.1]
    rfl
  have hexec : exec (.dramMarginDone result) s = .next (became s
      ((endMargin s.toGk1).finishMgmt d (s.marginRecords (marginLanes (regionMask (d.w 3))) result))) := by
    refine show execDramMarginDone result s = _ from act_became ?_
    rw [hmargin]
    refine (if_neg (by simp [hpart, hlen, marginBytes])).trans ?_
    dsimp only
    split
    · next c h =>
      exact absurd ((show ((endMargin s.toGk1).finishMgmt d (s.marginRecords (marginLanes (regionMask (d.w 3))) result)).heldMgmt 11 = some c
        from h).symm.trans hidle) (by simp)
    · rfl
  refine ⟨_, hexec, hcomp, congrArg Held.margin (Gk1.finishMgmt_held ..), fun r => ?_, Gk1.finishMgmt_part .., finishMgmt_dram ..⟩
  exact (congrArg (fun m : NMap Region => (NMap.getD m r {}).margining) (Gk1.finishMgmt_regions ..)).trans (endMargin_margining s.toGk1 r)

/-- Settles O56. -/
theorem maintenance : Obligations.Maintenance := by
  unfold Obligations.Maintenance
  exact ⟨fun s d h => maintEnter_effect h,
    fun s c hruns hheld => ⟨maintenanceEntry_enters hruns hheld, exec_maintenanceEntry_waits hheld, maintEnterTimeout_effect hruns hheld⟩,
    fun s d h => ⟨maintExit_refused h, maintExit_exits h, maintExit_held h⟩,
    fun s d h hlen => ⟨dramMargin_refused h hlen, dramMargin_runs h hlen⟩,
    fun s d result hmargin hpart hactive hcur hnew hlen => dramMarginDone_effect hmargin hpart hactive hcur hnew hlen⟩

end Sys2Proof.Claims
